-- ==== Sys2Proof/Word.lean ====
section
/-! DEFINITION. The word types of the module and their plainest arithmetic (R60, Table 3.1). -/
namespace Sys2Proof

/-- One byte of a frame, of a window or of the internal map. -/
abbrev Byte := BitVec 8
/-- One 16-bit field. -/
abbrev Half := BitVec 16
/-- One 32-bit slot of the object dictionary (Table 3.1). -/
abbrev Word := BitVec 32
/-- One U64 or TIME64 value (Table 3.1). -/
abbrev DWord := BitVec 64

/-- An instant or a span in nanoseconds; registers show it as 64 bits (R484). -/
abbrev Ns := Nat

end Sys2Proof
end

