-- ==== Sys2Proof/Types.lean ====
section
/-! DEFINITION. The data that commands carry: requests, tokens, images, what a pass does, Sync Link messages, link, Ethernet, CAN and field frames. -/
namespace Sys2Proof

/-! ## Requests of the Xanfil protocol (03, R73 to R81) -/

/-- The 28-byte authentication trailer (Table 3.5). -/
structure Trailer where
  session : Word
  counter : DWord
  tag : BitVec 128
  deriving DecidableEq, Repr

/-- One Xanfil request as it arrives (Table 3.4); its operation is the command that carries it. -/
structure Req where
  /-- Port of arrival: 1-4 P1-P4, 5 SVC, 6 CAN1, 7 CAN2 (Table 4.15). -/
  port : Nat := 1
  /-- IPv4 source address, 0 over CAN FD. -/
  source : Word := 0
  version : Byte := 1
  transaction : Half := 0
  index : Half := 0
  sub : Byte := 0
  flags : Byte := 0
  /-- Byte 8, 0 in a request. -/
  status : Byte := 0
  /-- Byte 9, 0 in a request. -/
  reserved : Byte := 0
  /-- The LENGTH field. -/
  length : Half := 0
  data : List Byte := []
  trailer : Option Trailer := none
  /-- The frame holds the whole header, and the whole trailer when AUTH is set. -/
  complete : Bool := true
  /-- The OPCODE byte is one of Table 3.6: the row's own. -/
  opcodeKnown : Bool := true
  /-- UDP source port, destination port, and whether the datagram is an IP fragment (R73); without meaning over CAN FD. -/
  sourcePort : Half := 0
  destPort : Half := 52140
  fragment : Bool := false
  deriving DecidableEq, Repr

/-- A wall time of 80 bits: seconds and nanoseconds on the PTP timescale (R99). -/
structure Wall where
  seconds : BitVec 48 := 0
  nanos : Word := 0
  deriving DecidableEq, Repr

/-- A dictionary write that platform code or a client makes (R65, R68). -/
inductive ObjWrite where
  /-- A Xanfil WRITE. -/
  | xanfil (r : Req)
  /-- A write of a master (0-7 core, 13 Sedge) at a home address. -/
  | home (master : Nat) (address : Nat) (value : Word)
  deriving DecidableEq, Repr

/-! ## What block code does (08, R226, R230) -/

/-- One action of a pass, in the order the pass makes it. -/
inductive PassAct where
  | readValue (signal : Nat)
  | readStatus (signal : Nat)
  /-- A retained-state word of the pass's own copy; not digested (R227). -/
  | readState (word : Nat)
  /-- A write into the stash area: KIND, TARGET, TYPE and the VALUE in the pass's own encoding. -/
  | write (kind : BitVec 2) (target : BitVec 25) (type : BitVec 2) (value : DWord)
  deriving DecidableEq, Repr

/-! ## The program image (09, Table 9.1, Table 9.2) -/

/-- One entry of the Task Table with its working set and stash words (Table 6.1, R195, R228). -/
structure TaskDecl where
  task : Nat
  period : Nat
  phase : Nat := 0
  deadline : Nat
  priority : Nat := 0
  affinity : Byte := 1
  timeBase : Nat := 0
  prefetchLead : Nat := 0
  resident : Bool := true
  /-- Page ranges: first virtual page and page count. -/
  ranges : List (Nat × Nat) := []
  stashWords : Nat := 1
  /-- Signals that the task reads (R152). -/
  reads : List Nat := []
  deriving DecidableEq, Repr

/-- One unit and its parent; unit 0 names none (R130). -/
structure UnitDecl where
  unit : Nat
  parent : Option Nat := none
  deriving DecidableEq, Repr

/-- One declared signal (Table 9.2, Table 5.7). -/
structure SignalDecl where
  signal : Nat
  attributes : Half := 4
  unit : Nat := 0
  producer : Option Nat := none
  fallback : Word := 0
  /-- Tasks that read the signal. -/
  readers : List Nat := []
  deriving DecidableEq, Repr

/-- A parameter of a block's slot: the word offset of its (low) word, its size, declared value and declared range. A 64-bit parameter takes two words, the high one above. -/
structure ParamDecl where
  word : Nat
  wide : Bool := false
  value : DWord := 0
  low : Int := -2147483648
  high : Int := 4294967295
  deriving DecidableEq, Repr

/-- One block use (Table 9.2). -/
structure InstDecl where
  id : Nat
  blockType : Word := 0
  version : Word := 0
  /-- Slot class 0-4: 64, 256, 1,024, 4,096, 16,384 bytes (R209). -/
  slotClass : Nat := 0
  unit : Nat := 0
  task : Nat := 0
  params : List ParamDecl := []
  /-- Word offset of the first-release word (R290). -/
  firstRelease : Option Nat := none
  /-- Edge bindings: input number and the source that feeds it (R289). -/
  edges : List (Nat × Nat) := []
  /-- Declared initial State A words (INITIAL_STATE). -/
  initial : List Word := []
  /-- TYPE of each word (TYPE_MAP, R239). -/
  types : List (BitVec 2) := []
  deriving DecidableEq, Repr

/-- One channel of CHANNEL_BINDING (Table 9.2, R451, R518, R430). -/
structure ChannelDecl where
  /-- Channel code: 0x00-0x2F Field Block (Table 18.1), 0x1000 + k*0x200 + m*0x20 + c link (R451). -/
  channel : Nat
  unit : Nat := 0
  signal : Option Nat := none
  /-- For a link channel: it is an output channel. -/
  output : Bool := false
  /-- KIND of Table 18.7. -/
  kind : Nat := 0
  readback : Option Nat := none
  filter : Nat := 0
  safeState : Nat := 0
  alarm : Nat := 0
  hart : Bool := false
  wireBreak : Bool := false
  capture : Bool := false
  group : Option Nat := none
  /-- Trigger condition: 0 none, 1 rising, 2 falling, 3 either, 4 HIGH crossing, 5 LOW crossing. -/
  trigger : Nat := 0
  deadband : Nat := 0
  high : Nat := 0
  low : Nat := 0
  deriving DecidableEq, Repr

/-- One expected I/O module of a link (R451). -/
structure PositionDecl where
  position : Nat
  typeId : Word := 0
  kinds : List Byte := []
  safe : List Word := []
  deriving DecidableEq, Repr

/-- One link that the image uses (R451). -/
structure LinkDecl where
  link : Nat
  period : Nat
  phase : Nat := 0
  positions : List PositionDecl := []
  deriving DecidableEq, Repr

/-- One capture group (14, Capture groups). -/
structure GroupDecl where
  group : Nat
  masterUnit : Nat := 0
  armSignal : Option Nat := none
  deriving DecidableEq, Repr

/-- A constant-pool page: page number, its 1,024 words (sparse: word number and value; absent reads 0) and its CRC-32. -/
structure ConstPage where
  page : Nat
  words : List (Nat × Word) := []
  crc : Word := 0
  deriving DecidableEq, Repr

/-- What a program image declares. -/
structure Image where
  format : Half := 3
  length : Nat := 0
  build : Word := 0
  minFw : Word := 0
  hash : BitVec 512 := 0
  tasks : List TaskDecl := []
  units : List UnitDecl := []
  signals : List SignalDecl := []
  insts : List InstDecl := []
  slotPools : List Nat := [0, 0, 0, 0, 0]
  constants : List ConstPage := []
  /-- ROUTE value of each interrupt queue. -/
  routing : List (Nat × Word) := []
  channels : List ChannelDecl := []
  links : List LinkDecl := []
  groups : List GroupDecl := []
  /-- Pages of the CODE section. -/
  code : List Nat := []
  deriving DecidableEq, Repr

/-- A program image as one file in a flash slot and its DRAM image area, or on its way to one: the bytes, TOTAL, what its sections declare where that is known, and the salts that the two signatures enclose (R256 to R259). -/
structure ImageFile where
  bytes : List (Nat × Byte) := []
  total : Nat := 0
  image : Option Image := none
  /-- The salt of the signature of SIGNER_CERT, and of SIGNATURE. -/
  certSalt : BitVec 512 := 0
  salt : BitVec 512 := 0
  deriving DecidableEq, Repr

/-! ## Boot and firmware (19) -/

/-- A firmware package (Table 19.6); the components are the vendor's. -/
structure FwPackage where
  format : Half := 1
  product : Half := 0x4800
  release : Word := 0
  securityVersion : Nat := 0
  syncProtocol : Nat := 3
  minHw : Nat := 0
  length : Nat := 0
  hash : BitVec 512 := 0
  sedgeRelease : Word := 0
  /-- The bytes as staged; none of the package that a module ships with. -/
  bytes : List (Nat × Byte) := []
  /-- The salt that its signature encloses. -/
  salt : BitVec 512 := 0
  deriving DecidableEq, Repr

/-- What is read of the image in a flash slot: what its sections declare, and the salts that the two signatures enclose. -/
structure ImageReading where
  slot : Nat
  image : Image
  certSalt : BitVec 512 := 0
  salt : BitVec 512 := 0
  deriving DecidableEq, Repr

/-- The salts that the two signatures of an image enclose: that of SIGNER_CERT, and SIGNATURE. -/
structure ImageSalts where
  cert : BitVec 512 := 0
  image : BitVec 512 := 0
  deriving DecidableEq, Repr

/-- An access of a core to a virtual address: 0 a read, 1 a write, 2 a fetch. -/
structure CoreAccess where
  address : Word
  kind : Nat := 0
  deriving DecidableEq, Repr

/-- What the surroundings and the boot ROM show when power-on reset is released (R554, R561, R568, R578). -/
structure PowerUp where
  feedA : Nat := 24000
  feedB : Nat := 24000
  slotPos : Bool := false
  peerPresent : Bool := false
  ownPeer : Bool := false
  coverOpen : Bool := false
  /-- A copy of the package of slot A, of slot B, can be read on either eMMC device, and stages 1 and 2 verify it (R214, R554). -/
  slotAOk : Bool := true
  slotBOk : Bool := true
  /-- SHA-512 of the Sedge and of the runtime component of the package that the module shipped with, when it boots (R555). -/
  sedgeDigest : BitVec 512 := 0
  runtimeDigest : BitVec 512 := 0
  /-- Analog channels whose trim record fails its check (R543). -/
  trimBad : List Nat := []
  deriving DecidableEq, Repr

/-- Results of boot stages 3 and 4 (Table 19.5, R120). -/
structure BootMeasure where
  /-- SHA-512 of a key store, or of a configuration record, that does not load (R555). -/
  keyStoreDigest : BitVec 512 := 0
  configDigest : BitVec 512 := 0
  /-- Sealed copy on eMMC device 1, device 2: 0 authenticates, 1 absent, 2 authentication failed, 3 read failed (Table 2.13). -/
  copy1 : Nat := 0
  copy2 : Nat := 0
  /-- Items of Table 7.6 whose copy on eMMC device 1, device 2 cannot be read or does not verify (R214): 0 and 1 image slots, 2 and 3 checkpoint areas, 4 configuration. -/
  bad1 : List Nat := []
  bad2 : List Nat := []
  /-- What is read of the images in the flash slots. -/
  images : List ImageReading := []
  deriving DecidableEq, Repr

/-! ## Sync Link messages (10, Table 10.4) -/

/-- HELLO (R313 to R316). -/
structure HelloMsg where
  protocol : Nat := 3
  lifecycle : Nat := 2
  slotPos : Bool := true
  serial : DWord := 0
  firmware : Word := 0
  owns : Bool := false
  /-- MIN_FW of the executing image, and its hash when one executes. -/
  minFw : Word := 0
  image : Option (BitVec 512) := none
  /-- The partner can run (R315). -/
  canRun : Bool := false
  cold : Bool := true
  mono : Ns := 0
  ownershipEpoch : DWord := 0
  ownerSlot : Bool := false
  deriving DecidableEq, Repr

/-- HEARTBEAT (Table 10.4, R312, R485). -/
structure HeartbeatMsg where
  mono : Ns := 0
  /-- This module's monotonic time minus the partner's, ns, with the round-trip delay taken out. -/
  offset : Int := 0
  ownSelf : Bool := false
  mode : Word := 0
  epoch : Word := 0
  syncPhase : Nat := 0
  claimArmed : Bool := false
  mismatch : Bool := false
  /-- The partner's wall clock comes from PTP with SERVO LOCKED; its alignment offset. -/
  ptpLocked : Bool := false
  alignOffset : Int := 0
  deriving DecidableEq, Repr

/-- A force write carried by a delta or a bulk copy. -/
structure ForceMsg where
  signal : Nat
  forced : Bool
  value : Word
  deriving DecidableEq, Repr

/-- A committed or written target in plain form: KIND, TARGET, TYPE and value. -/
structure PlainWrite where
  kind : BitVec 2
  target : BitVec 25
  type : BitVec 2
  value : Word
  deriving DecidableEq, Repr

/-- A parameter change: the block use, word offset and new value. -/
structure ParamWrite where
  inst : Nat
  word : Nat
  value : Word
  deriving DecidableEq, Repr

/-- A commit delta (R317); outcome 0 is 'not dispatched'. -/
structure Delta where
  sequence : Nat := 0
  task : Nat
  instant : Ns
  outcome : Nat := 1
  digest : DWord := 0
  alignOffset : Int := 0
  writes : List PlainWrite := []
  forces : List ForceMsg := []
  params : List ParamWrite := []
  /-- Constant pages switched, with their changed words. -/
  constPages : List (Nat × List (Nat × Word)) := []
  /-- Arm states sent with the delta (R438): group and armed. -/
  arms : List (Nat × Bool) := []
  deriving DecidableEq, Repr

/-- An input change on STREAM (R317, R318). -/
structure StreamChange where
  sequence : Nat := 0
  signal : Nat
  value : Word
  quality : BitVec 2
  source : Nat
  /-- WIRE_BREAK, OVERRANGE, UNDERRANGE as bits [2], [1], [0]. -/
  flags : BitVec 3 := 0
  deriving DecidableEq, Repr

/-- HANDOVER class (R275, R276). -/
inductive HandoverMsg where
  | ready
  | swapAt (instant : Ns)
  | deltaAck (sequence : Nat)
  deriving DecidableEq, Repr

/-- EXCHANGE class (R270): what the two modules tell each other. -/
inductive ExchangeMsg where
  | start (file : ImageFile) (prepareLimit : Nat)
  | phase (code : Nat)
  | verified
  | refused (stageError : Nat)
  | mapBuilt
  | mapFailed
  | inStep
  | notReady
  | aborted (cause : Nat)
  | confirm
  deriving DecidableEq, Repr

/-- A part of the resynchronisation copy (Table 10.8). -/
inductive BulkPart where
  | image (file : ImageFile) (record : List (Nat × List (Nat × Word)))
  | modes (epoch : Word) (target : Nat) (pending : Half)
  | signal (signal : Nat) (value : Word) (quality : BitVec 2) (force : ForceMsg)
  | holdRun (task : Nat) (count : Nat)
  | stateWords (inst : Nat) (words : List (Nat × Word))
  | percent (p : Nat)
  deriving DecidableEq, Repr

/-! ## I/O link frames (15) -/

/-- An SOE record of a reply: tag in monotonic microseconds, channel and new state. -/
structure SoeRec where
  tag : Nat
  channel : Nat
  state : Bool
  deriving DecidableEq, Repr

/-- A cyclic reply (Table 15.2). -/
structure LinkReply where
  position : Nat
  seq : Byte
  mstatus : Byte := 1
  moduleType : Word := 0
  input : List Word := []
  chStatus : List Byte := []
  echo : List Word := []
  soe : List SoeRec := []
  crcOk : Bool := true
  deriving DecidableEq, Repr

/-- A configure reply (Table 15.3). -/
structure ConfigReply where
  position : Nat
  result : Nat
  moduleType : Word := 0
  serial : DWord := 0
  crcOk : Bool := true
  deriving DecidableEq, Repr

/-! ## Ethernet, time and CAN (16, 17) -/

/-- What a received Ethernet frame is (R472). -/
inductive EthKind where
  | arp
  | icmpEcho
  | xanfil
  | prpSupervision (node : BitVec 48)
  | ptp
  | other
  deriving DecidableEq, Repr

/-- A received Ethernet frame. -/
structure EthFrame where
  kind : EthKind
  /-- Bytes from the destination address on, without FCS. -/
  bytes : List Byte := []
  fcsOk : Bool := true
  dest : BitVec 48 := 0
  tagged : Bool := false
  /-- IPv4 destination, for ARP, ICMP and Xanfil; fragments and the UDP payload length (R73). -/
  ipDest : Word := 0
  udpPort : Half := 0
  fragment : Bool := false
  payload : Nat := 0
  /-- PRP trailer: sending node and sequence number, when the frame bears one (R474). -/
  prp : Option (BitVec 48 × Half) := none
  deriving DecidableEq, Repr

/-- What a PTP message leads the servo and the BMCA to (R492, R493). -/
inductive PtpEvent where
  /-- A Sync of the present master: offset from master and mean path delay in ns. -/
  | sync (offset : Int) (pathDelay : Nat)
  /-- An Announce that the BMCA takes: grandmaster, UTC offset and its validity. -/
  | announce (grandmaster : DWord) (utcOffset : Int) (utcValid : Bool)
  /-- A port takes an IEEE 1588 portState code 1-9. -/
  | portState (port : Nat) (code : Nat)
  /-- The BMCA makes the module grandmaster. -/
  | grandmaster
  /-- A message of a part that is not supported (R491). -/
  | unsupported
  deriving DecidableEq, Repr

/-- A CAN frame (17). -/
structure CanFrame where
  ident : BitVec 29
  ide : Bool := false
  fdf : Bool := false
  brs : Bool := false
  esi : Bool := false
  remote : Bool := false
  dlc : BitVec 4 := 0
  data : List Byte := []
  deriving DecidableEq, Repr

/-! ## Capture, Field Block, sensors, Region Guard -/

/-- A capture record as its source delivers it (Table 14.2). -/
structure CaptureRec where
  /-- TIME in monotonic microseconds. -/
  time : Nat
  channel : Nat
  value : Word
  cause : Byte := 0
  bad : Bool := false
  deriving DecidableEq, Repr

/-- What arms a capture group (R438). -/
inductive ArmBy where
  | command (r : Req)
  | signal (group : Nat)
  deriving DecidableEq, Repr

/-- What ends a trim by storing it (R542). -/
inductive StoreBy where
  | command (r : Req)
  | keys
  deriving DecidableEq, Repr

/-- The end of a HART transaction (R538). -/
structure HartResult where
  /-- 2 done, 3 no response, 4 frame error. -/
  result : Nat
  tries : Nat := 1
  response : Byte := 0
  deviceStatus : Byte := 0
  data : List Byte := []
  deriving DecidableEq, Repr

/-- A transmit attempt's end seen at the CAN bus, an access judged by Region Guard. -/
structure Access where
  master : Nat
  address : Nat
  /-- 0 read, 1 write, 2 fetch. -/
  kind : Nat
  /-- log2 of the size in bytes, 0-6. -/
  size : Nat := 2
  privileged : Bool := true
  deriving DecidableEq, Repr

end Sys2Proof
end

