-- ==== Sys2Proof/Syntax.lean ====
section
/-! DEFINITION. The commands of the module: one constructor per row of the table of commands. -/
namespace Sys2Proof

/-- A command from outside the block: a request, a message, a pin event, the end of an operation, an expiry. -/
inductive Instr where
  /-- POWER_ON_RESET_RELEASE (R578). Power-on reset is released once a feed has been above 19.2 V for 100 ms and PRESENT_N has read low for 100 ms; the module starts in COLD with SRAM and DRAM wiped. -/
  | powerOnResetRelease (p : PowerUp)
  /-- HUB_STARTUP_TEST_COMPLETE (R372). The Fault Hub start-up test ends, ALIVE starts toggling and FAULT_N is released under R373. -/
  | hubStartupTestComplete
  /-- BOOT_MEASUREMENT_COMPLETE (R554). Stage 4 of boot appends its measurement, and the module starts accepting sessions. -/
  | bootMeasurementComplete (m : BootMeasure)
  /-- END_OF_BOOT (R25). Boot ends: the program image is verified and the module leaves COLD, or stays in COLD writing NO_IMAGE or KEYSTORE_INVALID. -/
  | endOfBoot
  /-- MONOTONIC_CLOCK_START_TIMEOUT (R314). 200 ms after power-on reset with no HELLO received, the monotonic clock starts from 0. -/
  | monotonicClockStartTimeout
  /-- LOGIC_SUPPLY_LOST (R574). Both feeds have been below 16.0 V for 200 µs; OWN_SELF falls and power-on reset is held asserted. -/
  | logicSupplyLost
  /-- POWER_FAIL (R549). Both feeds fall below 16.0 V; Sedge writes a POWER_FAIL log entry and records the cover state. -/
  | powerFail (a b : Nat)
  /-- FEED_OVERVOLTAGE_DISCONNECT (R573). A feed above 33.0 V is disconnected within 10 µs. -/
  | feedOvervoltageDisconnect (feed mv : Nat)
  /-- FEED_RECONNECT (R573). A disconnected feed that has been below 31.0 V for 10 ms is reconnected. -/
  | feedReconnect (feed mv : Nat) (belowFor : Ns)
  /-- PRESENT_N_HIGH (R577). PRESENT_N reads high for 4 µs while powered: OWN_SELF falls, D336 is raised, an INSERTION entry is written and power-on reset is asserted. -/
  | presentNHigh (heldFor : Ns)
  /-- MODE_REQUEST_RUN (R28). A MODE_REQUEST with TARGET 2 is judged and, when accepted, begins the PREPARE phase towards RUN. -/
  | modeRequestRun (r : Req)
  /-- MODE_REQUEST_HOLD (R28). A MODE_REQUEST with TARGET 3 is judged and, when accepted, begins the PREPARE phase towards HOLD. -/
  | modeRequestHold (r : Req)
  /-- SERVICE_REQUEST_SERVICE (R24). A SERVICE_REQUEST with TARGET 4, optionally with RELEASE_OWNERSHIP, begins a two-phase change to SERVICE. -/
  | serviceRequestService (r : Req)
  /-- SERVICE_REQUEST_HOLD (R28). A SERVICE_REQUEST with TARGET 3 begins a two-phase change from SERVICE to HOLD. -/
  | serviceRequestHold (r : Req)
  /-- SERVICE_REQUEST_TRACK (R28). A SERVICE_REQUEST with TARGET 1 makes an immediate change to TRACK and starts resynchronisation. -/
  | serviceRequestTrack (r : Req)
  /-- PREPARE_COMPLETE (R32). Every unit has replied to PREPARE; the change is aborted on a refusal or committed. -/
  | prepareComplete
  /-- PREPARE_TIMEOUT (R32). PREPARE_TIMEOUT elapses before every unit has replied, and the change is aborted with RESULT 5. -/
  | prepareTimeout
  /-- EPOCH_RECEIVED (R33). A standby receives an EPOCH message and records the epoch, target and COMMIT instant. -/
  | epochReceived (epoch : Word) (target : Nat) (commit : Ns) (immediate : Bool)
  /-- TASK_RELEASE_INSTANT (R167). A release instant of a task: epoch adoption, parameter and constant application, the cycle-latch copy and placement of the pass entries. -/
  | taskReleaseInstant (task : Nat)
  /-- DEADLINE_CHECK (R188). At release instant plus DEADLINE the watchdog checks whether the release has completed. -/
  | deadlineCheck (task : Nat)
  /-- PREFETCH_REQUEST (R168). At PREFETCH_LEAD before a release instant, the Dispatcher asks Drift for the task's working set. -/
  | prefetchRequest (task : Nat)
  /-- WORKING_SET_RESIDENT (R168). Drift reports the whole working set of a release resident, and its pass entries become eligible. -/
  | workingSetResident (task : Nat)
  /-- PAGE_FETCH_COMPLETE (R198). A Drift page fetch ends; the constant-page CRC is checked and the frame becomes resident. -/
  | pageFetchComplete (page : Nat) (duration : Ns) (crcOk : Bool)
  /-- WRITE_BACK_COMPLETE (R198). The write-back of a dirty frame to its image area ends, and the frame is freed for reuse. -/
  | writeBackComplete (frame : Nat)
  /-- PASS_END (R172). A pass ends at the end of its last block; the next pass becomes eligible, or the vote starts after pass C. -/
  | passEnd (core : Nat) (acts : List PassAct) (blockNs gapNs : Ns)
  /-- BLOCK_BOUNDARY (R176). A running pass reaches a block boundary and yields to a higher-priority eligible entry, with its context saved. -/
  | blockBoundary (core : Nat) (acts : List PassAct) (blockNs : Ns)
  /-- CORE_IDLE (R179). The runtime executes its idle instruction, and the core is clock-gated when no entry or interrupt message is pending. -/
  | coreIdle (core : Nat)
  /-- VOTE_END (R233). The Commit Unit finishes the word-by-word vote and classes the release outcome, making the self-test when due. -/
  | voteEnd (task : Nat)
  /-- COMMIT_COMPLETE (R188). The last word of the vote result is written, the release completes and the commit delta is sent. -/
  | commitComplete (task : Nat)
  /-- RESYNC_END (R240). The rebuild of the odd state copy after a majority outcome ends, and E-0x081 is written. -/
  | resyncEnd (task : Nat)
  /-- BG_COMPARE_END (R242). The background compare of one share of a task's state words ends, repairing or reporting divergences. -/
  | bgCompareEnd (task : Nat)
  /-- UNDECLARED_ACCESS (R201). A user access to an undeclared page ends the pass, marks its area faulted and raises D064; badEntry: an access whose page's frame table entry fails its CHECK ends in the same way (R205). -/
  | undeclaredAccess (core : Nat) (access : CoreAccess) (badEntry : Bool)
  /-- STASH_OVERFLOW (R231). A write of a new target to a full stash area ends the pass and raises D098. -/
  | stashOverflow (core : Nat) (write : PassAct)
  /-- NONRESIDENT_PRIVILEGED_ACCESS (R203). A privileged access to a non-resident virtual page ends in a bus error and writes E-0x071. -/
  | nonresidentPrivilegedAccess (core : Nat) (access : CoreAccess)
  /-- GUARD_VIOLATION (R388). Region Guard refuses an access, writes the master's violation report and raises the master's detector. -/
  | guardViolation (a : Access)
  /-- GUARD_SYNC (R390). A write to GUARD_SYNC checks and makes live the pending region sets of the named masters. -/
  | guardSync (master : Nat) (mask : Half)
  /-- QUEUE_ENTRY_PRODUCED (R183). A producer writes an entry into an interrupt queue ring, or drops it and sets OVERFLOW when the ring is full. -/
  | queueEntryProduced (queue : Nat) (entry : List Word)
  /-- INTERRUPT_MESSAGE_SEND (R185). An interrupt message is sent to the routed core once the delivery condition holds. -/
  | interruptMessageSend (queue : Nat)
  /-- COALESCE_TIME_EXPIRY (R185). COALESCE_TIME passes since the first unconsumed entry and the queue's message is sent. -/
  | coalesceTimeExpiry (queue : Nat)
  /-- CONSUMER_WRITE (R185). The runtime writes CONSUMER, ending the outstanding message and judging delivery again. -/
  | consumerWrite (queue index : Nat)
  /-- ALLOC_MSG (R212). A read of ALLOC_MSG allocates a message object and returns its address, or 0. -/
  | allocMsg
  /-- FREE_MSG (R212). A write to FREE_MSG frees a message object, or is refused with E-0x072. -/
  | freeMsg (address : Nat)
  /-- READ (R87). A Xanfil READ is checked and answered from the shadow or the Signal Image. -/
  | read (r : Req)
  /-- WRITE (R81). A Xanfil WRITE to an object without a row of its own is checked and completed by the Responder or forwarded. -/
  | write (r : Req)
  /-- READ_RANGE (R78). A Xanfil READ_RANGE returns COUNT values from one read burst. -/
  | readRange (r : Req)
  /-- WINDOW_READ (R92). A Xanfil WINDOW_READ returns TOTAL, GENERATION and bytes of a BYTES object. -/
  | windowRead (r : Req)
  /-- WINDOW_WRITE (R92). A Xanfil WINDOW_WRITE to a BYTES object without a row of its own is checked and performed. -/
  | windowWrite (r : Req)
  /-- SESSION_OPEN (R101). A SESSION_OPEN carrying a token and client nonce is checked under S1 to S10. -/
  | sessionOpen (r : Req) (salt : BitVec 512)
  /-- SESSION_OPEN_REPLY (R103). The private-key work for an accepted SESSION_OPEN ends; the key is encrypted, the reply signed and sent and the session opened. -/
  | sessionOpenReply (key : BitVec 256) (number : Word)
  /-- SESSION_CLOSE (R109). A SESSION_CLOSE ends its session after checks 1 to 4, 7 and 8. -/
  | sessionClose (r : Req)
  /-- SIGNED_WRITE (R118). A SIGNED_WRITE passes checks 1 to 13, gets a PENDING reply and is forwarded for signature verification. -/
  | signedWrite (r : Req)
  /-- SIGNATURE_VERIFIED (R118). The security engine completes verification of a signed command's signature, refusing it or recording E-0x043 and going on to check 14. -/
  | signatureVerified (salt : BitVec 512)
  /-- FORWARDED_REQUEST_COMPLETE (R88). The runtime completes check 14 and the operation of a forwarded request and sends its final reply. -/
  | forwardedRequestComplete
  /-- SESSION_IDLE_TIMEOUT (R109). No request of a session has passed check 8 for IDLE_TIMEOUT seconds, and the session ends. -/
  | sessionIdleTimeout (number : Word)
  /-- SESSION_VALIDITY_EXPIRY (R110). The remaining validity computed at opening runs out, and the session ends. -/
  | sessionValidityExpiry (number : Word)
  /-- SESSION_KILL (R109). A write of a session number to SESSION_KILL ends that session. -/
  | sessionKill (r : Req)
  /-- REVOKED_NONCES (R109). A write to REVOKED_NONCES updates the list and ends the sessions of the revoked tokens. -/
  | revokedNonces (r : Req)
  /-- PRESENCE_PERMIT (R115). The signed command PRESENCE_PERMIT grants the physical-presence permit in SERVICE. -/
  | presencePermit
  /-- PRESENCE_PERMIT_EXPIRY (R115). The physical-presence permit runs out. -/
  | presencePermitExpiry
  /-- ATTEST_QUOTE_NONCE (R126). A 32-byte nonce written to ATTEST_QUOTE starts a quote. -/
  | attestQuoteNonce (r : Req)
  /-- QUOTE_COMPLETE (R127). The signed attestation quote is complete and readable; TOTAL reads 788 and GENERATION rises. -/
  | quoteComplete
  /-- REPLACE_AUTHORITY (R122). KEYSTORE_COMMAND OP 1 replaces the plant authority certificate with the staged one and reseals the key store. -/
  | replaceAuthority (salt : BitVec 512)
  /-- INSTALL_DEVICE_CERT (R122). KEYSTORE_COMMAND OP 2 installs the staged device certificate and reseals the key store. -/
  | installDeviceCert (salt : BitVec 512)
  /-- REMOVE_DEVICE_CERT (R122). KEYSTORE_COMMAND OP 3 removes the device certificate and reseals the key store. -/
  | removeDeviceCert
  /-- LIFECYCLE_REQUEST (R53). An accepted signed life-cycle command enters COLD and starts the Sedge wipe sequence. -/
  | lifecycleRequest (secret : BitVec 4096)
  /-- WIPE_COMPLETE (R53). The wipe is verified, the new life-cycle state is written, the pending record is cleared and the module reboots. -/
  | wipeComplete
  /-- WIPE_VERIFY_FAILED (R59). Read-back finds a non-zero word; VERIFY_FAILED is set and the wipe repeats from SRAM. -/
  | wipeVerifyFailed
  /-- SIGNAL_VALUE_WRITE (R151). An accepted write of 60hh.ll sets VALUE, SOURCE 3 and quality GOOD. -/
  | signalValueWrite (r : Req)
  /-- FORCE_VALUE_WRITE (R154). A write of 62hh.ll stores the force value, or changes an applied force. -/
  | forceValueWrite (r : Req)
  /-- FORCE_SET (R154). Writing 0x01 to FORCE_STATE applies the stored force value. -/
  | forceSet (r : Req)
  /-- FORCE_RELEASE (R154). Writing 0x00 to FORCE_STATE releases the force. -/
  | forceRelease (r : Req)
  /-- FORCE_RELEASE_ALL (R158). A write of 1 to FORCE_RELEASE_ALL releases every force in the unit's subtree. -/
  | forceReleaseAll (r : Req)
  /-- IMAGE_STAGE (R259). A WINDOW_WRITE to IMAGE_STAGE stages image bytes and sets STAGE_STATE to loading. -/
  | imageStage (r : Req)
  /-- STAGE_VERIFY (R261). STAGE_COMMAND 1 starts verification of the staged image. -/
  | stageVerify (r : Req)
  /-- STAGE_DISCARD (R261). STAGE_COMMAND 2 discards the staged image bytes. -/
  | stageDiscard (r : Req)
  /-- IMAGE_VERIFY_COMPLETE (R261). Verification of the staged image ends with STAGE_STATE 3 or 4, and E-0x090 is written. -/
  | imageVerifyComplete (image : Image) (salts : ImageSalts) (ok1 ok2 : Bool)
  /-- INSTANCE_PARAMS_WRITE (R94). A WINDOW_WRITE of INSTANCE_PARAMS is checked and queued to take effect at the owning task's next release. -/
  | instanceParamsWrite (r : Req)
  /-- CONSTANT_POOL_WRITE (R265). A WINDOW_WRITE of CONSTANT_POOL builds a new constant page in a free frame. -/
  | constantPoolWrite (r : Req)
  /-- CONSTANT_CHANGE_COMPLETE (R266). Every declaring task has switched; the page and CRC are written to the image area and the final reply follows. -/
  | constantChangeComplete
  /-- EXCHANGE_START (R269). The signed command EXCHANGE_START starts a program exchange with TRANSFER, or on a lone module with MAPPING. -/
  | exchangeStart
  /-- TRANSFER_END (R271). The standby reports the transferred image verified, or refuses it and aborts the exchange. -/
  | transferEnd (stageError : Nat)
  /-- MAPPING_END (R272). The new instance map is built and STREAMING begins, or the exchange aborts with cause 0x02. -/
  | mappingEnd
  /-- BULK_COPY_END (R273). The copy of carried State A into the new layout ends. -/
  | bulkCopyEnd
  /-- NEW_LAYOUT_IN_STEP (R273). Two clean mapped releases of the slowest task have passed, and ARMED begins. -/
  | newLayoutInStep
  /-- STANDBY_READY (R275). The standby reports the new RESIDENT working sets resident, and the active module fixes S. -/
  | standbyReady (ok : Bool)
  /-- SWAP_INSTANT (R276). At S the active module stops dispatching and abandons the releases whose commit has not begun. -/
  | swapInstant
  /-- LAST_DELTA_ACKNOWLEDGED (R276). The standby acknowledges the last delta and the active module drops OWN_SELF; this is the swap. -/
  | lastDeltaAcknowledged
  /-- SWAP_RECLAIM_TIMEOUT (R279). 6 ms after the swap with no rise of OWN_PEER, the handing-over module claims again under the old image. -/
  | swapReclaimTimeout
  /-- EXCHANGE_ABORT (R280). A write of 1 to EXCHANGE_ABORT before the swap aborts the exchange. -/
  | exchangeAbort (r : Req)
  /-- PREPARE_LIMIT_EXPIRY (R280). The swap is not reached within PREPARE_LIMIT, and the exchange aborts with cause 0x07. -/
  | prepareLimitExpiry
  /-- EXCHANGE_REVERT (R282). The signed command EXCHANGE_REVERT hands the plant back to the revert-point module. -/
  | exchangeRevert
  /-- EXCHANGE_CONFIRM (R284). A write of 1 to EXCHANGE_CONFIRM ends the revert window. -/
  | exchangeConfirm (r : Req)
  /-- REVERT_WINDOW_EXPIRY (R284). REVERT_WINDOW minutes pass after the claim; the revert point is given up and SETTLING begins. -/
  | revertWindowExpiry
  /-- LONE_EXCHANGE_EXECUTE (R295). On a lone module, the new image becomes executing at the first release instant of the slowest task after the copy. -/
  | loneExchangeExecute
  /-- LONE_REVERT_EXECUTE (R296). On a lone module, the old image becomes executing again after the state is mapped back. -/
  | loneRevertExecute
  /-- HANDOVER_REQUEST (R334). A write of 1 to HANDOVER_REQUEST starts a planned handover with S fixed under R335. -/
  | handoverRequest (r : Req)
  /-- OWN_PEER_CHANGE (R303). OWN_PEER changes level; the claim timer restarts on high, the gates close under R307, and ties are resolved. -/
  | ownPeerChange (high : Bool)
  /-- CLAIM_TIMER_EXPIRY (R303). OWN_PEER has read low for 2 ms with CLAIM_ARMED set, and the Interlock waits for received deltas to be applied. -/
  | claimTimerExpiry
  /-- CLAIM (R324). The Interlock asserts OWN_SELF and the module takes its takeover mode, epoch and ownership record. -/
  | claim
  /-- OWNERSHIP_CONFLICT (R305). An owning module sees OWN_PEER high for more than 50 µs outside the tie window and raises D115. -/
  | ownershipConflict
  /-- GATE_CHECK (R326). Within 100 µs of a claim the module reads back every output gate and raises D116 on a gate that has not opened. -/
  | gateCheck (ok : Bool)
  /-- OUTPUT_PATH_CHECK (R327). An output path's commanded and reported states are compared after its first output update, and D120 fences a failed path. -/
  | outputPathCheck (domain : Nat) (ok : Bool)
  /-- INTERLOCK_OPEN_TIMEOUT (R332). OWN_PEER has read high for 10 ms while the partner reports OWN_SELF low; INTERLOCK_OPEN is set and D114 is raised. -/
  | interlockOpenTimeout
  /-- HELLO (R313). A HELLO from the partner is received and the pairing checks are made. -/
  | hello (m : HelloMsg)
  /-- HELLO_TIMER (R313). Every 10 s until pairing succeeds, the module sends HELLO. -/
  | helloTimer
  /-- HELLO_DEFER (R315). A received HELLO_DEFER makes the module count as having no partner, and it leaves COLD as a lone module. -/
  | helloDefer
  /-- HEARTBEAT (R312). A HEARTBEAT is received; the partner state is updated and a standby slews its monotonic clock. -/
  | heartbeat (m : HeartbeatMsg)
  /-- GOODBYE (R306). A GOODBYE with the reason for a fall of OWN_SELF is received. -/
  | goodbye (reason : Nat)
  /-- STREAM_INPUT_CHANGE (R317). A standby receives an input change on STREAM and writes it into its Signal Image. -/
  | streamInputChange (c : StreamChange)
  /-- COMMIT_DELTA (R320). A standby receives a commit delta, commits it in place of its own vote result and compares the write sets. -/
  | commitDelta (d : Delta)
  /-- HANDOVER_MESSAGE (R275). A HANDOVER message with a ready report, S or a delta acknowledgement is received. -/
  | handoverMessage (m : HandoverMsg)
  /-- EXCHANGE_MESSAGE (R270). Program exchange traffic is received over the Sync Link. -/
  | exchangeMessage (m : ExchangeMsg)
  /-- BULK (R336). A resynchronisation BULK copy message is received and stored. -/
  | bulk (p : BulkPart)
  /-- SYNC_RETRANSMIT_TIMEOUT (R309). A frame not acknowledged within 20 µs is retransmitted, on the other lane when it is up. -/
  | syncRetransmitTimeout (sequence : Nat)
  /-- LANE_DOWN (R309). Eight consecutive frames fail on a lane; the lane is down and D113 is raised. -/
  | laneDown (lane : Nat)
  /-- LANE_RETRAIN (R309). A down lane is retrained every 1 s. -/
  | laneRetrain (lane : Nat)
  /-- LANE_UP (R309). A retrained lane has run 100 ms without error and counts as up. -/
  | laneUp (lane : Nat)
  /-- SYNC_LINK_FAILURE (R310). No valid frame for 1 ms, an acknowledgement later than 2 ms or an unfillable gap; D112 is raised and PAIR_SPLIT may be set. -/
  | syncLinkFailure (cause : Nat)
  /-- SYNC_LINK_UP (R310). The Sync Link is up again and D112 stops being live. -/
  | syncLinkUp
  /-- STALE_TIMEOUT (R329). OWN_PEER stays high for 3 ms after a standby's Sync Link failure, and the standby becomes stale. -/
  | staleTimeout
  /-- CLOCK_OFFSET_EXCESS (R322). CLOCK_OFFSET exceeds 1 µs for 1 s, and the standby leaves step. -/
  | clockOffsetExcess
  /-- STATE_COPY_END (R336). The resynchronisation state copy ends and STREAMING of the buffered deltas begins. -/
  | stateCopyEnd
  /-- RESYNC_BUFFER_FULL (R337). The resynchronisation buffer fills and resynchronisation restarts from STATE_COPY. -/
  | resyncBufferFull
  /-- RESYNC_BUFFER_DRAINED (R336). The buffered STREAM has been applied and each task is dispatched from its next release instant. -/
  | resyncBufferDrained
  /-- RESYNC_RESTART_WAIT_EXPIRY (R337). The 60 s wait after three restarts ends, and resynchronisation starts again. -/
  | resyncRestartWaitExpiry
  /-- CHECKPOINT_TICK (R215). Every 10 s, or at a handover, the active or lone module starts a retained-state checkpoint. -/
  | checkpointTick
  /-- CHECKPOINT_COMPLETE (R217). A checkpoint is written and hashed on both devices and becomes the newest valid one. -/
  | checkpointComplete (ok1 ok2 : Bool)
  /-- CHECKPOINT_WAIVE (R218). A write of 1 to CHECKPOINT_WAIVE lets a module without a checkpoint start from initial state in HOLD. -/
  | checkpointWaive (r : Req)
  /-- DETECTOR_OCCURRENCE (R347). A detector occurs; the Hub counts and latches it and reacts by class, or records it as consequential when masked. -/
  | detectorOccurrence (detector : Nat) (info : Word)
  /-- DETECTOR_LIVE_FALL (R357). A level detector stops being live, and CLEARED_SINCE is set if its cause is latched. -/
  | detectorLiveFall (detector : Nat)
  /-- SHADOW_END (R356). A reaction shadow ends; a still-live level detector counts as a new occurrence. -/
  | shadowEnd (domain : Nat)
  /-- CAUSE_LATCH (R362). A W1C write to CAUSE_LATCH clears cause latches, or is refused with BUSY when a written detector is live. -/
  | causeLatch (r : Req)
  /-- FENCE_RESTORE (R365). A write of a domain code to FENCE_RESTORE resets and self-tests the domain under a shadow. -/
  | fenceRestore (r : Req)
  /-- RESTORE_SHADOW_END (R366). The restore shadow ends; the domain returns to service or stays fenced with a final reply of INTERNAL. -/
  | restoreShadowEnd
  /-- DET_RAISE (R375). A write to DET_RAISE makes an occurrence of an event detector or makes a level detector live. -/
  | detRaise (w : ObjWrite)
  /-- DET_RAISE_LEVEL_OFF (R375). A write to DET_RAISE with LEVEL_OFF set ends the live state of a level detector. -/
  | detRaiseLevelOff (w : ObjWrite)
  /-- LEAF_KICK (R370). A runtime write to LEAF_KICK kicks the leaf watchdog with the alternating value. -/
  | leafKick (w : ObjWrite)
  /-- LEAF_WATCHDOG_STOP (R371). A kick limit runs out; the leaf watchdog stops, ALIVE freezes, OWN_SELF drops and D029 is raised. -/
  | leafWatchdogStop (missing : Nat)
  /-- MORAINE_TRIGGER (R413). An event code is triggered; its token bucket judges it and the snapshots are read for a record that passes. -/
  | moraineTrigger (code unit : Nat) (payload : List Word)
  /-- MORAINE_ACCEPT (R408). A record is accepted at most once per microsecond, given SEQUENCE and times, and stored with any continuation. -/
  | moraineAccept
  /-- POST (R426). A write to a post port's POST register submits a record from platform code. -/
  | post (port code unit : Nat) (payload : List Word)
  /-- PERSIST_TICK (R417). Every second, or at entry to SAFE, Moraine starts a persist of new records to both flash devices. -/
  | persistTick
  /-- PERSIST_COMPLETE (R417). A persist completes and PERSISTED_SEQ advances. -/
  | persistComplete (ok1 ok2 : Bool)
  /-- MORAINE_CLEAR (R425). The signed command MORAINE_CLEAR erases the held records up to UP_TO. -/
  | moraineClear
  /-- MORAINE_CURSOR (R423). A write to MORAINE_CURSOR moves the session's cursor. -/
  | moraineCursor (r : Req)
  /-- RATE_LIMIT (R415). A write to RATE_LIMIT changes an event code's bucket from its next trigger and writes E-0x0F3. -/
  | rateLimit (r : Req)
  /-- SNAP_LIST (R411). A write to a SNAP_LIST slot changes an event code's snapshot list and writes E-0x0F3. -/
  | snapList (r : Req)
  /-- CAPTURE_RECORD_ARRIVAL (R436). A capture record arrives at the input queue, or is dropped when the queue is full. -/
  | captureRecordArrival (c : CaptureRec)
  /-- REORDER_DELAY_EXPIRY (R435). A record is written into the buffer in TIME order after REORDER_DELAY, and an armed group may fire on it. -/
  | reorderDelayExpiry
  /-- CAPTURE_END (R440). At T + POST_WINDOW + REORDER_DELAY the capture ends, its measurements are computed and the group may re-arm. -/
  | captureEnd (group : Nat)
  /-- GROUP_ARM (R438). A write of 1 to GROUP_ARM, or a rising ARM_SIGNAL, arms a capture group. -/
  | groupArm (by_ : ArmBy)
  /-- GROUP_DISARM (R438). A write of 0 to GROUP_ARM disarms the group, or cancels its re-arm. -/
  | groupDisarm (r : Req)
  /-- CAPTURE_RELEASE (R444). A write of a held capture number to CAPTURE_RELEASE unpins its range. -/
  | captureRelease (r : Req)
  /-- CAPTURE_CURSOR (R447). A write to CAPTURE_CURSOR moves the session's capture cursor. -/
  | captureCursor (r : Req)
  /-- LINK_CYCLE_INSTANT (R453). A link cycle starts and cyclic requests go to each configured position. -/
  | linkCycleInstant (link : Nat)
  /-- LINK_REPLY (R458). A valid cyclic reply arrives and its inputs and SOE records are written. -/
  | linkReply (link : Nat) (p : LinkReply)
  /-- REPLY_WINDOW_EXPIRY (R455). A reply misses its window; the request is retried once or the position is judged missing. -/
  | replyWindowExpiry (link position : Nat)
  /-- LINK_CYCLE_END (R459). A link cycle ends; misses and echo mismatches are judged and a queue entry is placed. -/
  | linkCycleEnd (link : Nat)
  /-- CONFIGURE_REPLY (R465). A configure reply makes a position configured or refused. -/
  | configureReply (link : Nat) (p : ConfigReply)
  /-- CONFIGURE_RETRY (R465). Every 1 s, CONFIGURE is sent again to a refused position. -/
  | configureRetry (link position : Nat)
  /-- LINK_SYNC_LOST (R463). Lane sync has been lost for 100 µs and D128 + 2k becomes live. -/
  | linkSyncLost (link : Nat)
  /-- LINK_TRAINED (R463). A link lane regains sync and is trained. -/
  | linkTrained (link : Nat) (delay : Word)
  /-- LINK_PARK (R466). A write of 1 to LINK_PARK sends a SAFE command and then fences the link. -/
  | linkPark (r : Req)
  /-- ETH_FRAME_RECEIVED (R472). A frame arrives at a port and is handled in hardware, queued with a timestamp, or discarded. -/
  | ethFrameReceived (port : Nat) (f : EthFrame)
  /-- TX_SUBMIT (R478). A write to TX_SUBMIT submits a frame chain to the Ethernet DMA, which may refuse it. -/
  | txSubmit (w : ObjWrite)
  /-- RX_SUPPLY (R480). A write to RX_SUPPLY adds a receive object to the pool. -/
  | rxSupply (w : ObjWrite)
  /-- LAUNCH_INSTANT (R482). A frame's launch instant comes and it competes for its port, or is sent or discarded late. -/
  | launchInstant (port queue : Nat) (late : Bool)
  /-- TX_COMPLETE (R479). A frame completes; its chain is freed and a transmit entry is queued. -/
  | txComplete (port queue : Nat) (portDown : Bool)
  /-- ETH_LINK_CHANGE (R492). A port's link goes up or down, and the active PTP port may move. -/
  | ethLinkChange (port : Nat) (up gig : Bool)
  /-- PTP_MESSAGE (R493). A PTP message is processed by the servo and the BMCA, moving SERVO towards LOCKED. -/
  | ptpMessage (e : PtpEvent)
  /-- PTP_HOLDOVER (R493). No port has been SLAVE for three Announce intervals; SERVO becomes HOLDOVER and D050 is raised. -/
  | ptpHoldover (quietIntervals : Nat)
  /-- HOLDOVER_LIMIT_EXPIRY (R487). Holdover has lasted HOLDOVER_LIMIT with no other source, and the wall clock becomes invalid. -/
  | holdoverLimitExpiry
  /-- WALL_SET (R489). A write to WALL_SET steps the wall clock while SERVO is not LOCKED. -/
  | wallSet (r : Req)
  /-- WALL_TIME_STORE (R102). Once a second while the wall clock is valid, Sedge stores the wall time. -/
  | wallTimeStore
  /-- PTP_SETTING_WRITE (R495). A write of a PTP setting restarts the PTP instance after the reply. -/
  | ptpSettingWrite (r : Req)
  /-- PRP_SUPERVISION_TIMER (R475). Every 2 s a PRP supervision frame is sent, and nodes seen on one LAN only for 60 s raise D238. -/
  | prpSupervisionTimer
  /-- CAN_FRAME_RECEIVED (R504). A received CAN frame goes to the Xanfil path or to the first matching receive object, or is discarded. -/
  | canFrameReceived (channel : Nat) (f : CanFrame)
  /-- MO_TRANSMIT_REQUEST (R506). MO_COMMAND 1 makes a transmit object pending and latches its data. -/
  | moTransmitRequest (w : ObjWrite)
  /-- MO_ABORT (R507). MO_COMMAND 2 aborts a pending transmit object. -/
  | moAbort (w : ObjWrite)
  /-- CAN_TRANSMIT_END (R507). A transmission attempt ends, in success or in failure, with LAST_RESULT set. -/
  | canTransmitEnd (channel : Nat) (ok : Bool)
  /-- CAN_BUS_OFF (R511). TEC exceeds 255 and the channel goes bus-off with its objects held pending. -/
  | canBusOff (channel : Nat) (tec : Half)
  /-- CAN_RECOVER (R512). A write of 1 to CAN_RECOVER starts bus-off recovery under policy 1. -/
  | canRecover (r : Req)
  /-- BUS_OFF_RECOVERY_COMPLETE (R512). 128 occurrences of 11 recessive bits end recovery; the channel is error active again. -/
  | busOffRecoveryComplete (channel occurrences : Nat)
  /-- CAN_ERROR_STATE_CHANGE (R511). TEC or REC moves the channel between error active and error passive. -/
  | canErrorStateChange (channel : Nat) (tec rec : Half)
  /-- CHANNEL_MODE (R500). A write to CHANNEL_MODE sets the channel off, normal, listen-only or automatic bit-rate detection. -/
  | channelMode (r : Req)
  /-- ABR_CANDIDATE_TIMEOUT (R502). 200 ms pass at one nominal candidate rate, and detection moves to the next. -/
  | abrCandidateTimeout (channel : Nat)
  /-- ABR_RESULT (R502). Automatic detection succeeds and enters listen-only, or fails after ABR_TIMEOUT; E-0x102 is written. -/
  | abrResult (channel : Nat) (ok : Bool) (nominal dataRate : Word)
  /-- OUTPUT_UPDATE (R520). Every 100 µs the logic side sends each group an output update, and the field side drives under Table 18.2. -/
  | outputUpdate (group : Nat)
  /-- FB_WATCHDOG_EXPIRY (R523). No OWNER update for FB_WATCHDOG; the group's outputs take safe states and D252 or D253 fences the group. -/
  | fbWatchdogExpiry (group : Nat)
  /-- DIGITAL_INPUT_EDGE (R529). A debounced digital input edge is written to the Signal Image and tagged for capture. -/
  | digitalInputEdge (channel : Nat) (on : Bool) (tag : Nat)
  /-- ANALOG_CONVERSION (R533). A group's analog conversion completes, is filtered, trimmed and banded under NE 43. -/
  | analogConversion (group : Nat) (microamps : List Int)
  /-- SUPPLY_SAMPLE (R525). A 100 µs field supply sample sets or clears UNDERVOLT and the supply bands. -/
  | supplySample (group millivolts : Nat)
  /-- GROUP_SWITCH_OFF (R526). The supply has stayed below 16.0 V for 2 ms and the group switches off. -/
  | groupSwitchOff (group : Nat)
  /-- RESTORE_READY (R527). The supply has stayed at or above 19.2 V for 100 ms; the group is RESTORE_READY and resumes under automatic policy. -/
  | restoreReady (group : Nat)
  /-- GROUP_RESTORE (R527). A write of 1 to GROUP_RESTORE resumes a RESTORE_READY group's outputs. -/
  | groupRestore (r : Req)
  /-- OUTPUT_OVERLOAD (R531). An output exceeds its current limit, switches off and sets OVERLOAD. -/
  | outputOverload (channel milliamps : Nat) (lasted : Ns)
  /-- OVERLOAD_RETRY (R531). Every 1 s an overloaded output commanded on retries switching on. -/
  | overloadRetry (channel : Nat) (ok : Bool)
  /-- READBACK_COMPARE (R532). 1 ms after a change, a digital output's readback is compared with its driven state. -/
  | readbackCompare (channel : Nat) (state : Bool)
  /-- LOOP_COMPLIANCE (R536). An analog output differing by more than 0.2 mA for 20 ms sets LOOP_COMPLIANCE. -/
  | loopCompliance (channel : Nat) (microamps : Int)
  /-- HART_REQUEST (R538). A WINDOW_WRITE to HART_REQUEST starts a HART transaction. -/
  | hartRequest (r : Req)
  /-- HART_TRANSACTION_DONE (R538). A HART transaction ends and HART_STATE and HART_REPLY are set. -/
  | hartTransactionDone (hart : Nat) (result : HartResult)
  /-- HART_BURST_FRAME (R539). A HART burst frame is received into HART_BURST. -/
  | hartBurstFrame (hart : Nat) (bytes : List Byte)
  /-- TRIM_SELECT (R540). A write to TRIM_SELECT starts a zero or span trim of an analog channel in SERVICE. -/
  | trimSelect (r : Req)
  /-- TRIM_ADJUST (R541). A write to TRIM_ADJUST adds a signed step count to the trim. -/
  | trimAdjust (r : Req)
  /-- TRIM_KEY_PRESS (R541). A press of TRIM+ or TRIM- adjusts the trim by one step, or is ignored with E-0x125. -/
  | trimKeyPress (plus : Bool)
  /-- TRIM_KEY_REPEAT (R541). A trim key held for more than 1 s repeats at 10 steps per second. -/
  | trimKeyRepeat (plus : Bool) (heldFor : Ns)
  /-- TRIM_STORE (R542). TRIM_END 1, or both keys held for 2 s, stores the trim. -/
  | trimStore (by_ : StoreBy)
  /-- TRIM_CANCEL (R542). TRIM_END 2 cancels the trim and restores the previous values. -/
  | trimCancel (r : Req)
  /-- TRIM_IDLE_TIMEOUT (R542). 15 min without an adjustment cancels the trim. -/
  | trimIdleTimeout
  /-- SENSOR_SAMPLE (R550). Every 10 ms Sedge samples its sensors and changes bands with a BAND entry and detectors. -/
  | sensorSample (readings : List Int) (failed : List Nat)
  /-- COVER (R551). The cover tamper switch opens or closes; an opening raises D335 and a closing ends a BLANK provisioning session. -/
  | cover (isOpen : Bool)
  /-- SEDGE_STORE_RETRY (R548). At the next wake, Sedge retries a failed Sedge store write. -/
  | sedgeStoreRetry (ok : Bool)
  /-- FW_STAGE (R558). A WINDOW_WRITE to FW_STAGE stages firmware package bytes into the other slot. -/
  | fwStage (r : Req)
  /-- FW_VERIFY (R558). FW_COMMAND 1 starts verification of the staged package. -/
  | fwVerify (r : Req)
  /-- FW_DISCARD (R558). FW_COMMAND 2 discards the staged package bytes. -/
  | fwDiscard (r : Req)
  /-- FW_VERIFY_COMPLETE (R558). Package verification ends with STAGE_STATE 3 or 4 and an FW_STAGED entry. -/
  | fwVerifyComplete (sedgeRelease : Word) (salt : BitVec 512) (ok1 ok2 : Bool)
  /-- FW_ACTIVATE (R560). FW_ACTIVATE OP 1 names the staged slot as running on trial and replies. -/
  | fwActivate
  /-- FIRMWARE_REBOOT (R560). Within 10 ms of an accepted activation the module enters COLD and reboots. -/
  | firmwareReboot
  /-- FLOOR_RAISE (R563). FW_ACTIVATE OP 2 blows fuses up to the running package's SECURITY_VERSION. -/
  | floorRaise
  /-- TRIAL_CONFIRMED (R562). A trial is confirmed on reaching in step, or after 60 s in HOLD or RUN on a lone module. -/
  | trialConfirmed
  /-- EXTEST (R394). TAP instruction EXTEST selects boundary scan, or acts as BYPASS when gated. -/
  | extest
  /-- SAMPLE_PRELOAD (R394). TAP instruction SAMPLE/PRELOAD selects boundary scan under the EXTEST gate. -/
  | samplePreload
  /-- IDCODE (R394). TAP instruction IDCODE selects the 32-bit identification register. -/
  | idcode
  /-- BYPASS (R394). TAP instruction BYPASS, or an unknown code, selects the 1-bit bypass register. -/
  | bypass
  /-- ATTACH (R395). DBG_CONTROL ATTACH opens a debug session where its gate allows. -/
  | attach
  /-- HALT (R245). DBG_CONTROL HALT halts a task and puts it into DEBUG-TAINT. -/
  | halt (task : Nat)
  /-- STEP (R245). DBG_CONTROL STEP runs one block of pass A, or dispatches a tainted release in HOLD. -/
  | step (task : Nat) (acts : List PassAct) (blockNs : Ns) (last : Bool)
  /-- RESUME (R192). DBG_CONTROL RESUME ends a task's halt, and it is dispatched from its next release instant. -/
  | resume (task : Nat)
  /-- DETACH (R248). DBG_CONTROL DETACH ends the debug session and starts the rebuild of State B and C. -/
  | detach
  /-- DBG_ACCESS_READ (R395). A DBG_ACCESS read reads one word as master 14. -/
  | dbgAccessRead (address : BitVec 36)
  /-- DBG_ACCESS_WRITE (R399). A DBG_ACCESS write is performed by master 14 or handed to the debug write path. -/
  | dbgAccessWrite (address : BitVec 36) (data : Word)
  /-- TAP_RESET (R397). Five TCK cycles with TMS high reset the TAP and end any debug session. -/
  | tapReset
  /-- TAINT_REBUILD_END (R248). The rebuild of State B and C after detach ends, and TAINT_REMAINING is set to 256. -/
  | taintRebuildEnd (task : Nat)
  /-- DEBUG_PERMIT (R396). A write to DEBUG_PERMIT grants the debug permit in SERVICE for the seconds written. -/
  | debugPermit (r : Req)
  /-- DEBUG_PERMIT_EXPIRY (R396). The debug permit runs out and any session that depends on it ends. -/
  | debugPermitExpiry
  /-- STATS_RESET (R187). A write of 1 to STATS_RESET zeroes a task's span statistics. -/
  | statsReset (r : Req)
  /-- DRIFT_STATS_RESET (R219). A write of 1 to 7401.00 zeroes AVG_FETCH, LATE_RELEASES and STEALS. -/
  | driftStatsReset (r : Req)
  /-- FIRN_STATS_RESET (R253). A write of 1 to FIRN_STATS_RESET zeroes the Firn counters. -/
  | firnStatsReset (r : Req)
  /-- OBJECT_WRITE (R81). A write to an object with no behaviour of its own stores the value after the checks of Table 3.7. -/
  | objectWrite (w : ObjWrite)
  /-- ECC_CORRECTED_ERROR (R219). A corrected ECC error on a DRAM rank is counted in ECC_CORRECTED_0 or ECC_CORRECTED_1 and judged against ECC_THRESHOLD per second for D068 or D069. -/
  | eccCorrectedError (rank : Nat)
  /-- ENERGY_STORE_CHARGED (R531). A group's energy store finishes recharging and STORE_READY is set, lifting the 0.6 A inrush limit. -/
  | energyStoreCharged (group : Nat)
  /-- WIRE_BREAK_CHANGE (R530). The current of a digital input with wire-break detection falls below or returns above 0.5 mA, setting or clearing WIRE_BREAK with quality BAD while VALUE is kept. -/
  | wireBreakChange (channel : Nat) (broken : Bool)
  /-- LOOP_COMPLIANCE_CLEARED (R536). An analog output whose measured current has been within 0.2 mA of its drive for 20 ms clears LOOP_COMPLIANCE. -/
  | loopComplianceCleared (channel : Nat) (microamps : Int)
  /-- CAN_TRANSMIT_START (R506). The channel can start a frame, offers the first-ranking pending frame in arbitration and sets TRANSMITTING on its object. -/
  | canTransmitStart (channel : Nat)
  /-- ALIVE_TOGGLE (R372). Every 1 ms the ALIVE output changes level, unless it is frozen. -/
  | aliveToggle
  deriving DecidableEq, Repr

end Sys2Proof
end

