-- ==== Sys2Proof/Decode.lean ====
section
/-! DEFINITION. Commands from words: the table of commands gives its rows no bits, so a word spells none. -/
namespace Sys2Proof

/-- The command that a word of nbits bits spells by the table's bits: no row has any. -/
def decodeTableWord (_nbits _w : Nat) : Option Instr := none

end Sys2Proof
end

