-- ==== Sys2Proof/Config.lean ====
section
/-! DEFINITION. What one implementation fixes and what the specification leaves open: opaque constants without a body. -/
namespace Sys2Proof.Config

/-- SERIAL (1000.05), set at manufacture (R71). -/
opaque serial : DWord
/-- MAC address of each port (771p.09), set at manufacture (R495). -/
opaque mac : Nat → BitVec 48
/-- HMAC-SHA-512 under a 256-bit key, cut to 128 bits (R106). -/
opaque hmac : BitVec 256 → List Byte → BitVec 128
/-- The tag of a reply to a trailer whose session is not open, for which no key exists (R77 states none). -/
opaque unkeyedTag : List Byte → BitVec 128
/-- SHA-512 of a byte string (R103, R122, R127). -/
opaque sha512 : List Byte → BitVec 512
/-- The RSASSA-PSS signature with SHA-512 and MGF1 that the key pair of an RSA-4096 modulus makes with a 64-byte salt over a message (R99, R103, R117, R127). -/
opaque pss : BitVec 4096 → BitVec 512 → List Byte → BitVec 4096
/-- The 64-byte salt of a signature that the module makes, fresh at each draw. -/
opaque freeSalt : Nat → BitVec 512
/-- The signature that a module without an identity key pair gives (R103, R127 name none). -/
opaque keylessSignature : Nat → BitVec 4096
/-- RSA-OAEP of a session key to a client modulus (R103). -/
opaque encrypt : BitVec 4096 → BitVec 256 → Nat → BitVec 4096
/-- The identity private key that the security engine draws from the true random source (R121, R125). -/
opaque identityPrivate : Nat → BitVec 4096
/-- The modulus of the key pair of an identity private key. -/
opaque modulusOf : BitVec 4096 → BitVec 4096
/-- The bytes of the persistent configuration record that holds given settings; its layout is not given (Table 4.11). -/
opaque configRecord : List Nat → List Byte
/-- The bytes of which the measurement of the key store is the SHA-512: its public items, certificates and identity key, and its version (R555 gives no layout). -/
opaque keyStoreRecord : List Byte → List Byte → List Byte → Nat → List Byte
/-- The vendor key hash in OTP, against which firmware packages are verified (Table 19.5, Table 19.7). -/
opaque vendorKeyHash : BitVec 512
/-- Bytes of a NAME of EVENT_CATALOG, which the manual does not list (Table 13.4). -/
opaque eventName : Nat → List Byte
/-- Whether platform code may post an event code (Table 13.4). -/
opaque postable : Nat → Bool
/-- The REAL32 of a current in µA that binary32 cannot hold exactly in mA (R519 states no rounding). -/
opaque realOfMicro : Int → Word
/-- The µA of a REAL32 current in mA that is no whole number of µA (R519 states no rounding). -/
opaque microOfReal : Word → Int
/-- A raw current through a trim that is not zero: raw µA, TRIM_ZERO, TRIM_SPAN (R540 to R542 give no formula). -/
opaque trimmed : Int → Int → Int → Int
/-- A first-order filter's next output: the last output, the new raw value, the time constant (R533 gives no formula). -/
opaque filtered : Int → Int → Nat → Int
/-- CHECK of a frame table entry over its words 0 to 2 (Table 7.2 gives no code). -/
opaque frameCheck : Word → Word → Word → Byte
/-- A word that the manual leaves open, fresh at each draw. -/
opaque freeWord : Nat → Word
/-- The random draws of session keys and numbers come with their commands; this names the OAEP seed draw. -/
opaque freeSeed : Nat → Nat
/-- Whether a vendor object is defined (R4 leaves the range undocumented): the model takes an index to exist exactly when its subindex 0 is defined. -/
opaque vendorDefined : Nat → Nat → Bool
/-- The value a defined vendor object reads as before it is written (R4); the model takes each as a U32 that a SECURITY session reads and writes. -/
opaque vendorValue : Nat → Nat → Word

end Sys2Proof.Config
end

