-- ==== Sys2Proof/Machine/State.lean ====
section
/-! DEFINITION. The whole state of the module as plain data, every field at its reset value, the reasons a command can stop, and State.reset. -/
namespace Sys2Proof.Machine

/-- A sparse table by number: strictly rising keys, an absent key reads as the default its reader names. -/
abbrev Tab (α : Type) := List (Nat × α)

/-- Operating modes (Table 2.1, R15). -/
inductive Mode where
  | cold | track | run | hold | service | safe
  deriving DecidableEq, Repr

/-- Life-cycle states (Table 2.9, R47). -/
inductive Life where
  | blank | provisioned | inService | develop | retired
  deriving DecidableEq, Repr

/-! ## Modes, life-cycle, boot and reset (02, 20) -/

/-- A two-phase change in its PREPARE phase (R26, R28). -/
structure Prep where
  target : Mode
  exclude : Bool := false
  release : Bool := false
  session : Word := 0
  since : Ns := 0
  deriving DecidableEq, Repr

/-- The mode objects, the boot stage and the life-cycle (R19, R20, R33, R58, R598). -/
structure ModeSt where
  current : Mode := .cold
  target : Mode := .cold
  inTransition : Bool := false
  epoch : Word := 0
  pending : BitVec 16 := 0
  /-- The COMMIT instant of the open transition (R33). -/
  commitAt : Option Ns := none
  prep : Option Prep := none
  /-- A transition that leaves SAFE is open: the tasks not yet adopted keep their safe states (R369). -/
  leavingSafe : Bool := false
  reqUnit : BitVec 12 := 0
  reqReason : Byte := 0
  reqResult : Byte := 0
  reqSeq : Word := 0
  reqSession : Word := 0
  powerUpPolicy : Byte := 0
  prepareTimeout : Half := 50
  /-- Units excused at the last COMMIT (R135). -/
  excused : List Nat := []
  life : Life := .blank
  lifePending : Option Life := none
  wipeStep : Nat := 0
  verifyFailed : Bool := false
  wipeCount : Word := 0
  /-- Power-on reset is held asserted (R574, R577). -/
  inReset : Bool := false
  resetAt : Ns := 0
  hubTested : Bool := false
  measured : Bool := false
  booted : Bool := false
  /-- NO_IMAGE of R25 has been found at the end of boot. -/
  noImage : Bool := false
  leftColdAt : Option Ns := none
  /-- An accepted activation or life-cycle change reboots the module (R53, R560). -/
  rebootDue : Bool := false
  deriving DecidableEq, Repr

/-! ## Clocks and PTP (16) -/

/-- The Time Unit and the PTP instance (R484 to R495). -/
structure TimeSt where
  /-- Physical time since the reset value of the model, ns; no register. -/
  now : Ns := 0
  mono : Ns := 0
  monoRun : Bool := false
  /-- Wall minus monotonic time, ns (R484). -/
  align : Int := 0
  wallValid : Bool := false
  everValid : Bool := false
  source : Nat := 0
  servo : Nat := 0
  utcOffset : Int := 0
  utcValid : Bool := false
  stepCount : Word := 0
  holdSince : Option Ns := none
  /-- The offset the wall clock is slewing to (R488). -/
  slewTo : Option Int := none
  /-- The offset of the last WALL_SET since power-on reset (R485). -/
  wallSet : Option Int := none
  goodSyncs : Nat := 0
  stepThreshold : Word := 1000000
  holdoverLimit : Word := 3600
  profile : Byte := 0
  clockType : Byte := 0
  ptpPorts : Byte := 0x0F
  domain : Byte := 0
  priority1 : Byte := 128
  priority2 : Byte := 128
  oneStep : Byte := 0
  logSync : Word := 0
  offsetFromMaster : Int := 0
  meanPath : Word := 0
  grandmaster : DWord := 0
  portStates : Tab Nat := []
  offsetAlarm : Word := 10000
  activePort : Option Nat := none
  /-- The last valid wall time that Sedge has stored, and when (R102). -/
  stored : Option Wall := none
  storedAt : Ns := 0
  deriving DecidableEq, Repr

/-! ## Requests, replies and the forward queue (03) -/

/-- A reply frame as the module sent it (R76, R77). -/
structure Reply where
  port : Nat
  dest : Word
  /-- UDP source and destination port (R73); 0 over CAN FD. -/
  fromPort : Half := 0
  toPort : Half := 0
  /-- The reply leaves on both ports of its PRP node (R474). -/
  onPair : Bool := false
  opcode : Byte
  transaction : Half
  index : Half
  sub : Byte
  pending : Bool := false
  status : Byte := 0
  data : List Byte := []
  trailer : Option Trailer := none
  deriving DecidableEq, Repr

/-- What a reply is tagged with: the session, the counter and the key (R106, R111). -/
structure Auth where
  session : Word
  counter : DWord
  key : BitVec 256
  role : Nat
  blank : Bool := false
  clientKey : BitVec 4096 := 0
  nonce : BitVec 256 := 0
  /-- The request has consumed the last counter: its final reply ends the session (R108). -/
  last : Bool := false
  deriving DecidableEq, Repr

/-- A request that has passed checks 1 to 13 (R88). -/
structure Fwd where
  req : Req
  opcode : Byte
  auth : Option Auth := none
  /-- The signature of a SIGNED_WRITE has verified (R118). -/
  signedOk : Bool := false
  deriving DecidableEq, Repr

/-- The Xanfil service (R71, R87). -/
structure XanSt where
  udpPort : Half := 52140
  /-- Forwarded requests, signed ones among them, in the order check 8 accepted them (R90). -/
  queue : List Fwd := []
  framesDropped : Word := 0
  busyRefusals : Word := 0
  stateConflicts : Word := 0
  /-- Replies sent, newest first. -/
  out : List Reply := []
  /-- High words latched per master: address + 4 of the low word and the word (R67). -/
  latched : Tab (Nat × Word) := []
  /-- Low words of two-slot objects that a master has written and whose high word it has not: address + 4 and the word. -/
  held : Tab (Nat × Word) := []
  /-- How often a string that is replaced as a whole has been, by index × 256 + subindex (R92). -/
  gens : Tab Word := []
  /-- What has been written to vendor objects: index × 256 + subindex. -/
  vendor : Tab Word := []
  deriving DecidableEq, Repr

/-! ## Sessions, key store, attestation (04) -/

/-- An open session (R103, R110, Table 4.7). -/
structure Session where
  number : Word
  role : Nat
  port : Nat
  scope : Nat
  counter : DWord := 0
  openedAt : Ns := 0
  notAfter : Wall := {}
  nonce : BitVec 256 := 0
  lastReq : Ns := 0
  validFor : Ns := 0
  key : BitVec 256 := 0
  clientKey : BitVec 4096 := 0
  /-- Opened in BLANK under R124. -/
  blank : Bool := false
  deriving DecidableEq, Repr

/-- An accepted SESSION_OPEN whose private-key work runs (R103). -/
structure Opening where
  req : Req
  role : Nat
  scope : Nat
  notAfter : Wall
  nonce : BitVec 256
  clientNonce : List Byte
  clientKey : BitVec 4096
  notBefore : Wall
  blank : Bool
  deriving DecidableEq, Repr

/-- The key store (Table 4.9), and what a sealed copy of it holds (R120): the session keys stand in the session table, and are never sealed. -/
structure KeyStore where
  authority : List Byte := []
  deviceCert : List Byte := []
  /-- The identity private key; none before the change from BLANK (R125). -/
  secret : Option (BitVec 4096) := none
  version : Nat := 0
  deriving DecidableEq, Repr

/-- Sessions, permits, the key store and the quote (R113, R119, R126). -/
structure SessSt where
  table : List Session := []
  opening : Option Opening := none
  idleTimeout : Half := 600
  /-- The IDLE_TIMEOUT that holds for open sessions until an instant, after a write (Table 4.6). -/
  idleOld : Half := 600
  idleFrom : Ns := 0
  generation : Word := 0
  revoked : Tab (BitVec 256) := []
  revokedGen : Word := 0
  presenceUntil : Option Ns := none
  opens : Word := 0
  refusals : Word := 0
  tagFailures : Word := 0
  ks : KeyStore := {}
  ksLoaded : Bool := true
  /-- The sealed copies on eMMC device 1 and device 2, none when absent (R120). -/
  sealed1 : Option KeyStore := none
  sealed2 : Option KeyStore := none
  /-- Why the last boot could not load each: 1 absent, 2 authentication failed, 3 read failed (Table 2.13). -/
  sealedCopy1 : Nat := 1
  sealedCopy2 : Nat := 1
  /-- KEYSTORE_STAGE: bytes written and TOTAL. -/
  stage : Tab Byte := []
  stageTotal : Nat := 0
  quoteBusy : Bool := false
  quoteNonce : List Byte := []
  quote : List Byte := []
  quoteGen : Word := 0
  deriving DecidableEq, Repr

/-! ## Signals and units (05) -/

/-- One Signal Image entry (Table 5.6, Table 5.8). -/
structure Sig where
  attributes : Half := 0
  unit : Nat := 0
  producer : Option Nat := none
  fallback : Word := 0
  readers : List Nat := []
  value : Word := 0
  quality : BitVec 2 := 2
  stale : Bool := false
  transition : Bool := false
  skewHeld : Bool := false
  wireBreak : Bool := false
  overrange : Bool := false
  underrange : Bool := false
  loopCompliance : Bool := false
  undervolt : Bool := false
  debugTaint : Bool := false
  substituted : Bool := false
  /-- The source of VALUE (R145, R146). -/
  source : Nat := 0
  forced : Bool := false
  forceValue : Word := 0
  changedMono : Ns := 0
  changedWall : Wall := {}
  deriving DecidableEq, Repr

/-- The Signal Image and what the units keep of their own (R133, R142). -/
structure SigSt where
  entries : Tab Sig := []
  statusChanges : Tab Word := []
  /-- UNIT_STATUS last seen per unit, by which STATUS_CHANGES counts. -/
  lastStatus : Tab Word := []
  deriving DecidableEq, Repr

/-! ## Tasks, cores and interrupt queues (06) -/

/-- A cycle-latched copy, and the force state at the release instant (R152, R153). -/
structure Snap where
  signal : Nat
  value : Word
  status : Half
  forced : Bool
  forceValue : Word
  substituted : Bool
  deriving DecidableEq, Repr

/-- A release under way (R169 to R175). -/
structure Release where
  instant : Ns
  core : Nat
  /-- 0 queued, 1 A, 2 B, 3 C: the pass running, suspended or next. -/
  pass : Nat := 0
  running : Bool := false
  suspended : Bool := false
  /-- The suspended pass has yielded under R176: its suspension is no core time (R187). -/
  yielded : Bool := false
  waiting : Bool := false
  voting : Bool := false
  committing : Bool := false
  tainted : Bool := false
  /-- The running pass stops at its next block boundary (R175). -/
  stopping : Bool := false
  /-- Core time of the pass before it last began or went on, and when that was (R187). -/
  coreTime : Ns := 0
  since : Ns := 0
  /-- Its deadline passed while its task was halted: it is no overrun (R192). -/
  excused : Bool := false
  /-- The passes of this release log their reads (R252). -/
  traced : Bool := false
  snaps : List Snap := []
  deriving DecidableEq, Repr

/-- One task of the Dispatcher (Table 6.6, Table 6.7). -/
structure TaskSt where
  release : Option Release := none
  releaseCount : DWord := 0
  overruns : Word := 0
  missed : Word := 0
  lastSpan : Ns := 0
  maxSpan : Ns := 0
  spans : List Ns := []
  passTime : Tab Ns := []
  longestBlock : Ns := 0
  preemptions : Word := 0
  lastCore : Byte := 0
  nextRelease : Ns := 0
  lastRelease : Ns := 0
  undispatchable : Bool := false
  halted : Bool := false
  haltSkipped : Bool := false
  /-- Its debug session has ended: the halt ends at its next release instant (R397). -/
  resumeDue : Bool := false
  tainted : Bool := false
  budgetWarned : Bool := false
  alignFree : Bool := false
  /-- The alignment offset of the last release, and the one a standby has received (R164 to R166). -/
  alignUsed : Int := 0
  alignRecv : Option Int := none
  /-- A release instant of the task has passed under the executing image. -/
  begun : Bool := false
  /-- The mode the task has adopted (R35). -/
  adopted : Mode := .cold
  /-- The epoch the task has adopted (R38). -/
  epoch : Word := 0
  /-- First dispatched releases are held until the buffer has drained (R336). -/
  ready : Bool := true
  /-- The delta of the previous release has not been applied yet (R319). -/
  deltaDue : Bool := false
  deriving DecidableEq, Repr

/-- One core: the runtime's idle instruction and the interrupt messages pending (R179). -/
structure CoreSt where
  idle : Bool := false
  messages : List Nat := []
  deriving DecidableEq, Repr

/-- One interrupt queue (Table 6.4, Table 6.5). -/
structure IntQ where
  route : Word := 0
  producer : Nat := 0
  consumer : Nat := 0
  overflow : Bool := false
  ring : Tab (List Word) := []
  /-- When the entry of each slot was produced (R185). -/
  times : Tab Ns := []
  outstanding : Bool := false
  lastCore : Option Nat := none
  deriving DecidableEq, Repr

/-- The Task Dispatcher (06). -/
structure DispSt where
  tasks : Tab TaskSt := []
  cores : Tab CoreSt := []
  queues : Tab IntQ := []
  /-- BUDGET_WARN of each task, 80 where none has been written, kept for tasks that no image declares (R186). -/
  warns : Tab Byte := []
  deriving DecidableEq, Repr

/-! ## Drift, Slot Allocator, checkpoints (07) -/

/-- One frame (Table 7.2). -/
structure Frame where
  state : Nat := 0
  dirty : Bool := false
  residentPin : Bool := false
  pinCount : Nat := 0
  page : Nat := 0
  declaredBy : BitVec 16 := 0
  reserved : Option Nat := none
  area : Nat := 0
  lastUse : Word := 0
  /-- A second fetch after a constant-page CRC mismatch (R200). -/
  refetched : Bool := false
  deriving DecidableEq, Repr

/-- A pending working-set request (R197). -/
structure WsReq where
  task : Nat
  since : Ns
  /-- Its reserved frames were taken: it fetches again once no request before it lacks a page. -/
  robbed : Bool := false
  deriving DecidableEq, Repr

/-- One retained-state checkpoint (R216). -/
structure Ckpt where
  sequence : Nat := 0
  hash : BitVec 512 := 0
  instants : Tab Ns := []
  forces : Nat := 0
  /-- The State A words of each slot, by instance. -/
  slots : Tab (Tab Word) := []
  area : Nat := 0
  /-- The devices whose copy was written (R214, R216). -/
  on1 : Bool := false
  on2 : Bool := false
  deriving DecidableEq, Repr

/-- Drift and memory (R219). -/
structure DriftSt where
  frames : Tab Frame := []
  requests : List WsReq := []
  /-- Frames that are written back before they are reused, with the area and page of the fetch they are wanted for (R198). -/
  writeBacks : List (Nat × Nat) := []
  /-- Tasks whose working set is pinned for a release, or for the repair that follows one (R195, R241). -/
  pinned : List Nat := []
  /-- Tasks whose working set has become resident before their release instant (R196). -/
  prefetched : List Nat := []
  fetchCount : DWord := 0
  writebackCount : DWord := 0
  fetchTimes : List Ns := []
  lateReleases : Word := 0
  steals : Word := 0
  lastUndeclared : Word := 0
  lastUndeclaredInfo : Word := 0
  residentLoaded : Bool := false
  area : Nat := 0
  ecc0 : Word := 0
  ecc1 : Word := 0
  /-- Corrected errors of the running second per rank: second, count. -/
  eccSec : Tab (Nat × Nat) := []
  eccThreshold : Half := 16
  /-- Allocated message objects. -/
  messages : List Nat := []
  /-- What the last read of ALLOC_MSG returned (R212). -/
  msgRead : Word := 0
  checkpoints : List Ckpt := []
  ckptBusy : Option Ckpt := none
  ckptSequence : DWord := 0
  ckptTime : Ns := 0
  ckptLast : Ns := 0
  noCheckpoint : Bool := false
  waived : Bool := false
  flashFailed : BitVec 2 := 0
  deriving DecidableEq, Repr

/-! ## Firn and the Commit Unit (08) -/

/-- One Commit Stash entry (Table 8.3). -/
structure Stash where
  kind : BitVec 2
  target : BitVec 25
  type : BitVec 2
  value : DWord
  deriving DecidableEq, Repr

/-- One pass area with the pass's input digest and trace log (R227, R230, R252). -/
structure Area where
  entries : List Stash := []
  faulted : Bool := false
  digest : DWord := 0
  log : List (Nat × Word) := []
  deriving DecidableEq, Repr

/-- The result of a vote that waits for its commit (R233, R234). -/
structure Vote where
  outcome : Nat
  odd : Nat := 0
  writes : List PlainWrite := []
  instant : Ns := 0
  digest : DWord := 0
  deriving DecidableEq, Repr

/-- Firn state of one task (Table 8.6, Table 8.7). -/
structure FirnTask where
  skewRun : Nat := 0
  faultedA : Bool := false
  faultedB : Bool := false
  faultedC : Bool := false
  /-- 0 none, 1 rebuild of the odd copy, 2 background share, 3 rebuild after detach (R240, R242, R248). -/
  repair : Nat := 0
  /-- A rebuild after detach follows the resynchronisation that is pending (R240, R248). -/
  rebuildDue : Bool := false
  repairOdd : Nat := 0
  oddPass : Nat := 0
  lastOutcome : Nat := 0
  outcomes : Tab Word := []
  bgCycles : Word := 0
  bgDivergences : Word := 0
  bgShare : Nat := 0
  taintRemaining : Nat := 0
  mismatchTarget : Word := 0
  mismatchRelease : Ns := 0
  digests : Tab DWord := []
  stashPeak : Word := 0
  commits : Nat := 0
  selfTests : Nat := 0
  vote : Option Vote := none
  /-- Release instant of the last commit (R216). -/
  lastCommit : Ns := 0
  deriving DecidableEq, Repr

/-- Firn (R253). -/
structure FirnSt where
  tasks : Tab FirnTask := []
  /-- Pass areas: 3 × task + pass. -/
  areas : Tab Area := []
  stateA : Tab Word := []
  stateB : Tab Word := []
  stateC : Tab DWord := []
  selftestCount : Word := 0
  selftestFails : Word := 0
  traceTask : Byte := 0xFF
  trace : List (Nat × Nat × Word × Word × Word) := []
  traceGen : Word := 0
  deriving DecidableEq, Repr

/-! ## Images and the exchange (09) -/

/-- An accepted parameter write that waits for its release (R263). -/
structure ParamQ where
  inst : Nat
  words : List (Nat × Word)
  fwd : Fwd
  due : Bool := false
  deriving DecidableEq, Repr

/-- A constant-pool change in progress (R266). -/
structure ConstQ where
  page : Nat
  words : List (Nat × Word)
  /-- The frame of the new copy, none while one is being written back for it. -/
  frame : Option Nat
  waiting : List Nat
  fwd : Fwd
  deriving DecidableEq, Repr

/-- One CHANGE_LOG entry (Table 9.6). -/
structure Change where
  kind : Nat
  number : Nat
  offset : Nat
  old : Word
  new : Word
  session : Word
  mono : Ns
  deriving DecidableEq, Repr

/-- A program exchange or REVERT (Table 9.8). -/
structure Exch where
  phase : Nat := 0
  outcome : Nat := 0
  abortCause : Nat := 0
  lone : Bool := false
  /-- One module of the pair holds a revert point; this module does (R281). -/
  held : Bool := false
  heldHere : Bool := false
  /-- From S onward no release is dispatched (R276). -/
  stopped : Bool := false
  carried : Word := 0
  fresh : Word := 0
  retyped : Word := 0
  removed : Word := 0
  windowEnd : Option Ns := none
  /-- REVERT_WINDOW as it stood when the exchange began (Table 9.6). -/
  window : Half := 10
  /-- SWAP_INSTANT: S of the last exchange or REVERT. -/
  lastSwap : Ns := 0
  prepareEnd : Option Ns := none
  /-- The mode that the module held at its drop (R279). -/
  swapMode : Mode := .cold
  /-- S, once it is fixed (R275). -/
  swapAt : Option Ns := none
  /-- Clean mapped releases of the slowest task since the bulk copy (R273). -/
  mapped : Nat := 0
  copied : Bool := false
  ready : Bool := false
  /-- The swap: OWN_SELF has been dropped (R276). -/
  dropped : Bool := false
  report : List (Nat × Nat × Nat) := []
  reportGen : Word := 0
  exchanges : Word := 0
  /-- The other layout: instance slots and State A words (R273, R281). -/
  layout : Tab Nat := []
  layoutState : Tab Word := []
  /-- The image of the other layout. -/
  other : Option Image := none
  deriving DecidableEq, Repr

/-- Program images and changes (R259 to R267, R297). -/
structure ProgSt where
  image : Option Image := none
  staged : Option Image := none
  stageState : Nat := 0
  stageError : Nat := 0
  stageGen : Word := 0
  /-- The two image slots of flash, each with the DRAM image area that it is loaded into (Table 7.6, R259). -/
  flash : Tab ImageFile := []
  execSince : Ns := 0
  /-- Slot offset in State A words per instance (R210). -/
  slots : Tab Nat := []
  params : List ParamQ := []
  change : Option ConstQ := none
  /-- Present words of changed constant pages. -/
  changeRecord : Tab (Tab Word) := []
  changeHash : BitVec 512 := 0
  changeLog : List Change := []
  exch : Exch := {}
  revertWindow : Half := 10
  deriving DecidableEq, Repr

/-! ## The pair (10) -/

/-- A message on the Sync Link, as this module sends it (Table 10.4). -/
inductive SyncOut where
  | hello | helloDefer | accept | record
  | goodbye (reason : Nat)
  | epoch (epoch : Word) (target : Nat) (commit : Ns) (immediate : Bool)
  | input (c : StreamChange)
  | delta (d : Delta)
  | handover (m : HandoverMsg)
  | exchange (m : ExchangeMsg)
  | bulk (p : BulkPart)
  | heartbeat
  deriving DecidableEq, Repr

/-- Ownership Interlock, Sync Link, tracking and takeover (R300 to R341). -/
structure PairSt where
  ownSelf : Bool := false
  ownPeer : Bool := false
  slotPos : Bool := false
  peerPresent : Bool := false
  lowSince : Option Ns := some 0
  highSince : Option Ns := none
  claimWait : Option Ns := none
  claimedAt : Option Ns := none
  claimFrom : Mode := .cold
  syncUp : Bool := false
  lane0 : Bool := false
  lane1 : Bool := false
  laneSince : Tab Ns := []
  failedAt : Option Ns := none
  lastFrame : Ns := 0
  /-- Deltas received that wait for this module's own vote of the release (R303, R320). -/
  received : List Delta := []
  /-- Sequence of the last STREAM message sent, or taken; 0 before any. -/
  streamSeq : Nat := 0
  buffer : List Delta := []
  bufferInputs : List StreamChange := []
  out : List SyncOut := []
  paired : Bool := false
  deferred : Bool := false
  /-- This module has sent HELLO_DEFER and waits for the partner's OWN_SELF (R315). -/
  deferring : Bool := false
  partnerCold : Bool := false
  partnerSerial : DWord := 0
  partnerMode : Word := 0
  partnerFw : Word := 0
  partnerEpoch : Word := 0
  partnerPhase : Nat := 0
  partnerOwns : Bool := false
  partnerArmed : Bool := false
  partnerCanRun : Bool := false
  partnerImage : Option (BitVec 512) := none
  partnerOwnerEpoch : DWord := 0
  partnerOwnerSlot : Bool := false
  partnerPtp : Option Int := none
  /-- Last epoch received: target, transition open. -/
  lastEpoch : Option (Mode × Bool) := none
  goodbye : Nat := 0
  ownerEpoch : DWord := 0
  ownerSlot : Bool := false
  phase : Nat := 0
  staleFromStep : Bool := false
  stale : Bool := false
  fwMismatch : Bool := false
  split : Bool := false
  interlockOpen : Bool := false
  openSince : Option Ns := none
  checkDone : Bool := false
  /-- The gates have been read back open since the claim (R326). -/
  gateChecked : Bool := false
  gateFailed : Bool := false
  group1Failed : Bool := false
  group2Failed : Bool := false
  failedLinks : BitVec 64 := 0
  toCheck : List Nat := []
  lastClaim : Ns := 0
  lastDrop : Nat := 0
  restarts : Nat := 0
  restartRun : Nat := 0
  /-- End of the 60 s wait after three restarts (R337). -/
  resyncWait : Option Ns := none
  /-- The buffered STREAM has been applied (R336). -/
  drained : Bool := false
  percent : Nat := 0
  claims : Word := 0
  syncFailures : Word := 0
  laneFailures : Word := 0
  retransmits : Word := 0
  compared : Word := 0
  mismatches : Word := 0
  uncompared : Word := 0
  /-- Of the last 256 compared releases, the mismatches (R321). -/
  window : List Bool := []
  clockOffset : Int := 0
  offsetSince : Option Ns := none
  handover : Nat := 0
  handoverAt : Option Ns := none
  cleanRun : Nat := 0
  waitUntil : Option Ns := none
  lastHello : Ns := 0
  /-- The Sync Link has stayed up since the module last tracked (Table 10.8, PAIRING). -/
  linkKept : Bool := false
  /-- What the next commit delta carries besides its writes (R159, R264, R317, R438). -/
  forceOut : List ForceMsg := []
  paramOut : List ParamWrite := []
  constOut : List (Nat × Nat) := []
  armOut : List (Nat × Bool) := []
  deriving DecidableEq, Repr

/-! ## Fault Hub (11) -/

/-- Detector state (R357, R378). -/
structure Det where
  live : Bool := false
  latched : Bool := false
  clearedSince : Bool := false
  consequential : Bool := false
  saturated : Bool := false
  count : Word := 0
  firstTime : Ns := 0
  firstInfo : Word := 0
  lastTime : Ns := 0
  lastInfo : Word := 0
  /-- Cause information of the last latching occurrence (R345, R365). -/
  latchInfo : Word := 0
  parent : BitVec 9 := 0
  deriving DecidableEq, Repr

/-- A reaction shadow in force (R352). -/
structure Shadow where
  domain : Nat
  parent : Nat
  start : Ns
  stop : Ns
  deriving DecidableEq, Repr

/-- A restore in progress (R366): the domain, its request and the occurrences in its shadow. -/
structure Restore where
  domain : Nat
  fwd : Fwd
  hits : List (Nat × Word) := []
  deriving DecidableEq, Repr

/-- The Fault Hub, the leaf watchdog and the error pins (R370 to R377). -/
structure HubSt where
  dets : Tab Det := []
  shadows : List Shadow := []
  restore : Option Restore := none
  /-- Domain codes fenced. -/
  fenced : List Nat := []
  firstSafe : Half := 0xFFFF
  safeEntry : Ns := 0
  safeReleased : Bool := false
  dropped : Word := 0
  leafTimeout : Half := 50
  leafLimit : Half := 50
  rtKick : Option Ns := none
  nextKick : Word := 0x5A5A
  leafStopped : Bool := false
  alive : Bool := false
  aliveFrozen : Bool := true
  aliveAt : Ns := 0
  deriving DecidableEq, Repr

/-! ## Region Guard and debug (12) -/

/-- The violation report of one master (Table 12.6). -/
structure Viol where
  address : DWord := 0
  info : Word := 0
  time : Ns := 0
  count : Word := 0
  deriving DecidableEq, Repr

/-- Region Guard and the debug port (R402). -/
structure GuardSt where
  /-- Word w (0 BASE, 1 ATTR) of region r of master m at 64 × m + 2 × r + w. -/
  pending : Tab Word := []
  live : Tab Word := []
  syncError : Bool := false
  failing : BitVec 4 := 0
  violations : Word := 0
  reports : Tab Viol := []
  /-- TAP instruction register code, refused flag, boundary scan. -/
  tap : Byte := 0x02
  refused : Bool := false
  boundary : Bool := false
  dbgStatus : BitVec 2 := 0
  dbgData : Word := 0
  attached : Bool := false
  onPermit : Bool := false
  permitUntil : Option Ns := none
  deriving DecidableEq, Repr

/-! ## Moraine (13) -/

/-- A triggered record that waits for acceptance (R408, R411). -/
structure Trig where
  code : Nat
  severity : Nat
  source : Nat
  unit : Nat
  trigAt : Ns
  suppressed : Word
  words : List Word
  /-- The post port whose SEQ registers take the record's SEQUENCE (R426). -/
  post : Option Nat := none
  deriving DecidableEq, Repr

/-- A held record (Table 13.1). -/
structure Rec where
  seq : DWord
  mono : Ns
  wall : Wall
  code : Nat
  severity : Nat
  source : Nat
  unit : Nat
  lag : Word
  suppressed : Word
  flags : Byte
  words : List Word
  deriving DecidableEq, Repr

/-- One event code's bucket and lists (R411 to R415); tokens in billionths. -/
structure CodeSt where
  rate : Nat := 20
  burst : Nat := 100
  newLimit : Option Word := none
  tokens : Nat := 100000000000
  last : Ns := 0
  waiting : Word := 0
  total : Word := 0
  snaps : Tab Word := []
  deriving DecidableEq, Repr

/-- A post port (Table 13.3). -/
structure PostPort where
  code : Nat := 0
  unit : Nat := 0
  payload : List Word := []
  result : Nat := 0
  seq : DWord := 0
  deriving DecidableEq, Repr

/-- Moraine (R427). -/
structure MoraineSt where
  boot : Nat := 0
  count : Nat := 0
  queue : List Trig := []
  lastAccept : Option Ns := none
  /-- DRAM and staging rings, newest first. -/
  ring : List Rec := []
  /-- The flash store, newest first. -/
  store : List Rec := []
  codes : Tab CodeSt := []
  newest : DWord := 0
  persisted : DWord := 0
  lost : Word := 0
  /-- LOST_UNPERSISTED as the last persist found it (R418). -/
  lostSeen : Word := 0
  clears : Word := 0
  persistTime : Ns := 0
  persistAt : Ns := 0
  persisting : List Rec := []
  persistBusy : Bool := false
  degraded : Bool := false
  notify : Byte := 2
  cursors : List (Word × DWord) := []
  posts : Tab PostPort := []
  deriving DecidableEq, Repr

/-! ## Capture Engine (14) -/

/-- An item of the capture buffer: change record or marker (Table 14.2). -/
structure CapItem where
  seq : DWord := 0
  time : Nat
  channel : Nat
  value : Word
  cause : Byte := 0
  kind : Byte := 0
  /-- Its slot has an uncorrectable error: no read shows it (R445). -/
  dead : Bool := false
  deriving DecidableEq, Repr

/-- One capture group (Table 14.6). -/
structure CapGroup where
  armed : Bool := false
  firing : Option Nat := none
  rearmCancelled : Bool := false
  pre : Word := 100000
  post : Word := 500000
  rearm : Byte := 0
  fires : Word := 0
  last : Word := 0
  /-- Level of ARM_SIGNAL last seen (R438). -/
  armLevel : Bool := false
  deriving DecidableEq, Repr

/-- A member's measurements (Table 14.4). -/
structure Measure where
  channel : Nat
  noStart : Bool := false
  changes : Word := 0
  period : Word := 0xFFFFFFFF
  pulse : Word := 0xFFFFFFFF
  low : Word := 0xFFFFFFFF
  high : Word := 0xFFFFFFFF
  mean : Word := 0xFFFFFFFF
  rise : Word := 0xFFFFFFFF
  deriving DecidableEq, Repr

/-- A held capture (R444, Table 14.5). -/
structure Capture where
  number : Nat
  group : Nat
  preCut : Bool := false
  truncated : Bool := false
  damaged : Bool := false
  trigger : Nat
  trigTime : Nat
  first : DWord
  last : DWord
  offset : Int := 0
  members : List Measure := []
  ended : Bool := false
  deriving DecidableEq, Repr

/-- The Capture Engine (R449). -/
structure CaptureSt where
  epoch : Nat := 0
  count : Nat := 0
  /-- Records held for REORDER_DELAY. -/
  waiting : List CapItem := []
  /-- The input queue behind the reorder stage: each record with the µs in which the writer takes it, and the first µs in which the writer is free (R436). -/
  queue : List (Nat × CapItem) := []
  writerFree : Nat := 0
  /-- Latest TIME of a record that has been overwritten (R443). -/
  overwritten : Option Nat := none
  droppedRun : Nat := 0
  /-- The buffer, newest first. -/
  buffer : List CapItem := []
  groups : Tab CapGroup := []
  held : List Capture := []
  nextNumber : Nat := 1
  stored : DWord := 0
  dropped : Word := 0
  late : Word := 0
  reorderDelay : Half := 2000
  share : Byte := 50
  cursors : List (Word × DWord) := []
  deriving DecidableEq, Repr

/-! ## I/O links (15) -/

/-- One position of a link (Table 15.7). -/
structure Position where
  state : Nat := 0
  missed : Nat := 0
  moduleType : Word := 0
  mstatus : Byte := 0
  everConfigured : Bool := false
  /-- A CONFIGURE is to be sent at the next cycle (R465). -/
  configure : Bool := true
  /-- A CONFIGURE has been sent and not been answered. -/
  configWait : Bool := false
  refusedAt : Ns := 0
  answered : Bool := false
  inFlight : Bool := false
  retried : Bool := false
  /-- A retry waits for the cycle's last first request (R455). -/
  retryDue : Bool := false
  /-- When the request on the lane ends, and when the window for its reply closes (R455). -/
  requestEnd : Ns := 0
  windowEnd : Ns := 0
  owner : Bool := false
  sent : Tab Word := []
  mask : Word := 0
  /-- Per channel: cycles since the value sent last changed, mismatches in a row, judged. -/
  age : Tab Nat := []
  bad : Tab Nat := []
  deriving DecidableEq, Repr

/-- A frame that the engine sent (Tables 15.1 and 15.3). -/
structure LinkFrame where
  link : Nat
  type : Nat
  position : Nat
  owner : Bool := false
  /-- SIDE: the module sends on side B. -/
  sideB : Bool := false
  seq : Byte := 0
  mask : Word := 0
  output : Tab Word := []
  mono : Ns := 0
  silent : Half := 0
  /-- Expected type, channel kinds and safe values of a CONFIGURE. -/
  typeId : Word := 0
  kinds : List Byte := []
  safe : List Word := []
  deriving DecidableEq, Repr

/-- One I/O link (Table 15.5). -/
structure Link where
  trained : Bool := false
  exchanging : Bool := false
  parked : Bool := false
  parkDue : Bool := false
  ownerSent : Bool := false
  cycleOpen : Bool := false
  cycles : DWord := 0
  missedReplies : Word := 0
  crcErrors : Word := 0
  retries : Word := 0
  overruns : Word := 0
  delay : Word := 0
  lastCycle : Ns := 0
  cycleAt : Ns := 0
  lastReplyAt : Ns := 0
  missLimit : Byte := 3
  silent : Half := 20
  /-- MISS_LIMIT and SILENT_TIMEOUT of the cycle under way: a change applies from the next cycle (R468). -/
  missInUse : Byte := 3
  silentInUse : Half := 20
  /-- When the last frame sent leaves the lane. -/
  laneFree : Ns := 0
  /-- A request has left in this cycle, and every one so far with OWNER set. -/
  requested : Bool := false
  ownerAll : Bool := true
  /-- The positions that answered in the last cycle. -/
  answeredMask : Nat := 0
  seq : Byte := 0
  silentRun : Nat := 0
  positions : Tab Position := []
  overrun : Bool := false
  deriving DecidableEq, Repr

/-- The link engines (R468). -/
structure LinkSt where
  links : Tab Link := []
  slots : Nat := 0
  slotWaits : Word := 0
  waiting : List (Nat × Nat × Nat) := []
  out : List LinkFrame := []
  deriving DecidableEq, Repr

/-! ## Ethernet (16) -/

/-- A submitted frame (Table 16.1). -/
structure TxFrame where
  object : Nat
  /-- The objects of its chain, the first included. -/
  chain : List Nat
  queue : Nat
  /-- LAUNCH_TIME, when LAUNCH is set. -/
  launch : Option Nat
  timestamp : Bool
  oneStep : Bool
  keep : Bool
  /-- The frame as it was submitted. -/
  bytes : List Byte := []
  /-- A forward step has placed the launch instant in the past (R482). -/
  passed : Bool := false
  /-- The launch instant has come: 1 on time, 2 late. -/
  due : Nat := 0
  deriving DecidableEq, Repr

/-- One Ethernet port (Table 16.6). -/
structure Port where
  up : Bool := false
  gig : Bool := false
  rx : DWord := 0
  tx : DWord := 0
  rxErrors : Word := 0
  rxDropped : Word := 0
  prpDiscards : Word := 0
  launchLate : Word := 0
  launchPolicy : Byte := 0
  ip : Word := 0
  mask : Word := 0
  gateway : Word := 0
  multicast : Tab (BitVec 48) := []
  waiting : List TxFrame := []
  /-- The queue whose first frame is leaving (R481). -/
  sending : Option Nat := none
  dropSecond : Option Nat := none
  icmpSecond : Nat := 0
  icmpCount : Nat := 0
  deriving DecidableEq, Repr

/-- A PRP node that supervision frames show (R475): its pair, since when, when last on LAN A and on LAN B, and whether D238 has told of it. -/
structure PrpNode where
  pair : Nat
  node : BitVec 48
  since : Ns
  lastA : Option Ns := none
  lastB : Option Ns := none
  told : Bool := false
  deriving DecidableEq, Repr

/-- A frame that the module sent, a platform frame with whether it bears the redundancy control trailer (R472, R474, R475, R479). -/
inductive EthOut where
  | arpReply (port : Nat) | echoReply (port : Nat) | supervision (port : Nat) | frame (port : Nat) (bytes : List Byte) (trailer : Bool)
  deriving DecidableEq, Repr

/-- The Ethernet ports and DMA (R480, R495). -/
structure EthSt where
  ports : Tab Port := [(4, { ip := 0xC0A8C801, mask := 0xFFFFFF00 })]
  prpConfig : Byte := 3
  prpActive : Byte := 3
  duplicates : List (BitVec 48 × Half × Nat × Ns) := []
  nodes : List PrpNode := []
  pool : List Nat := []
  lastSupervision : Ns := 0
  out : List EthOut := []
  deriving DecidableEq, Repr

/-! ## CAN FD (17) -/

/-- One message object (Tables 17.5 and 17.6). -/
structure MsgObj where
  config : Word := 0
  ident : Word := 0
  mask : Word := 0
  rxFlags : BitVec 7 := 0
  lastResult : Nat := 0
  overrun : Bool := false
  newData : Bool := false
  byFence : Bool := false
  byBusOff : Bool := false
  transmitting : Bool := false
  pending : Bool := false
  abortAsked : Bool := false
  data : Tab Word := []
  latched : Tab Word := []
  deriving DecidableEq, Repr

/-- One CAN channel (Tables 17.3 and 17.4). -/
structure Can where
  mode : Byte := 0
  nominalRate : Word := 500000
  nominalSample : Half := 800
  dataRate : Word := 2000000
  dataSample : Half := 750
  fdOptions : Byte := 3
  tec : Half := 0
  recErr : Half := 0
  policy : Byte := 0
  abrTimeout : Half := 10
  /-- 0 active, 1 passive, 2 bus-off. -/
  error : Nat := 0
  recovering : Bool := false
  abrFailed : Bool := false
  /-- The candidate nominal rate 0 to 3, frames received there without error, when it was taken, when it and the detection began (R502). -/
  abrCandidate : Nat := 0
  abrGood : Nat := 0
  abrTaken : Option Ns := none
  abrSince : Ns := 0
  abrStart : Ns := 0
  /-- The attempt on the bus is the oldest Xanfil reply (R508). -/
  sendingReply : Bool := false
  rxFrames : Word := 0
  txFrames : Word := 0
  rxDiscarded : Word := 0
  rxOverruns : Word := 0
  busOffs : Word := 0
  frameSeq : Word := 0
  replies : List Reply := []
  objects : Tab MsgObj := []
  sent : List CanFrame := []
  deriving DecidableEq, Repr

/-- Both channels and the Xanfil path (R514). -/
structure CanSt where
  node : Byte := 0
  channels : Byte := 3
  dropped : Word := 0
  chan : Tab Can := []
  deriving DecidableEq, Repr

/-! ## Field Block (18) -/

/-- One group (Table 18.6). -/
structure Group where
  undervolt : Bool := false
  switchedOff : Bool := false
  restoreReady : Bool := false
  watchdogExpired : Bool := false
  gateOpen : Bool := false
  storeReady : Bool := false
  supply : Nat := 0
  switchOffs : Word := 0
  below16 : Option Ns := none
  above19 : Option Ns := none
  /-- The supply has been below 16.0 V for 2 ms since UNDERVOLT was set (Table 18.3). -/
  deep : Bool := false
  /-- The last update with OWNER set, and FB_WATCHDOG as it was in force then (R523). -/
  lastOwner : Ns := 0
  limit : Half := 20
  /-- The group's converter has started on network time, and when it starts next (R490). -/
  aligned : Bool := false
  nextStart : Ns := 0
  deriving DecidableEq, Repr

/-- One field channel (Table 18.8). -/
structure Chan where
  on : Bool := false
  drivenOn : Bool := false
  wireBreak : Bool := false
  overload : Bool := false
  readbackFail : Bool := false
  overrange : Bool := false
  underrange : Bool := false
  loopCompliance : Bool := false
  atSafe : Bool := false
  alarmCurrent : Bool := false
  notDriven : Bool := true
  measured : Int := 0
  commanded : Int := 0
  filtered : Int := 0
  trimZero : Int := 0
  trimSpan : Int := 0
  faults : Word := 0
  drivenAt : Ns := 0
  overloadAt : Ns := 0
  /-- The current of the last capture record (Table 14.1). -/
  recorded : Option Int := none
  deriving DecidableEq, Repr

/-- A trim in progress (R540). -/
structure Trim where
  channel : Nat
  span : Bool
  steps : Int := 0
  zero : Int
  spanBefore : Int
  session : Word
  last : Ns
  deriving DecidableEq, Repr

/-- HART of one analog channel (R538, R539). -/
structure Hart where
  result : Nat := 0
  tries : Nat := 0
  command : Byte := 0
  response : Byte := 0
  status : Byte := 0
  request : List Byte := []
  reply : List Byte := []
  replyGen : Word := 0
  burst : List Byte := []
  burstCount : Word := 0
  deriving DecidableEq, Repr

/-- The Field Block (R544). -/
structure FieldSt where
  watchdog : Half := 20
  restorePolicy : Byte := 0
  convertBase : Byte := 0
  groups : Tab Group := []
  chans : Tab Chan := []
  trim : Option Trim := none
  harts : Tab Hart := []
  deriving DecidableEq, Repr

/-! ## Sedge (19, 20) -/

/-- One sensor (R550). -/
structure Sensor where
  value : Int := 0
  band : Nat := 0
  candidate : Nat := 0
  run : Nat := 0
  deriving DecidableEq, Repr

/-- One Sedge log entry (Table 19.3). -/
structure LogEntry where
  seq : Word
  boot : Word
  mono : Ns
  kind : Nat
  subject : Nat
  data : List Word
  deriving DecidableEq, Repr

/-- One boot measurement (R555). -/
structure BootEntry where
  component : Nat
  result : Nat
  slot : Nat
  release : Word
  security : Word
  digest : BitVec 512
  deriving DecidableEq, Repr

/-- One logic feed (R572, R573). -/
structure Feed where
  millivolts : Nat := 24000
  disconnected : Bool := false
  deriving DecidableEq, Repr

/-- Sedge, its store, the firmware slots and the logic supply (R548, R558, R564). -/
structure SedgeSt where
  sensors : Tab Sensor := []
  sampledAt : Option Ns := none
  coverOpen : Bool := false
  coverSaved : Option Bool := none
  inserted : Bool := true
  /-- Newest first. -/
  log : List LogEntry := []
  logNewest : Word := 0
  storeFailed : Bool := false
  bootLog : List BootEntry := []
  bootFull : Bool := false
  slotA : Option FwPackage := none
  slotB : Option FwPackage := none
  stageTotal : Nat := 0
  stage : Tab Byte := []
  stageState : Nat := 0
  stageError : Nat := 0
  runningB : Bool := false
  /-- The slot that the slot selection record names as running: B (R560). -/
  recordB : Bool := false
  trial : Bool := false
  attempts : Nat := 0
  fallback : Bool := false
  recovery : Bool := false
  floor : Nat := 0
  feedA : Feed := {}
  feedB : Feed := {}
  lowSince : Option Ns := none
  deriving DecidableEq, Repr

/-! ## The machine -/

/-- The whole module. -/
structure State where
  mode : ModeSt
  time : TimeSt
  xan : XanSt
  sess : SessSt
  sig : SigSt
  disp : DispSt
  drift : DriftSt
  firn : FirnSt
  prog : ProgSt
  pair : PairSt
  hub : HubSt
  guard : GuardSt
  moraine : MoraineSt
  capture : CaptureSt
  link : LinkSt
  eth : EthSt
  can : CanSt
  field : FieldSt
  sedge : SedgeSt
  /-- The internal map's bytes that are not zero: DRAM, message objects and local memories (R213, R220). -/
  mem : List Host.Cell
  /-- How many free values have been drawn: the model's own field, no register. -/
  draws : Nat
  /-- Commands that wait, first in, first out. -/
  pending : List Instr
  deriving DecidableEq, Repr

/-- A command that the machine cannot take: none is raised by any meaning of this model. -/
inductive Fault where
  /-- Nothing raises it; safe. -/
  | unreachable
  deriving DecidableEq, Repr

/-- A command without a meaning. -/
inductive Refusal where
  /-- Raised by an arm of exec that has no meaning yet; safe. -/
  | notModelled (mnemonic : String)
  deriving DecidableEq, Repr

/-- The package that a module ships with in slot A (R596). -/
def shippedPackage (release : Word) (security : Nat) : FwPackage :=
  { release := release, securityVersion := security, sedgeRelease := release }

/-- The module just as power-on reset has been released for the first time after manufacture (R578, R596): mode COLD, life-cycle BLANK, firmware in slot A, every object at its reset value. -/
def State.reset : State :=
  { mode := {}, time := {}, xan := {}, sess := {}, sig := {}, disp := {}, drift := {}, firn := {}, prog := {},
    pair := {}, hub := {}, guard := {}, moraine := {}, capture := {}, link := {}, eth := {}, can := {},
    field := {}, sedge := { slotA := some (shippedPackage 0x04010000 0) },
    mem := [], draws := 0, pending := [] }

end Sys2Proof.Machine
end

