-- ==== Sys2Proof/Machine/Base.lean ====
section
/-! DEFINITION. Tables by number, bit fields, byte strings, the byte memory, the CRCs and the wire coding of numbers. -/
namespace Sys2Proof.Machine

/-! ## Tables -/

/-- The entry of a table under a number, or the default that an absent entry stands for. -/
def get {α : Type} (d : α) (t : Tab α) (k : Nat) : α :=
  match t with
  | [] => d
  | (j, v) :: rest => if j = k then v else get d rest k

/-- The entry of a table when it is listed. -/
def find {α : Type} (t : Tab α) (k : Nat) : Option α :=
  match t with
  | [] => none
  | (j, v) :: rest => if j = k then some v else find rest k

/-- The table with the entry under a number set, in rising order. -/
def put {α : Type} (t : Tab α) (k : Nat) (v : α) : Tab α :=
  match t with
  | [] => [(k, v)]
  | (j, w) :: rest =>
    if k < j then (k, v) :: (j, w) :: rest
    else if j = k then (k, v) :: rest
    else (j, w) :: put rest k v

/-- The table without the entry under a number. -/
def del {α : Type} (t : Tab α) (k : Nat) : Tab α := t.filter (fun e => e.1 ≠ k)

/-- The table with a function applied to the entry under a number. -/
def upd {α : Type} (d : α) (t : Tab α) (k : Nat) (f : α → α) : Tab α := put t k (f (get d t k))

/-- The table with a function applied to every listed entry. -/
def mapTab {α β : Type} (t : Tab α) (f : Nat → α → β) : Tab β := t.map (fun e => (e.1, f e.1 e.2))

/-! ## Numbers and bit fields -/

/-- A condition as one bit at a place. -/
def bit (b : Bool) (n : Nat) : Nat := if b then 2 ^ n else 0
/-- Bit n of a number. -/
def tb (v n : Nat) : Bool := v.testBit n
/-- The field [hi:lo] of a number. -/
def field (v hi lo : Nat) : Nat := v / 2 ^ lo % 2 ^ (hi + 1 - lo)
/-- A counter cut to its largest value. -/
def sat (limit v : Nat) : Nat := min limit v
/-- A 32-bit saturating value (R186, R359). -/
def sat32 (v : Nat) : Nat := min 0xFFFFFFFF v
/-- An integer in 32-bit two's complement. -/
def i32 (v : Int) : Word := BitVec.ofInt 32 v
/-- A word read as a signed number. -/
def sgn (w : Word) : Int := w.toInt
/-- A mode's code (Table 2.1). -/
def Mode.code : Mode → Nat
  | .cold => 0 | .track => 1 | .run => 2 | .hold => 3 | .service => 4 | .safe => 5
/-- The mode of a code. -/
def modeOf : Nat → Mode
  | 1 => .track | 2 => .run | 3 => .hold | 4 => .service | 5 => .safe | _ => .cold
/-- A life-cycle state's code (Table 2.9). -/
def Life.code : Life → Nat
  | .blank => 0 | .provisioned => 1 | .inService => 2 | .develop => 3 | .retired => 4
/-- The life-cycle state of a code 0 to 4. -/
def lifeOf : Nat → Life
  | 1 => .provisioned | 2 => .inService | 3 => .develop | 4 => .retired | _ => .blank

/-! ## Byte strings, big-endian (R60) -/

/-- A number as n bytes, the first the most significant. -/
def be : Nat → Nat → List Byte
  | 0, _ => []
  | n + 1, v => BitVec.ofNat 8 (v / 256 ^ n) :: be n v
/-- The number that bytes spell, the first the most significant. -/
def fromBe (l : List Byte) : Nat := l.foldl (fun a b => a * 256 + b.toNat) 0
/-- The bytes from an offset, n of them, fewer at the end of the string. -/
def slice (l : List Byte) (offset n : Nat) : List Byte := (l.drop offset).take n
/-- The number of n bytes at an offset. -/
def at_ (l : List Byte) (offset n : Nat) : Nat := fromBe (slice l offset n)
/-- A sparse string of a length as its bytes; an unwritten byte is 0. -/
def tabBytes (t : Tab Byte) (n : Nat) : List Byte := (List.range n).map (get 0 t)
/-- A sparse string with bytes written from an offset. -/
def writeBytes (t : Tab Byte) (offset : Nat) : List Byte → Tab Byte
  | [] => t
  | b :: rest => writeBytes (put t offset b) (offset + 1) rest
end Sys2Proof.Machine

/-- A wall time as 10 bytes (R99). -/
def Sys2Proof.Wall.bytes (w : Sys2Proof.Wall) : List Sys2Proof.Byte :=
  Sys2Proof.Machine.be 6 w.seconds.toNat ++ Sys2Proof.Machine.be 4 w.nanos.toNat
/-- A wall time in nanoseconds. -/
def Sys2Proof.Wall.ns (w : Sys2Proof.Wall) : Nat := w.seconds.toNat * 1000000000 + w.nanos.toNat

namespace Sys2Proof.Machine

/-- Nanoseconds since the PTP epoch as a wall time. -/
def wallOf (ns : Nat) : Wall :=
  { seconds := BitVec.ofNat 48 (ns / 1000000000), nanos := BitVec.ofNat 32 (ns % 1000000000) }

/-! ## The byte memory (R213, R220) -/

/-- What a byte that nothing has written reads as: on-chip SRAM and DRAM are wiped to 0 by every power-on reset (R56). -/
def unwritten : Byte := 0
/-- One byte of the internal map. -/
def rd8 (m : List Host.Cell) (a : Nat) : Byte :=
  match m with
  | [] => unwritten
  | (b, v) :: rest => if b = a then v else rd8 rest a
/-- The memory with one byte written; a byte equal to what an unwritten one reads as is not listed. -/
def wr8 (m : List Host.Cell) (a : Nat) (v : Byte) : List Host.Cell :=
  match m with
  | [] => if v = unwritten then [] else [(a, v)]
  | (b, w) :: rest =>
    if a < b then (if v = unwritten then (b, w) :: rest else (a, v) :: (b, w) :: rest)
    else if b = a then (if v = unwritten then rest else (a, v) :: rest)
    else (b, w) :: wr8 rest a v
/-- Addresses strictly rising above a bound and no byte that reads as unwritten. -/
def Memory.wfFrom (low : Nat) : List Host.Cell → Bool
  | [] => true
  | (a, v) :: rest => decide (low ≤ a) && decide (v ≠ unwritten) && Memory.wfFrom (a + 1) rest
/-- The canonical form of the memory. -/
def Memory.wf (m : List Host.Cell) : Bool := Memory.wfFrom 0 m
/-- A little-endian 32-bit word (R60). -/
def rd32 (m : List Host.Cell) (a : Nat) : Word :=
  BitVec.ofNat 32 ((rd8 m a).toNat + 256 * (rd8 m (a + 1)).toNat + 65536 * (rd8 m (a + 2)).toNat + 16777216 * (rd8 m (a + 3)).toNat)
/-- The memory with a little-endian 32-bit word written. -/
def wr32 (m : List Host.Cell) (a : Nat) (v : Word) : List Host.Cell :=
  wr8 (wr8 (wr8 (wr8 m a (v.extractLsb' 0 8)) (a + 1) (v.extractLsb' 8 8)) (a + 2) (v.extractLsb' 16 8)) (a + 3) (v.extractLsb' 24 8)

/-! ## Cyclic codes -/

/-- Eight steps of a reflected CRC-32 (IEEE 802.3). -/
def crc32Byte (c : Word) (b : Byte) : Word :=
  (List.range 8).foldl (fun c _ => if c.getLsbD 0 then (c >>> 1) ^^^ 0xEDB88320 else c >>> 1) (c ^^^ b.zeroExtend 32)
/-- CRC-32 of IEEE 802.3 over bytes (R194, R405, R452). -/
def crc32 (l : List Byte) : Word := (l.foldl crc32Byte 0xFFFFFFFF) ^^^ 0xFFFFFFFF
/-- One byte into the input digest: CRC-64, polynomial 0x42F0_E1EB_A9EA_3693, not reflected (R227). -/
def crc64Byte (c : DWord) (b : Byte) : DWord :=
  (List.range 8).foldl (fun c _ => if c.getLsbD 63 then (c <<< 1) ^^^ 0x42F0E1EBA9EA3693 else c <<< 1) (c ^^^ (b.zeroExtend 64 <<< 56))
/-- The input digest continued over bytes. -/
def crc64 (c : DWord) (l : List Byte) : DWord := l.foldl crc64Byte c

/-- Bytes stored from an address on. -/
def wrBytes (m : List Host.Cell) (a : Nat) : List Byte → List Host.Cell
  | [] => m
  | b :: rest => wrBytes (wr8 m a b) (a + 1) rest

/-! ## Lists -/

/-- The first element with a property, split off from the rest. -/
def takeOut {α : Type} (p : α → Bool) : List α → Option (α × List α)
  | [] => none
  | x :: rest => if p x then some (x, rest) else (takeOut p rest).map (fun r => (r.1, x :: r.2))
/-- The smallest value of a list by a key, the first among equals. -/
def leastBy {α : Type} (key : α → Nat) : List α → Option α
  | [] => none
  | x :: rest => match leastBy key rest with
    | none => some x
    | some y => if key y < key x then some y else some x
/-- Insertion by a key, after equal ones. -/
def insertBy {α : Type} (key : α → Nat) (x : α) : List α → List α
  | [] => [x]
  | y :: rest => if key x < key y then x :: y :: rest else y :: insertBy key x rest
/-- A list in rising order of a key; equal ones keep their order. -/
def sortBy {α : Type} (key : α → Nat) (l : List α) : List α := l.foldl (fun a x => insertBy key x a) []

end Sys2Proof.Machine
end

