-- ==== Sys2Proof/Machine/Crypto.lean ====
section
/-! DEFINITION. Signatures, X.509 certificates and public keys as the module judges them (Table 4.2, Table 4.9, R117, R122, R125, R258). -/
namespace Sys2Proof.Machine

/-- A signature verifies under a key: it is the one that the key pair makes over the message with the salt that the signature encloses, which verification recovers and which comes with the command. -/
def verifies (key : BitVec 4096) (salt : BitVec 512) (message : List Byte) (sig : BitVec 4096) : Bool := Config.pss key salt message = sig

/-! ## DER -/

/-- Bytes of the header and of the content of the DER element at the front. -/
def derHead (l : List Byte) : Option (Nat × Nat) :=
  match l with
  | _ :: n :: rest =>
    let k := n.toNat - 0x80
    if n.toNat < 0x80 then some (2, n.toNat)
    else if k = 0 ∨ 4 < k ∨ rest.length < k then none
    else some (2 + k, fromBe (rest.take k))
  | _ => none
/-- The DER element of a tag at the front: the whole element, its content, and what follows it. -/
def derTake (tag : Nat) (l : List Byte) : Option (List Byte × List Byte × List Byte) :=
  match derHead l with
  | some (h, n) => if at_ l 0 1 = tag ∧ h + n ≤ l.length then some (l.take (h + n), slice l h n, l.drop (h + n)) else none
  | none => none
/-- What follows elements of given tags. -/
def derSkip (tags : List Nat) (l : List Byte) : Option (List Byte) :=
  match tags with
  | [] => some l
  | t :: rest => (derTake t l).bind (fun e => derSkip rest e.2.2)

/-! ## Certificates -/

/-- What the module takes from a certificate: the bytes that are signed, the RSA-4096 key and the signature. -/
structure Cert where
  signed : List Byte
  key : BitVec 4096
  sig : BitVec 4096
  deriving DecidableEq, Repr

/-- The RSA-4096 modulus of a SubjectPublicKeyInfo with the exponent 65,537 (R258). -/
def spkiKey (l : List Byte) : Option (BitVec 4096) := do
  let spki ← derTake 0x30 l
  let bits ← (derSkip [0x30] spki.2.1).bind (derTake 3)
  let pair ← derTake 0x30 (bits.2.1.drop 1)
  let modulus ← derTake 2 pair.2.1
  let exponent ← derTake 2 modulus.2.2
  if modulus.2.1.length = 513 ∧ at_ modulus.2.1 0 1 = 0 ∧ exponent.2.1 = [1, 0, 1] then some (BitVec.ofNat 4096 (at_ modulus.2.1 1 512)) else none
/-- The public key of a certificate's signed part: version 3, then serial number, algorithm, issuer, validity and subject. -/
def tbsKey (l : List Byte) : Option (BitVec 4096) := do
  let tbs ← derTake 0x30 l
  let version ← derTake 0xA0 tbs.2.1
  let spki ← derSkip [2, 0x30, 0x30, 0x30, 0x30] version.2.2
  if version.2.1 = [2, 1, 2] then spkiKey spki else none
/-- An X.509 v3 certificate in DER with an RSA-4096 key (Table 4.9). -/
def readCert (l : List Byte) : Option Cert := do
  let outer ← derTake 0x30 l
  let tbs ← derTake 0x30 outer.2.1
  let sig ← (derSkip [0x30] tbs.2.2).bind (derTake 3)
  let key ← tbsKey tbs.1
  if outer.2.2 = [] ∧ sig.2.1.length = 513 ∧ l.length ≤ 8192 then some ⟨tbs.1, key, BitVec.ofNat 4096 (at_ sig.2.1 1 512)⟩ else none
/-- The certificate is signed by a key. -/
def Cert.signedBy (c : Cert) (key : BitVec 4096) (salt : BitVec 512) : Bool := verifies key salt c.signed c.sig
/-- A public key as DER SubjectPublicKeyInfo, exponent 65,537 (1120.00). -/
def spkiBytes (modulus : BitVec 4096) : List Byte :=
  be 4 0x30820222 ++ be 15 0x300D06092A864886F70D0101010500 ++ be 5 0x0382020F00 ++ be 4 0x3082020A ++ be 5 0x0282020100
    ++ be 512 modulus.toNat ++ be 5 0x0203010001

end Sys2Proof.Machine
end

