-- ==== Sys2Proof/Machine/Flags.lean ====
section
/-! DEFINITION. Detector attributes, the computed conditions, and every status word as it is read. -/
namespace Sys2Proof.Machine

/-! ## Modes -/

/-- The module is in SERVICE and no change that leaves it has been committed: from the COMMIT on, permits and debug access are over (R49). -/
def State.inService (s : State) : Bool := s.mode.current = .service && s.mode.target = .service

/-! ## Detectors and domains (Tables 11.1, 11.2) -/

/-- The fixed attributes of a detector (R344): class 0 NOTE to 3 SAFE. -/
structure DetAttr where
  cls : Nat
  domain : Nat := 0xFF
  event : Bool := true
  own : Bool := false
  runtime : Bool := false
  deriving DecidableEq, Repr

/-- The attributes of an assigned detector, by the tables of the chapters (R345). -/
def detAttr (d : Nat) : Option DetAttr :=
  if d < 8 then some { cls := 2, domain := d, own := true }
  else if d < 16 then some { cls := 1, domain := d - 8 }
  else if d = 16 then some { cls := 2, domain := 0x52, own := true }
  else if d ≤ 21 then some { cls := 1 }
  else if d = 22 then some { cls := 0 }
  else if d = 23 then some { cls := 3, domain := 0x64, own := true }
  else if d = 24 then some { cls := 3, domain := 0x61, own := true }
  else if d = 25 then some { cls := 3, domain := 0x62, event := false, own := true }
  else if d = 26 then some { cls := 3, domain := 0x63, event := false, own := true }
  else if d = 27 then some { cls := 3, domain := 0x64, own := true }
  else if d = 29 then some { cls := 3, domain := 0x62, event := false, own := true }
  else if d < 32 then none
  else if d < 48 then some { cls := 3 }
  else if d = 48 then some { cls := 3, domain := 0x65, own := true }
  else if d = 49 then some { cls := 1 }
  else if d ≤ 52 then some { cls := 1, event := false }
  else if d = 53 then some { cls := 3, domain := 0x62, own := true }
  else if d = 54 then some { cls := 0 }
  else if d < 64 then none
  else if d = 64 then some { cls := 1 }
  else if d = 65 then some { cls := 2, domain := 0x52, own := true }
  else if d = 66 then some { cls := 2, own := true }
  else if d = 67 then some { cls := 3, domain := 0x67, own := true }
  else if d ≤ 69 then some { cls := 0, domain := d - 68 + 0x50 }
  else if d ≤ 71 then some { cls := 2, domain := d - 70 + 0x50, own := true }
  else if d ≤ 73 then some { cls := 2, domain := 0x52, own := true }
  else if d ≤ 76 then some { cls := 1 }
  else if d < 80 then none
  else if d < 88 then some { cls := 1, domain := d - 80 }
  else if d < 96 then some { cls := 2, domain := d - 88, own := true }
  else if d = 96 then some { cls := 3, domain := 0x60, own := true }
  else if d = 97 then some { cls := 1, event := false, runtime := true }
  else if d ≤ 99 then some { cls := 1 }
  else if d = 100 then some { cls := 3, domain := 0x60, own := true }
  else if d < 112 then none
  else if d ≤ 114 then some { cls := 1, event := false }
  else if d ≤ 116 then some { cls := 3, domain := 0x66, event := false, own := true }
  else if d = 117 then some { cls := 1, runtime := true }
  else if d = 118 then some { cls := 1, event := false }
  else if d = 119 then some { cls := 1 }
  else if d = 120 then some { cls := 2 }
  else if d < 128 then none
  else if d < 224 then
    if d % 2 = 0 then some { cls := 2, domain := 0x10 + (d - 128) / 2, event := false } else some { cls := 1 }
  else if d < 236 then
    if (d - 224) % 3 = 0 then some { cls := 1, event := false }
    else if (d - 224) % 3 = 1 then some { cls := 2, domain := 0x40 + (d - 224) / 3 }
    else some { cls := 0 }
  else if d = 236 then some { cls := 2, domain := 0x44 }
  else if d ≤ 238 then some { cls := 0 }
  else if d < 240 then none
  else if d < 248 then
    if d % 4 = 0 then some { cls := 1, event := false }
    else if d % 4 = 1 then some { cls := 0, event := false }
    else if d % 4 = 2 then some { cls := 2, domain := 0x48 + (d - 240) / 4, own := true }
    else some { cls := 0 }
  else if d ≤ 249 then some { cls := 0, event := false }
  else if d ≤ 251 then some { cls := 1, event := false }
  else if d ≤ 255 then some { cls := 2, domain := 0x4C + d % 2, own := true }
  else if d ≤ 259 then some { cls := 1 }
  else if d ≤ 261 then some { cls := 0 }
  else if d = 262 then some { cls := 1 }
  else if d < 272 then none
  else if d = 273 then some { cls := 1 }
  else if d ≤ 275 then some { cls := 0 }
  else if d < 288 then none
  else if d = 288 then some { cls := 1 }
  else if d ≤ 290 then some { cls := 0 }
  else if d < 304 then none
  else if d < 310 then some { cls := 1, event := false }
  else if d < 316 then some { cls := 3, domain := 0x67, event := false, own := true }
  else if d < 330 then some { cls := 1, event := false }
  else if d = 330 then some { cls := 3, domain := 0x67, event := false, own := true }
  else if d < 335 then some { cls := 1, event := false }
  else if d = 335 then some { cls := 1 }
  else if d = 336 then some { cls := 0 }
  else if d ≤ 339 then some { cls := 1 }
  else if d = 340 then some { cls := 1, event := false }
  else none

/-- The domain of an occurrence: D066 and D120 name it in their cause information (R345). -/
def detDomain (d : Nat) (info : Word) : Nat :=
  if d = 66 ∨ d = 120 then info.toNat % 256 else (detAttr d).elim 0xFF (·.domain)

/-- Reset time of a fenceable domain in ns (Table 11.2); none for any other code. -/
def resetTime (c : Nat) : Option Ns :=
  if c < 8 then some 20000
  else if 0x10 ≤ c ∧ c < 0x40 then some 500000
  else if 0x40 ≤ c ∧ c ≤ 0x44 then some 2000000
  else if c = 0x48 ∨ c = 0x49 then some 50000
  else if c = 0x4C ∨ c = 0x4D then some 5000000
  else if c = 0x50 ∨ c = 0x51 then some 1000000
  else if c = 0x52 then some 100000
  else none

/-- The neighbours of a domain (Table 11.2). -/
def neighbours (c : Nat) : List Nat :=
  if c = 0x40 then [0x41] else if c = 0x41 then [0x40] else if c = 0x42 then [0x43] else if c = 0x43 then [0x42]
  else if c = 0x50 ∨ c = 0x51 then [0x52] else if c = 0x52 then [0x50, 0x51] else []

/-- A shadow covers the detectors of its domain and of the neighbours (R352). -/
def Shadow.covers (h : Shadow) (domain : Nat) : Bool := h.domain = domain || (neighbours h.domain).contains domain

/-- A shadow covers a detector whose present domain is given: D129 + 2k, which has none, is covered by the shadow of link Lk (R352, R463). -/
def Shadow.coversDet (h : Shadow) (d domain : Nat) : Bool :=
  h.covers domain || (decide (129 ≤ d ∧ d < 224 ∧ d % 2 = 1) && h.domain = 0x10 + (d - 129) / 2)

namespace State

/-- A detector's state. -/
def det (s : State) (d : Nat) : Det := get {} s.hub.dets d
/-- The shadows that cover a detector, the earliest first (R355). -/
def shadowsOf (s : State) (d : Nat) : List Shadow :=
  s.hub.shadows.filter (fun h => h.coversDet d (detDomain d (s.det d).lastInfo))
/-- MASKED: covered by a shadow and not SAFE-class (R353, R354). -/
def masked (s : State) (d domain : Nat) : Bool :=
  (detAttr d).elim false (fun a => a.cls < 3 && s.hub.shadows.any (fun h => h.coversDet d domain))
/-- A domain is fenced. -/
def fenced (s : State) (domain : Nat) : Bool := s.hub.fenced.contains domain
/-- The numbers of all latched detectors, rising. -/
def latchedDets (s : State) : List Nat := (s.hub.dets.filter (fun e => e.2.latched)).map (·.1)
/-- A latch of a class at least c is set. -/
def anyLatch (s : State) (c : Nat) : Bool := s.latchedDets.any (fun d => (detAttr d).elim false (fun a => decide (c ≤ a.cls)))
/-- Worst latched class, NOTE not counted (Table 11.7). -/
def worstClass (s : State) : Nat := s.latchedDets.foldl (fun w d => max w ((detAttr d).elim 0 (·.cls))) 0

/-- The output gates are open (R11). -/
def gateOpen (s : State) : Bool := s.pair.ownSelf && !s.pair.ownPeer
/-- A partner answers on the Sync Link. -/
def partnerAnswers (s : State) : Bool := s.pair.syncUp && s.pair.paired && !s.pair.deferred
/-- The partner is in TRACK, in step and not stale (R24). -/
def partnerInStep (s : State) : Bool :=
  s.partnerAnswers && s.pair.partnerPhase = 5 && s.pair.partnerMode.toNat % 256 = 1 && !tb s.pair.partnerMode.toNat 18
/-- The running firmware package (R561). -/
def running (s : State) : Option FwPackage := if s.sedge.runningB then s.sedge.slotB else s.sedge.slotA
/-- The package of the slot that does not run. -/
def other (s : State) : Option FwPackage := if s.sedge.runningB then s.sedge.slotA else s.sedge.slotB
/-- FW_RELEASE (1000.03). -/
def fwRelease (s : State) : Word := s.running.elim 0 (·.release)
/-- The executing program image. -/
def image (s : State) : Option Image := s.prog.image
/-- FAULT_N reads low (R373). -/
def faultNLow (s : State) : Bool := !s.mode.hubTested || s.anyLatch 1 || s.hub.leafStopped || s.sedge.recovery
/-- Wall time now in ns since the PTP epoch. -/
def wallNs (s : State) : Nat := (s.time.mono + s.time.align).toNat
/-- Wall time as records bear it: zero when not valid (R405). -/
def wall (s : State) : Wall := if s.time.wallValid then wallOf s.wallNs else {}

/-! ## Tasks and their declarations -/

/-- The Task Table entry of a task. -/
def taskDecl (s : State) (t : Nat) : Option TaskDecl := s.image.elim none (fun i => i.tasks.find? (fun d => d.task = t))
/-- The declared tasks. -/
def tasks (s : State) : List TaskDecl := s.image.elim [] (·.tasks)
/-- A task's state. -/
def task (s : State) (t : Nat) : TaskSt := get {} s.disp.tasks t
/-- A task's Firn state. -/
def firnTask (s : State) (t : Nat) : FirnTask := get {} s.firn.tasks t
/-- The cores of an affinity mask. -/
def coresOf (mask : Byte) : List Nat := (List.range 8).filter (fun c => mask.getLsbD c)
/-- Every core of the task's AFFINITY is fenced (R174). -/
def undispatchable (s : State) (t : Nat) : Bool :=
  (s.taskDecl t).elim false (fun d => (coresOf d.affinity).all s.fenced)
/-- The slowest task: largest PERIOD, then lowest number (R273). -/
def slowest (s : State) : Option TaskDecl := leastBy (fun d => 100000000 * (10000001 - d.period) + d.task) s.tasks
/-- Signals that the image declares. -/
def sigDecl (s : State) (g : Nat) : Bool := (find s.sig.entries g).isSome
/-- A Signal Image entry; an undeclared one reads as R70 says. -/
def sigOf (s : State) (g : Nat) : Sig := get {} s.sig.entries g
/-- Signals of a producer task. -/
def producedBy (s : State) (t : Nat) : List Nat := (s.sig.entries.filter (fun e => e.2.producer = some t)).map (·.1)

end State

/-! ## Signals (Tables 5.6 to 5.10) -/

/-- DIRECTION: 0 internal, 1 input, 2 output (Table 5.7). -/
def Sig.direction (g : Sig) : Nat := field g.attributes.toNat 13 12
/-- TYPE: 0 BOOL, 1 I32, 2 U32, 3 REAL32. -/
def Sig.type (g : Sig) : Nat := field g.attributes.toNat 15 14
/-- CYCLE_LATCH. -/
def Sig.latched (g : Sig) : Bool := g.attributes.getLsbD 11
/-- VALUE_ROLE and FORCE_ROLE. -/
def Sig.valueRole (g : Sig) : Nat := field g.attributes.toNat 9 7
/-- The write role of force value and force state. -/
def Sig.forceRole (g : Sig) : Nat := field g.attributes.toNat 6 4
/-- The effective value (R147). -/
def Sig.effective (g : Sig) : Word := if g.forced then g.forceValue else if g.substituted then g.fallback else g.value
/-- The SOURCE field as read (R146). -/
def Sig.sourceRead (g : Sig) : Nat := if g.forced then 4 else g.source
/-- The status word (Table 5.8). -/
def Sig.status (g : Sig) : Half := BitVec.ofNat 16
  (g.quality.toNat * 16384 + bit g.forced 13 + bit g.stale 12 + bit g.transition 11 + bit g.skewHeld 10
    + bit g.wireBreak 9 + bit g.overrange 8 + bit g.underrange 7 + bit g.loopCompliance 6 + bit g.undervolt 5
    + bit g.debugTaint 4 + bit g.substituted 3 + g.sourceRead % 8)

/-! ## Units (Tables 5.1 to 5.4) -/

/-- The parent chain of a unit, itself first, at most 16 long (R130). -/
def chain (units : List UnitDecl) : Nat → Nat → List Nat
  | 0, u => [u]
  | n + 1, u => u :: (((units.find? (fun d => d.unit = u)).elim none (·.parent)).elim [] (chain units n))

/-- The link of a link channel code, the position and the channel (R451). -/
def linkOf (code : Nat) : Option (Nat × Nat × Nat) :=
  if 0x1000 ≤ code ∧ code < 0x1000 + 48 * 0x200 then
    some ((code - 0x1000) / 0x200, (code - 0x1000) / 0x20 % 16, (code - 0x1000) % 32) else none
/-- The group 1 or 2 of a Field Block channel code (Table 18.1). -/
def groupOf (code : Nat) : Nat :=
  if code < 0x10 then 1 else if code < 0x20 then 2 else if code < 0x24 then 1 else if code < 0x28 then 2
  else if code < 0x2C then 1 else 2

/-- FD frames are used on a channel: FD_OPTIONS allows them, and DATA_BITRATE is not 0 (Table 17.3). -/
def Can.usesFd (x : Can) : Bool := x.fdOptions.getLsbD 0 && x.dataRate ≠ 0

namespace State

/-- Units declared; unit 0 always exists (R601). -/
def units (s : State) : List UnitDecl := s.image.elim [] (·.units)
/-- A unit exists. -/
def unitExists (s : State) (u : Nat) : Bool := u = 0 || s.units.any (fun d => d.unit = u)
/-- A unit with its ancestors. -/
def ancestors (s : State) (u : Nat) : List Nat := chain s.units 15 u
/-- Unit u lies in the subtree of unit top (R84). -/
def within (s : State) (top u : Nat) : Bool := top = 0 || (s.ancestors u).contains top
/-- The units of a subtree. -/
def subtree (s : State) (top : Nat) : List Nat :=
  if s.units.isEmpty then [0] else (s.units.map (·.unit)).filter (fun u => u = top || (s.ancestors u).contains top)
/-- The channels that an image knows: the Field Block's 48, and those of the I/O modules that it expects on its links (DEDUCED: R129 gives every channel a unit, Table 18.1 and R451 name the channels). -/
def allChannels (i : Image) : List Nat :=
  List.range 48 ++ i.links.flatMap (fun l => l.positions.flatMap (fun p => (List.range p.kinds.length).map (fun c => 0x1000 + l.link * 0x200 + p.position * 0x20 + c)))
/-- The channels that no CHANNEL_BINDING entry places: they belong to unit 0 (R129). -/
def looseChannels (i : Image) : List ChannelDecl :=
  ((allChannels i).filter (fun n => !i.channels.any (fun c => c.channel = n))).map (fun n => { channel := n })
/-- Own channels of a unit. -/
def unitChannels (s : State) (u : Nat) : List ChannelDecl :=
  s.image.elim [] (fun i => i.channels.filter (fun c => c.unit = u) ++ if u = 0 then looseChannels i else [])
/-- Own instances of a unit. -/
def unitInsts (s : State) (u : Nat) : List InstDecl := s.image.elim [] (fun i => i.insts.filter (fun c => c.unit = u))
/-- Own signals of a unit. -/
def unitSigs (s : State) (u : Nat) : Tab Sig := s.sig.entries.filter (fun e => e.2.unit = u)
/-- Tasks that own an instance or produce a signal in the unit. -/
def unitTasks (s : State) (u : Nat) : List Nat :=
  ((s.unitInsts u).map (·.task) ++ (s.unitSigs u).filterMap (·.2.producer)).eraseDups
/-- LINK_DOMAINS. -/
def linkDomains (s : State) (u : Nat) : Nat :=
  (((s.unitChannels u).filterMap (fun c => (linkOf c.channel).map (·.1))).eraseDups).foldl (fun a k => a + 2 ^ k) 0
/-- OTHER_DOMAINS: the Field Block groups of the unit's channels. Which units depend on an Ethernet port or a CAN channel, bits [6:0], no rule says, and the model sets none of them (DESIGN CHOICE). -/
def otherDomains (s : State) (u : Nat) : Nat :=
  bit ((s.unitChannels u).any (fun c => c.channel < 0x30 && groupOf c.channel = 1)) 7
    + bit ((s.unitChannels u).any (fun c => c.channel < 0x30 && groupOf c.channel = 2)) 8
/-- The unit is FENCED (R138). -/
def unitFenced (s : State) (u : Nat) : Bool :=
  s.hub.fenced.any (fun d => (0x10 ≤ d && d < 0x40 && tb (s.linkDomains u) (d - 0x10)) || (d = 0x4C && tb (s.otherDomains u) 7) || (d = 0x4D && tb (s.otherDomains u) 8))
    || (s.unitTasks u).any s.undispatchable
/-- APPLIED_EPOCH (R38). -/
def appliedEpoch (s : State) (u : Nat) : Word :=
  BitVec.ofNat 32 ((s.unitTasks u).foldl (fun e t => min e (s.task t).epoch.toNat) s.mode.epoch.toNat)
/-- SUBTREE_EPOCH. -/
def subtreeEpoch (s : State) (u : Nat) : Word :=
  BitVec.ofNat 32 ((s.subtree u).foldl (fun e v => min e (s.appliedEpoch v).toNat) (s.appliedEpoch u).toNat)

/-- Whether a latched cause counts towards a unit's own fault state (R136). -/
def causeOf (s : State) (u d : Nat) : Bool :=
  let info := (s.det d).latchInfo.toNat
  let dom := detDomain d (s.det d).latchInfo
  let task := fun t => (s.unitTasks u).contains t
  let links := s.linkDomains u
  let others := s.otherDomains u
  if dom < 8 then (s.unitTasks u).any (fun t => (s.taskDecl t).elim false (fun x => x.affinity.getLsbD dom))
  else if 0x10 ≤ dom ∧ dom < 0x40 then tb links (dom - 0x10)
  else if 0x40 ≤ dom ∧ dom ≤ 0x44 then tb others (dom - 0x40)
  else if dom = 0x48 ∨ dom = 0x49 then tb others (dom - 0x48 + 5)
  else if dom = 0x4C ∨ dom = 0x4D then tb others (dom - 0x4C + 7)
  else if 0x50 ≤ dom ∧ dom ≤ 0x52 then false
  else if dom ≠ 0xFF ∧ dom ≠ 0x67 then u = 0
  else if 32 ≤ d ∧ d < 48 then task (d - 32)
  else if d = 49 ∨ d = 97 ∨ d = 117 then task (info % 16)
  else if 128 ≤ d ∧ d < 224 then tb links ((d - 128) / 2)
  else if 224 ≤ d ∧ d < 238 then tb others ((d - 224) / 3)
  else if 240 ≤ d ∧ d < 248 then tb others (5 + (d - 240) / 4)
  else if 248 ≤ d ∧ d < 262 then tb others (7 + d % 2)
  else if d = 262 then tb others (6 + groupOf (info % 64))
  else u = 0
/-- The own fault causes of a unit: latched, DEGRADE-class or above (R136). -/
def unitCauses (s : State) (u : Nat) : List Nat :=
  s.latchedDets.filter (fun d => (detAttr d).elim false (fun a => decide (1 ≤ a.cls)) && s.causeOf u d)
/-- FAULT_STATE of a set of units (Table 5.4, R131). -/
def faultState (s : State) (us : List Nat) : Word :=
  let ds := us.foldl (fun a u => a ++ s.unitCauses u) []
  let worst := ds.foldl (fun w d => max w ((detAttr d).elim 0 (·.cls))) 0
  let first := (leastBy id (ds.filter (fun d => (detAttr d).elim 0 (·.cls) = worst))).getD 0
  BitVec.ofNat 32 (first * 65536 + sat 255 ds.length * 256 + worst)
/-- UNIT_STATUS or OWN_STATUS over a set of units (Table 5.2, R134). -/
def unitStatus (s : State) (us : List Nat) : Word :=
  let gs := us.foldl (fun a u => a ++ (s.unitSigs u).map (·.2)) []
  let any := fun (f : Sig → Bool) => gs.any f
  BitVec.ofNat 32 (gs.foldl (fun q g => max q g.quality.toNat) 0 * 1073741824 + bit (us.any s.unitFenced) 29
    + bit (any (·.forced)) 28 + bit (any (·.stale)) 27 + bit (any (·.transition)) 26 + bit (any (·.skewHeld)) 25
    + bit (any (·.debugTaint)) 24 + bit (any (·.substituted)) 23 + bit ((s.faultState us).toNat % 8 ≠ 0) 22
    + bit (any (fun g => g.wireBreak || g.overrange || g.underrange || g.loopCompliance || g.undervolt)) 21
    + sat 65535 (gs.filter (fun g => 2 ≤ g.quality.toNat)).length)
/-- MODE_VIEW (Table 5.3). -/
def modeView (s : State) (u : Nat) : Word :=
  let sub := s.subtree u
  let e := s.subtreeEpoch u
  BitVec.ofNat 32 (bit (s.mode.excused.contains u) 19
    + bit (sub.any (fun v => s.appliedEpoch v ≠ s.appliedEpoch u)) 18
    + bit ((sub.filter (· ≠ u)).any s.unitFenced) 17 + bit (s.unitFenced u) 16
    + (if e = s.mode.epoch then s.mode.target.code else s.mode.current.code))
/-- FORCE_COUNT of a unit's subtree. -/
def forceCount (s : State) (u : Nat) : Nat :=
  (s.sig.entries.filter (fun e => e.2.forced && s.within u e.2.unit)).length
/-- FORCE_STATE with NOT_APPLIED (Table 5.10). -/
def forceState (s : State) (g : Nat) : Nat :=
  let e := s.sigOf g
  bit e.forced 0 + bit (e.forced && e.direction = 2 && (s.unitFenced e.unit || !s.pair.ownSelf || s.mode.current = .safe)) 1

/-! ## Status words -/

/-- DEVICE_MODE (Table 2.3). -/
def deviceMode (s : State) : Word := BitVec.ofNat 32
  (bit (s.disp.tasks.any (fun e => e.2.tainted)) 19 + bit s.pair.stale 18 + bit s.mode.prep.isSome 17
    + bit s.mode.inTransition 16 + s.mode.target.code * 256 + s.mode.current.code)
/-- REQUEST_STATUS (Table 2.5). -/
def requestStatus (s : State) : Word := BitVec.ofNat 32 (s.mode.reqUnit.toNat * 65536 + s.mode.reqReason.toNat * 256 + s.mode.reqResult.toNat)
/-- WIPE_STATUS (Table 2.12). -/
def wipeStatus (s : State) : Word := BitVec.ofNat 32
  (bit s.mode.lifePending.isSome 16 + s.mode.lifePending.elim 0 (·.code) * 256 + s.mode.wipeStep % 16 * 16 + bit s.mode.verifyFailed 3)
/-- TASK_STATE (Table 6.7). -/
def taskState (s : State) (t : Nat) : Word :=
  if (s.taskDecl t).isNone then 0 else
  let k := s.task t
  BitVec.ofNat 32 (bit true 15 + bit k.release.isSome 14 + k.release.elim 0 (fun r => if r.running || r.suspended then r.pass % 4 else 0) * 4096
    + bit (k.release.elim false (·.waiting)) 11 + bit k.undispatchable 10 + bit k.halted 9 + bit k.tainted 8
    + bit (s.det (32 + t)).latched 7 + bit k.budgetWarned 6 + bit (s.mode.pending.getLsbD t) 5 + bit k.alignFree 4)
/-- FIRN_TASK_STATE (Table 8.7). -/
def firnTaskState (s : State) (t : Nat) : Word :=
  let f := s.firnTask t
  BitVec.ofNat 32 (sat 255 f.skewRun * 65536 + bit f.faultedC 10 + bit f.faultedB 9 + bit f.faultedA 8
    + bit (s.task t).tainted 7 + bit (f.repair ≠ 0) 6 + f.oddPass % 4 * 16 + f.lastOutcome % 8)
/-- FIRN_STATUS (Table 8.5). -/
def firnStatus (s : State) : Word := BitVec.ofNat 32
  ((List.range 16).foldl (fun a t => a + bit (s.task t).tainted (16 + t) + bit ((s.firnTask t).repair ≠ 0) t) 0)
/-- IMAGE_STATE (Table 9.7). -/
def imageState (s : State) : Word := BitVec.ofNat 32
  ((if s.prog.stageState = 4 then s.prog.stageError else 0) * 65536 + s.prog.stageState % 16 * 256
    + bit (!s.prog.changeRecord.isEmpty) 1 + bit s.image.isSome 0)
/-- EXCHANGE_STATUS (Table 9.8). -/
def exchangeStatus (s : State) : Word :=
  let x := s.prog.exch
  BitVec.ofNat 32 ((if x.outcome = 3 then x.abortCause else 0) * 65536 + x.outcome % 16 * 256 + bit x.lone 7 + bit x.held 6 + x.phase % 16)
/-- ROLE of PAIR_STATUS. -/
def pairRole (s : State) : Nat :=
  if s.pair.ownSelf then 1 else match s.mode.current with
    | .cold => 0 | .track => 2 | .service => 3 | .safe => 3 | _ => 1
/-- SYNC_PHASE as read (Table 10.10). -/
def syncPhase (s : State) : Nat :=
  match s.pairRole with
  | 1 => if s.pair.syncUp then s.pair.partnerPhase else 0
  | 2 => s.pair.phase
  | _ => if s.pair.phase = 1 ∨ s.pair.phase = 2 ∨ s.pair.phase = 3 ∨ s.pair.phase = 7 then s.pair.phase else 0
/-- CLAIM_ARMED: every condition of Table 10.3 holds, and no swap of this module awaits its end (R279, R308, R335). -/
def claimArmed (s : State) : Bool :=
  s.mode.current = .track && (s.pair.phase = 5 || (s.pair.stale && s.pair.staleFromStep)) && !s.anyLatch 3
    && !(s.det 115).live && !(s.det 116).live && (s.mode.life = .inService || s.mode.life = .develop) && s.image.isSome
    && s.pair.waitUntil.isNone && !s.pair.ownSelf && !s.hub.leafStopped
/-- PAIR_STATUS (Table 10.10). -/
def pairStatus (s : State) : Word :=
  let p := s.pair
  BitVec.ofNat 32 (bit p.peerPresent 27 + bit p.ownPeer 26 + bit p.ownSelf 25 + bit s.gateOpen 24 + bit s.claimArmed 23
    + bit p.interlockOpen 22 + bit p.split 21 + bit p.stale 20 + bit p.lane1 19 + bit p.lane0 18 + bit p.syncUp 17
    + bit p.fwMismatch 16 + s.pairRole * 256 + s.syncPhase % 16)
/-- TAKEOVER_CHECK (Table 10.11). -/
def takeoverCheck (s : State) : Word := BitVec.ofNat 32
  (bit s.pair.checkDone 31 + bit s.pair.gateFailed 30 + bit s.pair.group2Failed 27 + bit s.pair.group1Failed 26
    + ((List.range 48).filter (fun k => s.pair.failedLinks.getLsbD k)).length)
/-- HUB_STATUS (Table 11.7). -/
def hubStatus (s : State) : Word := BitVec.ofNat 32
  (bit s.hub.leafStopped 27 + bit s.hub.aliveFrozen 26 + bit s.faultNLow 25 + bit s.hub.safeReleased 24
    + bit (s.mode.current = .safe) 23 + bit (!s.hub.shadows.isEmpty) 22 + bit s.hub.restore.isSome 21
    + s.worstClass * 65536 + s.latchedDets.length)
/-- DET_STATE (Table 11.9); D066 and D120 have no domain before their first occurrence (DEDUCED). -/
def detState (s : State) (d : Nat) : Word :=
  match detAttr d with
  | none => 0
  | some a =>
    let t := s.det d
    let dom := if (d = 66 ∨ d = 120) ∧ t.count = 0 then 0xFF else detDomain d t.lastInfo
    BitVec.ofNat 32 (bit t.live 31 + bit t.latched 30 + bit t.clearedSince 29 + bit (s.masked d dom) 28 + bit t.consequential 27
      + bit t.saturated 26 + bit a.event 25 + bit a.own 24 + dom * 65536 + a.cls * 16384 + 8192 + bit a.runtime 12 + t.parent.toNat)
/-- GUARD_STATE (Table 12.6). -/
def guardState (s : State) : Word := BitVec.ofNat 32
  ((List.range 16).foldl (fun a m => a + bit ((List.range 64).any (fun j =>
      get 0 s.guard.pending (64 * m + j) ≠ get 0 s.guard.live (64 * m + j))) m) 0
    + bit s.guard.syncError 16 + s.guard.failing.toNat * 1048576)
/-- The gate of EXTEST and SAMPLE/PRELOAD (Table 12.4). -/
def scanGate (s : State) : Bool :=
  (s.mode.life = .blank || s.mode.life = .provisioned || s.mode.life = .develop) && s.mode.current = .cold
/-- DEBUG_STATUS (Table 12.6). -/
def debugStatus (s : State) : Word := BitVec.ofNat 32
  ((List.range 16).foldl (fun a t => a + bit (s.task t).halted (16 + t)) 0
    + bit (s.guard.boundary && s.scanGate) 2 + bit s.guard.permitUntil.isSome 1 + bit s.guard.attached 0)
/-- DRAM rank 0 fenced: the staging ring serves as the ring (R419). -/
def stagingRing (s : State) : Bool := s.fenced 0x50
/-- MORAINE_STATUS (Table 13.5). -/
def moraineStatus (s : State) : Word := BitVec.ofNat 32
  (bit s.moraine.degraded 2 + bit s.stagingRing 1 + bit s.moraine.persistBusy 0)
/-- TIME_STATUS (Table 16.5). -/
def timeStatus (s : State) : Word := BitVec.ofNat 32
  (bit s.time.wallValid 15 + bit s.time.utcValid 14 + s.time.source % 4 * 4096 + s.time.servo % 16 * 256)
/-- A link's declaration. -/
def linkDecl (s : State) (k : Nat) : Option LinkDecl := s.image.elim none (fun i => i.links.find? (fun l => l.link = k))
/-- A link's state. -/
def lnk (s : State) (k : Nat) : Link := get {} s.link.links k
/-- LINK_STATE (Table 15.6). -/
def linkState (s : State) (k : Nat) : Word :=
  if (s.linkDecl k).isNone then 0 else
  let l := s.lnk k
  BitVec.ofNat 32 (bit true 31 + bit l.trained 30 + bit l.exchanging 29 + bit (s.fenced (0x10 + k)) 28 + bit l.parked 27
    + bit l.ownerSent 26 + bit (s.mode.current = .safe && (!s.mode.leavingSafe || s.mode.target = .run)) 25)
/-- A field group's state. -/
def grp (s : State) (g : Nat) : Group := get {} s.field.groups g
/-- A field channel's state. -/
def chan (s : State) (c : Nat) : Chan := get {} s.field.chans c
/-- The image's binding of a channel. -/
def binding (s : State) (c : Nat) : Option ChannelDecl := s.image.elim none (fun i => i.channels.find? (fun d => d.channel = c))
/-- GROUP_STATE of the Field Block (Table 18.6). -/
def groupState (s : State) (g : Nat) : Word :=
  let x := s.grp g
  BitVec.ofNat 32 (bit x.undervolt 31 + bit x.switchedOff 30 + bit x.restoreReady 29 + bit (s.fenced (0x4B + g)) 28
    + bit x.watchdogExpired 27 + bit x.gateOpen 26 + bit x.storeReady 25 + bit (s.field.convertBase.getLsbD (g - 1)) 24 + x.supply % 65536)
/-- CHANNEL_CONFIG (Table 18.7). -/
def channelConfig (s : State) (c : Nat) : Word :=
  (s.binding c).elim 0 (fun b => BitVec.ofNat 32 (b.kind % 16 * 268435456 + bit b.wireBreak 27 + bit b.hart 26
    + b.safeState % 4 * 16777216 + b.alarm % 4 * 4194304 + bit b.readback.isSome 21 + b.filter % 65536))
/-- CHANNEL_STATE of the Field Block (Table 18.8). -/
def channelState (s : State) (c : Nat) : Word :=
  let x := s.chan c
  BitVec.ofNat 32 (bit x.on 31 + bit x.drivenOn 30 + bit x.wireBreak 29 + bit x.overload 28 + bit x.readbackFail 27
    + bit x.overrange 26 + bit x.underrange 25 + bit x.loopCompliance 24 + bit x.atSafe 23 + bit x.alarmCurrent 22
    + bit (s.field.trim.elim false (fun t => t.channel = c)) 21
    + bit (0x20 ≤ c && (get ({} : Hart) s.field.harts (c - 0x20)).result = 1) 20 + bit (x.notDriven && (s.binding c).isSome) 19)
/-- HART_STATE (Table 18.5). -/
def hartState (s : State) (h : Nat) : Word :=
  let x := get ({} : Hart) s.field.harts h
  BitVec.ofNat 32 (x.result % 16 * 268435456 + x.tries % 16 * 16777216 + x.command.toNat * 65536 + x.response.toNat * 256 + x.status.toNat)
/-- TRIM_STATE (Table 18.5). -/
def trimState (s : State) : Word :=
  s.field.trim.elim 0 (fun t => BitVec.ofNat 32 (bit true 31 + bit t.span 30 + t.channel % 64 * 16777216 + (BitVec.ofInt 16 t.steps).toNat))
/-- A sensor. -/
def sensor (s : State) (n : Nat) : Sensor := get {} s.sedge.sensors n
/-- SEDGE_STATUS (Table 19.9). -/
def sedgeStatus (s : State) : Word := BitVec.ofNat 32
  (bit s.sedge.coverOpen 31 + bit s.sedge.inserted 30 + bit ((s.sensor 6).band ≠ 2) 29 + bit ((s.sensor 7).band ≠ 2) 28
    + bit s.mode.measured 27 + bit s.sedge.bootFull 26 + bit s.sedge.storeFailed 25 + bit s.time.stored.isSome 24
    + s.sedge.sensors.foldl (fun w e => max w e.2.band) 0 * 65536)
/-- A package lies below the anti-rollback floor (R563). -/
def belowFloor (s : State) (p : FwPackage) : Bool := p.securityVersion < s.sedge.floor
/-- FW_STATE (Table 19.10). -/
def fwState (s : State) : Word := BitVec.ofNat 32
  (bit s.sedge.runningB 31 + bit s.sedge.trial 30 + s.sedge.attempts % 4 * 268435456 + bit s.sedge.fallback 27 + bit s.sedge.recovery 26
    + bit (s.other.elim false s.belowFloor) 25 + s.sedge.stageError % 16 * 65536 + s.sedge.stageState % 16 * 256)
/-- A CAN channel 1 or 2. -/
def canCh (s : State) (c : Nat) : Can := get {} s.can.chan c
/-- A channel takes part in bus traffic: normal or listen-only, out of COLD, neither fenced nor bus-off (R500, R511, R513). -/
def canOnBus (s : State) (c : Nat) : Bool :=
  ((s.canCh c).mode = 1 || (s.canCh c).mode = 2) && s.mode.current ≠ .cold && !s.fenced (0x47 + c) && (s.canCh c).error ≠ 2
/-- Automatic detection runs (R502). -/
def abrRuns (s : State) (c : Nat) : Bool := (s.canCh c).mode = 3 && s.mode.current ≠ .cold && !s.fenced (0x47 + c)
/-- CHANNEL_STATE of CAN (Table 17.4). -/
def canState (s : State) (c : Nat) : Word :=
  let x := s.canCh c
  BitVec.ofNat 32 (bit (s.canOnBus c) 31 + x.error % 4 * 536870912 + bit x.recovering 28 + bit (s.fenced (0x47 + c)) 27 + bit (s.abrRuns c) 26
    + bit x.abrFailed 25 + (x.objects.filter (fun e => e.2.pending)).length)
/-- A port 0 to 4 for P1 to SVC. -/
def port (s : State) (p : Nat) : Port := get {} s.eth.ports p
/-- ETH_STATUS (Table 16.6). -/
def ethStatus (s : State) : Word := BitVec.ofNat 32
  ((List.range 5).foldl (fun a p => a + bit (s.port p).up p + bit (s.fenced (0x40 + p)) (5 + p)) 0
    + s.eth.prpActive.toNat % 4 * 1024 + bit ((s.port 4).up && (s.port 4).gig) 12)
/-- A port belongs to an enabled PRP pair (R474). -/
def prpMember (s : State) (p : Nat) : Bool := (p < 2 && s.eth.prpActive.getLsbD 0) || (2 ≤ p && p < 4 && s.eth.prpActive.getLsbD 1)
/-- PORT_STATE (Table 16.6). -/
def portState (s : State) (p : Nat) : Word := BitVec.ofNat 32
  (bit (s.port p).up 0 + bit (s.fenced (0x40 + p)) 1 + bit (s.prpMember p) 2
    + bit (p < 4 && s.time.profile ≠ 0 && s.time.ptpPorts.getLsbD p) 3)
/-- GROUP_STATE of the Capture Engine (Table 14.6). -/
def capGroupState (s : State) (g : Nat) : Word :=
  match s.image.elim none (fun i => i.groups.find? (fun d => d.group = g)) with
  | none => 0
  | some d =>
    let x := get ({} : CapGroup) s.capture.groups g
    BitVec.ofNat 32 (bit true 31 + bit x.armed 30 + bit x.firing.isSome 29 + bit x.rearmCancelled 28
      + s.image.elim 0 (fun i => (i.channels.filter (fun c => c.capture && c.group = some g)).length % 256) * 65536 + d.masterUnit % 4096)

end State

/-- MO_STATUS (Table 17.6). -/
def MsgObj.statusWord (m : MsgObj) : Word := BitVec.ofNat 32
  (m.rxFlags.toNat * 65536 + m.lastResult % 8 * 256 + bit m.overrun 5 + bit m.newData 4 + bit m.byFence 3 + bit m.byBusOff 2
    + bit m.transmitting 1 + bit m.pending 0)

/-- A frame table entry (Table 7.2). -/
def Frame.words (f : Frame) : List Word :=
  let w0 := BitVec.ofNat 32 (bit (f.state ≠ 0) 31 + f.state % 8 * 268435456 + bit f.dirty 27 + bit f.residentPin 26
    + f.pinCount % 32 * 2097152 + f.page % 262144)
  let w1 := BitVec.ofNat 32 (f.declaredBy.toNat * 65536 + bit f.reserved.isSome 15 + f.reserved.getD 0 % 16 * 2048 + bit (f.area = 1) 10)
  [w0, w1, f.lastUse, (Config.frameCheck w0 w1 f.lastUse).zeroExtend 32]

end Sys2Proof.Machine
end

