-- ==== Sys2Proof/Machine/Operands.lean ====
section
/-! DEFINITION. The index map: which objects exist, with their type, access and role; request fields and the wire form of values. -/
namespace Sys2Proof.Machine

/-- Object types (Table 3.1). -/
inductive OTy where
  | u8 | u16 | u32 | i32 | real | u64 | bytes
  deriving DecidableEq, Repr

/-- Access codes (Table 0.5). -/
inductive Acc where
  | r | rw | w1c | rs | ws
  deriving DecidableEq, Repr

/-- What the dictionary says of an object; roles are 1 VIEW to 5 SECURITY (Table 4.2). -/
structure Obj where
  ty : OTy
  acc : Acc := .r
  role : Nat := 1
  active : Bool := false
  deriving DecidableEq, Repr

/-- Wire size in bytes (Table 3.1). -/
def OTy.size : OTy → Nat
  | .u8 => 1 | .u16 => 2 | .u32 => 4 | .i32 => 4 | .real => 4 | .u64 => 8 | .bytes => 0

/-- A lookup of index and subindex (checks 3 and 4, R70). -/
inductive Look where
  | noObject
  | noSub
  /-- Reads as 0, a write is refused with NO_SUB (R186, R253, R449, R468). -/
  | readsZero (o : Obj)
  | found (o : Obj)
  deriving DecidableEq, Repr

/-- A read-only VIEW object. -/
def ro (t : OTy) : Obj := { ty := t }
/-- A read-write object of a role. -/
def rw (t : OTy) (role : Nat) (active : Bool := false) : Obj := { ty := t, acc := .rw, role := role, active := active }
/-- A write-only object of a role. -/
def wo (t : OTy) (role : Nat) (active : Bool := false) : Obj := { ty := t, acc := .ws, role := role, active := active }

/-- The object of a list of subindexes. -/
def pick (l : List (Nat × Obj)) (sub : Nat) : Look := (find l sub).elim .noSub .found
/-- As pick, for an index whose item the image may not declare. -/
def pickIf (declared : Bool) (l : List (Nat × Obj)) (sub : Nat) : Look :=
  (find l sub).elim .noSub (fun o => if declared then .found o else .readsZero o)

/-- Task objects (Table 6.6). -/
def taskObjs : List (Nat × Obj) :=
  [(0, ro .u32), (1, ro .u32), (2, ro .u32), (3, ro .u32), (4, ro .u8), (5, ro .u8), (6, ro .u8), (7, ro .u32), (8, ro .u64),
   (0xA, ro .u32), (0xB, ro .u32), (0xC, ro .u32), (0xD, ro .u32), (0xE, ro .u32), (0xF, ro .u32), (0x10, ro .u32),
   (0x11, ro .u32), (0x12, ro .u32), (0x13, ro .u32), (0x14, ro .u8), (0x15, rw .u8 3), (0x16, wo .u8 3), (0x17, ro .u64),
   (0x19, ro .u64), (0x1B, ro .u32)]
/-- Unit objects (Table 5.1). -/
def unitObjs : List (Nat × Obj) :=
  [(0, ro .u32), (1, ro .u32), (2, ro .u32), (3, ro .u32), (4, ro .u32), (5, ro .u32), (6, ro .u16), (7, ro .u8), (8, ro .u16),
   (9, ro .u32), (0xA, ro .u32), (0xB, ro .u16), (0xC, ro .u64), (0xE, ro .u32), (0x10, ro .bytes), (0x11, ro .u32),
   (0x12, wo .u8 3 true), (0x13, ro .u32)]
/-- Firn task objects (Table 8.6). -/
def firnObjs : List (Nat × Obj) :=
  ((List.range 0xD).map (fun f => (f, if f = 0xB then ro .u16 else ro .u32)))
    ++ [(0xD, ro .u64), (0xF, ro .u64), (0x11, ro .u64), (0x13, ro .u64), (0x15, ro .u32)]
/-- Link objects (Table 15.5). -/
def linkObjs : List (Nat × Obj) :=
  [(0, ro .u32), (1, ro .u32), (2, ro .u32), (3, ro .u16), (4, ro .u16), (5, ro .u16), (6, ro .u64), (8, ro .u32), (9, ro .u32),
   (0xA, ro .u32), (0xB, ro .u32), (0xC, ro .u32), (0xD, ro .u32), (0xE, rw .u8 3), (0xF, rw .u16 3), (0x10, wo .u8 4), (0x11, ro .bytes)]
/-- Ethernet port objects (Table 16.6). -/
def portObjs : List (Nat × Obj) :=
  [(0, ro .u32), (1, ro .u64), (3, ro .u64), (5, ro .u32), (6, ro .u32), (7, ro .u32), (8, ro .u32), (9, ro .u64), (0xB, rw .u8 3),
   (0xC, rw .u32 5), (0xD, rw .u32 5), (0xE, rw .u32 5), (0xF, rw .bytes 3)]
/-- PTP objects (Table 16.6). -/
def ptpObjs : List (Nat × Obj) :=
  [(0, rw .u8 5), (1, rw .u8 5), (2, rw .u8 5), (3, rw .u8 5), (4, rw .u8 5), (5, rw .u8 5), (6, ro .u8), (7, rw .u8 5),
   (8, rw .i32 5), (9, ro .i32), (0xA, ro .u32), (0xB, ro .u64), (0xD, ro .u32), (0xE, rw .u32 3)]
/-- CAN channel objects (Table 17.3). -/
def canObjs : List (Nat × Obj) :=
  [(0, ro .u32), (1, rw .u8 3), (2, rw .u32 3), (3, rw .u16 3), (4, rw .u32 3), (5, rw .u16 3), (6, rw .u8 3), (7, ro .u16), (8, ro .u16),
   (9, rw .u8 3), (0xA, wo .u8 4), (0xB, rw .u16 3), (0xC, ro .u32), (0xD, ro .u32), (0xE, ro .u32), (0xF, ro .u32), (0x10, ro .u32)]
/-- Message object slots (Table 17.5). -/
def moObj (f : Nat) : Option Obj :=
  if f < 3 then some (rw .u32 3) else if f = 3 then some (wo .u8 3)
  else if f = 4 then some { ty := .u32, acc := .w1c, role := 3 } else if f ≤ 20 then some (rw .u32 3) else none
/-- Field channel objects (Table 18.5). -/
def chanObjs : List (Nat × Obj) :=
  [(0, ro .u32), (1, ro .u32), (2, ro .i32), (3, ro .i32), (4, ro .i32), (5, ro .i32), (6, ro .u32)]
/-- Capture group objects (Table 14.6). -/
def capObjs : List (Nat × Obj) :=
  [(0, ro .u32), (1, wo .u8 2 true), (2, rw .u32 3), (3, rw .u32 3), (4, rw .u8 3), (5, ro .u32), (6, ro .u32), (7, ro .u16)]

/-- The objects of the single indexes (Tables 2.2, 2.11, 3.3, 3.12, 4.6, 4.12, 7.7, 8.5, 9.6, 10.9, 11.6, 12.6, 13.4, 14.6, 15.5, 16.4, 16.6, 17.3, 18.5, 19.8). -/
def fixedObjs : Tab (List (Nat × Obj)) :=
  [(0x1000, [(0, ro .u32), (1, ro .u32), (2, ro .u8), (3, ro .u32), (4, ro .u8), (5, ro .u64)]),
   (0x1010, [(0, ro .u8), (1, rw .u16 5), (2, ro .u16)]), (0x1011, [(0, ro .u32), (1, ro .u32), (2, ro .u32)]),
   (0x1100, [(0, ro .u8)]), (0x1101, [(0, wo .u32 5)]), (0x1102, [(0, ro .u32), (1, ro .u32)]),
   (0x1111, [(0, rw .bytes 1)]), (0x1112, [(0, ro .bytes)]), (0x1120, [(0, ro .bytes)]), (0x1121, [(0, ro .bytes)]),
   (0x1122, [(0, ro .bytes)]), (0x1130, [(0, wo .u32 5)]), (0x1131, [(0, rw .bytes 5)]),
   (0x1200, [(0, ro .u8), (1, ro .u8)]), (0x1201, [(0, rw .u16 5)]), (0x1202, [(0, { ty := .bytes, role := 5 })]),
   (0x1203, [(0, wo .u32 5)]), (0x1210, [(0, rw .bytes 5)]), (0x1220, [(0, wo .u32 5), (1, ro .u32)]),
   (0x1230, [(0, ro .u32), (1, ro .u32), (2, ro .u32)])]
  ++ [(0x2000, [(0, ro .u32), (1, ro .u32), (2, ro .u16)]), (0x2001, [(0, wo .u32 2 true)]), (0x2002, [(0, ro .u32), (1, ro .u32)]),
   (0x2003, [(0, wo .u32 4)]), (0x2004, [(0, rw .u8 3)]), (0x2005, [(0, rw .u16 3)]),
   (0x2100, [(0, ro .u32), (1, ro .u64), (3, ro .u64), (5, ro .u64), (7, ro .i32), (8, ro .u32)]),
   (0x2101, [(0, wo .u64 5)]), (0x2102, [(0, rw .u32 3), (1, rw .u32 3)]),
   (0x2200, [(0, ro .u32), (1, ro .u64), (3, ro .u32), (4, ro .u8), (5, ro .u64), (7, ro .u32)]),
   (0x2201, [(0, ro .u32), (1, ro .u64), (3, ro .u64), (5, ro .u8)]), (0x2202, [(0, ro .u32)]),
   (0x2203, (List.range 7).map (fun k => (k, ro .u32))), (0x2204, [(0, ro .i32)]), (0x2205, [(0, wo .u8 4 true), (1, ro .u8)])]
  ++ [(0x2300, [(0, ro .u32), (1, ro .u32), (2, ro .u32), (3, ro .u64)]), (0x2301, [(0, rw .bytes 3)]), (0x2302, [(0, wo .u8 3)]),
   (0x2303, [(0, ro .bytes), (1, ro .u16)]), (0x2304, [(0, ro .bytes)]), (0x2310, [(0, rw .bytes 3 true)]), (0x2311, [(0, rw .bytes 3 true)]),
   (0x2320, [(0, wo .u32 3 true)]), (0x2321, [(0, wo .u32 3 true)]),
   (0x2322, [(0, ro .u32), (1, ro .u32), (2, ro .u32), (3, ro .u32), (4, ro .u32), (5, ro .u32), (6, ro .u64)]),
   (0x2323, [(0, rw .u16 3)]), (0x2324, [(0, ro .bytes)]), (0x2325, [(0, wo .u8 3 true)]), (0x2326, [(0, wo .u8 3 true)]),
   (0x6400, [(0, ro .bytes)])]
  ++ [(0x7000, [(0, ro .u32), (1, ro .u16), (2, ro .u64), (4, ro .u32)]), (0x7002, [(0, ro .u8), (1, ro .u64), (3, ro .u32)]),
   (0x7003, [(0, wo .u8 4)]), (0x7004, [(0, rw .u16 3)]), (0x7005, [(0, wo .u32 5)]), (0x7006, [(0, wo .u32 5)]),
   (0x7010, (List.range 16).map (fun k => (k, { ty := .u32, acc := .w1c, role := 2 }))),
   (0x7011, (List.range 16).map (fun k => (k, ro .u32))), (0x7012, (List.range 16).map (fun k => (k, ro .u32))),
   (0x7013, (List.range 16).map (fun k => (k, ro .u32))),
   (0x7100, [(0, ro .u32), (1, ro .u64), (3, ro .u64), (5, ro .u64), (7, ro .u32), (8, ro .u32), (9, ro .u32), (0xA, ro .u64)]),
   (0x7101, [(0, rw .u8 3)]), (0x7102, [(0, ro .bytes)]), (0x7110, [(0, wo .u32 5)]), (0x7120, [(0, { ty := .bytes, acc := .rs })]),
   (0x7121, [(0, rw .u64 1), (2, ro .u8)])]
  ++ [(0x7200, [(0, ro .u32), (1, ro .u64), (3, ro .u32), (4, ro .u32), (5, ro .u32), (6, ro .u8), (7, ro .u64), (9, ro .u64)]),
   (0x7201, [(0, rw .u16 3), (1, rw .u8 3)]), (0x7202, [(0, wo .u32 2)]), (0x7220, [(0, { ty := .bytes, acc := .rs })]),
   (0x7221, [(0, rw .u64 1)]), (0x7222, [(0, { ty := .bytes, acc := .rs })]), (0x7223, [(0, ro .bytes)]), (0x7260, [(0, ro .bytes)]),
   (0x7300, [(0, ro .u32)]), (0x7301, [(0, wo .u16 5)]), (0x7302, [(0, ro .u32)]), (0x7340, [(0, wo .u32 5), (1, ro .u32)]),
   (0x7341, [(0, ro .u32)]),
   (0x7400, [(0, ro .u32), (1, ro .u16), (2, ro .u16), (3, ro .u16), (4, ro .u8), (5, ro .u64), (7, ro .u64), (9, ro .u32), (0xA, ro .u32), (0xB, ro .u32)]),
   (0x7401, [(0, wo .u8 4)]), (0x7402, [(0, ro .u32), (1, ro .u32)]), (0x7410, [(0, ro .bytes)]), (0x7411, [(0, ro .bytes)]),
   (0x7420, [(0, ro .bytes)]), (0x7430, [(0, ro .u32), (1, ro .u32), (2, ro .u32), (3, rw .u16 4)]),
   (0x7440, [(0, ro .u64), (2, ro .u64), (4, wo .u8 3), (5, ro .u32)])]
  ++ [(0x7500, [(0, ro .u32), (1, ro .u32), (2, ro .u32), (3, ro .u32), (4, rw .u8 3)]), (0x7501, [(0, wo .u8 3)]), (0x7502, [(0, ro .bytes)]),
   (0x7600, [(0, ro .u64), (2, ro .u64), (4, ro .u16), (5, ro .u32)]), (0x7700, [(0, ro .u32), (1, rw .u8 5)]), (0x7720, ptpObjs),
   (0x7730, [(0, wo .u32 5), (1, wo .u32 5), (2, ro .u16)]), (0x7800, [(0, ro .u32), (1, rw .u8 5), (2, rw .u8 5), (3, ro .u32)]),
   (0x7900, [(0, rw .u16 3), (1, rw .u8 3), (2, rw .u8 3)]), (0x7901, [(0, ro .u32), (1, ro .u32), (2, wo .u8 2)]),
   (0x7902, [(0, ro .u32), (1, ro .u32), (2, wo .u8 2)]), (0x7903, [(0, wo .u32 4), (1, wo .i32 4), (2, wo .u8 4), (3, ro .u32)]),
   (0x7A00, [(0, ro .u32), (1, ro .u32)]), (0x7A01, (List.range 24).map (fun k => (k, ro .i32))),
   (0x7A02, (List.range 24).map (fun k => (k, ro .u8))), (0x7A10, [(0, ro .bytes), (1, ro .u32)]), (0x7A20, [(0, wo .u32 4)]),
   (0x7A21, [(0, rw .bytes 4)]), (0x7A22, [(0, wo .u8 4)]),
   (0x7A23, [(0, ro .u32), (1, ro .u32), (2, ro .u16), (3, ro .u16), (4, ro .u16), (5, ro .u16)])]

/-- The detector slots (Table 11.8). -/
def detObj (f : Nat) : Option Obj :=
  match f % 8 with
  | 0 => some (ro .u32) | 1 => some (ro .u32) | 2 => some (ro .u64) | 4 => some (ro .u32) | 5 => some (ro .u64) | 7 => some (ro .u32)
  | _ => none

/-- Which object an index and a subindex name. The second slot of a two-slot snapshot is no object of its own (R411); snapshot slots are. Of the vendor range R4 gives neither which objects exist nor their type and access: the model takes an index to exist exactly when its subindex 0 is defined, and each defined object as a U32, RW, of SECURITY (DESIGN CHOICE). -/
def lookup (s : State) (i sub : Nat) : Look :=
  if 0xF000 ≤ i then
    if Config.vendorDefined i 0 then (if Config.vendorDefined i sub then .found { ty := .u32, acc := .rw, role := 5 } else .noSub) else .noObject
  else match find fixedObjs i with
  | some l => pick l sub
  | none =>
    if 0x2400 ≤ i ∧ i ≤ 0x240F then pickIf (s.taskDecl (i - 0x2400)).isSome taskObjs sub
    else if 0x3000 ≤ i ∧ i ≤ 0x3FFF then (if s.unitExists (i - 0x3000) then pick unitObjs sub else .noObject)
    else if 0x6000 ≤ i ∧ i < 0x6100 then .found (rw .u32 1 true)
    else if 0x6100 ≤ i ∧ i < 0x6200 then .found (ro .u16)
    else if 0x6200 ≤ i ∧ i < 0x6300 then .found (rw .u32 1 true)
    else if 0x6300 ≤ i ∧ i < 0x6400 then .found (rw .u8 1 true)
    else if 0x7040 ≤ i ∧ i ≤ 0x704F then (detObj sub).elim .noSub .found
    else if 0x7130 ≤ i ∧ i ≤ 0x7133 then .found (rw .u32 5)
    else if 0x7134 ≤ i ∧ i ≤ 0x7137 then .found (ro .u32)
    else if 0x7140 ≤ i ∧ i ≤ 0x715F then .found (rw .u32 3)
    else if 0x7240 ≤ i ∧ i ≤ 0x725F then
      pickIf (s.image.elim false (fun m => m.groups.any (fun g => g.group = i - 0x7240))) capObjs sub
    else if 0x7310 ≤ i ∧ i ≤ 0x731F then (if sub < 64 then .found (rw .u32 5) else .noSub)
    else if 0x7330 ≤ i ∧ i ≤ 0x733F then pick [(0, ro .u64), (2, ro .u32), (3, ro .u64), (5, ro .u32)] sub
    else if 0x7510 ≤ i ∧ i ≤ 0x751F then pickIf (s.taskDecl (i - 0x7510)).isSome firnObjs sub
    else if 0x7610 ≤ i ∧ i ≤ 0x763F then pickIf (s.linkDecl (i - 0x7610)).isSome linkObjs sub
    else if 0x7710 ≤ i ∧ i ≤ 0x7714 then pick portObjs sub
    else if 0x7810 ≤ i ∧ i ≤ 0x7811 then pick canObjs sub
    else if 0x7840 ≤ i ∧ i ≤ 0x78BF then (if sub < 0x40 then (moObj (sub % 0x20)).elim .noSub .found else .noSub)
    else if 0x7910 ≤ i ∧ i ≤ 0x793F then pick chanObjs sub
    else if 0x7940 ≤ i ∧ i ≤ 0x794F then pick [(0, ro .u32), (1, rw .bytes 4 true), (2, ro .bytes), (3, ro .bytes), (4, ro .u32)] sub
    else .noObject

/-- The signal number of an object of 6000 to 63FF (R148). -/
def sigNo (i sub : Nat) : Nat := i % 256 * 256 + sub

/-- The objects of signed commands (Table 4.8). -/
def signedObj (i sub : Nat) : Bool :=
  sub = 0 && (i = 0x1101 || i = 0x7A20 || i = 0x2320 || i = 0x2321 || i = 0x1130 || i = 0x7110 || i = 0x1220)

/-- The unit of the object of a subindex, for scope (Table 3.9). -/
def unitOfSub (s : State) (r : Req) (sub : Nat) : Nat :=
  let i := r.index.toNat
  if 0x3000 ≤ i ∧ i ≤ 0x3FFF then i - 0x3000
  else if 0x6000 ≤ i ∧ i < 0x6400 then (s.sigOf (sigNo i sub)).unit
  else if i = 0x2310 then s.image.elim 0 (fun m => (m.insts.find? (fun x => x.id = at_ r.data 0 4)).elim 0 (·.unit))
  else if 0x7910 ≤ i ∧ i ≤ 0x793F then (s.binding (i - 0x7910)).elim 0 (·.unit)
  else if 0x7940 ≤ i ∧ i ≤ 0x794F then (s.binding (i - 0x7940 + 0x20)).elim 0 (·.unit)
  else if 0x7240 ≤ i ∧ i ≤ 0x725F then
    s.image.elim 0 (fun m => (m.groups.find? (fun g => g.group = i - 0x7240)).elim 0 (·.masterUnit))
  else 0
/-- The unit of a request's object. -/
def unitOfObj (s : State) (r : Req) : Nat := unitOfSub s r r.sub.toNat
/-- Which session roles meet which object roles for a write (Table 4.1). -/
def roleMeets (session object : Nat) : Bool :=
  object = 1 || session = object || (session = 3 && object = 2)

end Sys2Proof.Machine

namespace Sys2Proof
open Sys2Proof.Machine

/-- The value that a WRITE carries, as an unsigned number. -/
def Req.value (r : Req) : Nat := fromBe r.data
/-- SELECT, OFFSET and LENGTH or bytes of a window operation (Table 3.6). -/
def Req.select (r : Req) : Nat := at_ r.data 0 4
/-- OFFSET of a window operation. -/
def Req.offset (r : Req) : Nat := at_ r.data 4 4
/-- LENGTH of a WINDOW_READ. -/
def Req.len (r : Req) : Nat := at_ r.data 8 2
/-- Bytes of a WINDOW_WRITE. -/
def Req.bytes (r : Req) : List Byte := r.data.drop 8
/-- The request came over CAN FD. -/
def Req.overCan (r : Req) : Bool := 6 ≤ r.port
/-- The ARGUMENT of a SIGNED_WRITE (R117). -/
def Req.arg (r : Req) : List Byte := slice r.data 28 (at_ r.data 24 2)
/-- The session number of the trailer, 0 without one. -/
def Req.session (r : Req) : Word := r.trailer.elim 0 (·.session)
/-- FLAGS [0]. -/
def Req.auth (r : Req) : Bool := r.flags.getLsbD 0
/-- The twelve header bytes as sent (Table 3.4). -/
def Req.header (r : Req) (opcode : Byte) : List Byte :=
  [r.version, opcode] ++ be 2 r.transaction.toNat ++ be 2 r.index.toNat ++ [r.sub, r.flags, r.status, r.reserved] ++ be 2 r.length.toNat

end Sys2Proof

namespace Sys2Proof.Machine

/-- NaN and infinities are no REAL32 on the wire (Table 3.1). -/
def realOk (v : Nat) : Bool := field v 30 23 ≠ 255

end Sys2Proof.Machine
end

