-- ==== Sys2Proof/Machine/Objects.lean ====
section
/-! DEFINITION. What every readable object reads as, and the strings of the window objects. -/
namespace Sys2Proof.Machine

/-- A record as its 64 bytes (Table 13.1). -/
def Rec.bytes (r : Rec) : List Byte :=
  let body := be 8 r.seq.toNat ++ be 8 r.mono ++ r.wall.bytes ++ be 2 r.code ++ be 1 r.severity ++ be 1 r.source ++ be 2 r.unit
    ++ be 4 r.lag.toNat ++ be 4 r.suppressed.toNat ++ [r.flags] ++ be 1 r.words.length ++ [0, 0]
    ++ ((r.words ++ List.replicate (4 - r.words.length) 0).take 4).flatMap (fun (w : Word) => be 4 w.toNat)
  body ++ be 4 (crc32 body).toNat

/-- A capture item as its 16 bytes (Table 14.2). -/
def CapItem.bytes (c : CapItem) : List Byte :=
  be 6 (c.time % 2 ^ 48) ++ be 2 c.channel ++ be 4 c.value.toNat ++ be 2 (c.seq.toNat % 65536) ++ [c.cause, c.kind]

/-- A Signal Image entry as its 32 bytes in the window (Table 5.6). -/
def sigBytes (s : State) (g : Nat) : List Byte :=
  let e := s.sigOf g
  let w := e.changedWall
  be 4 e.value.toNat ++ be 2 e.status.toNat ++ be 1 (s.forceState g) ++ be 1 (e.producer.getD 0xFF) ++ be 4 e.forceValue.toNat
    ++ be 2 e.attributes.toNat ++ be 8 e.changedMono ++ w.bytes

/-- Records that can be read, oldest first: the store, then what the rings hold beyond it (R416, R419, R422). -/
def heldRecs (s : State) : List Rec :=
  let ring := if s.stagingRing then s.moraine.ring.take 16320 else s.moraine.ring
  s.moraine.store.reverse ++ (ring.filter (fun r => !s.moraine.store.any (fun q => q.seq = r.seq))).reverse
/-- OLDEST_SEQ of Moraine. -/
def oldestRec (s : State) : DWord := (heldRecs s).head?.elim 0 (·.seq)
/-- OLDEST_SEQ of the capture buffer. -/
def oldestCap (s : State) : DWord := s.capture.buffer.getLast?.elim 0 (·.seq)
/-- NEWEST_SEQ of the capture buffer. -/
def newestCap (s : State) : DWord := s.capture.buffer.head?.elim 0 (·.seq)
/-- Sequence numbers that a held capture pins (R443). -/
def pinnedCount (s : State) : Nat :=
  (s.capture.buffer.filter (fun c => s.capture.held.any (fun h => h.first ≤ c.seq && c.seq ≤ h.last))).length
/-- Fences of the non-core, non-link domains (FENCED_OTHER). -/
def fencedOther (s : State) : Nat :=
  (List.range 5).foldl (fun a p => a + bit (s.fenced (0x40 + p)) p) 0 + bit (s.fenced 0x48) 5 + bit (s.fenced 0x49) 6
    + bit (s.fenced 0x4C) 7 + bit (s.fenced 0x4D) 8 + bit (s.fenced 0x50) 9 + bit (s.fenced 0x51) 10 + bit (s.fenced 0x52) 11
/-- A 32-bit word of detector bits D(32w) on. -/
def detWord (w : Nat) (f : Nat → Bool) : Nat := (List.range 32).foldl (fun a j => a + bit (f (32 * w + j)) j) 0
/-- Seconds left until an instant, rounded up; 0 when there is none. -/
def secondsLeft (s : State) (t : Option Ns) : Nat := t.elim 0 (fun e => (e - s.time.mono + 999999999) / 1000000000)
/-- Mean of a list of times. -/
def mean (l : List Ns) : Nat := if l.isEmpty then 0 else l.foldl (· + ·) 0 / l.length
/-- Stash entries allotted: three areas per task (R228). -/
def stashAllotted (s : State) : Nat := s.tasks.foldl (fun a d => a + 3 * d.stashWords) 0
/-- Words of a slot class (R209). -/
def classWords (c : Nat) : Nat := 16 * 4 ^ c
/-- The block uses that a task runs. -/
def taskInsts (s : State) (t : Nat) : List InstDecl := s.image.elim [] (fun i => i.insts.filter (fun x => x.task = t))
/-- Word indices of State A in the slots of a task's instances, ascending (R242). -/
def taskWords (s : State) (t : Nat) : List Nat :=
  sortBy id ((taskInsts s t).flatMap (fun x => (find s.prog.slots x.id).elim [] (fun o => (List.range (classWords x.slotClass)).map (fun k => o + k))))
/-- Free slots of a class. -/
def slotsFree (s : State) (c : Nat) : Nat :=
  s.image.elim 0 (fun i => (i.slotPools.getD c 0) - (i.insts.filter (fun x => x.slotClass = c)).length)
/-- Pages of a list of ranges, each once. -/
def pagesOf (rs : List (Nat × Nat)) : List Nat := (rs.flatMap (fun r => (List.range r.2).map (fun k => r.1 + k))).eraseDups
/-- The pages that a task's working set declares. -/
def State.pages (s : State) (t : Nat) : List Nat := (s.taskDecl t).elim [] (fun d => pagesOf d.ranges)
/-- The frame that holds a page of the executing image. -/
def State.frameOf (s : State) (p : Nat) : Option Nat :=
  (s.drift.frames.find? (fun e => e.2.state ≠ 0 && e.2.page = p && e.2.area = s.drift.area)).map (·.1)
/-- A free frame, lowest number first. -/
def State.freeFrame (s : State) : Option Nat := ((List.range 7936).map (· + 256)).find? (fun f => (get ({} : Frame) s.drift.frames f).state = 0)
/-- The frame to evict: neither pinned nor reserved, oldest LAST_USE, lowest number (R198); a dirty frame of a fenced rank stays (R207). -/
def State.victim (s : State) : Option Nat :=
  let now := s.time.mono / 1000 % 4294967296
  (leastBy (fun (e : Nat × Frame) => 4294967296 - (now + 4294967296 - e.2.lastUse.toNat) % 4294967296)
    (s.drift.frames.filter (fun e => e.2.state = 2 && !e.2.residentPin && e.2.pinCount = 0 && e.2.reserved.isNone && !(e.2.dirty && s.fenced (0x50 + e.2.area))))).map (·.1)
/-- What a frame is wanted for, as one number: a page of an area. -/
def State.wanted (area page : Nat) : Nat := area * 2 ^ 18 + page
/-- The pages of a task's working set that are neither in a frame nor on their way. -/
def State.missing (s : State) (t : Nat) : List Nat := (s.pages t).filter (fun p => 256 ≤ p && (s.frameOf p).isNone)
/-- A request that Drift can do nothing for until frames are unpinned (WAIT_FRAMES, Table 7.8). -/
def State.waitsForFrames (s : State) : Bool :=
  !s.fenced 0x52 && s.freeFrame.isNone && s.victim.isNone
    && s.drift.requests.any (fun q => (s.missing q.task).any (fun p => !s.drift.writeBacks.any (fun w => w.2 = wanted s.drift.area p)))
/-- The rank domain that backs the executing image (R194, R213). -/
def State.imageRank (s : State) : Nat := 0x50 + s.drift.area
/-- The frame table's entry of a frame: frames 0 to 255 always hold the runtime region, which no task declares (R195, R204). -/
def State.frameAt (s : State) (f : Nat) : Frame := if f < 256 then { state := 2, residentPin := true, page := f, area := s.drift.area } else get {} s.drift.frames f
/-- DRIFT_STATUS (Table 7.8). -/
def State.driftStatus (s : State) : Word := BitVec.ofNat 32
  (bit (s.drift.area = 1) 5 + bit s.waitsForFrames 4
    + bit (s.drift.frames.any (fun e => e.2.state = 1 || e.2.state = 3)) 3 + bit s.drift.residentLoaded 2 + bit (s.fenced 0x52) 1)
/-- The staged image, or the revert point, that STAGED_BUILD and IMAGE_HASHES report. -/
def stagedImage (s : State) : Option Image := s.prog.staged
/-- The flash slot, and the DRAM image area, that do not hold the executing image. -/
def State.stageSlot (s : State) : Nat := if s.image.isSome then 1 - s.drift.area else 0
/-- What that slot holds. -/
def State.stageFile (s : State) : ImageFile := get {} s.prog.flash s.stageSlot
/-- A piece of a sparse byte string. -/
def pieceOf (t : Tab Byte) (o n : Nat) : List Byte := (List.range n).map (fun k => get 0 t (o + k))
/-- SILENT and MISS settings and the counters of a link. -/
def readLink (s : State) (k sub : Nat) : Nat :=
  let l := s.lnk k
  let d := s.linkDecl k
  let mask := fun (f : Position → Bool) => l.positions.foldl (fun a e => a + bit (f e.2) e.1) 0
  if d.isNone then 0 else match sub with
  | 0 => (s.linkState k).toNat
  | 1 => d.elim 0 (·.period) | 2 => d.elim 0 (·.phase) | 3 => d.elim 0 (fun x => x.positions.foldl (fun a p => a + 2 ^ p.position) 0)
  | 4 => l.answeredMask | 5 => mask (fun p => p.state = 1) | 6 => l.cycles.toNat | 8 => l.missedReplies.toNat
  | 9 => l.crcErrors.toNat | 0xA => l.retries.toNat | 0xB => l.overruns.toNat | 0xC => l.delay.toNat | 0xD => sat32 l.lastCycle
  | 0xE => l.missLimit.toNat | 0xF => l.silent.toNat | _ => 0
/-- Task objects (Table 6.6). -/
def readTask (s : State) (t sub : Nat) : Nat :=
  let k := s.task t
  (s.taskDecl t).elim 0 (fun d => match sub with
  | 0 => (s.taskState t).toNat | 1 => d.period | 2 => d.phase | 3 => d.deadline | 4 => d.priority | 5 => d.affinity.toNat
  | 6 => d.timeBase | 7 => d.prefetchLead | 8 => k.releaseCount.toNat | 0xA => k.overruns.toNat | 0xB => k.missed.toNat
  | 0xC => sat32 k.lastSpan | 0xD => sat32 k.maxSpan | 0xE => sat32 (mean k.spans) | 0xF => sat32 (get 0 k.passTime 0)
  | 0x10 => sat32 (get 0 k.passTime 1) | 0x11 => sat32 (get 0 k.passTime 2) | 0x12 => sat32 k.longestBlock | 0x13 => k.preemptions.toNat
  | 0x14 => k.lastCore.toNat | 0x15 => (get 80 s.disp.warns t).toNat | 0x17 => k.nextRelease | 0x19 => k.lastRelease
  | 0x1B => (pagesOf d.ranges).length | _ => 0)
/-- Unit objects (Table 5.1). -/
def readUnit (s : State) (u sub : Nat) : Nat :=
  match sub with
  | 0 => (s.unitStatus (s.subtree u)).toNat | 1 => (s.unitStatus [u]).toNat | 2 => (s.appliedEpoch u).toNat | 3 => (s.subtreeEpoch u).toNat
  | 4 => (s.modeView u).toNat | 5 => (s.faultState (s.subtree u)).toNat
  | 6 => if u = 0 then 0xFFFF else (s.units.find? (fun d => d.unit = u)).elim 0xFFFF (fun d => d.parent.getD 0xFFFF)
  | 7 => (s.ancestors u).length - 1 | 8 => (s.units.filter (fun d => d.parent = some u)).length | 9 => (s.unitSigs u).length
  | 0xA => (s.unitInsts u).length | 0xB => (s.unitChannels u).length | 0xC => s.linkDomains u | 0xE => s.otherDomains u
  | 0x11 => s.forceCount u | 0x13 => (get 0 s.sig.statusChanges u).toNat | _ => 0
/-- Firn task objects (Table 8.6). -/
def readFirn (s : State) (t sub : Nat) : Nat :=
  let f := s.firnTask t
  (s.taskDecl t).elim 0 (fun d => match sub with
  | 0 => (s.firnTaskState t).toNat | 1 => d.stashWords | 2 => (taskWords s t).length | 3 => (get 0 f.outcomes 1).toNat
  | 4 => (get 0 f.outcomes 2).toNat | 5 => (get 0 f.outcomes 3).toNat | 6 => (get 0 f.outcomes 4).toNat | 7 => (get 0 f.outcomes 5).toNat
  | 8 => (get 0 f.outcomes 6).toNat | 9 => f.bgCycles.toNat | 0xA => f.bgDivergences.toNat | 0xB => f.taintRemaining
  | 0xC => f.mismatchTarget.toNat | 0xD => f.mismatchRelease | 0xF => (get 0 f.digests 0).toNat | 0x11 => (get 0 f.digests 1).toNat
  | 0x13 => (get 0 f.digests 2).toNat | 0x15 => f.stashPeak.toNat | _ => 0)
/-- Port objects (Table 16.6). -/
def readPort (s : State) (p sub : Nat) : Nat :=
  let x := s.port p
  match sub with
  | 0 => (s.portState p).toNat | 1 => x.rx.toNat | 3 => x.tx.toNat | 5 => x.rxErrors.toNat | 6 => x.rxDropped.toNat | 7 => x.prpDiscards.toNat
  | 8 => x.launchLate.toNat | 9 => (Config.mac p).toNat | 0xB => x.launchPolicy.toNat | 0xC => x.ip.toNat | 0xD => x.mask.toNat
  | 0xE => x.gateway.toNat | _ => 0
/-- PTP objects (Table 16.6). -/
def readPtp (s : State) (sub : Nat) : Nat :=
  let t := s.time
  match sub with
  | 0 => t.profile.toNat | 1 => t.clockType.toNat | 2 => t.ptpPorts.toNat | 3 => t.domain.toNat | 4 => t.priority1.toNat | 5 => t.priority2.toNat
  | 6 => 248 | 7 => t.oneStep.toNat | 8 => t.logSync.toNat | 9 => (i32 (max (-2147483648) (min 2147483647 t.offsetFromMaster))).toNat
  | 0xA => t.meanPath.toNat | 0xB => t.grandmaster.toNat | 0xD => t.portStates.foldl (fun a e => a + e.2 % 16 * 16 ^ e.1) 0
  | 0xE => t.offsetAlarm.toNat | _ => 0
/-- CAN channel objects (Table 17.3). -/
def readCan (s : State) (c sub : Nat) : Nat :=
  let x := s.canCh c
  match sub with
  | 0 => (s.canState c).toNat | 1 => x.mode.toNat | 2 => x.nominalRate.toNat | 3 => x.nominalSample.toNat | 4 => x.dataRate.toNat
  | 5 => x.dataSample.toNat | 6 => x.fdOptions.toNat | 7 => x.tec.toNat | 8 => x.recErr.toNat | 9 => x.policy.toNat | 0xB => x.abrTimeout.toNat
  | 0xC => x.rxFrames.toNat | 0xD => x.txFrames.toNat | 0xE => x.rxDiscarded.toNat | 0xF => x.rxOverruns.toNat | 0x10 => x.busOffs.toNat | _ => 0
/-- Message object slots (Table 17.5); the index from 0x7840 on. -/
def readMo (s : State) (i sub : Nat) : Nat :=
  let m := get ({} : MsgObj) (s.canCh ((i - 0x7840) / 0x40 + 1)).objects ((i - 0x7840) % 0x40 * 2 + sub / 0x20)
  match sub % 0x20 with
  | 0 => m.config.toNat | 1 => m.ident.toNat | 2 => m.mask.toNat | 3 => 0 | 4 => m.statusWord.toNat | f => (get 0 m.data (f - 5)).toNat
/-- Field channel objects (Table 18.5). -/
def readChan (s : State) (c sub : Nat) : Nat :=
  let x := s.chan c
  match sub with
  | 0 => (s.channelConfig c).toNat | 1 => (s.channelState c).toNat | 2 => (i32 x.measured).toNat | 3 => (i32 x.commanded).toNat
  | 4 => (i32 x.trimZero).toNat | 5 => (i32 x.trimSpan).toNat | 6 => x.faults.toNat | _ => 0
/-- Detector slots (Table 11.8). -/
def readDet (s : State) (i sub : Nat) : Nat :=
  let d := (i - 0x7040) * 32 + sub / 8
  let t := s.det d
  match sub % 8 with
  | 0 => (s.detState d).toNat | 1 => t.count.toNat | 2 => t.firstTime | 4 => t.firstInfo.toNat | 5 => t.lastTime | 7 => t.lastInfo.toNat | _ => 0

/-- Objects 1000 to 12FF (Tables 2.11, 3.3, 4.6). -/
def readIdentity (s : State) (i sub : Nat) : Nat :=
  match i, sub with
  | 0x1000, 0 => 0x00414B48 | 0x1000, 1 => 0x4800 | 0x1000, 2 => 3 | 0x1000, 3 => s.fwRelease.toNat | 0x1000, 4 => 3
  | 0x1000, 5 => Config.serial.toNat | 0x1010, 0 => 1 | 0x1010, 1 => s.xan.udpPort.toNat | 0x1010, 2 => s.xan.queue.length
  | 0x1011, 0 => s.xan.framesDropped.toNat | 0x1011, 1 => s.xan.busyRefusals.toNat | 0x1011, 2 => s.xan.stateConflicts.toNat
  | 0x1100, 0 => s.mode.life.code | 0x1102, 0 => s.wipeStatus.toNat | 0x1102, 1 => s.mode.wipeCount.toNat
  | 0x1200, 0 => s.sess.table.length | 0x1200, 1 => 32 | 0x1201, 0 => s.sess.idleTimeout.toNat
  | 0x1220, 1 => secondsLeft s s.sess.presenceUntil | 0x1230, 0 => s.sess.opens.toNat | 0x1230, 1 => s.sess.refusals.toNat
  | 0x1230, 2 => s.sess.tagFailures.toNat | _, _ => 0
/-- Objects 2000 to 23FF (Tables 2.2, 9.6, 10.9, 16.4). -/
def readModule (s : State) (i sub : Nat) : Nat :=
  let x := s.prog.exch
  let p := s.pair
  match i, sub with
  | 0x2000, 0 => s.deviceMode.toNat | 0x2000, 1 => s.mode.epoch.toNat | 0x2000, 2 => s.mode.pending.toNat | 0x2002, 0 => s.requestStatus.toNat
  | 0x2002, 1 => s.mode.reqSeq.toNat | 0x2004, 0 => s.mode.powerUpPolicy.toNat | 0x2005, 0 => s.mode.prepareTimeout.toNat
  | 0x2100, 0 => s.timeStatus.toNat | 0x2100, 1 => s.time.mono | 0x2100, 3 => if s.time.wallValid then s.wallNs else 0
  | 0x2100, 5 => (BitVec.ofInt 64 s.time.align).toNat | 0x2100, 7 => (i32 s.time.utcOffset).toNat | 0x2100, 8 => s.time.stepCount.toNat
  | 0x2102, 0 => s.time.stepThreshold.toNat | 0x2102, 1 => s.time.holdoverLimit.toNat
  | 0x2200, 0 => s.pairStatus.toNat | 0x2200, 1 => p.partnerSerial.toNat | 0x2200, 3 => p.partnerMode.toNat | 0x2200, 4 => bit p.slotPos 0
  | 0x2200, 5 => p.ownerEpoch.toNat | 0x2200, 7 => p.partnerFw.toNat | 0x2201, 0 => s.takeoverCheck.toNat | 0x2201, 1 => p.failedLinks.toNat
  | 0x2201, 3 => p.lastClaim | 0x2201, 5 => p.lastDrop | 0x2202, 0 => sat 255 p.restarts * 256 + p.percent % 256 | 0x2203, 0 => p.claims.toNat
  | 0x2203, 1 => p.syncFailures.toNat | 0x2203, 2 => p.laneFailures.toNat | 0x2203, 3 => p.retransmits.toNat | 0x2203, 4 => p.compared.toNat
  | 0x2203, 5 => p.mismatches.toNat | 0x2203, 6 => p.uncompared.toNat | 0x2204, 0 => if p.ownSelf then 0 else (i32 p.clockOffset).toNat
  | 0x2205, 1 => p.handover
  | 0x2300, 0 => s.imageState.toNat | 0x2300, 1 => s.image.elim 0 (·.build.toNat) | 0x2300, 2 => s.prog.staged.elim 0 (·.build.toNat)
  | 0x2300, 3 => s.prog.execSince | 0x2303, 1 => s.prog.changeRecord.length
  | 0x2322, 0 => s.exchangeStatus.toNat | 0x2322, 1 => x.carried.toNat | 0x2322, 2 => x.fresh.toNat | 0x2322, 3 => x.retyped.toNat
  | 0x2322, 4 => x.removed.toNat | 0x2322, 5 => secondsLeft s x.windowEnd | 0x2322, 6 => x.lastSwap | 0x2323, 0 => s.prog.revertWindow.toNat
  | _, _ => 0
/-- Objects 7000 to 75FF that stand alone (Tables 7.7, 8.5, 11.6, 12.6, 13.4, 14.6). -/
def readEngines (s : State) (ses : Word) (i sub : Nat) : Nat :=
  let q := s.drift
  let count := fun (f : Frame → Bool) => (q.frames.filter (fun e => f e.2)).length
  match i, sub with
  | 0x7000, 0 => s.hubStatus.toNat | 0x7000, 1 => s.hub.firstSafe.toNat | 0x7000, 2 => s.hub.safeEntry | 0x7000, 4 => s.hub.dropped.toNat
  | 0x7002, 0 => (List.range 8).foldl (fun a c => a + bit (s.fenced c) c) 0
  | 0x7002, 1 => (List.range 48).foldl (fun a k => a + bit (s.fenced (0x10 + k)) k) 0 | 0x7002, 3 => fencedOther s
  | 0x7004, 0 => s.hub.leafTimeout.toNat
  | 0x7010, w => detWord w (fun d => (s.det d).latched) | 0x7011, w => detWord w (fun d => (s.det d).live)
  | 0x7012, w => detWord w (fun d => (s.det d).clearedSince) | 0x7013, w => detWord w (fun d => (detAttr d).isSome && s.masked d (detDomain d (s.det d).lastInfo))
  | 0x7100, 0 => s.moraineStatus.toNat | 0x7100, 1 => s.moraine.newest.toNat | 0x7100, 3 => (oldestRec s).toNat | 0x7100, 5 => s.moraine.persisted.toNat
  | 0x7100, 7 => (heldRecs s).length | 0x7100, 8 => s.moraine.lost.toNat | 0x7100, 9 => s.moraine.clears.toNat | 0x7100, 0xA => s.moraine.persistTime
  | 0x7101, 0 => s.moraine.notify.toNat | 0x7121, 0 => (s.moraine.cursors.find? (fun c => c.1 = ses)).elim 0 (·.2.toNat)
  | 0x7121, 2 => s.moraine.cursors.length
  | 0x7200, 0 => (List.range 32).foldl (fun a g => a + bit (get ({} : CapGroup) s.capture.groups g).armed g) 0
  | 0x7200, 1 => s.capture.stored.toNat | 0x7200, 3 => s.capture.dropped.toNat | 0x7200, 4 => s.capture.late.toNat | 0x7200, 5 => pinnedCount s
  | 0x7200, 6 => s.capture.held.length | 0x7200, 7 => (oldestCap s).toNat | 0x7200, 9 => (newestCap s).toNat
  | 0x7201, 0 => s.capture.reorderDelay.toNat | 0x7201, 1 => s.capture.share.toNat
  | 0x7221, 0 => (s.capture.cursors.find? (fun c => c.1 = ses)).elim 0 (·.2.toNat)
  | 0x7300, 0 => s.guardState.toNat | 0x7302, 0 => s.guard.violations.toNat | 0x7340, 1 => secondsLeft s s.guard.permitUntil | 0x7341, 0 => s.debugStatus.toNat
  | 0x7400, 0 => s.driftStatus.toNat | 0x7400, 1 => if s.mode.measured then 8192 - count (fun f => f.state ≠ 0) - 256 else 0
  | 0x7400, 2 => if s.mode.measured then 256 + count (fun f => f.residentPin || f.pinCount > 0) else 0 | 0x7400, 3 => count (·.dirty)
  | 0x7400, 4 => count (fun f => f.state = 1) | 0x7400, 5 => q.fetchCount.toNat | 0x7400, 7 => q.writebackCount.toNat | 0x7400, 9 => mean q.fetchTimes
  | 0x7400, 0xA => q.lateReleases.toNat | 0x7400, 0xB => q.steals.toNat | 0x7402, 0 => q.lastUndeclared.toNat | 0x7402, 1 => q.lastUndeclaredInfo.toNat
  | 0x7430, 0 => bit (s.fenced 0x50) 0 + bit (s.fenced 0x51) 1 | 0x7430, 1 => q.ecc0.toNat | 0x7430, 2 => q.ecc1.toNat | 0x7430, 3 => q.eccThreshold.toNat
  | 0x7440, 0 => q.ckptSequence.toNat | 0x7440, 2 => q.ckptTime | 0x7440, 5 => q.flashFailed.toNat + bit q.noCheckpoint 2
  | 0x7500, 0 => s.firnStatus.toNat | 0x7500, 1 => stashAllotted s | 0x7500, 2 => s.firn.selftestCount.toNat | 0x7500, 3 => s.firn.selftestFails.toNat
  | 0x7500, 4 => s.firn.traceTask.toNat | _, _ => 0
/-- Objects 7600 to 7AFF that stand alone (Tables 15.5, 16.6, 17.3, 18.5, 19.8). -/
def readPeripherals (s : State) (i sub : Nat) : Nat :=
  let mask := fun (f : Nat → Bool) => (List.range 48).foldl (fun a k => a + bit (f k) k) 0
  match i, sub with
  | 0x7600, 0 => mask (fun k => (s.lnk k).trained && (s.lnk k).exchanging) | 0x7600, 2 => mask (fun k => (s.linkDecl k).isSome)
  | 0x7600, 4 => s.link.slots | 0x7600, 5 => s.link.slotWaits.toNat | 0x7700, 0 => s.ethStatus.toNat | 0x7700, 1 => s.eth.prpConfig.toNat
  | 0x7720, f => readPtp s f | 0x7730, 2 => s.eth.pool.length
  | 0x7800, 0 => bit (s.canOnBus 1) 0 + bit (s.canOnBus 2) 1 + bit (s.fenced 0x48) 2 + bit (s.fenced 0x49) 3
  | 0x7800, 1 => s.can.node.toNat | 0x7800, 2 => s.can.channels.toNat | 0x7800, 3 => s.can.dropped.toNat
  | 0x7900, 0 => s.field.watchdog.toNat | 0x7900, 1 => s.field.restorePolicy.toNat | 0x7900, 2 => s.field.convertBase.toNat
  | 0x7901, 0 => (s.groupState 1).toNat | 0x7901, 1 => (s.grp 1).switchOffs.toNat | 0x7902, 0 => (s.groupState 2).toNat
  | 0x7902, 1 => (s.grp 2).switchOffs.toNat | 0x7903, 3 => s.trimState.toNat
  | 0x7A00, 0 => s.sedgeStatus.toNat | 0x7A00, 1 => s.running.elim 0 (·.sedgeRelease.toNat) | 0x7A01, n => (i32 (s.sensor n).value).toNat
  | 0x7A02, n => (s.sensor n).band | 0x7A10, 1 => s.sedge.logNewest.toNat | 0x7A23, 0 => s.fwState.toNat | 0x7A23, 1 => s.other.elim 0 (·.release.toNat)
  | 0x7A23, 2 => s.sedge.floor | 0x7A23, 3 => 256 - s.sedge.floor | 0x7A23, 4 => s.running.elim 0 (·.securityVersion)
  | 0x7A23, 5 => s.other.elim 0 (·.securityVersion) | _, _ => 0
/-- A code's RATE_LIMIT, SUPPRESSED_TOTAL or snapshot slot (R427). -/
def codeOf (s : State) (c : Nat) : CodeSt := get {} s.moraine.codes c
/-- Codes that are never suppressed (R414). -/
def neverSuppressed (c : Nat) : Bool := c = 0x043 || c = 0x0B6 || (0x0F0 ≤ c && c ≤ 0x0F3)
/-- RATE_LIMIT of a code: what was last written, even before its next trigger. -/
def rateWord (s : State) (c : Nat) : Nat :=
  if neverSuppressed c then 0 else ((codeOf s c).newLimit).elim ((codeOf s c).burst * 65536 + (codeOf s c).rate) (·.toNat)
/-- Capture group objects (Table 14.6). -/
def readCap (s : State) (g sub : Nat) : Nat :=
  let x := get ({} : CapGroup) s.capture.groups g
  let d := s.image.elim none (fun i => i.groups.find? (fun y => y.group = g))
  if d.isNone then 0 else match sub with
  | 0 => (s.capGroupState g).toNat | 2 => x.pre.toNat | 3 => x.post.toNat | 4 => x.rearm.toNat | 5 => x.fires.toNat | 6 => x.last.toNat
  | 7 => (d.elim none (·.armSignal)).getD 0xFFFF | _ => 0

/-- What an object reads as, for the session that reads it; a write-only or BYTES object reads as 0 (R65, R66). -/
def readObj (s : State) (ses : Word) (i sub : Nat) : Nat :=
  if i < 0x1300 then readIdentity s i sub
  else if i < 0x2400 then readModule s i sub
  else if i < 0x2410 then readTask s (i - 0x2400) sub
  else if i < 0x4000 then readUnit s (i - 0x3000) sub
  else if i < 0x6100 then (s.sigOf (sigNo i sub)).effective.toNat
  else if i < 0x6200 then (s.sigOf (sigNo i sub)).status.toNat
  else if i < 0x6300 then (s.sigOf (sigNo i sub)).forceValue.toNat
  else if i < 0x6400 then s.forceState (sigNo i sub)
  else if 0x7040 ≤ i ∧ i < 0x7050 then readDet s i sub
  else if 0x7130 ≤ i ∧ i < 0x7134 then rateWord s ((i - 0x7130) * 256 + sub)
  else if 0x7134 ≤ i ∧ i < 0x7138 then (codeOf s ((i - 0x7134) * 256 + sub)).total.toNat
  else if 0x7140 ≤ i ∧ i < 0x7160 then (get 0 (codeOf s ((i - 0x7140) * 32 + sub / 8)).snaps (sub % 8)).toNat
  else if 0x7240 ≤ i ∧ i < 0x7260 then readCap s (i - 0x7240) sub
  else if 0x7310 ≤ i ∧ i < 0x7320 then (get 0 s.guard.pending (64 * (i - 0x7310) + sub)).toNat
  else if 0x7330 ≤ i ∧ i < 0x7340 then
    let v := get ({} : Viol) s.guard.reports (i - 0x7330)
    match sub with | 0 => v.address.toNat | 2 => v.info.toNat | 3 => v.time | 5 => v.count.toNat | _ => 0
  else if 0x7510 ≤ i ∧ i < 0x7520 then readFirn s (i - 0x7510) sub
  else if i < 0x7600 then readEngines s ses i sub
  else if 0x7610 ≤ i ∧ i < 0x7640 then readLink s (i - 0x7610) sub
  else if 0x7710 ≤ i ∧ i < 0x7715 then readPort s (i - 0x7710) sub
  else if 0x7810 ≤ i ∧ i < 0x7812 then readCan s (i - 0x7810 + 1) sub
  else if 0x7840 ≤ i ∧ i < 0x78C0 then readMo s i sub
  else if 0x7910 ≤ i ∧ i < 0x7940 then readChan s (i - 0x7910) sub
  else if 0x7940 ≤ i ∧ i < 0x7950 then
    if sub = 0 then (s.hartState (i - 0x7940)).toNat else (get ({} : Hart) s.field.harts (i - 0x7940)).burstCount.toNat
  else if i < 0x8000 then readPeripherals s i sub
  else if 0xF000 ≤ i then (get (Config.vendorValue i sub) s.xan.vendor (i * 256 + sub)).toNat
  else 0

/-! ## Window objects -/

/-- What a WINDOW_READ finds: TOTAL, GENERATION and the bytes of a piece. -/
structure Window where
  total : Nat
  gen : Word := 0
  piece : Nat → Nat → List Byte

/-- A window over a whole string. -/
def stringWindow (gen : Word) (l : List Byte) : Window := { total := l.length, gen := gen, piece := fun o n => slice l o n }
/-- A window over fixed entries of a size, read by number. -/
def entryWindow (gen : Word) (count size : Nat) (f : Nat → List Byte) : Window :=
  { total := count * size, gen := gen,
    piece := fun o n => slice (((List.range ((n + o % size + size - 1) / size)).filter (fun k => o / size + k < count)).flatMap (fun k => f (o / size + k))) (o % size) n }

/-- BOOT_LOG as it reads (Table 19.4, R555). -/
def bootLogBytes (s : State) : List Byte :=
  be 2 1 ++ be 2 (bit s.sedge.bootFull 0) ++ be 4 s.sedge.bootLog.length ++ be 4 s.moraine.boot ++ be 4 0
    ++ s.sedge.bootLog.flatMap (fun e => be 1 e.component ++ be 1 e.result ++ be 1 e.slot ++ [0] ++ be 4 e.release.toNat
      ++ be 4 e.security.toNat ++ be 4 0 ++ be 64 e.digest.toNat)
/-- One SESSION_TABLE entry (Table 4.7). -/
def sessionBytes (s : State) (x : Session) : List Byte :=
  be 4 x.number.toNat ++ be 1 x.role ++ be 1 x.port ++ be 2 x.scope ++ be 8 x.counter.toNat ++ be 8 x.openedAt ++ x.notAfter.bytes
    ++ be 2 0 ++ be 32 x.nonce.toNat ++ be 4 ((s.time.mono - x.lastReq) / 1000000000)
/-- MEMBERS of a unit (Table 5.5). -/
def memberBytes (s : State) (u : Nat) : List Byte :=
  let item := fun (k n f : Nat) => be 1 k ++ be 3 0 ++ be 4 n ++ be 4 f
  (sortBy id ((s.units.filter (fun d => d.parent = some u)).map (·.unit))).flatMap (fun n => item 1 n 0)
    ++ (s.unitSigs u).flatMap (fun e => item 2 e.1 e.2.fallback.toNat)
    ++ (sortBy id ((s.unitInsts u).map (·.id))).flatMap (fun n => item 3 n 0)
    ++ (sortBy id ((s.unitChannels u).map (·.channel))).flatMap (fun n => item 4 n 0)
/-- The words of a parameter as its window shows them, the high word of a 64-bit one first (Table 3.12). -/
def paramFields (p : ParamDecl) : List Nat := if p.wide then [p.word + 1, p.word] else [p.word]
/-- The words of a parameter with the value it declares, the low word first (R221). -/
def paramWords (p : ParamDecl) : List (Nat × Word) :=
  if p.wide then [(p.word, BitVec.ofNat 32 p.value.toNat), (p.word + 1, BitVec.ofNat 32 (p.value.toNat / 4294967296))] else [(p.word, BitVec.ofNat 32 p.value.toNat)]
/-- The words of an instance's parameters by parameter number. -/
def instFields (x : InstDecl) : List Nat := x.params.flatMap paramFields
/-- The parameters of an instance with their parameter numbers. -/
def numbered (x : InstDecl) : List (Nat × ParamDecl) :=
  (x.params.foldl (fun (r : Nat × List (Nat × ParamDecl)) p => (r.1 + (paramFields p).length, r.2 ++ [(r.1, p)])) (0, [])).2
/-- The parameter bytes of an instance, from State A (Table 3.12). -/
def paramBytes (s : State) (x : InstDecl) : List Byte := (instFields x).flatMap (fun w => be 4 (get 0 s.firn.stateA (get 0 s.prog.slots x.id + w)).toNat)
/-- A write of parameter bytes covers whole parameters, as far as it lies among them (R94). -/
def wholeParams (x : InstDecl) (offset n : Nat) : Bool :=
  let cut := fun (k : Nat) => (instFields x).length ≤ k || (numbered x).any (fun e => e.1 = k)
  cut (offset / 4) && cut ((offset + n) / 4)
/-- A constant page's word: a changed one, else the image's (R266, R267). -/
def constWord (s : State) (page w : Nat) : Word :=
  match find (get [] s.prog.changeRecord page) w with
  | some v => v
  | none => s.image.elim 0 (fun i => (i.constants.find? (fun c => c.page = page)).elim 0 (fun c => get 0 c.words w))
/-- CHANGE_LOG entries (Table 9.6). -/
def changeBytes (c : Change) : List Byte :=
  be 1 c.kind ++ be 3 0 ++ be 4 c.number ++ be 4 c.offset ++ be 4 c.old.toNat ++ be 4 c.new.toNat ++ be 4 c.session.toNat ++ be 8 c.mono
/-- A Sedge log entry (Table 19.3). -/
def logBytes (e : LogEntry) : List Byte :=
  be 4 e.seq.toNat ++ be 4 e.boot.toNat ++ be 8 e.mono ++ be 2 e.kind ++ be 2 e.subject
    ++ ((e.data ++ [0, 0, 0]).take 3).flatMap (fun (w : Word) => be 4 w.toNat)
/-- The descriptor, members and records of a held capture (Table 14.5). -/
def captureBytes (s : State) (c : Capture) : List Byte :=
  if !c.ended then [] else
  let items := s.capture.buffer.reverse.filter (fun x => !x.dead && c.first ≤ x.seq && x.seq ≤ c.last
    && (x.kind.toNat / 64 = 1 || c.members.any (fun m => m.channel = x.channel)))
  be 4 c.number ++ be 1 c.group ++ be 1 (bit c.preCut 0 + bit c.truncated 1 + bit c.damaged 2) ++ be 2 c.trigger ++ be 8 c.trigTime
    ++ be 8 c.first.toNat ++ be 8 c.last.toNat ++ be 8 (BitVec.ofInt 64 c.offset).toNat ++ be 2 c.members.length ++ be 6 0
    ++ c.members.flatMap (fun m => be 2 m.channel ++ be 2 (bit m.noStart 0) ++ be 4 m.changes.toNat ++ be 4 m.period.toNat ++ be 4 m.pulse.toNat
      ++ be 4 m.low.toNat ++ be 4 m.high.toNat ++ be 4 m.mean.toNat ++ be 4 m.rise.toNat)
    ++ items.flatMap CapItem.bytes
/-- POSITION_TABLE of a link (Table 15.7). -/
def positionBytes (s : State) (k : Nat) : List Byte :=
  (s.linkDecl k).elim [] (fun d => (sortBy PositionDecl.position d.positions).flatMap (fun p =>
    let x := get ({} : Position) (s.lnk k).positions p.position
    be 1 p.position ++ be 1 x.state ++ be 2 (sat 65535 x.missed) ++ be 4 p.typeId.toNat ++ be 4 x.moduleType.toNat ++ [x.mstatus] ++ be 3 0))
/-- The flags and severity of EVENT_CATALOG (Table 13.4) are those of the code's tables. -/
def catalogNote (c : Nat) : Bool := c = 0x061 || c = 0x073 || c = 0x081 || c = 0x0A5
/-- Assigned event codes (Tables 2.13, 4.15, 5, 6.9, 7.3, 8.8, 9.9, 10.12, 11.10, 12.7, 13.6, 14.7, 15.8, 16.7, 17.7, 18.9, 19.11, R96). -/
def codeAssigned (c : Nat) : Bool :=
  (0x20 ≤ c && c ≤ 0x22) || (0x41 ≤ c && c ≤ 0x43) || (0x50 ≤ c && c ≤ 0x52) || (0x60 ≤ c && c ≤ 0x67 && c ≠ 0x65) || (0x70 ≤ c && c ≤ 0x74)
    || (0x80 ≤ c && c ≤ 0x87) || (0x90 ≤ c && c ≤ 0x98) || (0xA0 ≤ c && c ≤ 0xAA) || (0xB0 ≤ c && c ≤ 0xB9) || (0xC0 ≤ c && c ≤ 0xC2)
    || (0xD0 ≤ c && c ≤ 0xD4) || (0xE0 ≤ c && c ≤ 0xE3) || (0xF0 ≤ c && c ≤ 0xF3) || (0x100 ≤ c && c ≤ 0x103) || (0x110 ≤ c && c ≤ 0x115)
    || (0x120 ≤ c && c ≤ 0x126) || (0x130 ≤ c && c ≤ 0x131)
/-- The source block of a code, by the chapter that defines it (Table 13.2). -/
def codeSource (c : Nat) : Nat :=
  if c < 0x40 then 0 else if c < 0x60 then 5 else if c < 0x70 then 1 else if c < 0x80 then 2 else if c < 0x90 then (if c = 0x86 then 16 else 3)
  else if c < 0xA0 then 0 else if c < 0xB0 then 6 else if c < 0xC0 then 4 else if c < 0xD0 then (if c = 0xC0 then 7 else 16) else if c < 0xE0 then 13
  else if c < 0xF0 then 9 else if c < 0x100 then (if c = 0xF0 then 8 else 15) else if c < 0x110 then 11
  else if c < 0x120 then (if c = 0x110 then 10 else 8) else if c < 0x130 then 12 else 14
/-- PAYLOAD words of a code: the fields named with it, under R410; a code that names none has none. -/
def payloadOf (c : Nat) : Nat :=
  match c with
  | 0x20 => 6 | 0x21 => 2 | 0x22 => 2 | 0x41 => 3 | 0x42 => 8 | 0x43 => 6 | 0x50 => 3 | 0x51 => 3 | 0x52 => 1 | 0x60 => 4 | 0x66 => 2 | 0x67 => 1
  | 0x70 => 5 | 0x71 => 2 | 0x73 => 3 | 0x80 => 7 | 0x81 => 3 | 0x82 => 4 | 0x83 => 3 | 0x86 => 5 | 0x87 => 3 | 0x90 => 2 | 0x91 => 5 | 0x92 => 2
  | 0x93 => 4 | 0x94 => 1 | 0xA1 => 4 | 0xA2 => 1 | 0xA3 => 2 | 0xA6 => 2 | 0xA7 => 4 | 0xB0 => 7 | 0xB1 => 7 | 0xB2 => 7 | 0xB3 => 7 | 0xB4 => 7
  | 0xB6 => 2 | 0xB9 => 1 | 0xC0 => 6 | 0xC1 => 3 | 0xC2 => 1 | 0xF0 => 6 | 0xF1 => 6 | 0xF2 => 3 | 0xF3 => 5 | 0xD0 => 5 | 0xD1 => 2 | 0xD3 => 1 | 0xE0 => 2 | 0xE1 => 5
  | 0xE3 => 2 | 0x100 => 2 | 0x101 => 1 | 0x103 => 1 | 0x110 => 1 | 0x112 => 2 | 0x120 => 1 | 0x114 => 3 | 0x115 => 1 | 0x130 => 5 | 0x131 => 2
  | 0xB7 => 1 | 0x124 => 5 | _ => 0
/-- An EVENT_CATALOG entry. -/
def catalogBytes (c : Nat) : List Byte :=
  if !codeAssigned c then [] else
  be 1 (if 0xB0 ≤ c ∧ c ≤ 0xB4 then (if c = 0xB4 then 1 else c - 0xB0 + 1) else if catalogNote c then 1 else 0) ++ be 1 (codeSource c) ++ be 1 (payloadOf c)
    ++ be 1 (1 + bit (neverSuppressed c) 1 + bit (Config.postable c) 2)
    ++ be 2 (if neverSuppressed c then 0 else 20) ++ be 2 (if neverSuppressed c then 0 else 100)
    ++ (Config.eventName c ++ List.replicate 8 0).take 8
/-- CHANNEL_CAPTURE of a channel (Table 14.6). -/
def channelCapture (s : State) (c : Nat) : List Byte :=
  (s.binding c).elim [] (fun b => if !b.capture then [] else
    be 1 (b.group.getD 0xFF) ++ be 1 b.trigger ++ be 2 0 ++ be 4 b.deadband ++ be 4 b.high ++ be 4 b.low)
/-- Records a session's MORAINE_WINDOW shows: severity at least SELECT, from the cursor on (R422). -/
def moraineView (s : State) (ses : Word) (sel : Nat) : List Rec :=
  let cur := (s.moraine.cursors.find? (fun c => c.1 = ses)).elim (oldestRec s) (·.2)
  (heldRecs s).filter (fun r => cur ≤ r.seq && sel ≤ r.severity)
/-- Records a session's CAPTURE_STREAM shows (R447). -/
def captureView (s : State) (ses : Word) : List CapItem :=
  let cur := (s.capture.cursors.find? (fun c => c.1 = ses)).elim (oldestCap s) (·.2)
  s.capture.buffer.reverse.filter (fun r => !r.dead && cur ≤ r.seq)

/-- GENERATION of a string that no rule numbers: how often it has been replaced as a whole (R92), counted with the replacements of everything that a power-on reset or an image load makes. -/
def generation (s : State) (i sub : Nat) : Word := get 0 s.xan.gens 0 + get 0 s.xan.gens (i * 256 + sub)
/-- The window of an object under a SELECT; none when SELECT names no string of it (R92). -/
def window (s : State) (ses : Word) (i sub sel : Nat) : Option Window :=
  let zero := fun (w : Window) => if sel = 0 then some w else none
  if 0x3000 ≤ i ∧ i < 0x4000 then zero (stringWindow s.prog.exch.exchanges (memberBytes s (i - 0x3000)))
  else if 0x7610 ≤ i ∧ i < 0x7640 then zero (stringWindow (generation s i sub) (positionBytes s (i - 0x7610)))
  else if 0x7710 ≤ i ∧ i < 0x7715 then
    zero (stringWindow (generation s i sub) ((List.range 16).flatMap (fun k => be 2 0 ++ be 6 (get 0 (s.port (i - 0x7710)).multicast k).toNat)))
  else if 0x7940 ≤ i ∧ i < 0x7950 then
    let h := get ({} : Hart) s.field.harts (i - 0x7940)
    zero (match sub with | 1 => stringWindow (generation s i 1) h.request | 2 => stringWindow h.replyGen h.reply | _ => stringWindow (generation s i 3) h.burst)
  else match i with
  | 0x1111 => zero (stringWindow s.sess.quoteGen s.sess.quote)
  | 0x1112 => zero (stringWindow (generation s i 0) (bootLogBytes s))
  | 0x1120 => zero (stringWindow (generation s i 0) (s.sess.ks.secret.elim [] (fun k => spkiBytes (Config.modulusOf k))))
  | 0x1121 => zero (stringWindow (generation s i 0) s.sess.ks.deviceCert) | 0x1122 => zero (stringWindow (generation s i 0) s.sess.ks.authority)
  | 0x1131 => zero (stringWindow (generation s i 0) (tabBytes s.sess.stage s.sess.stageTotal))
  | 0x1202 => zero (stringWindow s.sess.generation (s.sess.table.flatMap (sessionBytes s)))
  | 0x1210 => zero (stringWindow s.sess.revokedGen ((List.range 64).flatMap (fun k => be 32 (get 0 s.sess.revoked k).toNat)))
  | 0x2301 => zero { total := s.stageFile.total, gen := s.prog.stageGen, piece := fun o n => pieceOf s.stageFile.bytes o (min n (s.stageFile.total - o)) }
  | 0x2303 => zero (stringWindow (generation s i 0) (s.prog.changeLog.reverse.flatMap changeBytes))
  | 0x2304 => if sel = 0 then some (stringWindow (generation s i 0) (s.image.elim [] (fun m => be 64 m.hash.toNat)))
      else if sel = 1 then some (stringWindow (generation s i 1) (s.prog.staged.elim [] (fun m => be 64 m.hash.toNat))) else none
  | 0x2310 => s.image.elim none (fun m => (m.insts.find? (fun x => x.id = sel)).map (fun x => stringWindow s.prog.exch.exchanges (paramBytes s x)))
  | 0x2311 => s.image.elim none (fun m => (m.constants.find? (fun c => c.page = sel)).map (fun _ => entryWindow (generation s i 0) 1024 4 (fun w => be 4 (constWord s sel w).toNat)))
  | 0x2324 => zero (stringWindow s.prog.exch.reportGen (s.prog.exch.report.flatMap (fun e => be 1 e.1 ++ be 3 0 ++ be 4 e.2.1 ++ be 8 e.2.2)))
  | 0x6400 => zero (entryWindow 0 65536 32 (sigBytes s))
  | 0x7102 => if sel < 1024 then some (stringWindow 0 (catalogBytes sel)) else none
  | 0x7120 => if sel ≤ 4 then some (stringWindow s.moraine.clears ((moraineView s ses sel).flatMap Rec.bytes)) else none
  | 0x7220 => zero (stringWindow 0 ((captureView s ses).flatMap CapItem.bytes))
  | 0x7222 => (s.capture.held.find? (fun c => c.number = sel)).map (fun c => stringWindow (BitVec.ofNat 32 c.number) (captureBytes s c))
  | 0x7223 => zero (stringWindow (generation s i 0) (s.capture.held.flatMap (fun c => be 4 c.number ++ be 1 c.group
      ++ be 1 (bit c.preCut 0 + bit c.truncated 1 + bit c.damaged 2) ++ be 2 c.trigger ++ be 8 c.trigTime)))
  | 0x7260 => some (stringWindow (generation s i 0) (channelCapture s sel))
  | 0x7410 => zero (entryWindow 0 8192 16 (fun f => (s.frameAt f).words.flatMap (fun (w : Word) => be 4 w.toNat)))
  | 0x7411 => (s.taskDecl sel).map (fun d => stringWindow (generation s i 0) (be 1 (bit d.resident 0) ++ d.ranges.flatMap (fun r => be 4 r.1 ++ be 4 r.2)))
  | 0x7420 => zero (stringWindow 0 ((List.range 5).flatMap (fun c => be 4 (slotsFree s c)) ++ be 4 (6144 - s.drift.messages.length)))
  | 0x7502 => zero (stringWindow s.firn.traceGen (s.firn.trace.flatMap (fun e => be 2 e.1 ++ be 2 e.2.1 ++ be 4 e.2.2.1.toNat ++ be 4 e.2.2.2.1.toNat ++ be 4 e.2.2.2.2.toNat)))
  | 0x7A10 => zero (stringWindow s.sedge.logNewest (s.sedge.log.reverse.flatMap logBytes))
  | 0x7A21 => zero { total := s.sedge.stageTotal, gen := generation s i 0, piece := fun o n => (List.range (min n (s.sedge.stageTotal - o))).map (fun k => get 0 s.sedge.stage (o + k)) }
  | _ => none

/-- Alignment a WINDOW_READ must have, and the most it may ask for beyond R92; a breach is refused with TYPE (R95, R204, R422, R447, R448). -/
def windowAlign (i : Nat) : Nat :=
  match i with
  | 0x6400 => 32 | 0x7120 => 64 | 0x7220 => 16 | 0x7222 => 16 | 0x7410 => 16 | 0x7A10 => 32 | _ => 1

end Sys2Proof.Machine
end

