-- ==== Sys2Proof/Machine/Drive.lean ====
section
/-! DEFINITION. The output precedence of the Field Block (Table 18.2), currents on the wire, and what fencing a unit does to its signals (R138 to R141). -/
namespace Sys2Proof.Machine

/-! ## Currents (R519) -/

/-- An exact number of eighths of a milliampere as binary32: sign, exponent and fraction of n / 8. -/
def realOfEighths (n : Int) : Word :=
  if n = 0 then 0 else
  let a := n.natAbs
  let k := a.log2
  BitVec.ofNat 32 ((if n < 0 then 2 ^ 31 else 0) + (k + 124) * 2 ^ 23 + (a * 2 ^ 23 / 2 ^ k - 2 ^ 23))
/-- A current in µA as a signal of a TYPE carries it: µA, or mA when REAL32. -/
def currentValue (type : Nat) (ua : Int) : Word :=
  if type ≠ 3 then i32 ua else if ua % 125 = 0 ∧ ua.natAbs < 2000000 then realOfEighths (ua / 125) else Config.realOfMicro ua
/-- The current in µA that a signal of a TYPE asks for. -/
def currentOf (type : Nat) (w : Word) : Int :=
  if type = 2 then (w.toNat : Int) else if type ≠ 3 then sgn w else
  let e := field w.toNat 30 23
  let m := if e = 0 then field w.toNat 22 0 else 2 ^ 23 + field w.toNat 22 0
  let x := max e 1
  let g : Int := if tb w.toNat 31 then -1 else 1
  if e = 255 ∧ field w.toNat 22 0 ≠ 0 then Config.microOfReal w else
  if 150 ≤ x then g * (m * 1000 * 2 ^ (x - 150) : Nat)
  else if m * 1000 % 2 ^ (150 - x) = 0 then g * (m * 1000 / 2 ^ (150 - x) : Nat) else Config.microOfReal w
/-- A raw current through a channel's trim (R533, R540). -/
def trimOf (x : Chan) (raw : Int) : Int :=
  if x.trimZero = 0 ∧ x.trimSpan = 0 then raw else Config.trimmed raw x.trimZero x.trimSpan

/-! ## Output precedence (R521) -/

namespace State

/-- An output still takes its safe state: the module is in SAFE, or its producer has not adopted after SAFE (R369). -/
def heldSafe (s : State) (producer : Option Nat) : Bool :=
  s.mode.current = .safe
    && (!s.mode.leavingSafe || (s.mode.target = .run && producer.elim false (fun t => (s.task t).adopted ≠ .run)))
/-- The declared output signal of a channel. -/
def outputSignal (s : State) (b : ChannelDecl) : Option Sig :=
  b.signal.elim none (fun g => (find s.sig.entries g).elim none (fun e => if e.direction = 2 then some e else none))
/-- The row of Table 18.2 that drives an output. -/
def driveRow (s : State) (b : ChannelDecl) : Nat :=
  let g := groupOf b.channel
  if (s.grp g).switchedOff then 1
  else if !s.gateOpen || !(s.grp g).gateOpen then 2
  else if b.kind = 3 && (s.chan b.channel).overload then 3
  else if (s.grp g).watchdogExpired || s.fenced (0x4B + g) || s.unitFenced b.unit || (s.outputSignal b).elim true (fun e => s.heldSafe e.producer) then 4
  else if s.field.trim.elim false (fun t => t.channel = b.channel) then 5
  else if b.kind = 5 && b.alarm ≠ 0 && (s.outputSignal b).elim false (fun e => 2 ≤ e.quality.toNat) then 6
  else 7
/-- The programmed safe state of an analog output in µA. -/
def safeCurrent (n : Nat) : Int := if n = 1 then 3600 else if n = 2 then 21000 else 0
/-- The current that an analog output drives, in µA. -/
def driveCurrent (s : State) (b : ChannelDecl) : Int :=
  match s.driveRow b with
  | 4 => safeCurrent b.safeState
  | 5 => if s.field.trim.elim false (·.span) then 20000 else 4000
  | 6 => if b.alarm = 1 then 3600 else 21000
  | 7 => (s.outputSignal b).elim 0 (fun e => max 3800 (min 20500 (currentOf e.type e.effective)))
  | _ => 0
/-- A digital output is driven on. -/
def driveOn (s : State) (b : ChannelDecl) : Bool :=
  match s.driveRow b with
  | 4 => b.safeState = 1
  | 7 => (s.outputSignal b).elim false (fun e => e.effective.getLsbD 0)
  | _ => false
/-- A channel carries the value of its last output update. -/
def carries (x : Chan) : Bool := !x.atSafe && !x.alarmCurrent && !x.notDriven && !x.overload
/-- An output channel as its row drives it now; a channel that carries its signal keeps the value of the last output update until the next (R520). -/
def drivenChan (s : State) (fresh : Bool) (b : ChannelDecl) (x : Chan) : Chan :=
  let row := s.driveRow b
  if !fresh && row = 7 && carries x then x else
  let want := (s.outputSignal b).elim 4000 (fun e => currentOf e.type e.effective)
  let y : Chan := { x with atSafe := row = 4, alarmCurrent := row = 6, notDriven := row ≤ 2 }
  if b.kind = 3 then
    { y with drivenOn := s.driveOn b, drivenAt := if s.driveOn b = x.drivenOn then x.drivenAt else s.time.mono }
  else
    { y with commanded := s.driveCurrent b, overrange := row = 7 && decide (20500 < want), underrange := row = 7 && decide (want < 3800),
             drivenAt := if s.driveCurrent b = x.commanded then x.drivenAt else s.time.mono }
/-- An output of a group that the image does not bind: not driven while the gates are closed, else at its safe state (R11, R292). What that safe state is, once no image programs it, the manual does not say: off and 0 mA (DESIGN CHOICE). -/
def unboundChan (s : State) (g : Nat) (x : Chan) : Chan :=
  let shut : Bool := (s.grp g).switchedOff || !s.gateOpen || !(s.grp g).gateOpen
  { x with drivenOn := false, commanded := 0, alarmCurrent := false, overrange := false, underrange := false, atSafe := !shut, notDriven := shut
           drivenAt := if x.drivenOn ∨ x.commanded ≠ 0 then s.time.mono else x.drivenAt }
/-- Every output of a group driven from its row (R521), with the clamp flags on its signal (R535); an output that an earlier image bound does not go on driving (R292). -/
def redriveGroup (s : State) (g : Nat) (fresh : Bool := false) : State :=
  let outs := s.image.elim [] (fun i => i.channels.filter (fun b => (b.kind = 3 || b.kind = 5) && b.channel < 0x30 && groupOf b.channel = g))
  let freed := fun (c : Nat) (x : Chan) => decide (c < 0x30) && groupOf c = g && !outs.any (fun b => b.channel = c) && (!x.notDriven || x.drivenOn || decide (x.commanded ≠ 0))
  let kept := mapTab s.field.chans (fun c x => if freed c x then s.unboundChan g x else x)
  let t := { s with field.chans := outs.foldl (fun t (b : ChannelDecl) => put t b.channel (s.drivenChan fresh b (get {} t b.channel))) kept }
  { t with sig.entries := outs.foldl (fun es (b : ChannelDecl) =>
      if b.kind = 5 then b.signal.elim es (fun n => (find es n).elim es (fun e =>
        put es n { e with overrange := (t.chan b.channel).overrange, underrange := (t.chan b.channel).underrange })) else es) s.sig.entries }
/-- Both groups driven anew. -/
def redrive (s : State) : State := (s.redriveGroup 1).redriveGroup 2

/-! ## Signals (R143) and fenced units (R138 to R141) -/

/-- An entry after a write: a change of VALUE or QUALITY stamps both times (R143). -/
def stamp (s : State) (old new : Sig) : Sig :=
  if new.value = old.value ∧ new.quality = old.quality then new else { new with changedMono := s.time.mono, changedWall := s.wall }
/-- The signal image with one entry rewritten. -/
def setSig (s : State) (g : Nat) (f : Sig → Sig) : State :=
  match find s.sig.entries g with
  | none => s
  | some e => { s with sig.entries := put s.sig.entries g (s.stamp e (f e)) }
/-- What a change of fences from one state to the next does to an entry (R139, R141). -/
def refenced (old new : State) (e : Sig) : Sig :=
  let was := old.unitFenced e.unit
  let now := new.unitFenced e.unit
  let lost := e.producer.elim false (fun t => new.undispatchable t && !old.undispatchable t)
  if now ∧ (!was ∨ (e.direction = 0 ∧ lost)) then
    (if e.direction = 0 then (if e.producer.elim false new.undispatchable then { e with quality := 3 } else e)
     else { e with quality := 3, substituted := true })
  else if was ∧ !now then
    (if e.direction = 1 then e
     else if e.producer.isSome then { e with quality := 2 }
     else if e.direction = 2 then { e with quality := 2, substituted := false } else e)
  else e
/-- The signals after the fences have changed from an earlier state. -/
def refence (new old : State) : State :=
  { new with sig.entries := mapTab new.sig.entries (fun _ e => new.stamp e (refenced old new e)) }
/-- UNIT_STATUS of every unit seen again; each change counts once (STATUS_CHANGES, Table 5.1). -/
def countStatus (s : State) : State :=
  let us := if s.units.isEmpty then [0] else s.units.map (·.unit)
  us.foldl (fun t u =>
    let w := s.unitStatus (s.subtree u)
    if get 0 t.sig.lastStatus u = w then t
    else { t with sig.lastStatus := put t.sig.lastStatus u w, sig.statusChanges := put t.sig.statusChanges u (get 0 t.sig.statusChanges u + 1) }) s
/-- A capture group's ARM_SIGNAL has fallen: its next rise is an edge (R438). -/
def armLevel (s : State) (g : Nat) (x : CapGroup) : CapGroup :=
  if x.armLevel && (s.image.elim none (fun i => (i.groups.find? (fun d => d.group = g)).elim none (·.armSignal))).elim true (fun n => (s.sigOf n).effective = 0)
  then { x with armLevel := false } else x
/-- What follows every change of signals and fences: units counted, ARM_SIGNAL levels seen. -/
def settle (s : State) : State :=
  let t := s.countStatus
  if t.capture.groups.any (fun e => e.2.armLevel) then { t with capture.groups := mapTab t.capture.groups t.armLevel } else t

end State
end Sys2Proof.Machine
end

