-- ==== Sys2Proof/Machine/LinkOps.lean ====
section
/-! DEFINITION. Positions and channels of the I/O links, the frames a port sends, and the pool of transactions (R450 to R457). -/
namespace Sys2Proof.Machine
namespace State

/-! ## Positions and channels of a link -/

/-- A link's state rewritten. -/
def setLnk (s : State) (k : Nat) (f : Link → Link) : State := { s with link.links := put s.link.links k (f (s.lnk k)) }
/-- A position of a link. -/
def pos (s : State) (k m : Nat) : Position := get {} (s.lnk k).positions m
/-- A position rewritten. -/
def setPos (s : State) (k m : Nat) (f : Position → Position) : State :=
  s.setLnk k (fun x => { x with positions := put x.positions m (f (get {} x.positions m)) })
/-- The declared positions of a link, ascending. -/
def positionsOf (s : State) (k : Nat) : List Nat := sortBy id ((s.linkDecl k).elim [] (fun d => d.positions.map (·.position)))
/-- The binding of channel c of a position (R451). -/
def linkBinding (s : State) (k m c : Nat) : Option ChannelDecl := s.binding (0x1000 + k * 0x200 + m * 0x20 + c)
/-- The output signal bound to a channel of a position. -/
def linkOutput (s : State) (k m c : Nat) : Option Sig :=
  (s.linkBinding k m c).bind (fun b => if b.output then b.signal.bind (fun g => find s.sig.entries g) else none)
/-- The numbers of the input signals of a position with their channels. -/
def linkInputs (s : State) (k m : Nat) : List (Nat × Nat) :=
  (List.range 32).filterMap (fun c => (s.linkBinding k m c).bind (fun b => if b.output then none else b.signal.map (fun g => (c, g))))
/-- SAFE_MASK of a position (R457): a channel without a bound output, one that takes its safe state, and one of a FENCED unit (R140). -/
def safeMask (s : State) (k m : Nat) : Word :=
  BitVec.ofNat 32 ((List.range 32).foldl (fun a c => a + bit ((s.linkOutput k m c).elim true (fun e => s.heldSafe e.producer || (s.linkBinding k m c).elim false (fun b => s.unitFenced b.unit))) c) 0)
/-- OUTPUT of a position: the effective values of its bound output signals; an absent word is 0. -/
def outputWords (s : State) (k m : Nat) : Tab Word :=
  (List.range 32).foldl (fun (t : Tab Word) c => (s.linkOutput k m c).elim t (fun e => if e.effective = 0 then t else put t c e.effective)) []

/-! ## Frames on the lane (R452 to R456) -/

/-- A frame put on the lane of its link: it leaves when the lane is free, with the owner indication and the side of the module; MONO is the instant of sending plus LINK_DELAY (Table 15.1). That a first request starts at the cycle instant itself is a DESIGN CHOICE (R470 lets it start up to 0.5 µs later); OWNER is that of the command which sends it. -/
def sendFrame (s : State) (f : LinkFrame) (ns : Nat) : State :=
  let x := s.lnk f.link
  let start := max s.time.mono x.laneFree
  ({ s with link.out := s.link.out ++ [{ f with owner := s.gateOpen, sideB := s.pair.slotPos, seq := x.seq, mono := start + x.delay.toNat }] }).setLnk f.link
    (fun y => { y with laneFree := start + ns })
/-- CONFIGURE to one position (Table 15.3, R465). -/
def configure (s : State) (k m : Nat) : State :=
  let d : PositionDecl := ((s.linkDecl k).bind (fun l => l.positions.find? (fun p => p.position = m))).getD { position := m }
  (s.sendFrame { link := k, type := 3, position := m, typeId := d.typeId, kinds := d.kinds, safe := d.safe } 1376).setPos k m
    (fun p => { p with configure := false, configWait := true })
/-- Transactions of a port other than a position's own that are in flight. -/
def othersInFlight (s : State) (k m : Nat) : Nat := ((s.positionsOf k).filter (fun n => n ≠ m && (s.pos k n).inFlight)).length
/-- One cyclic request leaves: its window of 2 µs, twice LINK_DELAY and 3.0 µs for each earlier transaction still in flight opens at its end (R455); per channel the cycles since the value sent last changed are counted on (R462), a retry being no new cycle. -/
def sendRequest (s : State) (k m : Nat) : State :=
  let x := s.lnk k
  let p := s.pos k m
  let out := s.outputWords k m
  let stop := max s.time.mono x.laneFree + 1216
  let ages := (List.range 32).foldl (fun (t : Tab Nat) c =>
    put t c (if get 0 out c = get 0 p.sent c then (find p.age c).elim 0 (fun n => if p.retried then n else n + 1) else 0)) []
  ((s.sendFrame { link := k, type := 1, position := m, mask := s.safeMask k m, output := out, silent := x.silentInUse } 1216).setLnk k
    (fun y => { y with requested := true, ownerAll := y.ownerAll && s.gateOpen })).setPos k m
    (fun y => { y with inFlight := true, retryDue := false, owner := s.gateOpen, sent := out, mask := s.safeMask k m, age := ages
                       requestEnd := stop, windowEnd := stop + 2000 + 2 * x.delay.toNat + 3000 * s.othersInFlight k m })
/-- A request takes a slot of the pool, or waits for one (R454). -/
def request (s : State) (k m : Nat) : State :=
  if s.link.slots < 256 then { s.sendRequest k m with link.slots := s.link.slots + 1 }
  else { s with link.slotWaits := s.link.slotWaits + 1, link.waiting := s.link.waiting ++ [(s.time.mono, k, m)] }
/-- A first request of the link still waits for a slot. -/
def firstWaits (s : State) (k : Nat) : Bool := s.link.waiting.any (fun w => w.2.1 = k)
/-- The retries of a link leave after the cycle's last first request (R455). -/
def sendRetries (s : State) (k : Nat) : State :=
  if s.firstWaits k then s else ((s.positionsOf k).filter (fun m => (s.pos k m).retryDue)).foldl (fun u m => u.sendRequest k m) s
/-- Freed slots go to the waiting requests, by cycle instant, link and position. -/
def grant : Nat → State → State
  | 0, s => s
  | n + 1, s =>
    if 256 ≤ s.link.slots then s else
    match leastBy (fun (w : Nat × Nat × Nat) => (w.1 * 64 + w.2.1) * 16 + w.2.2) s.link.waiting with
    | none => s
    | some w => grant n ({ (({ s with link.waiting := s.link.waiting.erase w }).sendRequest w.2.1 w.2.2).sendRetries w.2.1 with link.slots := s.link.slots + 1 })
/-- A transaction has ended: its slot is granted again, and it counts no longer for the windows of later requests that have not ended yet (R454, R455). -/
def endTransaction (s : State) (k m : Nat) : State :=
  let p := s.pos k m
  if !p.inFlight then s else
  let t := s.setLnk k (fun x => { x with positions := mapTab x.positions (fun _ q =>
    if q.inFlight ∧ p.requestEnd < q.requestEnd ∧ s.time.mono < q.requestEnd then { q with windowEnd := q.windowEnd - 3000 } else q) })
  grant 16 ({ t.setPos k m (fun q => { q with inFlight := false, retryDue := false }) with link.slots := s.link.slots - 1 })
/-- A link's port is held in reset: no exchange, no transaction in flight (Table 11.4). -/
def resetLink (s : State) (k : Nat) : State :=
  let x := s.lnk k
  let t := s.setLnk k (fun x => { x with exchanging := false, cycleOpen := false, parkDue := false,
                                         positions := mapTab x.positions (fun _ p => { p with inFlight := false, retryDue := false }) })
  grant 256 ({ t with link.slots := s.link.slots - (x.positions.filter (fun e => e.2.inFlight)).length
                      link.waiting := s.link.waiting.filter (fun w => w.2.1 ≠ k) })
/-- In COLD the ports send no frames: no transaction stays in flight, and after COLD every position is configured anew (R453, R463, R465). -/
def coldLinks (s : State) : State :=
  { s with
    link.slots := 0
    link.waiting := []
    link.links := mapTab s.link.links (fun _ x => { x with
      exchanging := false, cycleOpen := false, silentRun := 0
      positions := mapTab x.positions (fun _ p => { p with
        state := 0, configure := true, configWait := false, everConfigured := false, inFlight := false, retryDue := false, missed := 0 }) }) }

end State
end Sys2Proof.Machine
end

