-- ==== Sys2Proof/Machine/Ops.lean ====
section
/-! DEFINITION. The named operations that commands share: triggering a record, interrupt queues, changing mode, the Hub's reactions, losing ownership, ending a session. -/
namespace Sys2Proof.Machine

/-- A free word, fresh at each draw. -/
def State.freeAt (s : State) (k : Nat) : Word := Config.freeWord (s.draws + k)

/-! ## Moraine: a trigger (R410 to R415) -/

/-- The bucket refilled for the time since the code's previous trigger (R413, R415 step 1). -/
def CodeSt.refill (c : CodeSt) (now : Ns) : CodeSt :=
  { c with tokens := min (c.burst * 1000000000) (c.tokens + c.rate * (now - c.last)), last := now }
/-- A written limit applied, the bucket cut to the new BURST (R415 step 2). -/
def CodeSt.relimit (c : CodeSt) : CodeSt :=
  match c.newLimit with
  | none => c
  | some w => { c with rate := w.toNat % 65536, burst := w.toNat / 65536, tokens := min (w.toNat / 65536 * 1000000000) c.tokens, newLimit := none }
/-- At least one token is held, or the code has RATE 0 (R413). -/
def CodeSt.passes (c : CodeSt) : Bool := c.rate = 0 || 1000000000 ≤ c.tokens

/-- The enabled snapshot slots that follow the payload, as words (R411). -/
def snapWords (s : State) (c : CodeSt) (payload : Nat) : List Word :=
  (List.range 8).flatMap (fun k =>
    let w := get 0 c.snaps k
    if k < payload ∨ !w.getLsbD 31 then [] else
    let v := readObj s 0 (field w.toNat 23 8) (field w.toNat 7 0)
    match lookup s (field w.toNat 23 8) (field w.toNat 7 0) with
    | .found o => if o.ty.size = 8 then [BitVec.ofNat 32 v, BitVec.ofNat 32 (v / 4294967296)] else [BitVec.ofNat 32 v]
    | .readsZero o => if o.ty.size = 8 then [0, 0] else [0]
    | _ => [0])
/-- A trigger of a code with the words of its fields: judged by the code's bucket, it waits for acceptance or is counted as suppressed (R413, R414). -/
def State.triggerFrom (s : State) (code severity source unit : Nat) (words : List Word) (post : Option Nat := none) : State :=
  let c := ((codeOf s code).refill s.time.mono).relimit
  if neverSuppressed code || c.passes then
    let trig : Trig := ⟨code, severity, source, unit, s.time.mono, c.waiting, (words ++ snapWords s c (payloadOf code)).take 8, post⟩
    { s with moraine.queue := s.moraine.queue ++ [trig],
             moraine.codes := put s.moraine.codes code { c with tokens := c.tokens - 1000000000, waiting := 0 } }
  else
    { s with moraine.codes := put s.moraine.codes code
               { c with waiting := BitVec.ofNat 32 (sat32 (c.waiting.toNat + 1)), total := BitVec.ofNat 32 (sat32 (c.total.toNat + 1)) } }
/-- The severity of a code other than a Hub occurrence (R406). -/
def severityOf (code : Nat) : Nat := if catalogNote code then 1 else 0
/-- A trigger with the catalogue's severity and source (R406). -/
def State.trigger (s : State) (code : Nat) (words : List Nat) (unit : Nat := 0) : State :=
  s.triggerFrom code (severityOf code) (codeSource code) unit (words.map (BitVec.ofNat 32))

/-! ## Interrupt queues (R181 to R185) -/

/-- The core a queue's messages go to (Table 6.4, R184). -/
def State.deliveryCore (s : State) (q : IntQ) : Nat :=
  let core := Machine.field q.route.toNat 2 0
  let back := Machine.field q.route.toNat 6 4
  if !s.fenced core then core else if !s.fenced back then back
  else (((List.range 8).filter (fun c => !s.fenced c)).head?).getD core
/-- A producer's entry, dropped with OVERFLOW and E-0x067 when the ring is full (R183): 128 slots hold 127 unconsumed entries. -/
def State.produce (s : State) (q : Nat) (entry : List Word) : State :=
  let x := get ({} : IntQ) s.disp.queues q
  if (x.producer + 1) % 128 = x.consumer % 128 then
    ({ s with disp.queues := put s.disp.queues q { x with overflow := true } }).trigger 0x067 [q]
  else
    { s with disp.queues := put s.disp.queues q
               { x with producer := (x.producer + 1) % 128, ring := put x.ring (x.producer % 128) entry, times := put x.times (x.producer % 128) s.time.mono } }

/-- An engine's entry whose words the manual does not give: four free words (R181). -/
def State.produceOpen (s : State) (q : Nat) : State :=
  ({ s with draws := s.draws + 4 }).produce q [s.freeAt 0, s.freeAt 1, s.freeAt 2, s.freeAt 3]

/-! ## The Sync Link's outgoing side (R311) -/

/-- A message handed to the Sync Link, when it is up. -/
def State.sendSync (s : State) (m : SyncOut) : State :=
  if s.pair.syncUp then { s with pair.out := s.pair.out ++ [m] } else s

/-! ## CAN: what the owner condition and a fence do (R509, R510, R513) -/

/-- A queue entry of a CAN channel (Table 17.2): object, kind and the object's frame. -/
def State.canEntry (s : State) (c obj kind : Nat) (ident : Nat) (dlc flags : Nat) : State :=
  let x := s.canCh c
  s.produce (57 + c) [BitVec.ofNat 32 (obj + kind * 65536 + x.error * 16777216), x.frameSeq, BitVec.ofNat 32 ident, BitVec.ofNat 32 (dlc + flags * 256)]
/-- A message object's identifier, DLC and flags for its queue entry (Tables 17.2 and 17.5). -/
def MsgObj.frameInfo (m : MsgObj) : Nat × Nat × Nat :=
  (m.ident.toNat % (if tb m.config.toNat 29 then 536870912 else 2048), m.config.toNat % 16,
   bit (tb m.config.toNat 29) 0 + bit (tb m.config.toNat 28) 1 + bit (tb m.config.toNat 27) 2)
/-- A message object of a channel. -/
def State.msgObj (s : State) (c m : Nat) : MsgObj := get {} (s.canCh c).objects m
/-- A channel with one object rewritten. -/
def State.setObj (s : State) (c m : Nat) (x : MsgObj) : State :=
  { s with can.chan := put s.can.chan c { s.canCh c with objects := put (s.canCh c).objects m x } }
/-- A queue entry of a channel about one object (Table 17.2). -/
def State.objEntry (s : State) (c m kind : Nat) : State :=
  let i := (s.msgObj c m).frameInfo
  s.canEntry c m kind i.1 i.2.1 i.2.2
/-- OWNER_ONLY transmit objects that wait on a channel. -/
def State.ownerOnlyWaiting (s : State) (c : Nat) : List Nat :=
  ((s.canCh c).objects.filter (fun e => e.2.pending && !e.2.transmitting && tb e.2.config.toNat 26)).map (·.1)
/-- One object ends with LAST_RESULT 3 and a queue entry (R509, R510). -/
def State.endNotOwner (s : State) (c m : Nat) : State :=
  (s.setObj c m { s.msgObj c m with pending := false, abortAsked := false, lastResult := 3, byFence := false, byBusOff := false }).objEntry c m 4
/-- When the owner condition fails, every waiting OWNER_ONLY object ends (R509). -/
def State.cancelOwnerOnly (s : State) : State :=
  if s.gateOpen ∧ s.mode.current ≠ .safe then s
  else [1, 2].foldl (fun t c => (t.ownerOnlyWaiting c).foldl (fun u m => u.endNotOwner c m) t) s
/-- An attempt on the bus is broken off, the channel leaving it: an object whose abort was asked for ends aborted (R507); the others stay pending. -/
def State.dropAttempts (s : State) (c : Nat) : State :=
  let asked := ((s.canCh c).objects.filter (fun e => e.2.transmitting && e.2.abortAsked)).map (·.1)
  let t := asked.foldl (fun (u : State) m =>
    (u.setObj c m { u.msgObj c m with pending := false, transmitting := false, abortAsked := false, byBusOff := false, byFence := false, lastResult := 2 }).objEntry c m 3) s
  { t with can.chan := put t.can.chan c { t.canCh c with
      sendingReply := false, objects := mapTab (t.canCh c).objects (fun _ m => { m with transmitting := false }) } }
/-- A fence of a channel: off the bus, pending objects delayed, TEC and REC held by the reset, the reply buffer lost (R513). -/
def State.fenceCan (s : State) (c : Nat) : State :=
  let t := s.dropAttempts c
  let x := t.canCh c
  { t with can.chan := put t.can.chan c { x with
      replies := [], objects := mapTab x.objects (fun _ m => if m.pending then { m with byFence := true } else m) } }
/-- Automatic detection begins at its first candidate (R502). -/
def Can.startAbr (x : Can) (now : Ns) : Can := { x with abrFailed := false, abrCandidate := 0, abrGood := 0, abrTaken := none, abrSince := now, abrStart := now }
/-- COLD ends: each CAN channel enters the mode that CHANNEL_MODE holds (R500). -/
def State.leaveCold (s : State) : State :=
  { s with mode.leftColdAt := some s.time.now, can.chan := mapTab s.can.chan (fun _ x => if x.mode = 3 then x.startAbr s.time.now else x) }

/-! ## Trim (R542) -/

/-- E-0x124: channel, point, the two values and the session. -/
def State.trimRecord (s : State) (t : Trim) (session : Word) : State :=
  let x := s.chan t.channel
  s.trigger 0x124 [t.channel, bit t.span 0, (i32 x.trimZero).toNat, (i32 x.trimSpan).toNat, session.toNat]
/-- A trim in progress is cancelled: the previous values return, the output leaves its trim current. -/
def State.cancelTrim (s : State) (session : Option Word := none) : State :=
  s.field.trim.elim s (fun t =>
    ({ s with field.trim := none,
              field.chans := put s.field.chans t.channel { s.chan t.channel with trimZero := t.zero, trimSpan := t.spanBefore } }).redrive.trimRecord t (session.getD t.session))
/-- A trim of an output ends when ownership is lost (R542). -/
def State.cancelOutputTrim (s : State) : State :=
  if s.field.trim.elim false (fun t => decide (0x28 ≤ t.channel)) then s.cancelTrim else s
/-- A trim of a channel of a group ends at a fence or switch-off of the group (R542). -/
def State.cancelGroupTrim (s : State) (g : Nat) : State :=
  if s.field.trim.elim false (fun t => groupOf t.channel = g) then s.cancelTrim else s

/-! ## The output gates (R11, R307) -/

/-- What a change of the gate condition does: outputs take their rows anew, waiting OWNER_ONLY objects end. -/
def State.gatesChanged (s : State) : State := s.cancelOwnerOnly.redrive

/-- A SAFE-class latch is set (R46, R350). -/
def State.safeCause (s : State) : Bool := s.anyLatch 3

/-! ## Working sets (R195) -/

/-- A frame holds a page of a task's working set. -/
def State.inSet (s : State) (t : Nat) (x : Frame) : Bool := x.area = s.drift.area && x.state = 2 && (s.pages t).contains x.page
/-- A task's working set pinned, for a release that has it or is about to (R195, R196). -/
def State.pin (s : State) (t : Nat) : State :=
  if (s.taskDecl t).elim true (·.resident) || s.drift.pinned.contains t then s
  else { s with drift.pinned := insertBy id t s.drift.pinned
                drift.frames := mapTab s.drift.frames (fun _ x => if s.inSet t x then { x with pinCount := x.pinCount + 1, reserved := if x.reserved = some t then none else x.reserved } else x) }

/-! ## Mode changes (R33 to R46) -/

/-- An output adopts a mode (R16): HOLD and SERVICE take the fallback where HOLD_POLICY says so, RUN leaves it at once without a producer task. -/
def adoptOutput (fenced : Bool) (m : Mode) (e : Sig) : Sig :=
  if e.direction ≠ 2 then e else match m with
  | .hold | .service => if e.attributes.getLsbD 10 then { e with substituted := true } else e
  | .run => if e.producer.isNone ∧ !fenced then { e with substituted := false } else e
  | _ => e
/-- E-0x020 (Table 2.13). -/
def State.modeRecord (s : State) (step : Nat) (old target : Mode) (result : Nat) (session : Word) : State :=
  s.trigger 0x020 [step, old.code, target.code, s.mode.epoch.toNat, result, session.toNat]
/-- A debug session ends (R397): a halted task runs again from its next release instant; the state copies of a task whose releases ran pass A alone wait for their rebuilding, after a resynchronisation that is pending (R240, R248); E-0x0C2 with a cause whose code the manual does not give. -/
def State.endDebug (s : State) : State :=
  if !s.guard.attached then s else
  let owing := ((s.disp.tasks.filter (fun e => e.2.tainted)).map (·.1)).filter (fun t => (s.firnTask t).taintRemaining = 0)
  let wait := fun (f : FirnTask) => { f with taintRemaining := 256, repair := if f.repair = 1 then 1 else 3, rebuildDue := decide (f.repair = 1) }
  let t := { s with
    guard.attached := false, guard.onPermit := false, draws := s.draws + 1
    disp.tasks := mapTab s.disp.tasks (fun _ k => { k with resumeDue := k.halted })
    firn.tasks := owing.foldl (fun (f : Tab FirnTask) k => put f k (wait (get ({} : FirnTask) f k))) s.firn.tasks }
  (owing.foldl State.pin t).trigger 0x0C2 [(Config.freeWord s.draws).toNat]
/-- The module leaves SERVICE: permits lapse, and the debug session ends when it depends on one or the change is immediate (R49, R115, R397). -/
def State.leaveService (s : State) (now : Bool) : State :=
  let t := { s with sess.presenceUntil := none, guard.permitUntil := none }
  if now || s.guard.onPermit then t.endDebug else t
/-- The module has left SAFE for another mode: E-0x0B6, and no SAFE stands that the Hub has released ownership at (Tables 11.7 and 11.10). -/
def State.safeLeft (s : State) (old : Mode) : State :=
  if old = .safe ∧ s.mode.current ≠ .safe then { s.trigger 0x0B6 [s.hub.firstSafe.toNat, bit s.hub.safeReleased 0] with hub.safeReleased := false } else s
/-- An immediate change of mode (R41): a new epoch that every task has adopted, no transition open. A request of the module's own that it meets in PREPARE or in its transition, as a takeover meets a TRACK to SERVICE request, ends without a STEP 4 and leaves RESULT as it stands: the manual names no RESULT for that case (DESIGN CHOICE). -/
def State.immediate (s : State) (m : Mode) (session : Word := 0) : State :=
  let old := s.mode.current
  let e := s.mode.epoch + 1
  let s := if old = .service ∧ m ≠ .service then s.leaveService true else if m = .cold then s.endDebug else s
  let s := if m = .cold then ((s.cancelTrim.coldLinks).dropAttempts 1).dropAttempts 2 else s
  let t := { s with
    mode := { s.mode with current := m, target := m, inTransition := false, epoch := e, pending := 0, commitAt := none, prep := none, leavingSafe := false }
    pair.waitUntil := if m = Mode.cold then none else s.pair.waitUntil
    disp.tasks := mapTab s.disp.tasks (fun _ k => { k with adopted := m, epoch := e })
    sig.entries := mapTab s.sig.entries (fun _ g => adoptOutput (s.unitFenced g.unit) m { g with transition := false }) }
  (t.modeRecord 5 old m 0 session).safeLeft old
/-- The epoch told to a standby (Table 10.4, EPOCH). -/
def State.tellEpoch (s : State) (commit : Ns) (immediate : Bool) : State :=
  if s.pair.ownSelf then s.sendSync (.epoch s.mode.epoch s.mode.target.code commit immediate) else s

end Sys2Proof.Machine
end

