-- ==== Sys2Proof/Machine/DispOps.lean ====
section
/-! DEFINITION. The operations of the Task Dispatcher and of Drift that several commands share: placing, starting and abandoning releases, frames and working sets. -/
namespace Sys2Proof.Machine

/-! ## Cores and ready queues (R169 to R173) -/

/-- Entries of a release that stand in its core's ready queue: the passes that have not ended, but for the one in progress, which R173 names beside the queue's entries (DEDUCED). -/
def Release.entries (r : Release) : Nat :=
  if r.voting || r.committing || r.stopping then 0
  else (if r.tainted then 1 else 4 - max 1 r.pass) - (if r.running then 1 else 0)
namespace State

/-- The releases under way, by task. -/
def releases (s : State) : List (Nat × Release) := s.disp.tasks.filterMap (fun e => e.2.release.map (fun r => (e.1, r)))
/-- PRIORITY of a task; an undeclared one ranks last. -/
def priority (s : State) (t : Nat) : Nat := (s.taskDecl t).elim 16 (·.priority)
/-- Entries of a priority equal to or higher than a task's in a core's ready queue (R169). -/
def rivals (s : State) (t c : Nat) : Nat :=
  s.releases.foldl (fun n e => if e.2.core = c ∧ e.1 ≠ t ∧ s.priority e.1 ≤ s.priority t then n + e.2.entries else n) 0
/-- The core chosen for a release: fewest rivals, then the previous core, then the lowest number (R169). -/
def chooseCore (s : State) (t : Nat) : Option Nat :=
  let cs := (s.taskDecl t).elim [] (fun d => (coresOf d.affinity).filter (fun c => !s.fenced c))
  match leastBy (s.rivals t) cs with
  | none => none
  | some b =>
    let last := (s.task t).lastCore.toNat
    some (if cs.contains last && s.rivals t last = s.rivals t b && (s.task t).releaseCount ≠ 0 then last else b)
/-- A task's state rewritten. -/
def setTask (s : State) (t : Nat) (f : TaskSt → TaskSt) : State := { s with disp.tasks := put s.disp.tasks t (f (s.task t)) }
/-- A task's release rewritten, when one is under way. -/
def setRelease (s : State) (t : Nat) (f : Release → Release) : State := s.setTask t (fun k => { k with release := k.release.map f })
/-- A core is taken: a pass runs on it, or it stays with a release in its vote or commit (R172). -/
def coreTaken (s : State) (c : Nat) : Bool := s.releases.any (fun e => e.2.core = c && (e.2.running || e.2.voting || e.2.committing))
/-- The order of R171 as one number. -/
def rank (s : State) (e : Nat × Release) : Nat := ((s.priority e.1 * 2 ^ 64 + e.2.instant) * 16 + e.1) * 4 + e.2.pass
/-- The eligible entries of a core's ready queue; a repair of its task holds back a release that has not begun (R241, R248). -/
def eligibleOn (s : State) (c : Nat) : List (Nat × Release) :=
  s.releases.filter (fun e => e.2.core = c && ((s.firnTask e.1).repair = 0 || e.2.pass ≠ 0) && !e.2.waiting && !e.2.voting && !e.2.committing && !e.2.running && !e.2.stopping && !(s.task e.1).halted)
/-- The stash areas of a task's three passes, empty (R173, R230). -/
def clearAreas (s : State) (t : Nat) : State :=
  { s with firn.areas := del (del (del s.firn.areas (3 * t)) (3 * t + 1)) (3 * t + 2) }
/-- A release's next pass begins, or its suspended pass goes on; only a suspension under R176 is no core time (R187). -/
def Release.begin (r : Release) (now : Ns) : Release :=
  { r with running := true, suspended := false, yielded := false, pass := max 1 r.pass
           since := if r.suspended && !r.yielded then r.since else now, coreTime := if r.suspended then r.coreTime else 0 }
/-- The next eligible entry begins on a free core; the areas are cleared as pass A begins (R171, R172, R180, R230). -/
def runNext (s : State) (c : Nat) : State :=
  if s.coreTaken c || s.fenced c then s else
  match leastBy s.rank (s.eligibleOn c) with
  | none => s
  | some e =>
    let u := if e.2.pass = 0 then s.clearAreas e.1 else s
    let t := u.setRelease e.1 (fun r => Release.begin r s.time.mono)
    { t with disp.cores := put t.disp.cores c { get ({} : CoreSt) t.disp.cores c with idle := false } }
/-- A core is clock-gated: the runtime has executed its idle instruction, no entry is eligible and no message is pending (R179). -/
def gated (s : State) (c : Nat) : Bool :=
  let x := get ({} : CoreSt) s.disp.cores c
  x.idle && (s.eligibleOn c).isEmpty && x.messages.isEmpty
/-- A queue's message reaches a core and starts its clocks when it is gated (R179). -/
def message (s : State) (c q : Nat) : State :=
  let idle := !s.gated c
  { s with disp.cores := upd ({} : CoreSt) s.disp.cores c (fun (x : CoreSt) => { x with messages := x.messages ++ [q], idle := x.idle && idle }) }
/-- A pass area of a task. -/
def area (s : State) (t p : Nat) : Area := get {} s.firn.areas (3 * t + p)

/-! ## Frames and working sets (R195 to R199) -/

/-- A page belongs to a task's working set: the runtime region is implied in every one (R195). -/
def inWorkingSet (s : State) (t p : Nat) : Bool := p < 256 || (s.pages t).contains p
/-- A page is resident. -/
def resident (s : State) (p : Nat) : Bool :=
  p < 256 || (s.drift.frames.any (fun e => e.2.state = 2 && e.2.page = p && e.2.area = s.drift.area))
/-- A task's whole working set is resident (R168). -/
def setResident (s : State) (t : Nat) : Bool := (s.pages t).all s.resident
/-- Missing pages cannot be obtained: Drift or the rank is fenced (R208). -/
def unobtainable (s : State) (t : Nat) : Bool := !s.setResident t && (s.fenced 0x52 || s.fenced s.imageRank)
/-- Tasks that declare a page, as a mask. -/
def declaredBy (s : State) (p : Nat) : BitVec 16 :=
  BitVec.ofNat 16 (s.tasks.foldl (fun a d => a + bit ((pagesOf d.ranges).contains p) d.task) 0)
/-- Some RESIDENT task declares the page. -/
def residentPage (s : State) (p : Nat) : Bool := s.tasks.any (fun d => d.resident && (pagesOf d.ranges).contains p)
/-- A frame begins to fetch a page for a request (R197). -/
def beginFetch (s : State) (f t p : Nat) : State :=
  { s with drift.frames := put s.drift.frames f
             { state := 1, page := p, declaredBy := s.declaredBy p, reserved := some t, area := s.drift.area, residentPin := s.residentPage p } }
/-- A frame for a fetch: a free one, or an evicted one, a dirty one only after its write-back, of which eight run at once and one for each fetch; a fenced Drift evicts nothing (R198, R206). -/
def withFrame (s : State) (want : Nat) (fetch : Nat → State) : State :=
  if s.drift.writeBacks.any (fun w => w.2 = want) then s else
  match s.freeFrame with
  | some f => fetch f
  | none => match (if s.fenced 0x52 then none else s.victim) with
    | none => s
    | some f =>
      let x := get ({} : Frame) s.drift.frames f
      if !x.dirty then fetch f
      else if s.drift.writeBacks.length < 8 then
        { s with drift.frames := put s.drift.frames f { x with state := 3 }, drift.writeBacks := s.drift.writeBacks ++ [(f, want)] }
      else s
/-- A page of a request starts its fetch (R198). -/
def takeFrame (s : State) (t p : Nat) : State := s.withFrame (wanted s.drift.area p) (fun f => s.beginFetch f t p)
/-- The pending request whose reserved frames may be taken: lowest priority, release not dispatched (R197). -/
def stealFrom (s : State) (t : Nat) : Option Nat :=
  (leastBy (fun (u : Nat) => 100 - s.priority u) ((s.drift.requests.map (·.task)).filter (fun u =>
    u ≠ t && s.priority t < s.priority u && s.drift.frames.any (fun e => e.2.reserved = some u)
      && (s.task u).release.elim true (fun r => r.waiting))))
/-- A request's reserved frames are taken from it: it fetches its pages again later (R197). -/
def rob (s : State) (u : Nat) : State :=
  { s with drift.steals := s.drift.steals + 1
           drift.requests := s.drift.requests.map (fun (q : WsReq) => if q.task = u then { q with robbed := true } else q)
           drift.frames := mapTab s.drift.frames (fun _ x => if x.reserved = some u then { x with reserved := none } else x) }
/-- One missing page of a request: fetched, with a steal when no frame can be found otherwise (R197, R206, R207). -/
def fetchPage (s : State) (t p : Nat) : State :=
  if s.fenced 0x52 || s.fenced s.imageRank || 32 ≤ (s.drift.frames.filter (fun e => e.2.state = 1)).length then s
  else if s.freeFrame.isNone ∧ s.victim.isNone then (s.stealFrom t).elim s (fun u => (s.rob u).takeFrame t p)
  else s.takeFrame t p
/-- Drift serves one request; a robbed one only when no request before it lacks a page. The flag says whether one does. -/
def serveOne (r : State × Bool) (t : Nat) : State × Bool :=
  match r.1.drift.requests.find? (fun q => q.task = t) with
  | none => r
  | some q =>
    if q.robbed && r.2 then r else
    let s := { r.1 with drift.requests := r.1.drift.requests.map (fun (x : WsReq) => if x.task = t then { x with robbed := false } else x) }
    let u := (s.missing t).foldl (fun (v : State) p => v.fetchPage t p) s
    (u, r.2 || !u.setResident t)
/-- Drift serves the pending requests, highest priority first, then by time (R197). -/
def serveDrift (s : State) : State :=
  (((sortBy (fun (q : WsReq) => s.priority q.task * 2 ^ 64 + q.since) s.drift.requests).map (·.task)).foldl serveOne (s, false)).1
/-- Something holds a task's working set: a release that has it, the release to come, or a repair, which on a standby the partner's delta precedes (R195, R241, R320). -/
def holdsSet (s : State) (t : Nat) : Bool :=
  (s.task t).release.elim false (fun r => !r.waiting) || s.drift.prefetched.contains t || (s.firnTask t).repair ≠ 0 || (s.firnTask t).vote.isSome
/-- A task's frames unpinned once nothing holds its working set (R195, R199, R241). -/
def unpin (s : State) (t : Nat) : State :=
  if !s.drift.pinned.contains t || s.holdsSet t then s
  else ({ s with drift.pinned := s.drift.pinned.filter (· ≠ t)
                 drift.frames := mapTab s.drift.frames (fun _ x => if s.inSet t x && 0 < x.pinCount then { x with pinCount := x.pinCount - 1 } else x) }).serveDrift
/-- A task's request ends, with its reservations. -/
def endRequest (s : State) (t : Nat) : State :=
  { s with drift.requests := s.drift.requests.filter (fun q => q.task ≠ t)
           drift.frames := mapTab s.drift.frames (fun _ x => if x.reserved = some t then { x with reserved := none } else x) }
/-- A release instant passes without a release: a working set fetched for it is unpinned. -/
def dropPrefetch (s : State) (t : Nat) : State :=
  if s.drift.prefetched.contains t then ({ s with drift.prefetched := s.drift.prefetched.filter (· ≠ t) }).unpin t else s
/-- Drift is asked for a task's working set (R168). -/
def requestPages (s : State) (t : Nat) : State :=
  if s.drift.requests.any (fun q => q.task = t) then s
  else ({ s with drift.requests := s.drift.requests ++ [({ task := t, since := s.time.mono } : WsReq)] }).serveDrift

/-! ## Abandoning releases (R173 to R175) -/

/-- The parameter changes that an instance's owning task has taken. -/
def paramsOf (s : State) (t : Nat) : List ParamWrite :=
  s.pair.paramOut.filter (fun p => s.image.elim false (fun i => i.insts.any (fun x => x.id = p.inst && x.task = t)))
/-- The changed words of a constant page: those of the change in progress, else those of the change record. -/
def changedWords (s : State) (page : Nat) : List (Nat × Word) :=
  match s.prog.change with
  | some c => if c.page = page then c.words else get [] s.prog.changeRecord page
  | none => get [] s.prog.changeRecord page
/-- One commit delta for a release instant of a task, with the forces, parameters and page switches that wait (R317). -/
def sendDelta (s : State) (t : Nat) (instant : Ns) (outcome : Nat) (digest : DWord) (writes : List PlainWrite) : State :=
  if !s.pair.ownSelf || !s.pair.syncUp then { s with pair.forceOut := [], pair.paramOut := [], pair.constOut := [], pair.armOut := [] } else
  let ps := s.paramsOf t
  let d : Delta := { sequence := s.pair.streamSeq + 1, task := t, instant := instant, outcome := outcome, digest := digest,
                     alignOffset := (s.task t).alignUsed, writes := writes, forces := s.pair.forceOut, params := ps,
                     constPages := (s.pair.constOut.filter (fun e => e.1 = t)).map (fun e => (e.2, s.changedWords e.2)), arms := s.pair.armOut }
  { s with pair.streamSeq := s.pair.streamSeq + 1, pair.out := s.pair.out ++ [.delta d], pair.forceOut := [], pair.armOut := [],
           pair.paramOut := s.pair.paramOut.filter (fun p => !ps.contains p), pair.constOut := s.pair.constOut.filter (fun e => e.1 ≠ t) }
/-- A task's Firn state rewritten. -/
def setFirn (s : State) (t : Nat) (f : FirnTask → FirnTask) : State := { s with firn.tasks := put s.firn.tasks t (f (s.firnTask t)) }
/-- A vote whose commit has written no word is undone: the release counts under the outcome it ends with (DEDUCED). -/
def unvote (s : State) (t : Nat) : State :=
  match (s.firnTask t).vote with
  | none => s
  | some v => s.setFirn t (fun f => { f with
      vote := none, outcomes := put f.outcomes v.outcome (get 0 f.outcomes v.outcome - 1), commits := if v.outcome ≤ 3 then f.commits - 1 else f.commits })
/-- A release is abandoned: outcome ABANDONED, its stash areas are discarded, its frames unpinned, a delta without writes is sent. -/
def abandon (s : State) (t : Nat) : State :=
  let instant := (s.task t).release.elim 0 (·.instant)
  let faulted := fun (p : Nat) => (s.area t p).faulted
  let u := if (s.task t).release.elim false (·.committing) then s.unvote t else s
  ((((((u.setTask t (fun k => { k with release := none })).setFirn t (fun f => { f with
    lastOutcome := 7, oddPass := 0, faultedA := faulted 0, faultedB := faulted 1, faultedC := faulted 2, vote := none })).clearAreas t).endRequest t).unpin t).sendDelta
    t instant 7 0 [])
/-- A release is placed again from pass A on a core chosen anew, or dropped when no core is left (R173). -/
def placeAgain (s : State) (t : Nat) (r : Release) : State :=
  let u := s.clearAreas t
  match u.chooseCore t with
  | none => u.abandon t
  | some c =>
    let v := u.setTask t (fun k => { k with
      release := some { r with core := c, pass := 0, running := false, suspended := false, yielded := false }, lastCore := BitVec.ofNat 8 c })
    v.runNext c
/-- Every release that is under way is discarded; a running pass stops at its next block boundary (R175). A commit has begun once its vote has ended, and stands but at an entry to SAFE: the model writes a commit's words together at its end, so that at that instant it has written none (R238, DEDUCED). -/
def discardReleases (s : State) (safe : Bool := false) : State :=
  s.releases.foldl (fun u e =>
    if e.2.committing && !safe then u
    else if e.2.running then (u.clearAreas e.1).setRelease e.1 (fun r => { r with stopping := true })
    else u.abandon e.1) s
/-- A task's UNDISPATCHABLE set, with E-0x062 when it changes (R174). -/
def setUndispatchable (s : State) (t : Nat) (on : Bool) : State :=
  if (s.task t).undispatchable = on then s else (s.setTask t (fun k => { k with undispatchable := on })).trigger 0x062 []
/-- UNDISPATCHABLE as the fences and the Task Table stand, with E-0x062 at each change; an undeclared task's has ended (R174). -/
def judgeUndispatchable (s : State) : State :=
  (List.range 16).foldl (fun u t => u.setUndispatchable t ((u.taskDecl t).isSome && u.undispatchable t)) s
/-- Queues whose CORE and FALLBACK_CORE are both fenced and whose messages now go elsewhere than in an earlier state write E-0x066 (R184). -/
def moveQueues (s old : State) : State :=
  (List.range 256).foldl (fun u q =>
    let x := get ({} : IntQ) s.disp.queues q
    let y := get ({} : IntQ) old.disp.queues q
    let core := s.deliveryCore x
    if s.fenced (Machine.field x.route.toNat 2 0) && s.fenced (Machine.field x.route.toNat 6 4) && core ≠ old.deliveryCore y then u.trigger 0x066 [q, core] else u) s
/-- What a core's fence does to its passes and messages, the fence bit being set (R173, R174, R184). Several abandoned releases are placed again in the order of the task table: which of them chooses its core first the manual does not say (DESIGN CHOICE). -/
def fenceCore (s old : State) (c : Nat) : State :=
  let u := (s.releases.filter (fun e => e.2.core = c && !e.2.voting && !e.2.committing)).foldl
    (fun v e => if e.2.stopping then v.abandon e.1 else v.placeAgain e.1 e.2) s
  let lost := (get ({} : CoreSt) u.disp.cores c).messages
  let w := lost.foldl (fun v q => v.message (v.deliveryCore (get {} v.disp.queues q)) q)
    { u with disp.cores := put u.disp.cores c { get ({} : CoreSt) u.disp.cores c with messages := [], idle := false } }
  (w.judgeUndispatchable).moveQueues old
/-! ## Exchange and handover ended from outside (R280, R335) -/

/-- An exchange, or a REVERT, stands before its swap (R26). -/
def exchangeOpen (s : State) : Bool :=
  s.prog.exch.outcome = 1 && ((1 ≤ s.prog.exch.phase && s.prog.exch.phase ≤ 5) || s.prog.exch.phase = 8) && !s.prog.exch.dropped
/-- An exchange that R280 may abort. -/
def abortable (s : State) : Bool := s.exchangeOpen && s.prog.exch.phase ≠ 8
/-- A string is replaced as a whole: its GENERATION changes (R92). -/
def replaced (s : State) (i sub : Nat) : State := { s with xan.gens := upd 0 s.xan.gens (i * 256 + sub) (· + 1) }
/-- What stands staged, or as the revert point, and its STAGE_STATE; its hash in IMAGE_HASHES is replaced (R92, Table 9.6). -/
def setStaged (s : State) (o : Option Image) (state : Nat) : State := ({ s with prog.staged := o, prog.stageState := state, prog.stageError := 0 }).replaced 0x2304 1
/-- The frames and the image of a standby whose exchange is aborted: the transferred image is discarded, the old RESIDENT sets are pinned and fetched again. -/
def dropTransferred (s : State) : State :=
  let slot := 1 - s.drift.area
  let t := { s.setStaged none 0 with prog.flash := del s.prog.flash slot }
  if s.prog.exch.phase < 4 then t else
  let u := { t with drift.frames := mapTab (t.drift.frames.filter (fun e => e.2.area ≠ slot)) (fun _ x => { x with residentPin := s.residentPage x.page }) }
  (s.tasks.filter (·.resident)).foldl (fun v d => v.requestPages d.task) u
/-- An exchange before its swap is aborted with a cause; the active module keeps its image, state, forces and staged image (R280). -/
def abortExchange (s : State) (cause : Nat) : State :=
  if s.abortable then
    let x := s.prog.exch
    let t := if s.pair.ownSelf then s else s.dropTransferred
    ({ t with prog.exch := { x with phase := 0, outcome := 3, abortCause := cause, other := none, layout := [], layoutState := [],
                                    swapAt := none, prepareEnd := none, ready := false, stopped := false, copied := false, mapped := 0 } }).trigger 0x092 [cause, x.phase]
  else s
/-- An exchange aborted, with the partner told. -/
def abortBoth (s : State) (cause : Nat) : State := if s.abortable then (s.abortExchange cause).sendSync (.exchange (.aborted cause)) else s
/-- A planned handover before its swap ends with no change (R335). -/
def abortHandover (s : State) : State :=
  if s.pair.handover = 1 ∧ s.pair.ownSelf then
    ({ s with pair.handover := 3, pair.handoverAt := none, prog.exch := { s.prog.exch with stopped := false } }).trigger 0x0AA []
  else s
/-- A resynchronisation phase begins (R336, E-0x0A5): nothing received for an earlier one counts, no vote waits for its delta, and no task is dispatched before the buffer has drained. -/
def startPhase (s : State) (phase : Nat) : State :=
  let t := { s with
    pair := { s.pair with phase := phase, cleanRun := 0, percent := 0, received := [], buffer := [], bufferInputs := [], streamSeq := 0, drained := false }
    disp.tasks := mapTab s.disp.tasks (fun _ k => { k with ready := false, deltaDue := false })
    firn.tasks := mapTab s.firn.tasks (fun _ f => { f with vote := none }) }
  (t.drift.pinned.foldl unpin t).trigger 0x0A5 []
/-- The standby leaves step with a cause (R322): it copies the state anew, or waits to become stale at a Sync Link failure. -/
def leaveStep (s : State) (cause phase : Nat) : State :=
  if s.pair.phase = 5 ∧ !s.pair.ownSelf then
    let t := (s.abortBoth 3).discardReleases
    (t.trigger 0x0A6 [2, cause]).startPhase phase
  else s

/-! ## The takeover self-check (R326, R327) -/

/-- DONE and E-0x0A8 once the gates have been read back and no path is left to check. -/
def finishCheck (s : State) : State :=
  if s.pair.ownSelf && s.pair.gateChecked && s.pair.toCheck.isEmpty && !s.pair.checkDone then ({ s with pair.checkDone := true }).trigger 0x0A8 [] else s
/-- A path whose check is not decided is fenced or switched off: it counts as checked without failure. -/
def pathOver (s : State) (d : Nat) : State := ({ s with pair.toCheck := s.pair.toCheck.filter (· ≠ d) }).finishCheck

/-! ## Losing ownership (R306) -/

/-- OWN_SELF falls with a LAST_DROP_REASON: GOODBYE while the link is up, E-0x0A2, the gates close; an exchange or handover that this does not belong to ends (Table 9.5). -/
def dropOwn (s : State) (reason : Nat) : State :=
  if s.pair.ownSelf then
    let t := (s.sendSync (.goodbye reason)).trigger 0x0A2 [reason]
    let r := if reason = 1 then t else (t.abortBoth 4).abortHandover
    let u := { r with pair.ownSelf := false, pair.lastDrop := reason, pair.split := false,
                      pair.lowSince := if r.pair.ownPeer then none else some r.time.now }
    (u.cancelOutputTrim).gatesChanged
  else s
/-- A request in its PREPARE phase ends when ownership is lost (R42). -/
def abortPrepare (s : State) (result : Byte) : State :=
  s.mode.prep.elim s (fun p => ({ s with mode.prep := none, mode.reqResult := result }).modeRecord 4 s.mode.current p.target result.toNat p.session)

end State
end Sys2Proof.Machine
end

