-- ==== Sys2Proof/Machine/HubOps.lean ====
section
/-! DEFINITION. What the Fault Hub does at an occurrence: count, latch, record, fence, enter SAFE, release ownership (R347 to R359). -/
namespace Sys2Proof.Machine
namespace State

/-- The fields of an occurrence record (R379). -/
def occurrenceWords (d cls domain : Nat) (info : Word) (t : Det) (session : Word) : List Word :=
  [BitVec.ofNat 32 d, BitVec.ofNat 32 cls, BitVec.ofNat 32 domain, info, t.count, BitVec.ofNat 32 t.parent.toNat, session]
/-- An occurrence record into the Hub's queue of 256, or counted in HUB_DROPPED (R359). -/
def hubRecord (s : State) (code severity : Nat) (words : List Word) : State :=
  if (s.moraine.queue.filter (fun t => t.source = 4)).length < 256 then s.triggerFrom code severity 4 0 words
  else { s with hub.dropped := s.hub.dropped + 1 }
/-- An entry in interrupt queue 62 (R358). -/
def hubEntry (s : State) (d cls domain : Nat) (info : Word) : State :=
  s.produce 62 [BitVec.ofNat 32 d, BitVec.ofNat 32 cls, BitVec.ofNat 32 domain, info]

/-- One SAFE command on each link of a list, with the owner indication of the moment; E-0x0E3 names them (R464, Table 15.3). -/
def sendSafe (s : State) (ks : List Nat) : State :=
  if ks.isEmpty ∨ s.mode.current = .cold then s else
  let mask := ks.foldl (fun a k => a + 2 ^ k) 0
  (ks.foldl (fun (u : State) k => u.sendFrame { link := k, type := 2, position := 0xFF } 128) s).trigger 0x0E3 [mask % 4294967296, mask / 4294967296]
/-- Records of the DRAM ring that were not persisted are lost when rank 0 is fenced; the staging ring serves (R418, R419). -/
def loseRing (s : State) : State :=
  let gone := s.moraine.ring.drop 16320
  { s with moraine.ring := s.moraine.ring.take 16320
           moraine.lost := s.moraine.lost + BitVec.ofNat 32 (gone.filter (fun r => s.moraine.persisted < r.seq)).length }
/-- Fetches and write-backs in flight end with the reset of Drift or of their rank: a page that was being fetched is missing again, a frame that was being written back stays dirty (R206, R207, R348; that the reset ends them is DEDUCED). -/
def haltTransfers (s : State) (of' : Frame → Bool) : State :=
  { s with drift.writeBacks := s.drift.writeBacks.filter (fun w => !of' (get {} s.drift.frames w.1))
           drift.frames := mapTab (s.drift.frames.filter (fun e => !(of' e.2 && e.2.state = 1))) (fun _ x => if of' x ∧ x.state = 3 then { x with state := 2 } else x) }
/-- What a fence does in its kind of domain, the fence bit being set (Table 11.4). -/
def fenceEffect (s old : State) (c : Nat) : State :=
  if c < 8 then s.fenceCore old c
  else if 0x10 ≤ c ∧ c < 0x40 then (if (s.linkDecl (c - 0x10)).isSome then (s.sendSafe [c - 0x10]).resetLink (c - 0x10) else s)
  else if c = 0x48 ∨ c = 0x49 then s.fenceCan (c - 0x47)
  else if c = 0x4C ∨ c = 0x4D then (s.cancelGroupTrim (c - 0x4B)).redriveGroup (c - 0x4B)
  else if c = 0x50 then (s.haltTransfers (fun x => x.area = 0)).loseRing
  else if c = 0x51 then s.haltTransfers (fun x => x.area = 1)
  else if c = 0x52 then s.haltTransfers (fun _ => true)
  else s
/-- A shadow begins (R352). -/
def startShadow (s : State) (c parent : Nat) : State :=
  { s with hub.shadows := s.hub.shadows ++ [⟨c, parent, s.time.mono, s.time.mono + (resetTime c).getD 0 + 200000⟩] }
/-- A domain is fenced: its bit, its reset, its shadow, E-0x0B5 and the signals of its units (R348, R139). -/
def fence (s : State) (c d : Nat) (info : Word) : State :=
  let t := (({ s with hub.fenced := insertBy id c s.hub.fenced }).fenceEffect s c).startShadow c d
  (((((t.hubEntry d 2 c info).trigger 0x0B5 []).pathOver c).redrive).refence s)

/-- Entry to SAFE (R350, R39, R40, R175, R417, R542), before ownership is judged. -/
def enterSafe (s : State) (d : Nat) : State :=
  let track := s.mode.current = .track
  let opened := s.mode.prep.isSome || s.mode.inTransition
  let s0 := if s.mode.prep.isSome then s.abortPrepare 6 else s
  let s1 := { s0 with mode.reqResult := if opened then 6 else s0.mode.reqResult }
  let s2 := ((s1.abortBoth (if s.pair.ownSelf then 5 else 3)).abortHandover).leaveStep 5 0
  let s3 := s2.immediate .safe
  let s4 := { s3 with
    hub.firstSafe := BitVec.ofNat 16 d, hub.safeEntry := s.time.mono, hub.safeReleased := false, hub.aliveFrozen := true
    pair.phase := if track then 0 else s3.pair.phase }
  let s5 := (s4.discardReleases true).sendSafe (((s.image.elim [] (·.links)).map (·.link)).filter (fun k => !s.fenced (0x10 + k)))
  let s6 := s5.cancelTrim.gatesChanged
  { s6 with moraine.persistBusy := true,
            moraine.persisting := if s6.moraine.persistBusy then s6.moraine.persisting else (s6.moraine.ring.filter (fun r => s6.moraine.persisted < r.seq)).reverse }

/-- A FENCE- or SAFE-class cause of the module's own hardware, in a fenceable or shared domain, latched since an instant (R191). -/
def ownCauseSince (s : State) (since : Ns) : Bool :=
  s.hub.dets.any (fun e => (detAttr e.1).elim false (fun a => a.own && decide (2 ≤ a.cls)) && e.2.latched && !(32 ≤ e.1 && e.1 < 48)
    && decide (detDomain e.1 e.2.lastInfo < 0x67) && (decide (since ≤ e.2.firstTime) || (!e.2.consequential && decide (since ≤ e.2.lastTime))))
/-- A SAFE-class occurrence releases ownership (R351, R191). -/
def releases? (s : State) (d : Nat) (a : DetAttr) : Bool :=
  (if 32 ≤ d ∧ d < 48 then (s.task (d - 32)).release.elim false (fun r => s.ownCauseSince r.instant) else a.own)
    && s.pair.ownSelf && s.pair.peerPresent && s.pair.partnerArmed
/-- The reaction to a SAFE-class occurrence that has been latched and recorded (Table 11.3, R350, R351). -/
def safeReaction (s : State) (d : Nat) (a : DetAttr) (info : Word) : State :=
  let give := s.releases? d a
  let enters : Bool := (s.mode.current ≠ .cold && s.mode.current ≠ .safe) || s.mode.leavingSafe
  let s1 := { s with hub.aliveFrozen := true }
  let s2 := if enters then (s1.enterSafe d).hubEntry d 3 (detDomain d info) info else s1
  let s3 := if enters && !give then s2.tellEpoch s.time.mono true else s2
  let s4 := if give then { s3.dropOwn (if d = 115 then 5 else 3) with hub.safeReleased := true } else s3
  if enters then s4.trigger 0x0B6 [s4.hub.firstSafe.toNat, bit s4.hub.safeReleased 0] else s4

/-- A detector counts an occurrence (R359). -/
def counted (t : Det) (level : Bool) (now : Ns) (info : Word) : Det :=
  { t with count := BitVec.ofNat 32 (sat32 (t.count.toNat + 1)), saturated := t.saturated || decide (0xFFFFFFFE ≤ t.count.toNat),
           lastTime := now, lastInfo := info, live := level }
/-- A masked occurrence (R353, R355, R367). -/
def occurMasked (s : State) (d : Nat) (a : DetAttr) (info session : Word) : State :=
  let dom := detDomain d info
  let parent := (leastBy Shadow.start (s.hub.shadows.filter (fun h => h.coversDet d dom))).elim 511 (·.parent)
  let t := { counted (s.det d) (!a.event) s.time.mono info with consequential := true, parent := BitVec.ofNat 9 parent }
  let u := ({ s with hub.dets := put s.hub.dets d t }).hubRecord 0x0B4 (a.cls + 1) (occurrenceWords d a.cls dom info t session)
  { u with hub.restore := u.hub.restore.map (fun r => if r.domain = dom then { r with hits := r.hits ++ [(d, info)] } else r) }
/-- A latching occurrence and the reaction of its class (R347, R357). -/
def occurLatching (s : State) (d : Nat) (a : DetAttr) (info session : Word) : State :=
  let dom := detDomain d info
  let x := s.det d
  let first := { counted x (!a.event) s.time.mono info with
    latched := true, consequential := false, clearedSince := a.event,
    firstTime := if x.latched then x.firstTime else s.time.mono, firstInfo := if x.latched then x.firstInfo else info, latchInfo := info }
  let s1 := (({ s with hub.dets := put s.hub.dets d first }).hubRecord (0x0B0 + a.cls) (a.cls + 1) (occurrenceWords d a.cls dom info first session)).hubEntry d a.cls dom info
  let s2 := if a.cls = 2 ∧ (resetTime dom).isSome ∧ !s.fenced dom then s1.fence dom d info else s1
  let s3 := if a.cls = 3 then s2.safeReaction d a info else s2
  s3
/-- An occurrence of a detector (R347): nothing for an unassigned one. -/
def occurBy (s : State) (d : Nat) (info session : Word) : State :=
  match detAttr d with
  | none => s
  | some a => if s.masked d (detDomain d info) then s.occurMasked d a info session else s.occurLatching d a info session
/-- An occurrence that no session raised. -/
def occur (s : State) (d : Nat) (info : Nat := 0) : State := s.occurBy d (BitVec.ofNat 32 info) 0
/-- A level detector becomes live once: a rise is an occurrence, a lasting condition none (R357). -/
def rise (s : State) (d : Nat) (info : Nat := 0) : State := if (s.det d).live then s else s.occur d info
/-- A detector's live state ends (Table 11.5). -/
def fall (s : State) (d : Nat) : State :=
  let t := s.det d
  if t.live then { s with hub.dets := put s.hub.dets d { t with live := false, clearedSince := t.latched } } else s

end State
end Sys2Proof.Machine
end

