-- ==== Sys2Proof/Machine/Judge.lean ====
section
/-! DEFINITION. The Dictionary Responder: checks 1 to 13 of Table 3.7, replies, forwarding, what ends a session, and the common shape of check 14. -/
namespace Sys2Proof.Machine

/-! ## Sessions (R106 to R112) -/

/-- The bytes under a tag (Table 4.5): direction, serial, session, counter, header, data. -/
def tagInput (direction : Byte) (session : Word) (counter : DWord) (header data : List Byte) : List Byte :=
  [direction] ++ be 8 Config.serial.toNat ++ be 4 session.toNat ++ be 8 counter.toNat ++ header ++ data
namespace State

/-- The open session of a number. -/
def sessionOf (s : State) (n : Word) : Option Session := s.sess.table.find? (fun x => x.number = n)
/-- A session ends: it leaves the table, its cursors are freed (R111, R421, R447). -/
def endSession (s : State) (n : Word) : State :=
  if (s.sessionOf n).isNone then s else
  { s with sess.table := s.sess.table.filter (fun x => x.number ≠ n), sess.generation := s.sess.generation + 1
           moraine.cursors := s.moraine.cursors.filter (fun c => c.1 ≠ n), capture.cursors := s.capture.cursors.filter (fun c => c.1 ≠ n) }
/-- Every session of a list ends. -/
def endSessions (s : State) (ns : List Word) : State := ns.foldl (fun u n => u.endSession n) s
/-- The module enters COLD: every session ends, KEYSTORE_STAGE is emptied and the quote is gone (R109, R126, Table 4.12). -/
def endAllSessions (s : State) : State :=
  let t := s.endSessions (s.sess.table.map (fun x => x.number))
  { t with sess.stage := [], sess.stageTotal := 0, sess.quote := [] }

end State

/-! ## Replies (R76 to R79) -/

/-- What a reply to a request is tagged with. -/
structure ReplyTo where
  req : Req
  opcode : Nat
  auth : Option Auth := none
  deriving DecidableEq, Repr
/-- The reply's trailer (R77): tagged with the session key while the session is known. -/
def ReplyTo.trailer (x : ReplyTo) (header data : List Byte) : Option Trailer :=
  match x.auth with
  | some a => some ⟨a.session, a.counter, Config.hmac a.key (tagInput 2 a.session a.counter header data)⟩
  | none => x.req.trailer.map (fun t => ⟨t.session, t.counter, Config.unkeyedTag (tagInput 2 t.session t.counter header data)⟩)
/-- The reply frame of a status with its data (Table 3.4). -/
def ReplyTo.frame (x : ReplyTo) (pending : Bool) (status : Nat) (sub : Byte) (data : List Byte) : Reply :=
  let op : Byte := BitVec.ofNat 8 (x.opcode + 0x80)
  let header := [1, op] ++ be 2 x.req.transaction.toNat ++ be 2 x.req.index.toNat
    ++ [sub, BitVec.ofNat 8 (bit (x.auth.isSome || x.req.trailer.isSome) 0 + bit pending 1), BitVec.ofNat 8 status, 0] ++ be 2 data.length
  { port := x.req.port, dest := x.req.source, toPort := if x.req.overCan then 0 else x.req.sourcePort, opcode := op, transaction := x.req.transaction, index := x.req.index, sub := sub,
    pending := pending, status := BitVec.ofNat 8 status, data := data, trailer := x.trailer header data }
/-- The session number of a request for records, 0 without one. -/
def ReplyTo.session (x : ReplyTo) : Word := x.auth.elim 0 (·.session)
namespace State

/-- A reply leaves, over UDP from XANFIL_UDP_PORT (R73), on both ports of a PRP node (R474); over CAN FD it enters the channel's reply buffer (R74, R508). A write through a home address, port 0, has no reply (R68). -/
def send (s : State) (y : Reply) : State :=
  if y.port = 0 then s else
  let t := { s with xan.out := { y with fromPort := if 6 ≤ y.port then 0 else s.xan.udpPort, onPair := s.prpMember (y.port - 1) } :: s.xan.out }
  if 6 ≤ y.port then { t with can.chan := put t.can.chan (y.port - 5) { t.canCh (y.port - 5) with replies := (t.canCh (y.port - 5)).replies ++ [y] } } else t
/-- A reply of a status: BUSY and STATE_CONFLICT are counted, STATE_CONFLICT is recorded and carries the mode (R79, R96). The reply to the request of the last counter ends its session (R108). -/
def answer (s : State) (x : ReplyTo) (status : Nat) (data : List Byte := []) (sub : Byte := x.req.sub) : State :=
  let t :=
    if status = 0x0A then ({ s with xan.busyRefusals := s.xan.busyRefusals + 1 }).send (x.frame false status sub [])
    else if status = 0x09 then
      (({ s with xan.stateConflicts := s.xan.stateConflicts + 1 }).trigger 0x041
        [x.req.index.toNat * 256 + x.req.sub.toNat, x.session.toNat, x.opcode]).send
        (x.frame false status sub (be 4 s.deviceMode.toNat ++ be 1 s.mode.life.code))
    else s.send (x.frame false status sub (if status = 0 then data else []))
  if x.auth.elim false (·.last) then t.endSession x.session else t
/-- E-0x042 for a request that fails check 7 (Table 4.15). -/
def tagFailure (s : State) (r : Req) (check : Nat) : State :=
  ({ s with sess.tagFailures := s.sess.tagFailures + 1 }).trigger 0x042
    [2, check, 7, r.session.toNat, r.port, if r.overCan then 0 else r.source.toNat, 0, 0]

/-! ## Checks 1 to 13 (R81) -/

/-- The module answers requests: the Hub's start-up test is complete and power-on reset is released (R598). -/
def serves (s : State) : Bool := s.mode.hubTested && !s.mode.inReset
/-- A request reaches the Responder: over UDP at XANFIL_UDP_PORT (R73), over CAN FD only on a Xanfil channel in normal mode whose reply buffer has room (R501, R508). -/
def hears (s : State) (r : Req) : Bool :=
  s.serves && (if !r.overCan then decide (r.destPort = s.xan.udpPort) else (0 < s.can.node.toNat && s.can.channels.getLsbD (r.port - 6) && s.canOnBus (r.port - 5)
    && (s.canCh (r.port - 5)).mode = 1 && (s.canCh (r.port - 5)).usesFd && (s.canCh (r.port - 5)).replies.length < 8))
/-- Check 2: vendor objects are allowed in the life-cycle state (Table 2.9). -/
def vendorAllowed (s : State) : Bool := s.mode.life ≠ .inService && s.mode.life ≠ .retired

end State

/-- An operation that writes. -/
def writes (op : Nat) : Bool := op = 2 || op = 5 || op = 0x12
/-- A window operation. -/
def windows (op : Nat) : Bool := op = 4 || op = 5
/-- The transport carries the frame at all: its size, and no IP fragment (R73, R74). -/
def fits (r : Req) : Bool :=
  (r.overCan || !r.fragment) && 12 + r.data.length + (if r.trailer.isSome then 28 else 0) ≤ (if r.overCan then 64 else 1472)
/-- Check 1 of Table 3.7. -/
def frameOk (r : Req) : Bool :=
  r.version = 1 && r.complete && r.opcodeKnown && r.length.toNat = r.data.length && r.status = 0 && r.reserved = 0 && r.flags.toNat ≤ 1 && r.auth = r.trailer.isSome
/-- Subindexes of a READ_RANGE that lie within an index: COUNT of them from SUBINDEX (R78). -/
def rangeSubs (r : Req) : List Nat :=
  if r.data.length = 1 then ((List.range (fromBe r.data)).map (· + r.sub.toNat)).filter (· < 256) else [r.sub.toNat]
/-- The subindexes an operation names. -/
def subsOf (op : Nat) (r : Req) : List Nat := if op = 3 then (let l := rangeSubs r; if l.isEmpty then [r.sub.toNat] else l) else [r.sub.toNat]
/-- A wire size: signal values and forces travel as 4 bytes (R63). -/
def wireSize (i : Nat) (o : Obj) : Nat := if 0x6000 ≤ i ∧ i < 0x6100 then 4 else o.ty.size
/-- Check 4 for one subindex: it exists, and a write names a declared item (R61, R70, R186). -/
def subOk (s : State) (op : Nat) (r : Req) (sub : Nat) : Bool :=
  match lookup s r.index.toNat sub with
  | .found _ => !(writes op && 0x6000 ≤ r.index.toNat && r.index.toNat < 0x6400) || s.sigDecl (sigNo r.index.toNat sub)
  | .readsZero _ => !writes op
  | _ => false
/-- What is known of an object that exists. -/
def objOf (s : State) (i sub : Nat) : Obj :=
  match lookup s i sub with
  | .found o => o
  | .readsZero o => o
  | _ => {  ty := .u32 }
/-- Check 5: the access code, and for signals R149; the status of a failure. -/
def accessFault (s : State) (op : Nat) (i sub : Nat) : Option Nat :=
  let o := objOf s i sub
  let g := s.sigOf (sigNo i sub)
  if writes op then
    if o.acc = .r ∨ o.acc = .rs then some 3
    else if 0x6000 ≤ i ∧ i < 0x6100 ∧ (g.valueRole = 0 ∨ g.direction ≠ 0) then some 3
    else if 0x6200 ≤ i ∧ i < 0x6400 ∧ g.forceRole = 0 then some 3
    else none
  else if o.acc = .ws then some 4 else none
/-- Check 6: the operation suits the type, and signed commands take SIGNED_WRITE alone (R116); R75 for CAN FD. -/
def typeOk (s : State) (op : Nat) (r : Req) (sub : Nat) : Bool :=
  let o := objOf s r.index.toNat sub
  (o.ty = .bytes) == windows op && (signedObj r.index.toNat sub) == (op = 0x12) && !(op = 0x12 && r.overCan)
/-- Check 7 applies (Table 3.7). -/
def authNeeded (s : State) (op : Nat) (r : Req) : Bool :=
  writes op || r.auth || (subsOf op r).any (fun sub => (objOf s r.index.toNat sub).role ≠ 1 || (objOf s r.index.toNat sub).acc = .rs)
/-- The role a write or a vendor access needs (R83, R97). -/
def roleNeeded (s : State) (i sub : Nat) : Nat :=
  let g := s.sigOf (sigNo i sub)
  if 0x6000 ≤ i ∧ i < 0x6100 then g.valueRole else if 0x6200 ≤ i ∧ i < 0x6400 then g.forceRole else (objOf s i sub).role
/-- Check 9. -/
def roleOk (s : State) (op role : Nat) (r : Req) : Bool :=
  if writes op then roleMeets role (roleNeeded s r.index.toNat r.sub.toNat)
  else r.index.toNat < 0xF000 || role = 5
/-- Layout of the data, check 11, window by window (R94, R95, R126, R204, R265, R422, R447, R538, Table 4.6). -/
def windowLayout (s : State) (op : Nat) (r : Req) : Bool :=
  let i := r.index.toNat
  if op = 4 then
    r.data.length = 10 && r.offset % windowAlign i = 0 && r.len % windowAlign i = 0 && !(i = 0x7120 && 1024 < r.len)
  else
    8 ≤ r.data.length &&
    (if i = 0x1111 then r.bytes.length = 32 && r.select = 0 && r.offset = 0
     else if i = 0x1210 then r.offset % 32 = 0 && r.bytes.length % 32 = 0
     else if i = 0x2310 then r.offset % 4 = 0 && r.bytes.length % 4 = 0
       && s.image.elim true (fun m => (m.insts.find? (fun x => x.id = r.select)).elim true (fun x => wholeParams x r.offset r.bytes.length))
     else if i = 0x2311 then r.offset % 4 = 0 && r.bytes.length % 4 = 0
     else if 0x7940 ≤ i ∧ i < 0x7950 then 8 ≤ r.bytes.length && r.bytes.length = 8 + at_ r.bytes 7 1 && at_ r.bytes 7 1 ≤ 248
     else true)
/-- Check 11. -/
def layoutOk (s : State) (op : Nat) (r : Req) : Bool :=
  let i := r.index.toNat
  if op = 1 then r.data.isEmpty
  else if op = 2 then r.data.length = wireSize i (objOf s i r.sub.toNat)
  else if op = 3 then r.data.length = 1 && (subsOf op r).all (fun sub => wireSize i (objOf s i sub) = wireSize i (objOf s i r.sub.toNat) && (objOf s i sub).ty.size ≠ 8)
  else if op = 0x12 then
    28 ≤ r.data.length && at_ r.data 0 8 = Config.serial.toNat && at_ r.data 8 4 = r.session.toNat
      && at_ r.data 12 8 = r.trailer.elim 0 (·.counter.toNat) && at_ r.data 20 2 = i && at_ r.data 22 1 = r.sub.toNat && at_ r.data 23 1 = 0
      && at_ r.data 24 2 ≤ 256 && at_ r.data 26 2 = 0 && r.data.length = 540 + at_ r.data 24 2
  else windowLayout s op r
/-- A write of Table 3.10 (R86). -/
def activeOnly (s : State) (op : Nat) (r : Req) : Bool :=
  writes op && (r.index = 0x2001 || (objOf s r.index.toNat r.sub.toNat).active)

/-- What the hardware checks of a request come to. -/
inductive Judged where
  /-- The frame never reaches the Responder. -/
  | ignored
  /-- Dropped or refused: the state after. -/
  | over (s : State)
  /-- Checks 1 to 13 have passed. -/
  | passed (s : State) (x : ReplyTo)
  deriving DecidableEq, Repr

namespace State

/-- The session and the tag of a request: none when check 7 fails, with the E-0x042 check code. -/
def authOf (s : State) (r : Req) (op : Nat) : Except Nat (Session × Auth) :=
  match r.trailer with
  | none => .error 0
  | some t =>
    match s.sessionOf t.session with
    | none => .error 0
    | some x =>
      if Config.hmac x.key (tagInput 1 t.session t.counter (r.header (BitVec.ofNat 8 op)) r.data) = t.tag then
        .ok (x, ⟨t.session, t.counter, x.key, x.role, x.blank, x.clientKey, x.nonce, false⟩)
      else .error 1
/-- Replies to a request whose trailer names an open session are tagged with its key. -/
def replyTo (s : State) (r : Req) (op : Nat) : ReplyTo :=
  ⟨r, op, r.trailer.elim none (fun t => (s.sessionOf t.session).map (fun x => ⟨t.session, t.counter, x.key, x.role, x.blank, x.clientKey, x.nonce, false⟩))⟩
/-- Check 8 has passed: the counter is consumed and the session is not idle (R82, R109). -/
def consume (s : State) (n : Word) (c : DWord) : State :=
  { s with sess.table := s.sess.table.map (fun x => if x.number = n then { x with counter := c, lastReq := s.time.mono } else x) }
/-- The reply of a request that has consumed its counter (R108). -/
def accepted (x : ReplyTo) (c : DWord) : ReplyTo := { x with auth := x.auth.map (fun a => { a with last := c = 0xFFFFFFFFFFFFFFFF }) }
/-- Check 10: the unit of every object that the request names lies within the scope (R84). -/
def scopeOk (s : State) (r : Req) (u sub : Nat) : Bool := s.within u (unitOfSub s r sub)
/-- Check 11 for one subindex of a READ_RANGE: the wire size of the first, and no two-slot object (R78). -/
def sizeOk (s : State) (op : Nat) (r : Req) (sub : Nat) : Bool :=
  let i := r.index.toNat
  op ≠ 3 || (wireSize i (objOf s i sub) = wireSize i (objOf s i r.sub.toNat) && (objOf s i sub).ty.size ≠ 8)
/-- Checks 9 to 13, in order, after check 8. No object is ever held by a session (check 13). -/
def lateFault (s : State) (role scope : Option Nat) (r : Req) (op : Nat) : Option Nat :=
  if role.elim false (fun k => !roleOk s op k r) then some 8
  else if scope.elim false (fun u => !(subsOf op r).all (s.scopeOk r u)) then some 0x0D
  else if !layoutOk s op r then some 5
  else if activeOnly s op r && !s.pair.ownSelf then some 0x0E
  else none
/-- The subindex that a refusal of checks 9 to 13 names: the first at fault (Table 3.4). -/
def lateSub (s : State) (scope : Option Nat) (r : Req) (op st : Nat) : Byte :=
  BitVec.ofNat 8 (((subsOf op r).find? (fun sub =>
    (st = 0x0D && scope.elim false (fun u => !s.scopeOk r u sub)) || (st = 5 && !s.sizeOk op r sub))).getD r.sub.toNat)
/-- The first subindex of a READ_RANGE that a check faults. -/
def faulty (r : Req) (op : Nat) (ok : Nat → Bool) : Byte := BitVec.ofNat 8 (((subsOf op r).find? (fun sub => !ok sub)).getD r.sub.toNat)
/-- Checks 1 to 13 of Table 3.7 for an operation other than SESSION_OPEN and SESSION_CLOSE. -/
def judge (s : State) (r : Req) (op : Nat) : Judged :=
  let i := r.index.toNat
  let x := s.replyTo r op
  if !s.hears r || !fits r then .ignored
  else if !frameOk r then .over { s with xan.framesDropped := s.xan.framesDropped + 1 }
  else if 0xF000 ≤ i ∧ !s.vendorAllowed then .over (s.answer x 9)
  else if (lookup s i r.sub.toNat) = .noObject then .over (s.answer x 1)
  else if !(subsOf op r).all (subOk s op r) then .over (s.answer x 2 [] (faulty r op (subOk s op r)))
  else match ((subsOf op r).filterMap (accessFault s op i)).head? with
  | some st => .over (s.answer x st [] (faulty r op (fun sub => (accessFault s op i sub).isNone)))
  | none =>
    if !(subsOf op r).all (typeOk s op r) then .over (s.answer x 5 [] (faulty r op (typeOk s op r)))
    else if !authNeeded s op r then
      (match s.lateFault none none r op with
       | some st => .over (s.answer x st [] (s.lateSub none r op st))
       | none => .passed s x)
    else match s.authOf r op with
    | .error k => .over ((s.tagFailure r k).answer x 7)
    | .ok (ses, a) =>
      if a.counter.toNat ≤ ses.counter.toNat then .over (s.answer x 0x0B)
      else
        let t := s.consume a.session a.counter
        let y := accepted x a.counter
        (match s.lateFault (some ses.role) (some ses.scope) r op with
         | some st => .over (t.answer y st [] (s.lateSub (some ses.scope) r op st))
         | none => .passed t y)

/-! ## Forwarding and check 14 (R87, R88) -/

/-- The runtime, or Sedge in recovery, completes forwarded requests (R598, R561). -/
def runtimeUp (s : State) : Bool := (s.mode.measured || s.sedge.recovery) && !s.mode.inReset
/-- A judged request becomes a queue entry, which interrupt queue 60 reports; a write gets its PENDING reply first, a full queue is BUSY (R88, R89, R181). -/
def enqueue (s : State) (x : ReplyTo) : State :=
  if 256 ≤ s.xan.queue.length then s.answer x 0x0A
  else ({ (if writes x.opcode then s.send (x.frame true 0 x.req.sub []) else s) with
          xan.queue := s.xan.queue ++ [{ req := x.req, opcode := BitVec.ofNat 8 x.opcode, auth := x.auth }] } : State).produceOpen 60
/-- A forwarded request judged and, when nothing waits before it and the runtime runs, completed at once; otherwise it waits its turn. -/
def forwarded (s : State) (r : Req) (op : Nat) (complete : State → ReplyTo → State) : State :=
  match s.judge r op with
  | .ignored => s
  | .over t => t
  | .passed t x =>
    if t.xan.queue.isEmpty && t.runtimeUp then complete ((if writes op then t.send (x.frame true 0 x.req.sub []) else t).produceOpen 60) x else t.enqueue x
/-- A request that the Responder completes itself. -/
def completed (s : State) (r : Req) (op : Nat) (complete : State → ReplyTo → State) : State :=
  match s.judge r op with
  | .ignored => s
  | .over t => t
  | .passed t x => complete t x
/-- A session opened in BLANK may write KEYSTORE_STAGE and LIFECYCLE_REQUEST alone (R124). -/
def blankBarred (x : ReplyTo) : Bool :=
  x.auth.elim false (·.blank) && !(x.req.index = 0x1131 || x.req.index = 0x1101)
/-- In recovery writes are accepted to FW_STAGE, FW_COMMAND and FW_ACTIVATE alone (R561). -/
def recoveryBarred (s : State) (x : ReplyTo) : Bool :=
  s.sedge.recovery && !(x.req.index = 0x7A21 || x.req.index = 0x7A22 || x.req.index = 0x7A20)
/-- Check 14 in its order, RANGE, BUSY, STATE_CONFLICT, then the operation and its final reply. A write through a home address, port 0, counts as having passed it and has no reply (R68). -/
def check14 (s : State) (x : ReplyTo) (range busy conflict : Bool) (op : State → State) : State :=
  if x.req.port = 0 then op s
  else if range then s.answer x 6 else if busy then s.answer x 0x0A else if conflict || blankBarred x || s.recoveryBarred x then s.answer x 9
  else (op s).answer x 0
/-- As check14, for an operation whose final reply is sent later. -/
def check14Later (s : State) (x : ReplyTo) (range busy conflict : Bool) (op : State → State) : State :=
  if x.req.port = 0 then op s
  else if range then s.answer x 6 else if busy then s.answer x 0x0A else if conflict || blankBarred x || s.recoveryBarred x then s.answer x 9 else op s
/-- The waiting request's own form. -/
def replyOf (f : Fwd) : ReplyTo := ⟨f.req, f.opcode.toNat, f.auth⟩
/-- The limits of a window write's bytes (R92). -/
def writeLength (r : Req) : Bool := 1 ≤ r.bytes.length && r.bytes.length ≤ (if r.overCan then 16 else 1024)
/-- The RANGE part of check 14 for a window: SELECT, then OFFSET and LENGTH (R92). -/
def windowRange (s : State) (x : ReplyTo) : Bool :=
  match window s x.session x.req.index.toNat x.req.sub.toNat x.req.select with
  | none => true
  | some w => w.total < x.req.offset || (if x.req.overCan then 16 else 1024) < x.req.len
/-- A verified signed command of an object that is the oldest forwarded request, taken from the queue (R90, R118). -/
def takeSigned (s : State) (i : Nat) : Option (Fwd × State) :=
  match s.xan.queue with
  | f :: rest => if f.opcode = 0x12 && f.signedOk && f.req.index.toNat = i && s.runtimeUp then some (f, { s with xan.queue := rest }) else none
  | [] => none
/-- A verified signed command of an object that is the oldest forwarded request is carried out (R90, R118). -/
def onSigned (s : State) (i : Nat) (op : State → Fwd → State) : State :=
  match s.takeSigned i with
  | none => s
  | some (f, t) => op t f
end State
end Sys2Proof.Machine
end

