-- ==== Sys2Proof/Machine/Hub.lean ====
section
/-! DEFINITION. The commands of the Fault Hub: occurrences, shadows, cause latches, restores, raises, the leaf watchdog and ALIVE (11). -/
namespace Sys2Proof.Machine

/-- A row's request is for the row's object by the row's operation; another request is no such happening. -/
def rowFor (r : Req) (index sub : Nat) : Bool := r.index.toNat = index && r.sub.toNat = sub
/-- The home address of an object (R64). -/
def homeAddress (index sub : Nat) : Nat := 0x50000000 + index * 0x400 + sub * 4
/-- Masters that reach home addresses: the cores and Sedge (R65). -/
def homeMaster (m : Nat) : Bool := m < 8 || m = 13
namespace State

/-- An occurrence whose cause information no rule defines: the information is free. -/
def occurOpen (s : State) (d : Nat) : State := ({ s with draws := s.draws + 1 }).occurBy d (s.freeAt 0) 0
/-- A rise whose cause information no rule defines. -/
def riseOpen (s : State) (d : Nat) : State := if (s.det d).live then s else s.occurOpen d

/-- D273: the slot of one record of the capture buffer fails; its cause information is the record's sequence count, bits [31:0], which the manual does not say (DESIGN CHOICE). No read shows the slot, and each held capture that contains it carries DAMAGED (R445). -/
def damage (s : State) (info : Word) : State :=
  let hit := fun (x : CapItem) => decide (x.seq.toNat % 2 ^ 32 = info.toNat)
  let seqs := (s.capture.buffer.filter hit).map (·.seq)
  ({ s with capture.buffer := s.capture.buffer.map (fun (x : CapItem) => if hit x then { x with dead := true } else x)
            capture.held := s.capture.held.map (fun (c : Capture) =>
              if seqs.any (fun n => c.first ≤ n && n ≤ c.last) then { c with damaged := true } else c) }).replaced 0x7223 0
/-- D290: the copies of one record in the store fail on both devices; its cause information is the record's sequence number, bits [31:0], which the manual does not say (DESIGN CHOICE). No read shows it from then on, unless the ring still holds it (R422). -/
def spoil (s : State) (info : Word) : State := { s with moraine.store := s.moraine.store.filter (fun r => decide (r.seq.toNat % 2 ^ 32 ≠ info.toNat)) }
/-- An occurrence as hardware reports it: a level detector that is live cannot rise again (R357). -/
def opOccurrence (s : State) (d : Nat) (info : Word) : State :=
  (if (detAttr d).elim false (fun a => !a.event) && (s.det d).live then s else (if d = 273 then s.damage info else if d = 290 then s.spoil info else s).occurBy d info 0).settle
/-- Level detectors that are live and covered by no shadow any more, among those a domain's shadow covered (R356). -/
def uncovered (s : State) (domain : Nat) : List Nat :=
  (s.hub.dets.filter (fun e => e.2.live && (detAttr e.1).elim false (fun a => !a.event && decide (a.cls < 3))
    && (domain = detDomain e.1 e.2.lastInfo || (neighbours domain).contains (detDomain e.1 e.2.lastInfo))
    && !s.masked e.1 (detDomain e.1 e.2.lastInfo))).map (·.1)
/-- Each such detector occurs anew (R356). -/
def reoccur (s : State) (domain : Nat) : State := (s.uncovered domain).foldl (fun u d => u.occurBy d (u.det d).lastInfo 0) s
/-- D067 for every release that still waits for pages it cannot get (R208). -/
def judgeUnobtainable (s : State) : State :=
  s.releases.foldl (fun u e => if e.2.waiting && u.unobtainable e.1 then u.occurOpen 67 else u) s
/-- A fence's shadow ends (R356, R208). -/
def opShadowEnd (s : State) (c : Nat) : State :=
  if s.hub.shadows.any (fun h => h.domain = c && h.parent ≠ 511 && h.stop ≤ s.time.mono) then
    let t := ({ s with hub.shadows := s.hub.shadows.filter (fun h => !(h.domain = c && h.parent ≠ 511 && h.stop ≤ s.time.mono)) }).reoccur c
    (if (c = 0x52 ∨ c = 0x50 ∨ c = 0x51) ∧ t.fenced c then t.judgeUnobtainable else t).settle
  else s

/-! ## Clearing causes (R361 to R364) -/

/-- The detectors of a CAUSE_LATCH word whose bits are written as 1. -/
def writtenDets (w v : Nat) : List Nat := ((List.range 32).filter (fun j => tb v j)).map (fun j => 32 * w + j)
/-- A latch cleared, with E-0x0B7; FIRST_* are kept (Table 11.5). -/
def clearLatch (s : State) (session : Word) (d : Nat) : State :=
  if (s.det d).latched then
    ({ s with hub.dets := put s.hub.dets d { s.det d with latched := false, clearedSince := false } }).trigger 0x0B7 [session.toNat]
  else s
/-- ALIVE resumes in COLD once no SAFE-class latch is set (R350, R372). -/
def aliveInCold (s : State) : State :=
  if s.mode.current = .cold ∧ !s.safeCause ∧ !s.hub.leafStopped ∧ s.mode.hubTested then { s with hub.aliveFrozen := false } else s
/-- Check 14 and effect of a write of CAUSE_LATCH (R362). -/
def opCauseLatch (s : State) (x : ReplyTo) : State :=
  let ds := writtenDets x.req.sub.toNat x.req.value
  if ds.any (fun d => (s.det d).live) then (s.trigger 0x0B8 []).answer x 0x0A
  else s.check14 x false false false (fun t => ((ds.foldl (fun u d => u.clearLatch x.session d) t).aliveInCold).settle)

/-! ## Restoring a domain (R365 to R368) -/

/-- A latch of DEGRADE class or above is set for a detector of a domain (R365). -/
def latchedIn (s : State) (c : Nat) : Bool :=
  s.latchedDets.any (fun d => (detAttr d).elim false (fun a => decide (1 ≤ a.cls)) && detDomain d (s.det d).latchInfo = c)
/-- CONFIGURE sent to every declared position of a link, in every mode but COLD, in which the port sends nothing (R453, R465, R467). -/
def sendConfigure (s : State) (k : Nat) : State :=
  let ps := s.positionsOf k
  let t := ps.foldl (fun (u : State) p => u.setPos k p (fun x => { x with configure := true, everConfigured := false, state := 0, missed := 0 })) s
  if s.mode.current = .cold then t else ps.foldl (fun u p => u.configure k p) t
/-- Check 14 of FENCE_RESTORE; an accepted one resets the domain, starts its shadow and leaves the final reply to the shadow's end. -/
def opFenceRestore (s : State) (x : ReplyTo) : State :=
  let c := x.req.value
  let held := (resetTime c).isSome && s.latchedIn c
  let t := if held && s.fenced c && s.hub.restore.isNone then s.trigger 0x0B8 [] else s
  t.check14Later x (resetTime c).isNone (!s.fenced c || s.hub.restore.isSome || held) false (fun u =>
    let v := ({ u with hub.restore := some { domain := c, fwd := { req := x.req, opcode := BitVec.ofNat 8 x.opcode, auth := x.auth } }
                       draws := u.draws + 2 }).startShadow c 511
    let w := v.produce 62 [511, u.freeAt 0, BitVec.ofNat 32 c, u.freeAt 1]
    if 0x10 ≤ c ∧ c < 0x40 then w.sendConfigure (c - 0x10) else w)
/-- What returns to service with its domain (R368, R467, R513, Table 18.6). -/
def rejoin (s : State) (c : Nat) : State :=
  if c < 8 then ((s.judgeUndispatchable).moveQueues { s with hub.fenced := insertBy id c s.hub.fenced }).runNext c
  else if 0x10 ≤ c ∧ c < 0x40 then
    ({ s with link.links := put s.link.links (c - 0x10) { s.lnk (c - 0x10) with parked := false, silentRun := 0 } }).trigger 0x0E0 [c - 0x10, 4]
  else if c = 0x48 ∨ c = 0x49 then
    let y := s.canCh (c - 0x47)
    let z := if y.mode = 3 then y.startAbr s.time.now else y
    (({ s with can.chan := put s.can.chan (c - 0x47) { z with tec := 0, recErr := 0, error := 0, recovering := false } }).fall (240 + 4 * (c - 0x48))).fall (241 + 4 * (c - 0x48))
  else if c = 0x4C ∨ c = 0x4D then
    ({ s with field.groups := put s.field.groups (c - 0x4B) { s.grp (c - 0x4B) with watchdogExpired := false } }).redriveGroup (c - 0x4B)
  else s.serveDrift
/-- A detector that occurred in a restore's shadow is latched at its end (R366). -/
def latchHit (s : State) (h : Nat × Word) : State :=
  let t := s.det h.1
  if t.latched then s
  else { s with hub.dets := put s.hub.dets h.1 { t with latched := true, clearedSince := !t.live, firstTime := s.time.mono, firstInfo := h.2, latchInfo := h.2 } }
/-- The shadow of a restore ends: the domain returns to service, or stays fenced with its occurrences latched (R366). -/
def opRestoreEnd (s : State) : State :=
  match s.hub.restore with
  | none => s
  | some r =>
    if s.hub.shadows.any (fun h => h.domain = r.domain && h.parent = 511 && h.stop ≤ s.time.mono) then
      let t := { s with hub.restore := none, hub.shadows := s.hub.shadows.filter (fun h => !(h.domain = r.domain && h.parent = 511 && h.stop ≤ s.time.mono)) }
      let live := (t.uncovered r.domain).any (fun d => detDomain d (t.det d).lastInfo = r.domain)
      if r.hits.isEmpty && !live then
        let u := { t with hub.fenced := t.hub.fenced.filter (· ≠ r.domain) }
        (((((u.rejoin r.domain).redrive).refence t).trigger 0x0B5 []).reoccur r.domain).settle.answer (replyOf r.fwd) 0
      else
        ((((r.hits.foldl latchHit t).reoccur r.domain).trigger 0x0B5 []).settle).answer (replyOf r.fwd) 0x0F
    else s

/-! ## Raising detectors (R375, R376) -/

/-- The detector, the cause information and the LEVEL_OFF bit of a DET_RAISE value. -/
def raiseDet (v : Nat) : Nat := v % 512
/-- A raise names an assigned detector and no reserved bit (R375). -/
def raiseOk (v : Nat) : Bool := (detAttr (raiseDet v)).isSome && Machine.field v 14 9 = 0
/-- One occurrence, the level made live, or the live state ended. -/
def raise (s : State) (v : Nat) (session : Word) : State :=
  match detAttr (raiseDet v) with
  | none => s
  | some a =>
    (if !a.event && tb v 15 then s.fall (raiseDet v)
     else if !a.event && (s.det (raiseDet v)).live then s
     else s.occurBy (raiseDet v) (BitVec.ofNat 32 (v / 65536)) session).settle
/-- Check 14 of a Xanfil DET_RAISE: in DEVELOP alone (R376). -/
def opRaise (s : State) (x : ReplyTo) : State :=
  s.check14 x (!raiseOk x.req.value) false (s.mode.life ≠ .develop) (fun t => t.raise x.req.value x.session)
/-- A home-address DET_RAISE; a refused one ends in a bus error without effect (R376). -/
def homeRaise (s : State) (v : Nat) : State :=
  if raiseOk v && (s.mode.life = .develop || (detAttr (raiseDet v)).elim false (·.runtime)) then s.raise v 0 else s
/-- A write of DET_RAISE with LEVEL_OFF as the row has it. -/
def opDetRaise (s : State) (w : ObjWrite) (off : Bool) : State :=
  match w with
  | .xanfil r => if rowFor r 0x7006 0 && tb r.value 15 == off then s.forwarded r 2 opRaise else s
  | .home m a v => if homeMaster m && a = homeAddress 0x7006 0 && tb v.toNat 15 == off then s.homeRaise v.toNat else s

/-! ## The leaf watchdog and ALIVE (R370 to R372) -/

/-- Losing ownership ends a request in its PREPARE phase (R42). -/
def abortPrepareIfOwned (s : State) (result : Byte) : State := if s.pair.ownSelf then s.abortPrepare result else s
/-- The leaf watchdog stops: ALIVE freezes, OWN_SELF falls, D029 (R371, R306). -/
def leafStop (s : State) (missing : Nat) : State :=
  if s.hub.leafStopped then s else
  let t := ({ s with hub.leafStopped := true, hub.aliveFrozen := true }).trigger 0x0B9 [missing]
  (((t.abortPrepareIfOwned 7).dropOwn 7).riseOpen 29).settle
/-- A runtime kick at the home address (R370). -/
def homeKick (s : State) (v : Word) : State :=
  if s.hub.leafStopped then s
  else if v = s.hub.nextKick then
    { s with hub.rtKick := some s.time.now, hub.nextKick := if v = 0x5A5A then 0xA5A5 else 0x5A5A, hub.leafLimit := s.hub.leafTimeout }
  else s.leafStop 1
/-- LEAF_KICK: a Xanfil write is always refused (Table 11.6). -/
def opLeafKick (s : State) (w : ObjWrite) : State :=
  match w with
  | .xanfil r => if rowFor r 0x7005 0 then s.forwarded r 2 (fun t x => t.check14 x false false true id) else s
  | .home m a v => if homeMaster m && a = homeAddress 0x7005 0 then s.homeKick v else s
/-- The limit of a kick runs out: 0 the hardware kick, 1 the runtime kick (R371). -/
def opLeafStop (s : State) (missing : Nat) : State :=
  if missing = 0 ∨ (missing = 1 ∧ s.hub.rtKick.elim false (fun t => decide (t + s.hub.leafLimit.toNat * 1000000 ≤ s.time.now))) then s.leafStop missing else s
/-- ALIVE changes level every 1 ms while it is not frozen (R372). -/
def opAlive (s : State) : State :=
  if s.hub.aliveFrozen ∨ s.time.now < s.hub.aliveAt + 1000000 then s else { s with hub.alive := !s.hub.alive, hub.aliveAt := s.time.now }

end State

/-- DETECTOR_OCCURRENCE (R347). -/
def execDetectorOccurrence (detector : Nat) (info : Word) (s : State) : Host.Outcome State Fault Refusal := .next (s.opOccurrence detector info)
/-- DETECTOR_LIVE_FALL (R357). -/
def execDetectorLiveFall (detector : Nat) (s : State) : Host.Outcome State Fault Refusal := .next (s.fall detector)
/-- SHADOW_END (R356). -/
def execShadowEnd (domain : Nat) (s : State) : Host.Outcome State Fault Refusal := .next (s.opShadowEnd domain)
/-- CAUSE_LATCH (R362). -/
def execCauseLatch (r : Req) (s : State) : Host.Outcome State Fault Refusal :=
  .next (if r.index = 0x7010 then s.completed r 2 State.opCauseLatch else s)
/-- FENCE_RESTORE (R365). -/
def execFenceRestore (r : Req) (s : State) : Host.Outcome State Fault Refusal :=
  .next (if rowFor r 0x7003 0 then s.forwarded r 2 State.opFenceRestore else s)
/-- RESTORE_SHADOW_END (R366). -/
def execRestoreShadowEnd (s : State) : Host.Outcome State Fault Refusal := .next s.opRestoreEnd
/-- DET_RAISE (R375). -/
def execDetRaise (w : ObjWrite) (s : State) : Host.Outcome State Fault Refusal := .next (s.opDetRaise w false)
/-- DET_RAISE_LEVEL_OFF (R375). -/
def execDetRaiseLevelOff (w : ObjWrite) (s : State) : Host.Outcome State Fault Refusal := .next (s.opDetRaise w true)
/-- LEAF_KICK (R370). -/
def execLeafKick (w : ObjWrite) (s : State) : Host.Outcome State Fault Refusal := .next (s.opLeafKick w)
/-- LEAF_WATCHDOG_STOP (R371). -/
def execLeafWatchdogStop (missing : Nat) (s : State) : Host.Outcome State Fault Refusal := .next (s.opLeafStop missing)
/-- ALIVE_TOGGLE (R372). -/
def execAliveToggle (s : State) : Host.Outcome State Fault Refusal := .next s.opAlive

end Sys2Proof.Machine
end

