-- ==== Sys2Proof/Machine/Sessions.lean ====
section
/-! DEFINITION. The commands of sessions, signed commands, the key store and attestation (04). -/
namespace Sys2Proof.Machine

/-! ## The token (Table 4.2) -/

/-- A wall time of ten bytes at an offset (R99). -/
def wallAt (l : List Byte) (offset : Nat) : Wall :=
  { seconds := BitVec.ofNat 48 (at_ l offset 6), nanos := BitVec.ofNat 32 (at_ l (offset + 6) 4) }

/-- Bytes 0 to 583 of a token obey Table 4.2 (check S3). -/
def tokenForm (l : List Byte) : Bool :=
  at_ l 0 2 = 1 && at_ l 3 1 = 0 && at_ l 6 2 = 0 && at_ l 68 4 = 65537

namespace State

/-! ## Opening a session (R100 to R103) -/

/-- The security engine runs a private-key operation (R128). -/
def engineBusy (s : State) : Bool := s.sess.opening.isSome || s.sess.quoteBusy
/-- What S6 asks beside the signature: a BLANK module takes its provisioning token alone (R124). -/
def blankToken (s : State) (r : Req) : Bool :=
  s.mode.life ≠ .blank
    || (at_ r.data 2 1 = 5 && at_ r.data 4 2 = 0 && at_ r.data 8 8 = Config.serial.toNat && r.port = 5 && s.sedge.coverOpen)
/-- The plant authority key (Table 4.9). -/
def authorityKey (s : State) : Option (BitVec 4096) := (readCert s.sess.ks.authority).map (·.key)
/-- The client modulus of a token (Table 4.2). -/
def tokenKey (l : List Byte) : BitVec 4096 := BitVec.ofNat 4096 (at_ l 72 512)
/-- SIGNATURE verifies under the plant authority key, in BLANK under the client key that the token carries (S6, R124). -/
def tokenSigned (s : State) (l : List Byte) (salt : BitVec 512) : Bool :=
  (if s.mode.life = .blank then some (tokenKey l) else s.authorityKey).elim false (fun k =>
    verifies k salt (l.take 584) (BitVec.ofNat 4096 (at_ l 584 512)))
/-- Check S8 (R102). -/
def tokenInTime (s : State) (l : List Byte) : Bool :=
  let nb := (wallAt l 16).ns
  let na := (wallAt l 26).ns
  if s.time.wallValid then decide (nb ≤ s.wallNs) && decide (s.wallNs < na)
  else match s.time.stored with
    | some w => decide (w.ns < na)
    | none => decide (nb < na)
/-- The first check of Table 4.3 that fails, with its status. -/
def openFault (s : State) (r : Req) (salt : BitVec 512) : Option (Nat × Nat) :=
  let l := r.data
  if r.auth || l.length ≠ 1128 then some (1, 5)
  else if s.mode.life = .retired || !(s.mode.measured || s.sedge.recovery) || !s.sess.ksLoaded || (s.sedge.recovery && r.port ≠ 5) then some (2, 9)
  else if !tokenForm l then some (3, 5)
  else if at_ l 2 1 = 0 || 5 < at_ l 2 1 then some (4, 6)
  else if at_ l 8 8 ≠ 0 && at_ l 8 8 ≠ Config.serial.toNat then some (5, 0x0D)
  else if !s.tokenSigned l salt || !s.blankToken r then some (6, 7)
  else if at_ l 36 32 ≠ 0 && s.sess.revoked.any (fun e => e.2.toNat = at_ l 36 32) then some (7, 7)
  else if !s.tokenInTime l then some (8, 7)
  else if !s.unitExists (at_ l 4 2) then some (9, 0x0D)
  else if 32 ≤ s.sess.table.length || s.engineBusy then some (10, 0x0A)
  else none
/-- A refused SESSION_OPEN: OPEN_REFUSALS, E-0x042 and the reply; no other effect (R101). A frame too short for a token has no TOKEN_NONCE: those words are free. -/
def refuseOpen (s : State) (x : ReplyTo) (check status : Nat) : State :=
  let l := x.req.data
  let n := s.draws
  let w := fun (k : Nat) => if l.length < 44 then (Config.freeWord (n + k)).toNat else at_ l (36 + 4 * k) 4
  let t := ({ s with sess.refusals := s.sess.refusals + 1, draws := if l.length < 44 then n + 2 else n }).trigger 0x042
    [1, check, status, 0, x.req.port, x.req.source.toNat, w 0, w 1]
  t.send (x.frame false status x.req.sub (if status = 9 then be 4 t.deviceMode.toNat ++ be 1 t.mode.life.code else []))
/-- Checks 1 to 4 of Table 3.7, for the session operations; another object than OPEN_SESSIONS is refused with TYPE. -/
def sessionFrame (s : State) (r : Req) (op : Nat) (ok : ReplyTo → State) : State :=
  let i := r.index.toNat
  let x := s.replyTo r op
  if !s.hears r || (!fits r) then s
  else if !frameOk r then { s with xan.framesDropped := s.xan.framesDropped + 1 }
  else if 0xF000 ≤ i ∧ !s.vendorAllowed then s.answer x 9
  else if (lookup s i r.sub.toNat) = .noObject then s.answer x 1
  else if !(subOk s 1 r r.sub.toNat) then s.answer x 2
  else if i ≠ 0x1200 ∨ r.sub ≠ 0 then s.answer x 5
  else ok x
/-- SESSION_OPEN: over CAN FD refused with TYPE and no other effect (R75, Table 3.8), else the checks of Table 4.3, then the private-key work (R101, R103). -/
def opSessionOpen (s : State) (r : Req) (salt : BitVec 512) : State :=
  s.sessionFrame r 0x10 (fun x =>
    if r.overCan then s.answer x 5 else
    match s.openFault r salt with
    | some f => s.refuseOpen x f.1 f.2
    | none =>
      let l := r.data
      { s with sess.opening := some { req := r, role := at_ l 2 1, scope := at_ l 4 2, notAfter := wallAt l 26, nonce := BitVec.ofNat 256 (at_ l 36 32),
                                      clientNonce := slice l 1096 32, clientKey := tokenKey l, notBefore := wallAt l 16,
                                      blank := s.mode.life = .blank } })
/-- The remaining validity at opening (R110). -/
def validityOf (s : State) (o : Opening) : Ns :=
  o.notAfter.ns - (if s.time.wallValid then s.wallNs else (s.time.stored.getD o.notBefore).ns)
/-- A signature by the device identity key, with a fresh salt; a module that holds no identity key pair yet (BLANK, or a key store not loaded) gives free bytes (R103 and R127 state none). -/
def identitySignature (s : State) (l : List Byte) : BitVec 4096 :=
  s.sess.ks.secret.elim (Config.keylessSignature s.draws) (fun k => Config.pss (Config.modulusOf k) (Config.freeSalt s.draws) l)
/-- The data of a SESSION_OPEN reply (Table 4.4). -/
def openReply (s : State) (o : Opening) (key : BitVec 256) (number : Word) : List Byte :=
  let head := be 4 number.toNat ++ be 8 Config.serial.toNat ++ o.clientNonce ++ be 512 (Config.encrypt o.clientKey key (Config.freeSeed s.draws)).toNat
    ++ be 64 (Config.sha512 (o.req.data.take 1096)).toNat
  head ++ be 512 (s.identitySignature head).toNat
/-- The reply leaves and the session is open (R103); one of a BLANK module whose cover has closed meanwhile ends at once (R109, R124). -/
def opSessionOpenReply (s : State) (key : BitVec 256) (number : Word) : State :=
  match s.sess.opening with
  | none => s
  | some o =>
    if number = 0 ∨ (s.sessionOf number).isSome then s else
    let data := s.openReply o key number
    let ses : Session := { number := number, role := o.role, port := o.req.port, scope := o.scope, openedAt := s.time.mono, notAfter := o.notAfter,
                           nonce := o.nonce, lastReq := s.time.mono, validFor := s.validityOf o, key := key, clientKey := o.clientKey, blank := o.blank }
    let t := ({ s with sess.opening := none, sess.table := s.sess.table ++ [ses], sess.opens := s.sess.opens + 1,
                       sess.generation := s.sess.generation + 1, draws := s.draws + 1 }).answer (⟨o.req, 0x10, none⟩ : ReplyTo) 0 data
    if o.blank && !s.sedge.coverOpen then t.endSession number else t
/-- SESSION_CLOSE: checks 1 to 4, 7 and 8 alone (R109, R112). -/
def opSessionClose (s : State) (r : Req) : State :=
  s.sessionFrame r 0x11 (fun x =>
    if r.overCan then s.answer x 5 else
    match s.authOf r 0x11 with
    | .error k => (s.tagFailure r k).answer x 7
    | .ok (ses, a) =>
      if a.counter.toNat ≤ ses.counter.toNat then s.answer x 0x0B
      else if r.length ≠ 0 then (s.consume a.session a.counter).answer (accepted x a.counter) 5
      else ((s.consume a.session a.counter).endSession a.session).answer x 0)

/-! ## How a session ends (R109) -/

/-- The IDLE_TIMEOUT that holds for open sessions now: a written one from the next second on (Table 4.6). -/
def idleInForce (s : State) : Half := if s.time.mono < s.sess.idleFrom then s.sess.idleOld else s.sess.idleTimeout
/-- No request has passed check 8 for IDLE_TIMEOUT seconds. -/
def opSessionIdle (s : State) (n : Word) : State :=
  if (s.sessionOf n).elim false (fun x => decide (x.lastReq + s.idleInForce.toNat * 1000000000 ≤ s.time.mono)) then s.endSession n else s
/-- The validity computed at opening has run out (R110). -/
def opSessionValidity (s : State) (n : Word) : State :=
  if (s.sessionOf n).elim false (fun x => decide (x.openedAt + x.validFor ≤ s.time.mono)) then s.endSession n else s
/-- Check 14 of SESSION_KILL. -/
def opSessionKill (s : State) (x : ReplyTo) : State :=
  let n : Word := BitVec.ofNat 32 x.req.value
  s.check14 x (s.sessionOf n).isNone false false (fun t => t.endSession n)
/-- The revocation list with entries written from a number on; an all-zero entry is empty. -/
def revoke (t : Tab (BitVec 256)) (k : Nat) : List Byte → Nat → Tab (BitVec 256)
  | _, 0 => t
  | l, n + 1 =>
    let v : BitVec 256 := BitVec.ofNat 256 (at_ l 0 32)
    revoke (if v = 0 then del t k else put t k v) (k + 1) (l.drop 32) n
/-- Check 14 of REVOKED_NONCES: entries are written, the sessions of a written nonce end (R109, Table 4.6). -/
def opRevokedNonces (s : State) (x : ReplyTo) : State :=
  let b := x.req.bytes
  s.check14 x (x.req.select ≠ 0 || !writeLength x.req || 2048 < x.req.offset + b.length) false false (fun t =>
    let ns := (List.range (b.length / 32)).map (fun k => at_ b (32 * k) 32)
    ({ t with sess.revoked := revoke t.sess.revoked (x.req.offset / 32) b (b.length / 32), sess.revokedGen := t.sess.revokedGen + 1 }).endSessions
      ((t.sess.table.filter (fun (y : Session) => y.nonce ≠ 0 && ns.contains y.nonce.toNat)).map (fun (y : Session) => y.number)))
/-- Check 14 of IDLE_TIMEOUT (Table 4.6). -/
def opIdleTimeout (s : State) (x : ReplyTo) : State :=
  s.check14 x (x.req.value < 10 || 3600 < x.req.value) false false (fun t =>
    { t with sess.idleTimeout := BitVec.ofNat 16 x.req.value, sess.idleOld := t.idleInForce
             sess.idleFrom := (t.time.mono / 1000000000 + 1) * 1000000000 })
/-! ## Signed commands (R116 to R118) -/

/-- SIGNED_WRITE: checks 1 to 13, the PENDING reply, and the signature waits for the security engine. -/
def opSignedWrite (s : State) (r : Req) : State :=
  match s.judge r 0x12 with
  | .ignored => s
  | .over t => t
  | .passed t x => t.enqueue x
/-- The signature of a SIGNED_WRITE, over bytes 0 to 27 + ARG_LENGTH, under the client key of the session's token (R117). -/
def commandSigned (f : Fwd) (salt : BitVec 512) : Bool :=
  let n := 28 + at_ f.req.data 24 2
  f.auth.elim false (fun a => verifies a.clientKey salt (f.req.data.take n) (BitVec.ofNat 4096 (at_ f.req.data n 512)))
/-- The verification of the oldest waiting signature ends (R118, Table 4.15). TOKEN's two words are the first eight bytes of TOKEN_NONCE in their order, the first four first: R410 orders 64-bit fields, and the order of TOKEN's words is the model's. -/
def opSignatureVerified (s : State) (salt : BitVec 512) : State :=
  match takeOut (fun (f : Fwd) => f.opcode = 0x12 && !f.signedOk) s.xan.queue with
  | none => s
  | some (f, rest) =>
    if commandSigned f salt then
      let a : Auth := f.auth.getD ⟨0, 0, 0, 0, false, 0, 0, false⟩
      ({ s with xan.queue := s.xan.queue.map (fun g => if g = f then { g with signedOk := true } else g) }).trigger 0x043
        [f.req.index.toNat * 256 + f.req.sub.toNat, a.session.toNat, a.nonce.toNat / 2 ^ 224, a.nonce.toNat / 2 ^ 192 % 2 ^ 32,
         a.counter.toNat % 2 ^ 32, a.counter.toNat / 2 ^ 32]
    else ({ s with xan.queue := rest }).answer (replyOf f) 7
/-- Check 14 of the physical-presence permit (R115). -/
def grantPresence (t : State) (f : Fwd) : State :=
  let v := fromBe f.req.arg
  t.check14 (replyOf f) (f.req.arg.length ≠ 4 || v < 60 || 3600 < v) false (!t.inService)
    (fun u => { u with sess.presenceUntil := some (u.time.mono + v * 1000000000) })
/-- The signed physical-presence permit. -/
def opPresencePermit (s : State) : State := s.onSigned 0x1220 grantPresence
/-- The permit's time runs out (R115). -/
def opPresenceExpiry (s : State) : State :=
  if s.sess.presenceUntil.elim false (fun e => decide (e ≤ s.time.mono)) then { s with sess.presenceUntil := none } else s

/-! ## The key store (R119 to R123) -/

/-- Both sealed copies are rewritten with a higher version (R122); a device whose write fails keeps its copy (R214). -/
def reseal (s : State) : State :=
  let k := { s.sess.ks with version := s.sess.ks.version + 1 }
  { s with sess.ks := k, sess.sealed1 := if s.drift.flashFailed.getLsbD 0 then s.sess.sealed1 else some k
           sess.sealed2 := if s.drift.flashFailed.getLsbD 1 then s.sess.sealed2 else some k }
/-- The staged bytes. -/
def keyStage (s : State) : List Byte := tabBytes s.sess.stage s.sess.stageTotal
/-- The argument of KEYSTORE_COMMAND is well formed for an operation and hashes the staged bytes (R122). -/
def keyArgument (s : State) (a : List Byte) (op : Nat) : Bool :=
  a.length = 68 && at_ a 0 1 = op && at_ a 1 3 = 0 && at_ a 4 64 = (Config.sha512 s.keyStage).toNat
/-- KEYSTORE_STAGE is emptied (Table 4.12). -/
def emptyStage (s : State) : State := ({ s with sess.stage := [], sess.stageTotal := 0 }).replaced 0x1131 0
/-- The staged bytes are a certificate with a property of Table 4.10. -/
def stagedCert (s : State) (p : Cert → Bool) : Bool := (readCert s.keyStage).elim false p
/-- The staged bytes are a new plant authority certificate that the present authority key has signed (Table 4.10). -/
def mayReplaceAuthority (s : State) (salt : BitVec 512) : Bool :=
  s.stagedCert (fun c => s.authorityKey.elim false (fun k => c.signedBy k salt))
/-- The staged bytes are a device certificate for the identity key, signed by the authority key (Table 4.10). -/
def mayInstallCert (s : State) (salt : BitVec 512) : Bool :=
  s.stagedCert (fun c => s.sess.ks.secret.elim false (fun k => c.key = Config.modulusOf k) && s.authorityKey.elim false (fun k => c.signedBy k salt))
/-- REPLACE_AUTHORITY's effect on the key store. -/
def replaceAuthority (s : State) : State := ({ s with sess.ks := { s.sess.ks with authority := s.keyStage } }).replaced 0x1122 0
/-- INSTALL_DEVICE_CERT's effect, and with nothing staged REMOVE_DEVICE_CERT's. -/
def replaceDeviceCert (s : State) (l : List Byte) : State := ({ s with sess.ks := { s.sess.ks with deviceCert := l } }).replaced 0x1121 0
/-- A verified KEYSTORE_COMMAND of an operation, or of none of Table 4.10: check 14 and effect (R122, R123). -/
def keystore (t : State) (op : Nat) (refused : State → Bool) (install : State → State) (f : Fwd) : State :=
  t.check14 (replyOf f) (!t.keyArgument f.req.arg op || refused t) false
    (t.mode.life ≠ .provisioned && t.mode.life ≠ .inService && t.mode.life ≠ .develop)
    (fun u => (install u).reseal.emptyStage)
/-- The signed KEYSTORE_COMMAND of a row: a command whose OP is another row's waits for that row. -/
def opKeystore (s : State) (op : Nat) (refused : State → Bool) (install : State → State) : State :=
  s.onSigned 0x1130 (fun t f =>
    let code := at_ f.req.arg 0 1
    if code ≠ op ∧ 1 ≤ code ∧ code ≤ 3 then s else t.keystore op refused install f)
/-- KEYSTORE_COMMAND as a write that has passed check 14: the operation its first byte names. -/
def keystoreAny (s : State) (f : Fwd) : State :=
  match at_ f.req.arg 0 1 with
  | 1 => s.replaceAuthority.reseal.emptyStage
  | 2 => (s.replaceDeviceCert s.keyStage).reseal.emptyStage
  | 3 => (s.replaceDeviceCert []).reseal.emptyStage
  | _ => s
/-- Check 14 of KEYSTORE_STAGE (Table 4.12). -/
def opKeystoreStage (s : State) (x : ReplyTo) : State :=
  let b := x.req.bytes
  s.check14 x (x.req.select ≠ 0 || s.sess.stageTotal < x.req.offset || !writeLength x.req || 8192 < x.req.offset + b.length) false false (fun t =>
    { t with sess.stage := writeBytes t.sess.stage x.req.offset b, sess.stageTotal := max t.sess.stageTotal (x.req.offset + b.length) })

/-! ## Attestation (R126, R127) -/

/-- Check 14 of the verifier nonce. -/
def opQuoteNonce (s : State) (x : ReplyTo) : State :=
  s.check14 x false s.engineBusy false (fun t => { t with sess.quoteBusy := true, sess.quoteNonce := x.req.bytes, sess.quote := [] })
/-- The persistent settings that State holds, one by one: the modes, service, sessions, time, pair, Hub, Drift, image, ports and CAN settings (R20, R72, R114 and the like). -/
def persistentSettings (s : State) : List Nat :=
  [s.mode.powerUpPolicy.toNat, s.mode.prepareTimeout.toNat, s.xan.udpPort.toNat, s.sess.idleTimeout.toNat, s.drift.eccThreshold.toNat,
   s.prog.revertWindow.toNat, s.hub.leafTimeout.toNat, s.moraine.notify.toNat, s.capture.reorderDelay.toNat, s.capture.share.toNat]
  ++ [s.time.stepThreshold.toNat, s.time.holdoverLimit.toNat, s.time.profile.toNat, s.time.clockType.toNat, s.time.ptpPorts.toNat,
      s.time.domain.toNat, s.time.priority1.toNat, s.time.priority2.toNat, s.time.oneStep.toNat, s.time.logSync.toNat, s.time.offsetAlarm.toNat]
  ++ [s.eth.prpConfig.toNat, s.can.node.toNat, s.can.channels.toNat, s.field.watchdog.toNat, s.field.restorePolicy.toNat, s.field.convertBase.toNat]
  ++ (List.range 64).map (fun k => (get 0 s.sess.revoked k).toNat)
  ++ (List.range 16).map (fun t => (get 80 s.disp.warns t).toNat)
  ++ (List.range 32).flatMap (fun g => let x := get ({} : CapGroup) s.capture.groups g; [x.pre.toNat, x.post.toNat, x.rearm.toNat])
  ++ (List.range 48).flatMap (fun k => [(s.lnk k).missLimit.toNat, (s.lnk k).silent.toNat])
  ++ (List.range 5).flatMap (fun p => let x := s.port p
      [x.launchPolicy.toNat, x.ip.toNat, x.mask.toNat, x.gateway.toNat] ++ (List.range 16).map (fun k => (get 0 x.multicast k).toNat))
  ++ [1, 2].flatMap (fun c => let x := s.canCh c
      [x.mode.toNat, x.nominalRate.toNat, x.nominalSample.toNat, x.dataRate.toNat, x.dataSample.toNat, x.fdOptions.toNat, x.policy.toNat, x.abrTimeout.toNat])
  ++ (List.range 1024).flatMap (fun c => rateWord s c :: (List.range 8).map (fun k => (get 0 (codeOf s c).snaps k).toNat))
/-- CONFIG_HASH: the persistent configuration record hashed (Table 4.11). -/
def configHash (s : State) : BitVec 512 := Config.sha512 (Config.configRecord s.persistentSettings)
/-- Bytes 0 to 275 of a quote (Table 4.11). -/
def quoteBody (s : State) : List Byte :=
  be 2 1 ++ be 2 0 ++ be 8 Config.serial.toNat ++ be 1 s.mode.life.code ++ be 1 s.mode.current.code ++ be 1 3 ++ be 1 0 ++ be 8 s.time.mono
    ++ s.wall.bytes ++ be 2 0 ++ slice s.sess.quoteNonce 0 32 ++ be 64 (Config.sha512 (bootLogBytes s)).toNat ++ be 4 s.fwRelease.toNat
    ++ be 4 (s.other.elim 0 (·.release)).toNat ++ be 4 (s.running.elim 0 (·.sedgeRelease)).toNat ++ be 4 s.sedge.floor
    ++ be 64 (s.image.elim 0 (·.hash)).toNat ++ be 64 s.configHash.toNat
/-- The quote is complete. -/
def opQuoteComplete (s : State) : State :=
  if s.sess.quoteBusy then
    { s with sess.quoteBusy := false, sess.quote := s.quoteBody ++ be 512 (s.identitySignature s.quoteBody).toNat,
             sess.quoteGen := s.sess.quoteGen + 1, draws := s.draws + 1 }
  else s

end State

/-- SESSION_OPEN (R100 to R103), with the salt that the token's SIGNATURE encloses. -/
def execSessionOpen (r : Req) (salt : BitVec 512) (s : State) : Host.Outcome State Fault Refusal := .next (s.opSessionOpen r salt)
/-- SESSION_OPEN_REPLY (R103). -/
def execSessionOpenReply (key : BitVec 256) (number : Word) (s : State) : Host.Outcome State Fault Refusal := .next (s.opSessionOpenReply key number)
/-- SESSION_CLOSE (R109). -/
def execSessionClose (r : Req) (s : State) : Host.Outcome State Fault Refusal := .next (s.opSessionClose r)
/-- SIGNED_WRITE (R116 to R118). -/
def execSignedWrite (r : Req) (s : State) : Host.Outcome State Fault Refusal := .next (s.opSignedWrite r)
/-- SIGNATURE_VERIFIED (R118), with the salt that the oldest waiting signature encloses. -/
def execSignatureVerified (salt : BitVec 512) (s : State) : Host.Outcome State Fault Refusal := .next (s.opSignatureVerified salt)
/-- SESSION_IDLE_TIMEOUT (R109). -/
def execSessionIdleTimeout (number : Word) (s : State) : Host.Outcome State Fault Refusal := .next (s.opSessionIdle number)
/-- SESSION_VALIDITY_EXPIRY (R110). -/
def execSessionValidityExpiry (number : Word) (s : State) : Host.Outcome State Fault Refusal := .next (s.opSessionValidity number)
/-- SESSION_KILL (R109). -/
def execSessionKill (r : Req) (s : State) : Host.Outcome State Fault Refusal := .next (if rowFor r 0x1203 0 then s.forwarded r 2 State.opSessionKill else s)
/-- REVOKED_NONCES (R109). -/
def execRevokedNonces (r : Req) (s : State) : Host.Outcome State Fault Refusal := .next (if rowFor r 0x1210 0 then s.forwarded r 5 State.opRevokedNonces else s)
/-- PRESENCE_PERMIT (R115). -/
def execPresencePermit (s : State) : Host.Outcome State Fault Refusal := .next s.opPresencePermit
/-- PRESENCE_PERMIT_EXPIRY (R115). -/
def execPresencePermitExpiry (s : State) : Host.Outcome State Fault Refusal := .next s.opPresenceExpiry
/-- ATTEST_QUOTE_NONCE (R126). -/
def execAttestQuoteNonce (r : Req) (s : State) : Host.Outcome State Fault Refusal := .next (if rowFor r 0x1111 0 then s.forwarded r 5 State.opQuoteNonce else s)
/-- QUOTE_COMPLETE (R127). -/
def execQuoteComplete (s : State) : Host.Outcome State Fault Refusal := .next s.opQuoteComplete
/-- REPLACE_AUTHORITY (R122), with the salt that the staged certificate's signature encloses. -/
def execReplaceAuthority (salt : BitVec 512) (s : State) : Host.Outcome State Fault Refusal :=
  .next (s.opKeystore 1 (fun u => !u.mayReplaceAuthority salt) State.replaceAuthority)
/-- INSTALL_DEVICE_CERT (R122), with the salt that the staged certificate's signature encloses. -/
def execInstallDeviceCert (salt : BitVec 512) (s : State) : Host.Outcome State Fault Refusal :=
  .next (s.opKeystore 2 (fun u => !u.mayInstallCert salt) (fun u => u.replaceDeviceCert u.keyStage))
/-- REMOVE_DEVICE_CERT (R122). -/
def execRemoveDeviceCert (s : State) : Host.Outcome State Fault Refusal :=
  .next (s.opKeystore 3 (fun _ => false) (fun u => u.replaceDeviceCert []))

end Sys2Proof.Machine
end

