-- ==== Sys2Proof/Machine/Moraine.lean ====
section
/-! DEFINITION. The commands of Moraine: triggers, acceptance, posts, persists, clearing, cursors and limits (13). -/
namespace Sys2Proof.Machine

/-- The severity of a triggered record (R406): an occurrence takes its detector's class plus one. -/
def triggerSeverity (code : Nat) (words : List Word) : Nat :=
  if 0xB0 ≤ code ∧ code ≤ 0xB3 then code - 0xB0 + 1
  else if code = 0xB4 then ((words.drop 1).headD 0).toNat % 4 + 1
  else severityOf code
/-- The three words of an 80-bit wall time (R410). -/
def wallWords (w : Wall) : List Nat := [w.seconds.toNat / 2 ^ 32, w.seconds.toNat % 2 ^ 32, w.nanos.toNat]
/-- The wall time of three words. -/
def wordsWall (l : List Word) : Wall :=
  { seconds := BitVec.ofNat 48 ((l.headD 0).toNat * 2 ^ 32 + ((l.drop 1).headD 0).toNat), nanos := (l.drop 2).headD 0 }
/-- A wall time a span later; zero stands for a clock that is not valid and stays zero (R409). -/
def laterWall (w : Wall) (span : Ns) : Wall := if w = {} then w else wallOf (w.ns + span)
/-- The words of an accepted record: both wall times of TIME_STEP are those of the record's MONO (R409). -/
def acceptedWords (t : Trig) (mono : Ns) : List Word :=
  if t.code = 0xF0 then
    (wallWords (laterWall (wordsWall t.words) (mono - t.trigAt)) ++ wallWords (laterWall (wordsWall (t.words.drop 3)) (mono - t.trigAt))).map (BitVec.ofNat 32)
      ++ t.words.drop 6
  else t.words

namespace State

/-- A hardware trigger with the fields of its code (R410, R413). -/
def opTrigger (s : State) (code unit : Nat) (words : List Word) : State :=
  if codeAssigned code && words.length = payloadOf code && unit < 4096 then
    s.triggerFrom code (triggerSeverity code words) (codeSource code) unit words
  else s

/-! ## Acceptance (R407, R408, R412, R416, R424) -/

/-- SEQUENCE of the next record. -/
def nextSeq (s : State) : DWord := BitVec.ofNat 64 (s.moraine.boot % 2 ^ 20 * 2 ^ 44 + s.moraine.count)
/-- One record enters the ring under the next SEQUENCE; the record that it pushes out is lost unless a persist holds it (R416 to R418). -/
def enterRing (s : State) (r : Rec) : State :=
  let limit := if s.stagingRing then 16320 else 131072
  let gone := (s.moraine.ring.drop (limit - 1)).filter (fun (q : Rec) => s.moraine.persisted < q.seq && !s.moraine.persisting.any (fun (p : Rec) => p.seq = q.seq))
  let full := s.moraine.count = 0xFFFFFFFFFFF
  let t := { s with
    moraine.ring := (r :: s.moraine.ring).take limit, moraine.lost := s.moraine.lost + BitVec.ofNat 32 gone.length
    moraine.newest := r.seq, moraine.boot := if full then s.moraine.boot + 1 else s.moraine.boot, moraine.count := if full then 0 else s.moraine.count + 1 }
  if t.moraine.notify.toNat ≤ r.severity then
    t.produce 61 [BitVec.ofNat 32 r.seq.toNat, BitVec.ofNat 32 (r.seq.toNat / 2 ^ 32), BitVec.ofNat 32 r.code, BitVec.ofNat 32 r.severity]
  else t
/-- The record of a trigger as it is accepted; words [0:3] in the first record, [4:7] in its continuation (R412). -/
def recordOf (s : State) (t : Trig) (mono : Ns) (words : List Word) (cont : Bool) : Rec :=
  let more := decide (4 < words.length)
  let part := if cont then words.drop 4 else words.take 4
  { seq := s.nextSeq, mono := mono, wall := if s.time.wallValid then wallOf (mono + s.time.align).toNat else {}, code := t.code, severity := t.severity,
    source := t.source, unit := t.unit, lag := BitVec.ofNat 32 (sat32 (s.time.mono - t.trigAt)), suppressed := if cont then 0 else t.suppressed,
    flags := BitVec.ofNat 8 (bit (more && !cont) 0 + bit cont 1 + bit s.time.wallValid 2), words := part }
/-- Moraine accepts the oldest trigger, at most one record per microsecond; a continuation follows one microsecond later (R408, R412). -/
def opAccept (s : State) : State :=
  match s.moraine.queue with
  | [] => s
  | t :: rest =>
    if s.moraine.lastAccept.elim false (fun a => decide (s.time.mono < a + 1000)) then s else
    let words := acceptedWords t s.time.mono
    let first := s.recordOf t s.time.mono words false
    let u := ({ s with moraine.queue := rest, moraine.lastAccept := some s.time.mono }).enterRing first
    let v := t.post.elim u (fun n => { u with moraine.posts := upd ({} : PostPort) u.moraine.posts n (fun p => { p with seq := first.seq }) })
    if 4 < words.length then
      ({ v with moraine.lastAccept := some (s.time.mono + 1000) }).enterRing (v.recordOf t (s.time.mono + 1000) words true)
    else v

/-! ## Posts (R426) -/

/-- A code's next trigger passes its rate limit (R413). -/
def passesNow (s : State) (code : Nat) : Bool := neverSuppressed code || (((codeOf s code).refill s.time.mono).relimit).passes
/-- A submission at a post port: 0 to 7 the cores, 8 Sedge. -/
def opPost (s : State) (port code unit : Nat) (words : List Word) : State :=
  if 8 < port ∨ 8 < words.length then s else
  let c := code % 1024
  let u := unit % 4096
  let result := if !codeAssigned c || !Config.postable c then 3 else if s.passesNow c then 1 else 2
  let t := { s with moraine.posts := upd ({} : PostPort) s.moraine.posts port (fun p => { p with code := c, unit := u, payload := words, result := result }) }
  if result = 3 then t
  else t.triggerFrom c (triggerSeverity c words) (if port = 8 then 14 else 0) u ((words ++ List.replicate 8 0).take (payloadOf c)) (some port)

/-! ## Persists (R214, R417, R418) -/

/-- The eMMC devices after an access: a failure raises D074 or D075, and the module goes on with the other device (R214). -/
def flashResult (s : State) (ok1 ok2 : Bool) : State :=
  let t := { s with drift.flashFailed := s.drift.flashFailed ||| BitVec.ofNat 2 (bit (!ok1) 0 + bit (!ok2) 1) }
  let u := if ok1 then t else t.rise 74
  if ok2 then u else u.rise 75
/-- Records accepted since the last persist, oldest first. -/
def unpersisted (s : State) : List Rec := (s.moraine.ring.filter (fun (r : Rec) => s.moraine.persisted < r.seq)).reverse
/-- A second of monotonic time has begun: a persist starts unless one runs (R417); it finds what was lost (R418). -/
def opPersistTick (s : State) : State :=
  if s.time.mono / 1000000000 ≤ s.moraine.persistAt / 1000000000 ∨ s.moraine.persistBusy then s else
  let t := { s with moraine.persistAt := s.time.mono, moraine.persistBusy := true, moraine.persisting := s.unpersisted, moraine.lostSeen := s.moraine.lost }
  if s.moraine.lost ≠ s.moraine.lostSeen then t.occur 289 else t
/-- The persist ends: its records are in the store of each device that took them (R417). -/
def opPersistComplete (s : State) (ok1 ok2 : Bool) : State :=
  if !s.moraine.persistBusy then s else
  let t := s.flashResult ok1 ok2
  let m := t.moraine
  if ok1 || ok2 then
    { t with moraine.persistBusy := false, moraine.persisting := [], moraine.store := (m.persisting.reverse ++ m.store).take 262144
             moraine.persisted := (m.persisting.getLast?).elim m.persisted (·.seq), moraine.persistTime := s.time.mono, moraine.degraded := !(ok1 && ok2) }
  else ({ t with moraine.persistBusy := false, moraine.persisting := [] }).occur 288

/-! ## Clearing (R425) -/

/-- The record of a signed command's own signature (R118): its SEQUENCE. -/
def signatureSeq (s : State) (f : Fwd) : Option DWord :=
  let a : Auth := f.auth.getD ⟨0, 0, 0, 0, false, 0, 0, false⟩
  let ends := [BitVec.ofNat 32 a.counter.toNat, BitVec.ofNat 32 (a.counter.toNat / 2 ^ 32)]
  (((heldRecs s).filter (fun (r : Rec) => r.code = 0x43 && r.flags.getLsbD 1 && r.words.take 2 = ends
    && (heldRecs s).any (fun (q : Rec) => q.seq + 1 = r.seq && (q.words.drop 1).headD 0 = a.session))).getLast?).map (fun (r : Rec) => r.seq - 1)
/-- The record of the signature still waits for acceptance. -/
def signatureWaits (s : State) (f : Fwd) : Bool :=
  s.moraine.queue.any (fun (t : Trig) => t.code = 0x43 && (t.words.drop 1).headD 0 = (f.auth.elim 0 (·.session))
    && (t.words.drop 4).take 1 = [BitVec.ofNat 32 (f.auth.elim 0 (·.counter)).toNat])
/-- A record that a clear up to a SEQUENCE erases: continuation pairs go together. -/
def clearedBy (upTo : DWord) (r : Rec) : Bool := r.seq ≤ upTo || (r.flags.getLsbD 1 && r.seq = upTo + 1)
/-- Every held record up to UP_TO is erased, E-0x0F1. -/
def clearRecords (s : State) (upTo : DWord) (a : Auth) : State :=
  let n := ((heldRecs s).filter (clearedBy upTo)).length
  ({ s with moraine.ring := s.moraine.ring.filter (fun r => !clearedBy upTo r), moraine.store := s.moraine.store.filter (fun r => !clearedBy upTo r)
            moraine.persisting := s.moraine.persisting.filter (fun r => !clearedBy upTo r), moraine.clears := s.moraine.clears + 1 }).trigger 0x0F1
    [upTo.toNat % 2 ^ 32, upTo.toNat / 2 ^ 32, n, a.session.toNat, a.nonce.toNat / 2 ^ 224, a.nonce.toNat / 2 ^ 192 % 2 ^ 32]
/-- Check 14 of a verified MORAINE_CLEAR (R425). -/
def clearMoraine (t : State) (f : Fwd) : State :=
  let upTo : DWord := BitVec.ofNat 64 (fromBe f.req.arg)
  t.check14 (replyOf f) (f.req.arg.length ≠ 8 || !(upTo < (t.signatureSeq f).getD (oldestRec t))) false false
    (fun u => u.clearRecords upTo (f.auth.getD ⟨0, 0, 0, 0, false, 0, 0, false⟩))
/-- MORAINE_CLEAR, once the record of its signature is accepted. -/
def opMoraineClear (s : State) : State := s.onSigned 0x7110 (fun t f => if s.signatureWaits f then s else t.clearMoraine f)
/-! ## Cursors (R421 to R423) -/

/-- A session without a cursor finds all eight held. -/
def cursorsFull (l : List (Word × DWord)) (n : Word) : Bool := !l.any (fun c => c.1 = n) && 8 ≤ l.length
/-- A session's cursor set to a SEQUENCE. -/
def setCursor (l : List (Word × DWord)) (n : Word) (v : DWord) : List (Word × DWord) := l.filter (fun c => c.1 ≠ n) ++ [(n, v)]
/-- Where a written cursor stands (R423). -/
def cursorOf (oldest newest v : DWord) : DWord := if v = 0 then oldest else if v = 0xFFFFFFFFFFFFFFFF then newest + 1 else v
/-- Check 14 of MORAINE_CURSOR. -/
def opMoraineCursor (s : State) (x : ReplyTo) : State :=
  s.check14 x false (cursorsFull s.moraine.cursors x.session) false (fun t =>
    { t with moraine.cursors := setCursor t.moraine.cursors x.session (cursorOf (oldestRec t) t.moraine.newest (BitVec.ofNat 64 x.req.value)) })

/-! ## Limits and snapshot lists (R411, R415) -/

/-- E-0x0F3: code, object, old and new value, session. -/
def limitRecord (s : State) (x : ReplyTo) (code old : Nat) : State :=
  s.trigger 0x0F3 [code, x.req.index.toNat * 256 + x.req.sub.toNat, old, x.req.value, x.session.toNat]
/-- Check 14 of RATE_LIMIT. -/
def opRateLimit (s : State) (x : ReplyTo) : State :=
  let c := (x.req.index.toNat - 0x7130) * 256 + x.req.sub.toNat
  s.check14 x (neverSuppressed c || x.req.value / 65536 = 0) false false (fun t =>
    ({ t with moraine.codes := upd ({} : CodeSt) t.moraine.codes c (fun y => { y with newLimit := some (BitVec.ofNat 32 x.req.value) }) }).limitRecord x c (rateWord t c))
/-- An object that a snapshot slot may hold (R411). -/
def snapOk (s : State) (v : Nat) : Bool :=
  match lookup s (Machine.field v 23 8) (Machine.field v 7 0) with
  | .found o => o.ty ≠ .bytes && o.acc ≠ .ws && o.role = 1
  | .readsZero o => o.ty ≠ .bytes && o.acc ≠ .ws && o.role = 1
  | _ => false
/-- The object of a slot takes two slots. -/
def snapWide (s : State) (v : Nat) : Bool := tb v 31 && (objOf s (Machine.field v 23 8) (Machine.field v 7 0)).ty = .u64
/-- Check 14 of SNAP_LIST; the slot after a two-slot object stays 0. -/
def opSnapList (s : State) (x : ReplyTo) : State :=
  let c := (x.req.index.toNat - 0x7140) * 32 + x.req.sub.toNat / 8
  let k := x.req.sub.toNat % 8
  let v := x.req.value
  let y := codeOf s c
  let second := decide (0 < k) && s.snapWide (get 0 y.snaps (k - 1)).toNat
  let word : Word := if second then 0 else BitVec.ofNat 32 (v % 2 ^ 24 + bit (tb v 31) 31)
  let wide := s.snapWide v && !second
  s.check14 x (k < payloadOf c || (tb v 31 && !s.snapOk v) || (wide && k = 7)) false false (fun t =>
    let z : CodeSt := { y with snaps := if wide then put (put y.snaps k word) (k + 1) 0 else put y.snaps k word }
    ({ t with moraine.codes := put t.moraine.codes c z }).limitRecord x c (get 0 y.snaps k).toNat)
/-- Check 14 of NOTIFY_SEVERITY. -/
def opNotify (s : State) (x : ReplyTo) : State :=
  s.check14 x (4 < x.req.value) false false (fun t => { t with moraine.notify := BitVec.ofNat 8 x.req.value })

end State

/-- MORAINE_TRIGGER (R413). -/
def execMoraineTrigger (code unit : Nat) (payload : List Word) (s : State) : Host.Outcome State Fault Refusal := .next (s.opTrigger code unit payload)
/-- MORAINE_ACCEPT (R408). -/
def execMoraineAccept (s : State) : Host.Outcome State Fault Refusal := .next s.opAccept
/-- POST (R426). -/
def execPost (port code unit : Nat) (payload : List Word) (s : State) : Host.Outcome State Fault Refusal := .next (s.opPost port code unit payload)
/-- PERSIST_TICK (R417). -/
def execPersistTick (s : State) : Host.Outcome State Fault Refusal := .next s.opPersistTick
/-- PERSIST_COMPLETE (R417). -/
def execPersistComplete (ok1 ok2 : Bool) (s : State) : Host.Outcome State Fault Refusal := .next (s.opPersistComplete ok1 ok2)
/-- MORAINE_CLEAR (R425). -/
def execMoraineClear (s : State) : Host.Outcome State Fault Refusal := .next s.opMoraineClear
/-- MORAINE_CURSOR (R423). -/
def execMoraineCursor (r : Req) (s : State) : Host.Outcome State Fault Refusal := .next (if rowFor r 0x7121 0 then s.forwarded r 2 State.opMoraineCursor else s)
/-- RATE_LIMIT (R415). -/
def execRateLimit (r : Req) (s : State) : Host.Outcome State Fault Refusal :=
  .next (if 0x7130 ≤ r.index.toNat ∧ r.index.toNat ≤ 0x7133 then s.forwarded r 2 State.opRateLimit else s)
/-- SNAP_LIST (R411). -/
def execSnapList (r : Req) (s : State) : Host.Outcome State Fault Refusal :=
  .next (if 0x7140 ≤ r.index.toNat ∧ r.index.toNat ≤ 0x715F then s.forwarded r 2 State.opSnapList else s)

end Sys2Proof.Machine
end

