-- ==== Sys2Proof/Machine/Modes.lean ====
section
/-! DEFINITION. Mode requests and the two-phase mode change (02). -/
namespace Sys2Proof.Machine
namespace State

/-! ## Entering reset and beginning resynchronisation -/

/-- The module asserts its own power-on reset: it is in COLD and owns nothing (Table 2.6, R306), an immediate change with its E-0x020 (R41); the rest of the reset comes with its release. -/
def assertReset (s : State) (session : Word := 0) : State :=
  let d := s.dropOwn 6
  let t := (if d.mode.current = .cold then d.endDebug.cancelTrim else d.immediate .cold session).endAllSessions
  { t with mode.inReset := true, mode.resetAt := t.time.now, mode.prep := none, hub.aliveFrozen := true, pair.waitUntil := none, pair.claimWait := none }
/-- Resynchronisation begins (R336): the phases after PAIRING need a paired partner, and IMAGE is over at once when this module holds the partner's executing image. -/
def beginResync (s : State) : State :=
  let here := s.pair.partnerImage.isSome && s.pair.partnerImage = s.image.map (·.hash)
  ({ s with pair.stale := false, pair.staleFromStep := false, pair.linkKept := s.pair.syncUp }).startPhase
    (if !s.pair.paired then 1 else if here then 3 else 2)

/-! ## Requests (R21 to R28) -/

/-- A request finds another under way (R26). -/
def modeBusy (s : State) : Bool := s.mode.prep.isSome || s.mode.inTransition || s.exchangeOpen
/-- A two-phase request is accepted: the PREPARE phase begins (R28). -/
def accept (s : State) (x : ReplyTo) (v : Nat) : State :=
  let p : Prep := { target := modeOf (v % 256), exclude := tb v 8, release := tb v 9, session := x.session, since := s.time.mono }
  ({ s with mode.prep := some p, mode.reqResult := 1, mode.reqUnit := 0, mode.reqReason := 0, mode.reqSeq := s.mode.reqSeq + 1,
            mode.reqSession := x.session }).modeRecord 1 s.mode.current p.target 1 x.session
/-- The module may make a two-phase change to a mode now (Table 2.6, R24, R46), SERVICE to HOLD apart, which only SERVICE_REQUEST makes. -/
def mayGo (s : State) (target : Mode) (release : Bool) : Bool :=
  match s.mode.current, target with
  | .run, .hold => true
  | .hold, .run => true
  | .safe, .run => s.pair.ownSelf && !s.safeCause
  | .safe, .hold => s.pair.ownSelf && !s.safeCause
  | .track, .service => !release
  | .hold, .service => !release || s.partnerInStep
  | _, _ => false
/-- Check 14 of MODE_REQUEST. -/
def opModeRequest (s : State) (x : ReplyTo) : State :=
  let v := x.req.value
  let m := modeOf (v % 256)
  s.check14Later x (512 ≤ v || !(v % 256 = 2 || v % 256 = 3)) s.modeBusy (!(s.pair.ownSelf && s.mayGo m false))
    (fun t => (t.accept x v).answer x 0)
/-- SERVICE_REQUEST with TARGET 1: an immediate change to TRACK, after a power-on reset where R336 asks for one. -/
def goTrack (s : State) (x : ReplyTo) : State :=
  let t := { s with mode.reqResult := 3, mode.reqUnit := 0, mode.reqReason := 0, mode.reqSeq := s.mode.reqSeq + 1, mode.reqSession := x.session }
  if s.pair.linkKept && s.pair.syncUp then ((t.immediate .track x.session).beginResync).answer x 0 else (t.answer x 0).assertReset x.session
/-- TRACK is open to SERVICE_REQUEST: from SERVICE or a cleared SAFE, while the partner owns (Table 2.6). -/
def mayTrack (s : State) : Bool :=
  !s.pair.ownSelf && s.pair.ownPeer && (s.mode.current = .service || (s.mode.current = .safe && !s.safeCause))
/-- Check 14 of SERVICE_REQUEST. -/
def opServiceRequest (s : State) (x : ReplyTo) : State :=
  let v := x.req.value
  let n := v % 256
  s.check14Later x (1024 ≤ v || !(n = 1 || n = 3 || n = 4) || (tb v 9 && n ≠ 4)) s.modeBusy
    (if n = 1 then !s.mayTrack else if n = 3 then !(s.mode.current = .service && s.pair.ownSelf) else !s.mayGo .service (tb v 9))
    (fun t => if n = 1 then t.goTrack x else (t.accept x v).answer x 0)
/-- Check 14 of POWER_UP_POLICY (Table 2.2). -/
def opPowerUpPolicy (s : State) (x : ReplyTo) : State :=
  s.check14 x (1 < x.req.value) false false (fun t => { t with mode.powerUpPolicy := BitVec.ofNat 8 x.req.value })
/-- Check 14 of PREPARE_TIMEOUT (Table 2.2). -/
def opPrepareTimeout (s : State) (x : ReplyTo) : State :=
  s.check14 x (x.req.value < 10 || 1000 < x.req.value) false false (fun t => { t with mode.prepareTimeout := BitVec.ofNat 16 x.req.value })

/-! ## The PREPARE phase (R29 to R32) -/

/-- The units of the Unit Table in rising order; unit 0 always exists (R84). -/
def unitNumbers (s : State) : List Nat := sortBy id ((0 :: s.units.map (·.unit)).eraseDups)
/-- A trim or a HART transaction is in progress on a channel (Table 2.7). -/
def channelBusy (s : State) (c : Nat) : Bool :=
  s.field.trim.elim false (fun t => t.channel = c) || (0x20 ≤ c && c < 0x30 && (get ({} : Hart) s.field.harts (c - 0x20)).result = 1)
/-- The reasons of Table 2.7 that a unit has. -/
def reasons (s : State) (p : Prep) (u : Nat) : List Nat :=
  let insts := s.unitInsts u
  (if s.unitFenced u then [1] else [])
    ++ (if (p.target = .run ∨ (p.target = .hold ∧ s.mode.current = .safe)) ∧ (s.unitCauses u).any (fun d => (detAttr d).elim false (fun a => a.cls = 3)) then [2] else [])
    ++ (if insts.any (fun i => (s.task i.task).halted) then [3] else [])
    ++ (if p.target = .hold ∧ s.mode.current = .service ∧ (s.unitChannels u).any (fun c => s.channelBusy c.channel) then [4] else [])
    ++ (if p.target = .run ∧ insts.any (fun i => (s.taskDecl i.task).isNone) then [5] else [])
    ++ (if p.release ∧ u = 0 ∧ !s.partnerInStep then [6] else [])
/-- The one reason a unit gives: FENCED only when it is the sole one (R29). -/
def reasonOf (l : List Nat) : Option Nat :=
  match l.filter (· ≠ 1) with
  | [] => l.head?
  | k :: _ => some k
/-- The refusing unit of lowest number, with its reason, FENCED excused where the request says so (R30, R32). -/
def refusal (s : State) (p : Prep) : Option (Nat × Nat) :=
  (s.unitNumbers.filterMap (fun u => (reasonOf (s.reasons p u)).elim none (fun k => if k = 1 ∧ p.exclude then none else some (u, k)))).head?
/-- The tasks of the Task Table as a mask. -/
def taskMask (s : State) : BitVec 16 := BitVec.ofNat 16 (s.tasks.foldl (fun a d => a + bit (!tb a d.task) d.task) 0)
/-- An output without a producer task adopts at COMMIT; a signal with one carries TRANSITION (R16, R37). -/
def commitSignal (s : State) (m : Mode) (g : Sig) : Sig :=
  if g.producer.elim false (fun t => (s.taskDecl t).isSome) then { g with transition := true }
  else if g.producer.isNone then adoptOutput (s.unitFenced g.unit) m g else g
/-- The transition is complete: CURRENT takes the target (R36). -/
def completeMode (s : State) : State :=
  let old : Mode := s.mode.current
  let t := ({ s with mode.current := s.mode.target, mode.inTransition := false, mode.commitAt := none, mode.reqResult := 3, mode.leavingSafe := false }).modeRecord 3 old
    s.mode.target 3 s.mode.reqSession |>.safeLeft old
  if old = .track then { t.leaveStep 4 0 with pair.phase := 0 } else t
/-- COMMIT of a two-phase change at this instant (R33, R36, R37, R49, R369). -/
def commitMode (s : State) (target : Mode) (release : Bool) (session : Word) : State :=
  let old : Mode := s.mode.current
  let s0 := if old = .service ∧ target ≠ .service then s.leaveService false else s
  let t : State := { s0 with
    mode := { s0.mode with target := target, inTransition := true, epoch := s0.mode.epoch + 1, pending := s0.taskMask, commitAt := some s0.time.mono,
                           prep := none, reqResult := 2, reqSession := session, leavingSafe := decide (old = Mode.safe) }
    sig.entries := mapTab s0.sig.entries (fun _ g => s0.commitSignal target g)
    hub.aliveFrozen := if old = Mode.safe then s0.hub.leafStopped else s0.hub.aliveFrozen }
  let u := t.modeRecord 2 old target 2 session
  let v := if release then u.dropOwn 2 else u
  let w := if t.mode.pending = 0 then v.completeMode else v
  (if old = Mode.safe then w.gatesChanged else w.redrive).settle
/-- Every unit has replied: the change is aborted on a refusal, or committed (R32, R33). -/
def opPrepareComplete (s : State) : State :=
  match s.mode.prep with
  | none => s
  | some p =>
    match s.refusal p with
    | some (u, k) =>
      ({ s with mode.prep := none, mode.reqResult := 4, mode.reqUnit := BitVec.ofNat 12 u, mode.reqReason := BitVec.ofNat 8 k }).modeRecord 4 s.mode.current
        p.target 4 p.session
    | none =>
      let told := if s.pair.ownSelf && s.partnerInStep then s.sendSync (.epoch (s.mode.epoch + 1) p.target.code s.time.mono false) else s
      let excused := s.unitNumbers.filter (fun u => reasonOf (s.reasons p u) = some 1)
      (({ told with mode.excused := excused }).abortBoth 5).abortHandover.commitMode p.target p.release p.session
/-- PREPARE_TIMEOUT runs out before every unit has replied (R32). -/
def opPrepareTimeoutEnd (s : State) : State :=
  if s.mode.prep.elim false (fun p => decide (p.since + s.mode.prepareTimeout.toNat * 1000000 ≤ s.time.mono)) then s.abortPrepare 5 else s

end State

/-- The low byte of a request's value. -/
def targetOf (r : Req) : Nat := r.value % 256

/-- MODE_REQUEST_RUN (R21 to R28). -/
def execModeRequestRun (r : Req) (s : State) : Host.Outcome State Fault Refusal :=
  .next (if rowFor r 0x2001 0 && targetOf r = 2 then s.forwarded r 2 State.opModeRequest else s)
/-- MODE_REQUEST_HOLD (R21 to R28). -/
def execModeRequestHold (r : Req) (s : State) : Host.Outcome State Fault Refusal :=
  .next (if rowFor r 0x2001 0 && targetOf r = 3 then s.forwarded r 2 State.opModeRequest else s)
/-- SERVICE_REQUEST_SERVICE (R21 to R28). -/
def execServiceRequestService (r : Req) (s : State) : Host.Outcome State Fault Refusal :=
  .next (if rowFor r 0x2003 0 && targetOf r = 4 then s.forwarded r 2 State.opServiceRequest else s)
/-- SERVICE_REQUEST_HOLD (R21 to R28). -/
def execServiceRequestHold (r : Req) (s : State) : Host.Outcome State Fault Refusal :=
  .next (if rowFor r 0x2003 0 && targetOf r = 3 then s.forwarded r 2 State.opServiceRequest else s)
/-- SERVICE_REQUEST_TRACK (R21, R28). -/
def execServiceRequestTrack (r : Req) (s : State) : Host.Outcome State Fault Refusal :=
  .next (if rowFor r 0x2003 0 && targetOf r = 1 then s.forwarded r 2 State.opServiceRequest else s)
/-- PREPARE_COMPLETE (R32, R33). -/
def execPrepareComplete (s : State) : Host.Outcome State Fault Refusal := .next s.opPrepareComplete
/-- PREPARE_TIMEOUT (R32). -/
def execPrepareTimeout (s : State) : Host.Outcome State Fault Refusal := .next s.opPrepareTimeoutEnd

end Sys2Proof.Machine
end

