-- ==== Sys2Proof/Machine/Signals.lean ====
section
/-! DEFINITION. Writes of signal values and forces (05). -/
namespace Sys2Proof.Machine

/-- A value suits a signal's TYPE (R150). -/
def suits (type v : Nat) : Bool := if type = 0 then decide (v ≤ 1) else if type = 3 then realOk v else true

namespace State

/-- A change of the Signal Image goes out on STREAM while this module owns the outputs (R317). -/
def streamSig (s : State) (g : Nat) : State :=
  if !s.pair.ownSelf || !s.pair.syncUp then s else
  let e := s.sigOf g
  let c : StreamChange := { sequence := s.pair.streamSeq + 1, signal := g, value := e.value, quality := e.quality, source := e.source,
                            flags := BitVec.ofNat 3 (bit e.wireBreak 2 + bit e.overrange 1 + bit e.underrange 0) }
  { s with pair.streamSeq := s.pair.streamSeq + 1, pair.out := s.pair.out ++ [.input c] }
/-- An entry written by a source of this module, told to the partner when it is new; STALE ends on an input (R143, R317, R330). -/
def sourceSig (s : State) (g : Nat) (f : Sig → Sig) : State :=
  let t := s.setSig g (fun e => let n := f e; { n with stale := n.stale && n.direction ≠ 1 })
  if (t.sigOf g) = (s.sigOf g) then t else t.streamSig g

/-- Check 14 of SIGNAL_VALUE: VALUE, SOURCE 3 and GOOD (R150, R151). -/
def opSignalValue (s : State) (x : ReplyTo) : State :=
  let g := sigNo x.req.index.toNat x.req.sub.toNat
  s.check14 x (!suits (s.sigOf g).type x.req.value) false false (fun t =>
    (t.sourceSig g (fun e => { e with value := BitVec.ofNat 32 x.req.value, source := 3, quality := 0 })).settle)
/-- A force write waits for the next commit delta (R159). -/
def queueForce (s : State) (g : Nat) : State :=
  let e := s.sigOf g
  if s.pair.ownSelf && s.pair.syncUp then { s with pair.forceOut := s.pair.forceOut ++ [⟨g, e.forced, e.forceValue⟩] } else s
/-- The record of a force: signal, session, force value (R158). -/
def forceRecord (s : State) (code g : Nat) (session : Word) : State := s.trigger code [g, session.toNat, (s.sigOf g).forceValue.toNat]
/-- Check 14 of FORCE_VALUE (R150, R154, R155). -/
def opForceValue (s : State) (x : ReplyTo) : State :=
  let g := sigNo x.req.index.toNat x.req.sub.toNat
  let on := (s.sigOf g).forced
  s.check14 x (!suits (s.sigOf g).type x.req.value) false (on && s.mode.current = .safe) (fun t =>
    let u := (t.setSig g (fun e => { e with forceValue := BitVec.ofNat 32 x.req.value })).queueForce g
    if on then u.forceRecord 0x050 g x.session else u)
/-- A force released, with E-0x051. -/
def releaseForce (s : State) (g : Nat) (session : Word) : State :=
  if (s.sigOf g).forced then ((s.setSig g (fun e => { e with forced := false })).queueForce g).forceRecord 0x051 g session else s
/-- A force is set only in RUN, HOLD and SERVICE (R155). -/
def mayForce (s : State) : Bool := s.mode.current = .run || s.mode.current = .hold || s.mode.current = .service
/-- Check 14 of FORCE_STATE (R154, R155, R158). -/
def opForceState (s : State) (x : ReplyTo) : State :=
  let g := sigNo x.req.index.toNat x.req.sub.toNat
  let v := x.req.value
  s.check14 x (1 < v) false (v = 1 && !s.mayForce) (fun t =>
    if v = 1 then (((t.setSig g (fun e => { e with forced := true })).queueForce g).forceRecord 0x050 g x.session).settle
    else (t.releaseForce g x.session).settle)
/-- Check 14 of FORCE_RELEASE_ALL: every force of the subtree (R158, Table 5.1). -/
def opReleaseAll (s : State) (x : ReplyTo) : State :=
  let u := x.req.index.toNat - 0x3000
  s.check14 x (x.req.value ≠ 1) false false (fun t =>
    (((t.sig.entries.filter (fun e => e.2.forced && t.within u e.2.unit)).map (·.1)).foldl (fun w g => w.releaseForce g x.session) t).settle)

end State

/-- SIGNAL_VALUE_WRITE (R151). -/
def execSignalValueWrite (r : Req) (s : State) : Host.Outcome State Fault Refusal :=
  .next (if 0x6000 ≤ r.index.toNat ∧ r.index.toNat ≤ 0x60FF then s.completed r 2 State.opSignalValue else s)
/-- FORCE_VALUE_WRITE (R154). -/
def execForceValueWrite (r : Req) (s : State) : Host.Outcome State Fault Refusal :=
  .next (if 0x6200 ≤ r.index.toNat ∧ r.index.toNat ≤ 0x62FF then s.completed r 2 State.opForceValue else s)
/-- FORCE_SET (R154, R155). -/
def execForceSet (r : Req) (s : State) : Host.Outcome State Fault Refusal :=
  .next (if 0x6300 ≤ r.index.toNat ∧ r.index.toNat ≤ 0x63FF ∧ r.value = 1 then s.completed r 2 State.opForceState else s)
/-- FORCE_RELEASE (R154, R155). -/
def execForceRelease (r : Req) (s : State) : Host.Outcome State Fault Refusal :=
  .next (if 0x6300 ≤ r.index.toNat ∧ r.index.toNat ≤ 0x63FF ∧ r.value = 0 then s.completed r 2 State.opForceState else s)
/-- FORCE_RELEASE_ALL (R158). -/
def execForceReleaseAll (r : Req) (s : State) : Host.Outcome State Fault Refusal :=
  .next (if 0x3000 ≤ r.index.toNat ∧ r.index.toNat ≤ 0x3FFF ∧ r.sub = 0x12 then s.forwarded r 2 State.opReleaseAll else s)

end Sys2Proof.Machine
end

