-- ==== Sys2Proof/Machine/CapOps.lean ====
section
/-! DEFINITION. The Capture Engine's shared operations: arm states, the reorder stage, the buffer, firing and the end of a capture with its measurements (14). -/
namespace Sys2Proof.Machine

/-! ## Measurements (R446) -/

/-- A value that cannot be determined. -/
def noValue : Word := 0xFFFFFFFF
/-- The mean of values held over spans, rounded to nearest; at an exact half the manual does not say which way, so the last argument decides. -/
def roundedMean (sum : Int) (total : Nat) (up : Bool) : Word :=
  if total = 0 then noValue else
  let q := sum / (total : Int)
  let r := sum % (total : Int)
  i32 (if (total : Int) < 2 * r ∨ (2 * r = (total : Int) ∧ up) then q + 1 else q)
/-- The sum of a value over time from an instant to another, each value held until the next record. -/
def heldSum (value : CapItem → Int) : Int → Nat → List CapItem → Nat → Int
  | v, t, [], stop => v * ((stop : Int) - t)
  | v, t, x :: rest, stop => v * ((x.time : Int) - t) + heldSum value (value x) x.time rest stop
/-- The last complete high interval: a rising edge and the falling edge after it. -/
def lastPulse : Option Nat → Word → List CapItem → Word
  | _, p, [] => p
  | up, p, x :: rest =>
    if x.value.getLsbD 0 then lastPulse (some (up.getD x.time)) p rest
    else lastPulse none (up.elim p (fun t => BitVec.ofNat 32 (x.time - t))) rest
/-- µs between the last two rising edges. -/
def lastPeriod (l : List CapItem) : Word :=
  match (l.filter (fun x => x.value.getLsbD 0)).reverse with
  | x :: y :: _ => BitVec.ofNat 32 (x.time - y.time)
  | _ => noValue
/-- µs from the first record at a tenth of the rise to the first later one at nine tenths. -/
def riseTime (value : CapItem → Int) (low high : Int) (l : List CapItem) : Word :=
  if high = low then noValue else
  match l.dropWhile (fun x => decide (10 * (value x - low) < high - low)) with
  | [] => noValue
  | x :: rest => (rest.find? (fun y => decide (9 * (high - low) ≤ 10 * (value y - low)))).elim noValue (fun y => BitVec.ofNat 32 (y.time - x.time))
/-- An analog input's capture channel (Table 14.1). -/
def analogChannel (c : Nat) : Bool := 0x20 ≤ c && c < 0x28
/-- One member's measurements over a window: its records in it in TIME order, and its last record before it. -/
def measure (c : Nat) (before : Option CapItem) (l : List CapItem) (start stop : Nat) (up : Bool) : Measure :=
  let value : CapItem → Int := fun x => if analogChannel c then sgn x.value else (x.value.toNat % 2 : Nat)
  match before.orElse (fun _ => l.head?) with
  | none => { channel := c, noStart := true }
  | some b =>
    let vs := value b :: l.map value
    let low := vs.foldl min (value b)
    let high := vs.foldl max (value b)
    let sum := heldSum value (value b) start l stop
    { channel := c, noStart := before.isNone, changes := BitVec.ofNat 32 l.length
      period := if analogChannel c then noValue else lastPeriod l
      pulse := if analogChannel c then noValue else lastPulse none noValue l
      low := i32 low, high := i32 high
      mean := roundedMean (if analogChannel c then sum else sum * 1000000) (stop - start) up
      rise := if analogChannel c then riseTime value low high l else noValue }

/-- A record carries a change, not a marker (Table 14.2). -/
def CapItem.change (x : CapItem) : Bool := x.kind.toNat / 64 = 0
/-- The order of the reorder stage (R435). -/
def CapItem.order (x : CapItem) : Nat := x.time * 2 ^ 17 + (if x.change then x.channel % 65536 else 65536)

namespace State

/-! ## Arm states (R438, R441, R442) -/

/-- Monotonic time in µs. -/
def nowUs (s : State) : Nat := s.time.mono / 1000
/-- A capture group. -/
def cap (s : State) (g : Nat) : CapGroup := get {} s.capture.groups g
/-- A capture group rewritten. -/
def setCap (s : State) (g : Nat) (f : CapGroup → CapGroup) : State := { s with capture.groups := put s.capture.groups g (f (s.cap g)) }
/-- The held captures have changed: CAPTURE_INDEX is replaced as a whole (R92). -/
def indexChanged (s : State) : State := s.replaced 0x7223 0
/-- A change of arm state goes to an in-step partner with the next commit delta. -/
def tellArm (s : State) (g : Nat) (on : Bool) : State :=
  if s.pair.ownSelf && s.partnerInStep then { s with pair.armOut := s.pair.armOut ++ [(g, on)] } else s
/-- A group armed or disarmed, with E-0x0D4. -/
def setArm (s : State) (g : Nat) (on : Bool) : State :=
  if (s.cap g).armed = on then s else ((s.setCap g (fun x => { x with armed := on })).tellArm g on).trigger 0x0D4 []
/-- A declared group. -/
def groupDecl (s : State) (g : Nat) : Option GroupDecl := s.image.elim none (fun i => i.groups.find? (fun d => d.group = g))
/-- At a swap a group of the same number and master unit keeps its arm state, any other is disarmed (R442). -/
def swapGroups (s : State) (old new : Image) : State :=
  (s.capture.groups.map (·.1)).foldl (fun u g =>
    if new.groups.any (fun d => d.group = g && old.groups.any (fun e => e.group = g && e.masterUnit = d.masterUnit)) then u else u.setArm g false) s

/-! ## The reorder stage and the buffer (R433 to R436, R443) -/

/-- A marker waits in TIME order with the records. -/
def capMarker (s : State) (time code payload b : Nat) : State :=
  { s with capture.waiting := s.capture.waiting ++ [{ time := time, channel := code, value := BitVec.ofNat 32 payload, cause := BitVec.ofNat 8 b, kind := 0x40 }] }
/-- An OFFSET pair (Table 14.3). -/
def offsetPair (s : State) (time : Nat) (offset : Int) (b : Nat) : State :=
  let v := (BitVec.ofInt 64 offset).toNat
  (s.capMarker time 3 (v / 2 ^ 32) b).capMarker time 4 (v % 2 ^ 32) b
/-- The pairs of a step or of a clock that becomes valid (R434). -/
def stepPairs (s : State) (old new : Int) : State := (s.offsetPair s.nowUs old 1).offsetPair s.nowUs new 2
/-- Sequence number of the next record (R433). -/
def capSeq (s : State) : DWord := BitVec.ofNat 64 (s.capture.epoch * 2 ^ 44 + s.capture.count)
/-- A record that a held capture pins. -/
def pins (s : State) (x : CapItem) : Bool := s.capture.held.any (fun h => h.first ≤ x.seq && x.seq ≤ h.last)
/-- The record that the next one overwrites: the oldest unpinned one of a full buffer (R443). -/
def oldestFree (s : State) : Option CapItem :=
  if s.capture.buffer.length < 262144 then none else (takeOut (fun x => !s.pins x) s.capture.buffer.reverse).map (·.1)
/-- The buffer with room for one record. -/
def roomy (s : State) : List CapItem :=
  if s.capture.buffer.length < 262144 then s.capture.buffer
  else ((takeOut (fun x => !s.pins x) s.capture.buffer.reverse).elim s.capture.buffer (fun p => p.2.reverse))
/-- Pinned slots at most (R443). -/
def pinLimit (s : State) : Nat := s.capture.share.toNat * 262144 / 100
/-- The member channels of a group. -/
def membersOf (s : State) (g : Nat) : List Nat :=
  sortBy id (s.image.elim [] (fun i => (i.channels.filter (fun b => b.capture && b.group = some g)).map (·.channel)))
/-- The items of a capture: member records and markers in its range, in TIME order. -/
def itemsOf (s : State) (c : Capture) : List CapItem :=
  sortBy CapItem.order (s.capture.buffer.reverse.filter (fun x => !x.dead && c.first ≤ x.seq && x.seq ≤ c.last && (!x.change || c.members.any (fun m => m.channel = x.channel))))
/-- A capture measured over its window. -/
def measured (s : State) (c : Capture) (stop : Nat) : Capture :=
  let items := s.itemsOf c
  let start := if c.preCut then items.head?.elim c.trigTime (·.time) else c.trigTime - (s.cap c.group).pre.toNat
  let up := (s.freeAt 0).getLsbD 0
  { c with ended := true, members := c.members.map (fun m =>
      measure m.channel ((s.capture.buffer.filter (fun x => !x.dead && x.change && x.channel = m.channel && decide (x.time < start))).head?)
        (items.filter (fun x => x.change && x.channel = m.channel && decide (start ≤ x.time) && decide (x.time ≤ stop))) start stop up) }
/-- A capture ends: measurements, CAPTURE_END marker, an entry in queue 64 whose words the manual does not give, E-0x0D1, the re-arm (R440, R441). -/
def endCapture (s : State) (c : Capture) (stop : Nat) : State :=
  let m := s.measured c stop
  let t := { s with capture.held := s.capture.held.map (fun (h : Capture) => if h.number = c.number then m else h), draws := s.draws + 5 }
  let u := ((t.capMarker stop 7 c.number c.group).produce 64 [s.freeAt 1, s.freeAt 2, s.freeAt 3, s.freeAt 4]).trigger 0x0D1
    [bit m.preCut 0 + bit m.truncated 1 + bit m.damaged 2, (s.itemsOf c).length]
  let x := s.cap c.group
  let v := (u.setCap c.group (fun y => { y with firing := none, rearmCancelled := false })).indexChanged
  if x.rearm = 1 ∧ !x.rearmCancelled then v.setArm c.group true else v
/-- The captures that still fire take a record of their post-window into their range, or end early when the share is reached. -/
def extendCaptures (s : State) (x : CapItem) : State :=
  (s.capture.held.filter (fun h => !h.ended)).foldl (fun u c =>
    if c.trigTime + (u.cap c.group).post.toNat < x.time ∨ x.time < c.trigTime - (u.cap c.group).pre.toNat ∨ x.seq ≤ c.last then u
    else if u.pinLimit ≤ pinnedCount u then (u.endCapture { c with truncated := true } x.time).occurOpen 274
    else { u with capture.held := u.capture.held.map (fun (h : Capture) => if h.number = c.number then { h with last := x.seq } else h) }) s
/-- One record into the buffer under the next sequence number. -/
def pushItem (s : State) (x : CapItem) : State :=
  let y := { x with seq := s.capSeq }
  let full := s.capture.count = 0xFFFFFFFFFFF
  let gone := (s.oldestFree.map (·.time)).elim s.capture.overwritten (fun t => some (max t (s.capture.overwritten.getD 0)))
  ({ s with capture.buffer := y :: s.roomy, capture.overwritten := gone, capture.stored := s.capture.stored + 1
            capture.epoch := if full then s.capture.epoch + 1 else s.capture.epoch, capture.count := if full then 0 else s.capture.count + 1 }).extendCaptures y
/-- TIME_HIGH at a time. -/
def timeHigh (s : State) (time : Nat) : State :=
  s.pushItem { time := time, channel := 2, value := BitVec.ofNat 32 (time / 2 ^ 48 % 65536), kind := 0x40 }
/-- The markers that stand where COUNT has 0 in its low 16 bits: SEQ_HIGH, TIME_HIGH at COUNT 1 and at a change, an OFFSET pair when the wall clock is valid (R433). -/
def seqMarkers (s : State) (time : Nat) (changed : Bool) : State :=
  if s.capture.count % 65536 ≠ 0 then (if changed then s.timeHigh time else s) else
  let t := s.pushItem { time := time, channel := 1, value := BitVec.ofNat 32 (s.capture.count / 65536), kind := 0x40 }
  let u := if t.capture.count = 1 ∨ changed then t.timeHigh time else t
  let v := (BitVec.ofInt 64 s.time.align).toNat
  if s.time.wallValid then
    (u.pushItem { time := time, channel := 3, value := BitVec.ofNat 32 (v / 2 ^ 32), kind := 0x40 }).pushItem { time := time, channel := 4, value := BitVec.ofNat 32 v, kind := 0x40 }
  else u
/-- A record with the markers that precede it: TIME_HIGH at a change, DROPPED after drops (R433, R436). -/
def writeItem (s : State) (x : CapItem) : State :=
  let t := s.seqMarkers x.time (s.capture.buffer.head?.elim false (fun y => y.time / 2 ^ 48 ≠ x.time / 2 ^ 48))
  let u := if t.capture.droppedRun = 0 then t else
    ({ t with capture.droppedRun := 0 }).pushItem { time := x.time, channel := 5, value := BitVec.ofNat 32 t.capture.droppedRun, kind := 0x40 }
  (u.seqMarkers x.time false).pushItem x
/-! ## Firing (R439, R443, R444) -/

/-- A change record meets a member's trigger condition: 1 rising, 2 falling, 3 either edge, 4 HIGH crossing, 5 LOW crossing. -/
def meets (b : ChannelDecl) (x : CapItem) : Bool :=
  match b.trigger with
  | 1 => x.value.getLsbD 0
  | 2 => !x.value.getLsbD 0
  | 3 => true
  | 4 => x.cause.getLsbD 1 || x.cause.getLsbD 2
  | 5 => x.cause.getLsbD 3 || x.cause.getLsbD 4
  | _ => false
/-- The group fires at the newest record of the buffer, or is refused when 64 captures are held. -/
def fire (s : State) (g : Nat) (x : CapItem) : State :=
  if 64 ≤ s.capture.held.length then (s.occurOpen 274).trigger 0x0D2 [] else
  let n := s.capture.nextNumber
  let start := x.time - (s.cap g).pre.toNat
  let seqs := (s.capture.buffer.filter (fun y => decide (start ≤ y.time))).map (fun y => y.seq.toNat)
  let wanted := seqs.foldl min x.seq.toNat
  let allowed := s.pinLimit - pinnedCount s
  let first := max wanted (x.seq.toNat + 1 - allowed)
  let lost := s.capture.overwritten.elim false (fun t => decide (start ≤ t))
  let cut := decide (wanted < first) || lost
  let c : Capture := { number := n, group := g, preCut := cut, trigger := x.channel, trigTime := x.time, first := BitVec.ofNat 64 first, last := x.seq,
                       offset := if s.time.wallValid then s.time.align else 0, members := (s.membersOf g).map (fun k => ({ channel := k } : Measure)) }
  let t := ({ s with
    capture.held := s.capture.held ++ [c], capture.nextNumber := n + 1, draws := s.draws + 4
    capture.buffer := s.capture.buffer.map (fun (y : CapItem) => if y.seq = x.seq then { y with kind := y.kind ||| 0x20 } else y) }).setCap g
      (fun y => { y with armed := false, firing := some n, rearmCancelled := false, fires := y.fires + 1, last := BitVec.ofNat 32 n }) |>.indexChanged
  let u := ((t.tellArm g false).capMarker x.time 6 n g).produce 64 [s.freeAt 0, s.freeAt 1, s.freeAt 2, s.freeAt 3]
  let v := if s.time.wallValid then u.offsetPair x.time s.time.align 0 else u
  let w := v.trigger 0x0D0 [g, n, x.channel, x.time % 2 ^ 32, x.time / 2 ^ 32]
  if cut then w.occurOpen 274 else w
/-- The writer takes a record into the buffer, and its group may fire on it. -/
def stored (s : State) (x : CapItem) : State :=
  let t := s.writeItem x
  if !x.change then t else
  match t.capture.buffer.head?, t.binding x.channel with
  | some y, some b => (b.group.elim t (fun g => if (t.cap g).armed && meets b x && (t.groupDecl g).isSome then t.fire g y else t))
  | _, _ => t
/-- A record has been held for REORDER_DELAY. -/
def ripe (s : State) (x : CapItem) : Bool := decide (x.time + s.capture.reorderDelay.toNat ≤ s.nowUs)
/-- A record leaves the reorder stage at an instant, µs: it takes its place in the input queue, whose writer takes one record each µs, or finds 4,096 waiting there and is dropped with D272 (R436). -/
def enqueueCap (s : State) (at' : Nat) (x : CapItem) : State :=
  let out := max at' s.capture.writerFree
  if 4096 ≤ out - at' then ({ s with capture.dropped := s.capture.dropped + 1, capture.droppedRun := s.capture.droppedRun + 1 }).occurOpen 272
  else { s with capture.writerFree := out + 1, capture.queue := insertBy (fun (e : Nat × CapItem) => e.2.order) (out, x) s.capture.queue }
/-- What the writer can take by now is written, and the ripe records leave the reorder stage in the order of R435, in at most n steps. -/
def drain : Nat → State → State
  | 0, s => s
  | n + 1, s =>
    match takeOut (fun (e : Nat × CapItem) => decide (e.1 ≤ s.nowUs)) s.capture.queue with
    | some e => drain n (({ s with capture.queue := e.2 }).stored e.1.2)
    | none =>
      match leastBy CapItem.order (s.capture.waiting.filter s.ripe) with
      | none => s
      | some x => drain n (({ s with capture.waiting := s.capture.waiting.erase x }).enqueueCap (x.time + s.capture.reorderDelay.toNat) x)
/-- Every ripe record, and the markers that their writing brings. -/
def drainAll (s : State) : State := drain (8 * (s.capture.waiting.length + s.capture.queue.length) + 16) s

end State
end Sys2Proof.Machine
end

