-- ==== Sys2Proof/Machine/Capture.lean ====
section
/-! DEFINITION. The commands of the Capture Engine (14). -/
namespace Sys2Proof.Machine
namespace State

/-- The source of a capture channel is fenced and delivers nothing (R437). -/
def capFenced (s : State) (c : Nat) : Bool := if c < 0x30 then s.fenced (0x4B + groupOf c) else (linkOf c).elim true (fun l => s.fenced (0x10 + l.1))
/-- A record arrives from its source: it waits for REORDER_DELAY, or is LATE and goes to the writer at once (R435). -/
def opCapArrival (s : State) (c : CaptureRec) : State :=
  if s.mode.current = .cold ∨ s.capFenced c.channel ∨ !(s.binding c.channel).elim false (·.capture) then s else
  let x : CapItem := { time := c.time, channel := c.channel, value := c.value, cause := c.cause, kind := BitVec.ofNat 8 (bit c.bad 3) }
  if c.time + s.capture.reorderDelay.toNat < s.nowUs then
    ((({ s with capture.late := s.capture.late + 1 }).enqueueCap s.nowUs { x with kind := x.kind ||| 0x10 }).drainAll).occurOpen 275
  else { s with capture.waiting := s.capture.waiting ++ [x] }
/-- A capture ends at T + POST_WINDOW + REORDER_DELAY (R440). -/
def opCaptureEnd (s : State) (g : Nat) : State :=
  match (s.cap g).firing.bind (fun n => s.capture.held.find? (fun c => c.number = n)) with
  | none => s
  | some c =>
    let stop := c.trigTime + (s.cap g).post.toNat
    if s.nowUs < stop + s.capture.reorderDelay.toNat then s else
    let t := s.drainAll
    match t.capture.held.find? (fun d => d.number = c.number && !d.ended) with
    | none => t
    | some d => (t.endCapture d stop).drainAll
/-- Check 14 of GROUP_ARM: 1 arms a group that is neither armed nor firing, 0 disarms it or cancels its re-arm (R438). -/
def opGroupArm (s : State) (x : ReplyTo) : State :=
  let g := x.req.index.toNat - 0x7240
  s.check14 x (1 < x.req.value) false false (fun t =>
    if x.req.value = 1 then (if (t.cap g).firing.isSome then t else t.setArm g true)
    else if (t.cap g).firing.isSome then t.setCap g (fun y => { y with rearmCancelled := true }) else t.setArm g false)
/-- A rising edge of a group's ARM_SIGNAL (R438). -/
def opArmSignal (s : State) (g : Nat) : State :=
  match (s.groupDecl g).bind (·.armSignal) with
  | none => s
  | some n =>
    if (s.cap g).armLevel || (s.sigOf n).effective = 0 then s else
    let t := s.setCap g (fun y => { y with armLevel := true })
    if (t.cap g).firing.isSome then t else t.setArm g true
/-- GROUP_ARM by command or by signal. -/
def opArm (s : State) (b : ArmBy) : State :=
  match b with
  | .signal g => s.opArmSignal g
  | .command r => if 0x7240 ≤ r.index.toNat ∧ r.index.toNat ≤ 0x725F ∧ r.sub = 1 ∧ r.value = 1 then s.forwarded r 2 opGroupArm else s
/-- Check 14 of CAPTURE_RELEASE (R444). A capture that still fires ends its group's firing with it, and the group is armed again under R441: the manual does not say what becomes of it (DESIGN CHOICE). -/
def opCaptureRelease (s : State) (x : ReplyTo) : State :=
  s.check14 x (!s.capture.held.any (fun c => c.number = x.req.value)) false false (fun t =>
    let u := (({ t with capture.held := t.capture.held.filter (fun c => c.number ≠ x.req.value) }).indexChanged).trigger 0x0D3 [x.session.toNat]
    match (t.capture.held.find? (fun c => c.number = x.req.value && !c.ended)).map (·.group) with
    | none => u
    | some g =>
      let v := u.setCap g (fun y => { y with firing := none, rearmCancelled := false })
      if (u.cap g).rearm = 1 ∧ !(u.cap g).rearmCancelled then v.setArm g true else v)
/-- Check 14 of CAPTURE_CURSOR (R447). -/
def opCaptureCursor (s : State) (x : ReplyTo) : State :=
  s.check14 x false (cursorsFull s.capture.cursors x.session) false (fun t =>
    { t with capture.cursors := setCursor t.capture.cursors x.session (cursorOf (oldestCap t) (newestCap t) (BitVec.ofNat 64 x.req.value)) })
/-- Check 14 of REORDER_DELAY. -/
def opReorderDelay (s : State) (x : ReplyTo) : State :=
  s.check14 x (x.req.value < 500 || 20000 < x.req.value) false false (fun t => { t with capture.reorderDelay := BitVec.ofNat 16 x.req.value })
/-- Check 14 of CAPTURE_SHARE. -/
def opCaptureShare (s : State) (x : ReplyTo) : State :=
  s.check14 x (x.req.value < 10 || 75 < x.req.value) false false (fun t => { t with capture.share := BitVec.ofNat 8 x.req.value })
/-- Check 14 of PRE_WINDOW, POST_WINDOW and REARM of a group (Table 14.6). -/
def opCapSetting (s : State) (x : ReplyTo) : State :=
  let g := x.req.index.toNat - 0x7240
  let v := x.req.value
  let busy := (s.cap g).armed || (s.cap g).firing.isSome
  match x.req.sub.toNat with
  | 2 => s.check14 x (10000000 < v) busy false (fun t => t.setCap g (fun y => { y with pre := BitVec.ofNat 32 v }))
  | 3 => s.check14 x (v < 1000 || 60000000 < v) busy false (fun t => t.setCap g (fun y => { y with post := BitVec.ofNat 32 v }))
  | _ => s.check14 x (1 < v) false false (fun t => t.setCap g (fun y => { y with rearm := BitVec.ofNat 8 v }))

end State

/-- CAPTURE_RECORD_ARRIVAL (R436). -/
def execCaptureRecordArrival (c : CaptureRec) (s : State) : Host.Outcome State Fault Refusal := .next (s.opCapArrival c)
/-- REORDER_DELAY_EXPIRY (R435). -/
def execReorderDelayExpiry (s : State) : Host.Outcome State Fault Refusal := .next s.drainAll
/-- CAPTURE_END (R440). -/
def execCaptureEnd (group : Nat) (s : State) : Host.Outcome State Fault Refusal := .next (s.opCaptureEnd group)
/-- GROUP_ARM (R438). -/
def execGroupArm (by_ : ArmBy) (s : State) : Host.Outcome State Fault Refusal := .next (s.opArm by_)
/-- GROUP_DISARM (R438). -/
def execGroupDisarm (r : Req) (s : State) : Host.Outcome State Fault Refusal :=
  .next (if 0x7240 ≤ r.index.toNat ∧ r.index.toNat ≤ 0x725F ∧ r.sub = 1 ∧ r.value = 0 then s.forwarded r 2 State.opGroupArm else s)
/-- CAPTURE_RELEASE (R444). -/
def execCaptureRelease (r : Req) (s : State) : Host.Outcome State Fault Refusal := .next (if rowFor r 0x7202 0 then s.forwarded r 2 State.opCaptureRelease else s)
/-- CAPTURE_CURSOR (R447). -/
def execCaptureCursor (r : Req) (s : State) : Host.Outcome State Fault Refusal := .next (if rowFor r 0x7221 0 then s.forwarded r 2 State.opCaptureCursor else s)

end Sys2Proof.Machine
end

