-- ==== Sys2Proof/Machine/Firn.lean ====
section
/-! DEFINITION. Firn and the Commit Unit: representations, what a pass reads and writes, the vote, commits, resynchronisation and background compare (08). -/
namespace Sys2Proof.Machine

/-! ## The representations (R222 to R224) -/

/-- The range rules of REAL32 (R223). -/
def normReal (w : Word) : Word :=
  let n := w.toNat
  let m := n % 2 ^ 31
  if 0x7F800000 < m then 0x7FC00000
  else if 0x7DFFFFFF < m then BitVec.ofNat 32 (n - m + 0x7DFFFFFF)
  else if m < 0x00800000 then BitVec.ofNat 32 (n - m)
  else w
/-- A plain value in pass p's representation, p 0 to 2 (Table 8.1); types 0 BOOL, 1 I32, 2 U32, 3 REAL32. -/
def encode (p type : Nat) (v : Word) : DWord :=
  match p, type with
  | 0, _ => v.zeroExtend 64
  | 1, 0 => (v ^^^ 1).zeroExtend 64
  | 1, 3 => (v ^^^ 0x80000000).zeroExtend 64
  | 1, _ => (-v).zeroExtend 64
  | _, 0 => if v = 0 then 0x5A else 0xA5
  | _, 1 => BitVec.ofInt 64 (v.toInt * 61441)
  | _, 2 => BitVec.ofNat 64 (v.toNat * 61441)
  | _, _ => if v.toNat % 2 ^ 31 = 0 ∨ 0x7F800000 ≤ v.toNat % 2 ^ 31 then v.zeroExtend 64 else (v + 0x01800000).zeroExtend 64
/-- A REAL32 word that pass A may hold (Table 8.2). -/
def realForm (w : Word) : Bool :=
  let m := w.toNat % 2 ^ 31
  m = 0 || (0x00800000 ≤ m && m < 0x7F800000) || w = 0x7FC00000
/-- The plain value of an entry of pass p, none at a code failure (Table 8.2). -/
def decode (p type : Nat) (d : DWord) : Option Word :=
  let low : Word := BitVec.ofNat 32 d.toNat
  let short := d.toNat < 2 ^ 32
  match p, type with
  | 0, 0 => if short ∧ d.toNat ≤ 1 then some low else none
  | 1, 0 => if short ∧ d.toNat ≤ 1 then some (low ^^^ 1) else none
  | 0, 3 => if short ∧ realForm low then some low else none
  | 1, 3 => if short ∧ realForm (low ^^^ 0x80000000) then some (low ^^^ 0x80000000) else none
  | 0, _ => if short then some low else none
  | 1, _ => if short then some (-low) else none
  | _, 0 => if d = 0x5A then some 0 else if d = 0xA5 then some 1 else none
  | _, 1 => if d.toInt % 61441 = 0 ∧ -2147483648 ≤ d.toInt / 61441 ∧ d.toInt / 61441 ≤ 2147483647 then some (BitVec.ofInt 32 (d.toInt / 61441)) else none
  | _, 2 => if d.toNat % 61441 = 0 ∧ d.toNat / 61441 < 2 ^ 32 then some (BitVec.ofNat 32 (d.toNat / 61441)) else none
  | _, _ =>
    let m := d.toNat % 2 ^ 31
    if !short then none else if m = 0 ∨ low = 0x7FC00000 then some low
    else if 0x02000000 ≤ m ∧ m < 0x7F800000 then some (low - 0x01800000) else none

namespace State

/-! ## State words under the type map (R239) -/

/-- The TYPE of a State A word; U32 where the map gives none. -/
def wordType (s : State) (w : Nat) : Nat :=
  (s.image.elim none (fun i => i.insts.findSome? (fun x => (find s.prog.slots x.id).elim none (fun o =>
    if o ≤ w ∧ w < o + classWords x.slotClass then some ((x.types.getD (w - o) 2).toNat) else none)))).getD 2
/-- A state word as copy p holds it. -/
def copyWord (s : State) (p w : Nat) : DWord :=
  match p with
  | 0 => (get 0 s.firn.stateA w).zeroExtend 64
  | 1 => (find s.firn.stateB w).elim (encode 1 (s.wordType w) 0) (·.zeroExtend 64)
  | _ => (find s.firn.stateC w).getD (encode 2 (s.wordType w) 0)
/-- A page written since its fetch: its frame is DIRTY (Table 7.2). -/
def dirty (s : State) (page : Nat) : State :=
  if s.drift.frames.any (fun e => e.2.page = page && e.2.state ≠ 0 && !e.2.dirty) then
    { s with drift.frames := mapTab s.drift.frames (fun _ x => if x.page = page ∧ x.state ≠ 0 then { x with dirty := true } else x) }
  else s
/-- The virtual page of a state word's copy p (Table 7.1). -/
def copyPage (p w : Nat) : Nat := if p = 0 then 0x18000 + w / 1024 else if p = 1 then 0x20000 + w / 1024 else 0x28000 + w / 512
/-- Copy p of a state word set to a plain value of a TYPE. -/
def setCopy (s0 : State) (p w type : Nat) (v : Word) : State :=
  let s := s0.dirty (copyPage p w)
  match p with
  | 0 => { s with firn.stateA := put s.firn.stateA w v }
  | 1 => { s with firn.stateB := put s.firn.stateB w (BitVec.ofNat 32 (encode 1 type v).toNat) }
  | _ => { s with firn.stateC := put s.firn.stateC w (encode 2 type v) }
/-- All three copies of a state word set (R234). -/
def setWord (s : State) (w type : Nat) (v : Word) : State := ((s.setCopy 0 w type v).setCopy 1 w type v).setCopy 2 w type v

/-! ## What a pass reads and writes (R226 to R231) -/

/-- The core's running pass: its task and release. -/
def runningOn (s : State) (c : Nat) : Option (Nat × Release) := s.releases.find? (fun e => e.2.core = c && e.2.running)
/-- The entry of a signal as a release sees it: forces and substitution as they stood at the release instant (R153, R226). -/
def releaseView (s : State) (t : Nat) (r : Release) (g : Nat) : Word × Half :=
  let e := s.sigOf g
  match r.snaps.find? (fun x => x.signal = g) with
  | none => (e.effective, e.status)
  | some x =>
    if e.latched && e.producer ≠ some t then (x.value, x.status)
    else
      let y : Sig := { e with forced := x.forced, forceValue := x.forceValue, substituted := x.substituted }
      (y.effective, y.status)
/-- A read's record into the input digest (R227). -/
def digest (d : DWord) (g kind : Nat) (v : Word) : DWord := crc64 d (be 2 g ++ be 1 kind ++ be 1 0 ++ be 4 v.toNat)
/-- An area with one more write; none when a new target finds it full (R230, R231). -/
def stashWrite (limit : Nat) (a : Area) (e : Stash) : Option Area :=
  if a.entries.any (fun x => x.kind = e.kind && x.target = e.target) then
    some { a with entries := a.entries.map (fun x => if x.kind = e.kind ∧ x.target = e.target then e else x) }
  else if limit ≤ a.entries.length then none else some { a with entries := a.entries ++ [e] }
/-- One action of a pass on its area; none at a stash overflow. -/
def passAct (s : State) (t : Nat) (r : Release) (a : Area) (x : PassAct) : Option Area :=
  match x with
  | .readState _ => some a
  | .readStatus g => some { a with digest := digest a.digest g 1 ((s.releaseView t r g).2.zeroExtend 32) }
  | .readValue g =>
    if a.entries.any (fun e => e.kind = 1 && e.target.toNat = g) then some a else
    let raw := (s.releaseView t r g).1
    let v := if (s.sigOf g).type = 3 then normReal raw else raw
    some { a with digest := digest a.digest g 0 v, log := if r.traced && a.log.length < 512 then a.log ++ [(g, v)] else a.log }
  | .write k g ty v => stashWrite ((s.taskDecl t).elim 0 (·.stashWords)) a ⟨k, g, ty, v⟩
/-- The actions of a pass in turn, up to a stash overflow: the area and whether one happened. -/
def passActs (s : State) (t : Nat) (r : Release) : Area → List PassAct → Area × Bool
  | a, [] => (a, false)
  | a, x :: rest => match s.passAct t r a x with
    | none => ({ a with faulted := true }, true)
    | some b => s.passActs t r b rest
/-- The area of a pass, with STASH_PEAK (Table 8.6). -/
def setArea (s : State) (t p : Nat) (a : Area) : State :=
  { s.setFirn t (fun f => { f with stashPeak := BitVec.ofNat 32 (max f.stashPeak.toNat a.entries.length) }) with firn.areas := put s.firn.areas (3 * t + p) a }
/-- A stash overflow is recorded: D098, E-0x087 (R231). -/
def overflowed (s : State) (t p c : Nat) : State := (s.occurOpen 98).trigger 0x087 [t, p, c]
/-- The running pass has ended, with its core time: the next pass becomes eligible, the vote starts after pass C, or after pass A alone of a tainted release (R172, R175, R187, R247). -/
def passOver (s : State) (t : Nat) (r : Release) : State :=
  if r.stopping then (s.abandon t).runNext r.core
  else
    let u := s.setTask t (fun k => { k with passTime := put k.passTime (r.pass - 1) (r.coreTime + (s.time.mono - r.since)) })
    if r.tainted || 3 ≤ r.pass then u.setRelease t (fun x => { x with running := false, suspended := false, voting := true })
    else (u.setRelease t (fun x => { x with running := false, suspended := false, pass := r.pass + 1 })).runNext r.core
/-- The running pass makes its last actions and ends (R172). Its core time runs from the start of its first block: gapNs is what of its time on the core went by before that start and each resume (R187, Table 6.2). -/
def opPassEnd (s : State) (c : Nat) (acts : List PassAct) (blockNs gapNs : Ns) : State :=
  match s.runningOn c with
  | none => s
  | some (t, r) =>
    let done := s.passActs t r (s.area t (r.pass - 1)) acts
    let u := (s.setArea t (r.pass - 1) done.1).setTask t (fun k => { k with longestBlock := max k.longestBlock blockNs })
    (if done.2 then u.overflowed t r.pass c else u).passOver t { r with coreTime := r.coreTime + (s.time.mono - r.since) - gapNs, since := s.time.mono }
/-- A block boundary of the running pass: it stops, or yields to an entry of strictly higher priority (R175 to R177). -/
def opBlockBoundary (s : State) (c : Nat) (acts : List PassAct) (blockNs : Ns) : State :=
  match s.runningOn c with
  | none => s
  | some (t, r) =>
    let done := s.passActs t r (s.area t (r.pass - 1)) acts
    let u := (s.setArea t (r.pass - 1) done.1).setTask t (fun k => { k with longestBlock := max k.longestBlock blockNs })
    if done.2 then (u.overflowed t r.pass c).passOver t r
    else if r.stopping then (u.abandon t).runNext c
    else if (u.task t).halted then u.setRelease t (fun x => { x with running := false, suspended := true }) |>.runNext c
    else if (u.eligibleOn c).any (fun e => u.priority e.1 < u.priority t) then
      ((u.setTask t (fun k => { k with preemptions := k.preemptions + 1 })).setRelease t (fun x => { x with
        running := false, suspended := true, yielded := true, coreTime := x.coreTime + (s.time.mono - x.since) })).runNext c
    else u
/-- A write of a new target into a full area ends the running pass (R231). -/
def opStashOverflow (s : State) (c : Nat) (w : PassAct) : State :=
  match s.runningOn c with
  | none => s
  | some (t, r) =>
    let done := s.passActs t r (s.area t (r.pass - 1)) [w]
    if done.2 then (((s.setArea t (r.pass - 1) done.1).overflowed t r.pass c).passOver t r) else s

/-! ## The vote (R232, R233) -/

/-- A target of the vote: KIND, TARGET and TYPE together; none is the completion target. -/
abbrev Target := Option (BitVec 2 × BitVec 25 × BitVec 2)
/-- What a pass shows for a target. -/
inductive Shown where
  | invalid
  | absent
  | plain (v : Word)
  deriving DecidableEq, Repr
/-- Word 2 of a target; the completion target stands last. -/
def word2 (x : Target) : Nat := x.elim 0xFFFFFFFF (fun k => k.1.toNat * 2 ^ 30 + k.2.1.toNat)
/-- The union of the targets in three areas in rising order, the completion target last. -/
def targets (as : List Area) : List Target :=
  (sortBy (fun (x : Target) => word2 x * 4 + x.elim 0 (fun k => k.2.2.toNat))
    ((as.flatMap (fun a => a.entries.map (fun e => some (e.kind, e.target, e.type)))).eraseDups)) ++ [none]
/-- A stash entry decoded: a quality above 3 is a code failure (R224). -/
def decodeEntry (p : Nat) (e : Stash) : Shown :=
  match decode p e.type.toNat e.value with
  | none => .invalid
  | some v => if e.kind = 2 ∧ 3 < v.toNat then .invalid else .plain v
/-- What pass p shows for a target (R232). -/
def shown (p : Nat) (a : Area) (x : Target) : Shown :=
  match x with
  | none => if a.faulted then .invalid else .plain 1
  | some k =>
    if a.faulted then .invalid
    else match a.entries.find? (fun e => e.kind = k.1 && e.target = k.2.1 && e.type = k.2.2) with
    | none => .absent
    | some e => decodeEntry p e
/-- Two passes agree on a target. -/
def agree (u w : Shown) : Bool := u ≠ .invalid && u = w
/-- The vote on one target: the result, and the odd pass 1 to 3; none without a majority. -/
def voteOn (a b c : Shown) : Option (Shown × Nat) :=
  if agree a b && agree b c then some (a, 0)
  else if agree a b then some (a, 3)
  else if agree a c then some (a, 2)
  else if agree b c then some (b, 1)
  else none
/-- The vote of three areas: each target with its result. -/
def voteAll (a b c : Area) : List (Target × Option (Shown × Nat)) :=
  (targets [a, b, c]).map (fun x => (x, voteOn (shown 0 a x) (shown 1 b x) (shown 2 c x)))
/-- The odd pass of a release: one and the same on every target that is not unanimous; 0 for none. -/
def oddOf (l : List (Target × Option (Shown × Nat))) : Nat :=
  let odds := ((l.filterMap (fun e => e.2.map (·.2))).filter (· ≠ 0)).eraseDups
  if odds.length = 1 ∧ l.all (fun e => e.2.isSome) then odds.headD 0 else 0
/-- The outcome of Table 8.4, codes 1 to 5, with the odd pass. -/
def outcomeOf (a b c : Area) : Nat × Nat :=
  let l := voteAll a b c
  if l.all (fun e => e.2.elim false (fun r => r.2 = 0)) then (1, 0)
  else
    let odd := oddOf l
    let as := [a, b, c]
    if odd ≠ 0 then
      let o := as.getD (odd - 1) {}
      let others := ((List.range 3).filter (· ≠ odd - 1)).map (fun p => (as.getD p {}).digest)
      (if !o.faulted && others.all (· ≠ o.digest) then 2 else 3, odd)
    else if as.all (fun x => !x.faulted) && a.digest ≠ b.digest && b.digest ≠ c.digest && a.digest ≠ c.digest then (4, 0)
    else (5, 0)
/-- The plain writes that a vote commits (R234). -/
def votedWrites (l : List (Target × Option (Shown × Nat))) : List PlainWrite :=
  l.filterMap (fun e => e.1.elim none (fun k => match e.2 with
    | some (.plain v, _) => some ⟨k.1, k.2.1, k.2.2, v⟩
    | _ => none))
/-- LAST_MISMATCH_TARGET: word 2 of the lowest target that is not unanimous. -/
def mismatchOf (l : List (Target × Option (Shown × Nat))) : Word :=
  BitVec.ofNat 32 (((l.filter (fun e => e.2.elim true (fun r => r.2 ≠ 0))).head?).elim 0xFFFFFFFF (fun e => word2 e.1))

/-! ## The self-test (R243) -/

/-- The value 1 of a TYPE as a plain word: 1.0 for REAL32 (R243; that the value 1 of a REAL32 target is 1.0, not a word that no REAL32 may hold, is DEDUCED). -/
def oneOf (type : Nat) : Word := if type = 3 then 0x3F800000 else 1
/-- The k-th self-test of a task: the target it takes, the pass 0 to 2, the bit, and whether the comparator finds exactly that pass odd. -/
def selfTest (k : Nat) (as : List Area) (l : List (Target × Option (Shown × Nat))) : Target × Nat × Nat × Bool :=
  let p := k % 3
  let es := sortBy (fun (e : Stash) => word2 (some (e.kind, e.target, e.type))) (as.getD p {}).entries
  let x : Target := if es.isEmpty then none else (es[k % es.length]?).map (fun e => (e.kind, e.target, e.type))
  let type := x.elim 2 (fun y => y.2.2.toNat)
  let v : Word := match (l.find? (fun e => e.1 = x)).elim none (·.2) with
    | some (.plain v, _) => if x.isNone then 1 else v
    | _ => oneOf type
  let copy := fun (q : Nat) => if q = p then encode q type v ^^^ BitVec.ofNat 64 (2 ^ (k % 32)) else encode q type v
  let see := fun (q : Nat) => (decode q type (copy q)).elim Shown.invalid Shown.plain
  let found := voteOn (see 0) (see 1) (see 2)
  (x, p, k % 32, found.elim false (fun r => r.2 = p + 1))
/-! ## Commits (R234 to R236) -/

/-- A committed quality: 3 is committed as BAD, BAD-FENCED stays. -/
def committedQuality (old : BitVec 2) (q : Nat) : BitVec 2 := if old = 3 then 3 else if 2 ≤ q then 2 else BitVec.ofNat 2 q
/-- One committed target (R234). -/
def commitWrite (ws : List PlainWrite) (s : State) (w : PlainWrite) : State :=
  let g := w.target.toNat % 65536
  if w.kind = 0 then s.setWord w.target.toNat w.type.toNat w.value
  else if w.kind = 1 then
    let q := (ws.find? (fun y => y.kind = 2 && y.target.toNat % 65536 = g)).elim 0 (fun y => y.value.toNat)
    s.setSig g (fun e => { e with value := w.value, source := 2, quality := committedQuality e.quality q })
  else if w.kind = 2 ∧ !ws.any (fun y => y.kind = 1 && y.target.toNat % 65536 = g) then
    s.setSig g (fun e => { e with quality := committedQuality e.quality w.value.toNat })
  else s
/-- What a commit does to the signals its task produces: SKEW_HELD clears; an output that is not fenced leaves its fallback, unless its HOLD_POLICY keeps it there while the task is not in RUN (R16, R141, R235). -/
def commitProduced (s : State) (t : Nat) : State :=
  { s with sig.entries := mapTab s.sig.entries (fun _ e =>
      if e.producer = some t then
        { e with skewHeld := false, stale := e.stale && e.direction = 1
                 substituted := if e.direction = 2 ∧ ((s.task t).adopted = .run ∨ !e.attributes.getLsbD 10) ∧ !s.unitFenced e.unit then false else e.substituted }
      else e) }
/-- No task holds its third skew hold: D097 is live no more (R236). -/
def skewEnds (s : State) : State := if s.firn.tasks.any (fun e => 3 ≤ e.2.skewRun) then s else s.fall 97
/-- A commit of a task's writes with its status effects (R234, R235). -/
def commit (s : State) (t : Nat) (ws : List PlainWrite) : State :=
  (((ws.foldl (commitWrite ws) s).commitProduced t).setFirn t (fun f => { f with skewRun := 0 })).skewEnds
/-- The status effects of a SKEW_HOLD, with the task's queue entry (R181, R236). -/
def skewHold (s : State) (t : Nat) : State :=
  let n := min 255 ((s.firnTask t).skewRun + 1)
  let u := (({ s with sig.entries := mapTab s.sig.entries (fun _ e => if e.producer = some t then { e with skewHeld := true } else e) }).setFirn t
    (fun f => { f with skewRun := n })).produceOpen (65 + t)
  if 3 ≤ n then u.rise 97 t else u
/-! ## Parameter changes at the release boundary (R263, R264, R267) -/

/-- One change into CHANGE_LOG, with E-0x098 (R267). -/
def logChange (s : State) (c : Change) : State := ({ s with prog.changeLog := (c :: s.prog.changeLog).take 1024 }).trigger 0x098 []
/-- OFFSET of a parameter word in its instance's window: parameter number × 4. -/
def paramOffset (s : State) (inst w : Nat) : Nat := s.image.elim 0 (fun i => (i.insts.find? (fun x => x.id = inst)).elim 0 (fun x => 4 * (instFields x).findIdx (· = w)))
/-- One accepted parameter write takes effect in all three copies; CHANGE_LOG gives its OFFSET in the window, parameter number × 4 (Table 9.6). -/
def applyParam (s : State) (q : ParamQ) : State :=
  let o := get 0 s.prog.slots q.inst
  let u := q.words.foldl (fun v w =>
    let old := get 0 v.firn.stateA (o + w.1)
    (v.setWord (o + w.1) (v.wordType (o + w.1)) w.2).logChange
      { kind := 1, number := q.inst, offset := s.paramOffset q.inst w.1, old := old, new := w.2, session := q.fwd.auth.elim 0 (·.session), mono := s.time.mono }) s
  ({ u with pair.paramOut := if u.pair.ownSelf then u.pair.paramOut ++ q.words.map (fun (w : Nat × Word) => ({ inst := q.inst, word := w.1, value := w.2 } : ParamWrite)) else u.pair.paramOut }).answer (replyOf q.fwd) 0
/-- An instance belongs to a task. -/
def ownedBy (s : State) (t inst : Nat) : Bool := s.image.elim false (fun i => i.insts.any (fun x => x.id = inst && x.task = t))
/-- The parameter writes of a task that are due take effect, in order; none while a repair of the task runs. -/
def applyParams (s : State) (t : Nat) : State :=
  if (s.firnTask t).repair ≠ 0 then s else
  let due := s.prog.params.filter (fun q => q.due && s.ownedBy t q.inst)
  due.foldl applyParam { s with prog.params := s.prog.params.filter (fun q => !(q.due && s.ownedBy t q.inst)) }

/-! ## The end of a release -/

/-- LAST_USE of the frames of a completed release (R199). -/
def touch (s : State) (t : Nat) : State :=
  { s with drift.frames := mapTab s.drift.frames (fun _ x => if s.inSet t x then { x with lastUse := BitVec.ofNat 32 (s.time.mono / 1000) } else x) }
/-- The span of a completed release against BUDGET_WARN (R189). -/
def spanned (s : State) (t : Nat) (r : Release) : State :=
  let span := s.time.mono - r.instant
  let late := decide ((get 80 s.disp.warns t).toNat * (s.taskDecl t).elim 0 (·.deadline) * 10 < span)
  let u := s.setTask t (fun k => { k with
    release := none, lastSpan := span, maxSpan := max k.maxSpan span, spans := (span :: k.spans).take 64, budgetWarned := late })
  if late then (u.trigger 0x061 []).produceOpen (65 + t) else u
/-- A repair ends or is not needed: parameters that waited are written, frames unpin, the task's next release may begin. -/
def repaired (s : State) (t : Nat) : State :=
  let u := ((s.setFirn t (fun f => { f with repair := 0 })).applyParams t).unpin t
  (List.range 8).foldl (fun v c => v.runNext c) u
/-- The repair that a release with an outcome calls for: 1 rebuild of the odd copy, 2 a background share, 0 none (R240, R242). -/
def repairFor (s : State) (t outcome : Nat) : Nat := if outcome = 2 ∨ outcome = 3 then 1 else if outcome ≤ 5 ∧ !(s.task t).tainted then 2 else 0
/-- The repair that follows a release is scheduled; one that waits after a detach stays. -/
def follow (s : State) (t outcome odd : Nat) : State :=
  let k := s.repairFor t outcome
  if k = 0 ∨ (s.firnTask t).repair = 3 then s.unpin t else s.setFirn t (fun f => { f with repair := k, repairOdd := odd })
/-- A release with an outcome has completed: the repair that follows it is scheduled, its core is free (R172, R240 to R242). -/
def completed' (s : State) (t : Nat) (r : Release) (outcome : Nat) : State :=
  (((s.spanned t r).touch t).follow t outcome (s.firnTask t).oddPass).runNext r.core
/-- TAINT_REMAINING after a release that three passes voted on (R249). -/
def taintStep (s : State) (t outcome : Nat) : State :=
  let n := (s.firnTask t).taintRemaining
  if !(s.task t).tainted ∨ n = 0 ∨ outcome = 6 then s else
  let m := if outcome = 1 ∨ outcome = 2 then n - 1 else if outcome = 3 ∨ outcome = 5 then 256 else n
  let u := s.setFirn t (fun f => { f with taintRemaining := m, bgShare := if m = 0 then 0 else f.bgShare })
  if m = 0 then
    ({ u.setTask t (fun k => { k with tainted := false }) with
       sig.entries := mapTab u.sig.entries (fun _ e => if e.producer = some t then { e with debugTaint := false } else e) }).trigger 0x085 []
  else u

/-! ## Vote and commit as they end -/

/-- SKEW_TRACE of a traced release with a skew outcome (R252). -/
def traceSkew (s : State) (a b c : Area) : State :=
  let n := min a.log.length (min b.log.length c.log.length)
  let same := (List.range n).takeWhile (fun i => (a.log.getD i (0, 0)).1 = (b.log.getD i (0, 0)).1 && (b.log.getD i (0, 0)).1 = (c.log.getD i (0, 0)).1)
  let diff := same.filter (fun i => !((a.log.getD i (0, 0)).2 = (b.log.getD i (0, 0)).2 && (b.log.getD i (0, 0)).2 = (c.log.getD i (0, 0)).2))
  { s with firn.trace := (diff.take 64).map (fun i => ((a.log.getD i (0, 0)).1, i, (a.log.getD i (0, 0)).2, (b.log.getD i (0, 0)).2, (c.log.getD i (0, 0)).2)),
           firn.traceGen := s.firn.traceGen + 1 }
/-- What a vote leaves in the task's Firn objects and records (Tables 8.6 and 8.7, E-0x080). -/
def recordVote (s : State) (t : Nat) (r : Release) (a b c : Area) (outcome odd : Nat) : State :=
  let target := mismatchOf (voteAll a b c)
  let u := s.setFirn t (fun f => { f with
    lastOutcome := outcome, oddPass := odd, faultedA := a.faulted, faultedB := b.faulted, faultedC := c.faulted
    outcomes := put f.outcomes outcome (get 0 f.outcomes outcome + 1)
    mismatchTarget := if 2 ≤ outcome ∧ outcome ≤ 5 then target else f.mismatchTarget
    mismatchRelease := if 2 ≤ outcome ∧ outcome ≤ 5 then r.instant else f.mismatchRelease
    digests := if 2 ≤ outcome ∧ outcome ≤ 5 then [(0, a.digest), (1, b.digest), (2, c.digest)] else f.digests })
  let v := if r.traced ∧ (outcome = 2 ∨ outcome = 4) then u.traceSkew a b c else u
  if 2 ≤ outcome ∧ outcome ≤ 5 then
    v.trigger 0x080 [t, outcome, odd, target.toNat, a.digest.toNat % 2 ^ 32, b.digest.toNat % 2 ^ 32, c.digest.toNat % 2 ^ 32]
  else v
/-- The detectors of a vote outcome (R237). -/
def voteDetectors (s : State) (r : Release) (a b c : Area) (outcome : Nat) : State :=
  if outcome = 3 then s.occurOpen (80 + r.core)
  else if outcome = 5 ∧ ([a, b, c].filter (·.faulted)).length < 2 then s.occurOpen (88 + r.core)
  else s
/-- A release that commits nothing is over (R188, R236). -/
def heldRelease (s : State) (t : Nat) (r : Release) (outcome : Nat) (detect : State → State) : State :=
  let u := if outcome = 4 ∧ s.mode.current ≠ .track then s.skewHold t else s
  (((detect ((u.completed' t r outcome).taintStep t outcome))).sendDelta t r.instant outcome 0 [])
/-- The writes of a tainted release: every pass A entry that decodes; in HOLD its writes to outputs are discarded (R245, R247). -/
def taintedWrites (s : State) (t : Nat) (a : Area) : List PlainWrite :=
  if a.faulted then [] else
  (a.entries.filterMap (fun e => match decodeEntry 0 e with
    | .plain v => some (⟨e.kind, e.target, e.type, v⟩ : PlainWrite)
    | _ => none)).filter (fun w => w.kind = 0 || (s.task t).adopted = .run || (s.sigOf (w.target.toNat % 65536)).direction ≠ 2)
/-- The self-test that every sixteenth commit of a task makes (R243, R244): the commit counted, and whether its words may be written. -/
def testCommit (s : State) (t : Nat) (as : List Area) (l : List (Target × Option (Shown × Nat))) : State × Bool :=
  let u := s.setFirn t (fun f => { f with commits := f.commits + 1 })
  let f := u.firnTask t
  if f.commits % 16 ≠ 0 then (u, true) else
  let test := selfTest f.selfTests as l
  let x := { u.setFirn t (fun f => { f with selfTests := f.selfTests + 1 }) with firn.selftestCount := u.firn.selftestCount + 1 }
  if test.2.2.2 then (x, true)
  else (({ x with firn.selftestFails := x.firn.selftestFails + 1 }).trigger 0x082 [t, word2 test.1, test.2.1 + 1, test.2.2.1], false)
/-- The vote ends (R233, R243, R320): on a standby its result waits for the active module's delta. -/
def opVoteEnd (s : State) (t : Nat) : State :=
  match (s.task t).release with
  | none => s
  | some r =>
    if !r.voting then s else
    let a := s.area t 0
    let b := s.area t 1
    let c := s.area t 2
    if r.tainted then
      let u := s.setFirn t (fun f => { f with
        lastOutcome := 6, oddPass := 0, faultedA := a.faulted, faultedB := false, faultedC := false
        outcomes := put f.outcomes 6 (get 0 f.outcomes 6 + 1)
        vote := some { outcome := 6, writes := s.taintedWrites t a, instant := r.instant } })
      u.setRelease t (fun x => { x with voting := false, committing := true })
    else
      let o := outcomeOf a b c
      let l := voteAll a b c
      let detect := fun (v : State) => v.voteDetectors r a b c o.1
      let u := s.recordVote t r a b c o.1 o.2
      let test := if o.1 ≤ 3 then u.testCommit t [a, b, c] l else (u, true)
      let v := test.1.setFirn t (fun f => { f with
        vote := some { outcome := o.1, odd := o.2, writes := votedWrites l, instant := r.instant, digest := a.digest } })
      if !test.2 then (detect ((test.1.completed' t r 5))).occurOpen 96
      else if s.mode.current = .track then detect ((((v.spanned t r).touch t).taintStep t o.1).runNext r.core)
      else if 4 ≤ o.1 then u.heldRelease t r o.1 detect
      else detect (v.setRelease t (fun x => { x with voting := false, committing := true }))
/-- A running checkpoint captures a task's State A just after a commit of the task, slot by slot (R216). -/
def captureTask (s : State) (t : Nat) : State :=
  match s.drift.ckptBusy with
  | none => s
  | some c =>
    if (find c.instants t).isSome then s else
    let slot := fun (i : InstDecl) => (List.range (classWords i.slotClass)).foldl (fun (a : Tab Word) k =>
      let w := get 0 s.firn.stateA (get 0 s.prog.slots i.id + k)
      if w = 0 then a else put a k w) []
    let c2 : Ckpt := { c with instants := put c.instants t (s.firnTask t).lastCommit
                              slots := (taskInsts s t).foldl (fun a i => put a i.id (slot i)) c.slots }
    { s with drift.ckptBusy := some c2 }
/-- The commit has written its last word: the release has completed (R188, R234). -/
def opCommitComplete (s : State) (t : Nat) : State :=
  match (s.task t).release, (s.firnTask t).vote with
  | some r, some v =>
    if !r.committing then s else
    let u := (((s.commit t v.writes).setFirn t (fun f => { f with vote := none, lastCommit := v.instant })).captureTask t).produceOpen (65 + t)
    ((((u.completed' t r v.outcome).taintStep t v.outcome).sendDelta t v.instant v.outcome v.digest v.writes)).settle
  | _, _ => s

/-! ## Resynchronisation and background compare (R240 to R242, R248) -/

/-- A state word's plain value in copy p. -/
def plainCopy (s : State) (p w : Nat) : Option Word := decode p (s.wordType w) (s.copyWord p w)
/-- One word of the odd copy rebuilt from a majority copy; D100 when neither decodes. -/
def rebuildWord (s : State) (odd w : Nat) : State :=
  let first := if odd = 0 then 1 else 0
  let second := if odd = 2 then 1 else 2
  match (s.plainCopy first w).orElse (fun _ => s.plainCopy second w) with
  | some v => s.setCopy odd w (s.wordType w) v
  | none => s.occurOpen 100
/-- The resynchronisation of the odd copy ends: E-0x081 counts the words that a majority copy gave; the background share follows, or the rebuilding after a detach (R240, R242, R248). -/
def opResyncEnd (s : State) (t : Nat) : State :=
  let f := s.firnTask t
  if f.repair ≠ 1 then s else
  let odd := f.repairOdd - 1
  let ws := taskWords s t
  let good := (ws.filter (fun w => ((List.range 3).filter (· ≠ odd)).any (fun p => (s.plainCopy p w).isSome))).length
  let u := (ws.foldl (fun v w => v.rebuildWord odd w) s).trigger 0x081 [t, f.repairOdd, good]
  if f.rebuildDue then u.setFirn t (fun g => { g with repair := 3, rebuildDue := false })
  else if (s.task t).tainted then u.repaired t else u.setFirn t (fun g => { g with repair := 2 })
/-- One word of a background share compared in the three copies (R242). -/
def compareWord (t : Nat) (s : State) (w : Nat) : State :=
  let a := s.plainCopy 0 w
  let b := s.plainCopy 1 w
  let c := s.plainCopy 2 w
  let mend := fun (p : Nat) (v : Word) =>
    (((s.setCopy p w (s.wordType w) v).setFirn t (fun f => { f with bgDivergences := f.bgDivergences + 1 })).occurOpen 99).trigger 0x083 [t, w, p + 1]
  match a, b, c with
  | some x, some y, some z => if x = y then (if y = z then s else mend 2 x) else if x = z then mend 1 x else if y = z then mend 0 y
      else ((s.setFirn t (fun f => { f with bgDivergences := f.bgDivergences + 1 })).occurOpen 100).trigger 0x083 [t, w, 0]
  | some x, some y, none => if x = y then mend 2 x else ((s.setFirn t (fun f => { f with bgDivergences := f.bgDivergences + 1 })).occurOpen 100).trigger 0x083 [t, w, 0]
  | some x, none, some z => if x = z then mend 1 x else ((s.setFirn t (fun f => { f with bgDivergences := f.bgDivergences + 1 })).occurOpen 100).trigger 0x083 [t, w, 0]
  | none, some y, some z => if y = z then mend 0 y else ((s.setFirn t (fun f => { f with bgDivergences := f.bgDivergences + 1 })).occurOpen 100).trigger 0x083 [t, w, 0]
  | _, _, _ => ((s.setFirn t (fun f => { f with bgDivergences := f.bgDivergences + 1 })).occurOpen 100).trigger 0x083 [t, w, 0]
/-- The words of a share: word i over the task's slots belongs to share i mod 256. -/
def shareWords (s : State) (t share : Nat) : List Nat :=
  (((taskWords s t).zipIdx).filter (fun e => e.2 % 256 = share)).map (·.1)
/-- One share of the background compare ends; in DEBUG-TAINT the compare is suspended (R242). -/
def opCompareEnd (s : State) (t : Nat) : State :=
  let f := s.firnTask t
  if f.repair ≠ 2 then s else
  if (s.task t).tainted then s.repaired t else
  let u := (s.shareWords t f.bgShare).foldl (compareWord t) s
  (u.setFirn t (fun g => { g with bgShare := (f.bgShare + 1) % 256, bgCycles := if f.bgShare = 255 then g.bgCycles + 1 else g.bgCycles })).repaired t
/-- State B and State C of a task's slots are rebuilt from State A after a detach (R248). -/
def opTaintRebuilt (s : State) (t : Nat) : State :=
  if (s.firnTask t).repair ≠ 3 then s else
  let u := (taskWords s t).foldl (fun v w =>
    let p := get 0 v.firn.stateA w
    (v.setCopy 1 w (v.wordType w) p).setCopy 2 w (v.wordType w) p) s
  (u.setFirn t (fun f => { f with taintRemaining := 256, rebuildDue := false })).repaired t

/-! ## Firn objects (Table 8.5) -/

/-- Check 14 of FIRN_STATS_RESET (R253). -/
def opFirnReset (s : State) (x : ReplyTo) : State :=
  s.check14 x (x.req.value ≠ 1) false false (fun t =>
    { t with firn.selftestCount := 0, firn.selftestFails := 0,
             firn.tasks := mapTab t.firn.tasks (fun _ f => { f with outcomes := [], bgCycles := 0, bgDivergences := 0 }) })
/-- Check 14 of TRACE_TASK. -/
def opTraceTask (s : State) (x : ReplyTo) : State :=
  s.check14 x (15 < x.req.value && x.req.value ≠ 255) false false (fun t => { t with firn.traceTask := BitVec.ofNat 8 x.req.value })

end State

/-- PASS_END (R172). -/
def execPassEnd (core : Nat) (acts : List PassAct) (blockNs gapNs : Ns) (s : State) : Host.Outcome State Fault Refusal := .next (s.opPassEnd core acts blockNs gapNs)
/-- BLOCK_BOUNDARY (R176). -/
def execBlockBoundary (core : Nat) (acts : List PassAct) (blockNs : Ns) (s : State) : Host.Outcome State Fault Refusal := .next (s.opBlockBoundary core acts blockNs)
/-- STASH_OVERFLOW (R231). -/
def execStashOverflow (core : Nat) (write : PassAct) (s : State) : Host.Outcome State Fault Refusal := .next (s.opStashOverflow core write)
/-- COMMIT_COMPLETE (R188). -/
def execCommitComplete (task : Nat) (s : State) : Host.Outcome State Fault Refusal := .next (s.opCommitComplete task)
/-- RESYNC_END (R240). -/
def execResyncEnd (task : Nat) (s : State) : Host.Outcome State Fault Refusal := .next (s.opResyncEnd task)
/-- BG_COMPARE_END (R242). -/
def execBgCompareEnd (task : Nat) (s : State) : Host.Outcome State Fault Refusal := .next (s.opCompareEnd task)
/-- TAINT_REBUILD_END (R248). -/
def execTaintRebuildEnd (task : Nat) (s : State) : Host.Outcome State Fault Refusal := .next (s.opTaintRebuilt task)
/-- FIRN_STATS_RESET (R253). -/
def execFirnStatsReset (r : Req) (s : State) : Host.Outcome State Fault Refusal := .next (if rowFor r 0x7501 0 then s.forwarded r 2 State.opFirnReset else s)

end Sys2Proof.Machine
end

