-- ==== Sys2Proof/Machine/Tasks.lean ====
section
/-! DEFINITION. The Task Dispatcher's commands: release instants, deadlines, working sets, core clocks and interrupt queues (06). -/
namespace Sys2Proof.Machine
namespace State

/-! ## Release instants (R163 to R167) -/

/-- This module's alignment offset: wall minus monotonic time, which stays as last held while the wall clock is not valid, and 0 before it has ever been (R164, R165). -/
def ownAlign (s : State) : Int := if s.time.wallValid || s.time.everValid then s.time.align else 0
/-- The alignment offset of network-aligned tasks: on a standby the one received (R164 to R166). -/
def alignOf (s : State) (t : Nat) : Int := if s.mode.current = .track then (s.task t).alignRecv.getD s.ownAlign else s.ownAlign
/-- The residual from an unadjusted instant to the nearest aimed instant, the later one of two equally near (R164). -/
def residual (period phase : Int) (offset unadjusted : Int) : Int :=
  let q := (unadjusted + offset - phase) % period
  if period - q ≤ q then period - q else -q
/-- The residual limited to the correction limit. -/
def corrected (period r : Int) : Int := let l := max 1000 (period / 1000); max (-l) (min l r)
/-- A monotonic instant is a release instant of a task (R163, R164): the first one of a network-aligned task under an image, or after a time without releases, is an aimed instant (DEDUCED). -/
def dueAt (s : State) (d : TaskDecl) (m : Ns) : Bool :=
  let k := s.task d.task
  let p := d.period * 1000
  if d.timeBase = 0 then decide (m % p = d.phase * 1000 % p)
  else if k.begun && decide (s.time.mono ≤ k.nextRelease) then decide (m = k.nextRelease) else decide (((m : Int) + s.alignOf d.task - (d.phase * 1000 : Nat)) % (p : Int) = 0)
/-- This instant is a release instant of a task, and has not been handled. -/
def releaseDue (s : State) (d : TaskDecl) : Bool :=
  s.dueAt d s.time.mono && (!(s.task d.task).begun || decide ((s.task d.task).lastRelease < s.time.mono))
/-- The network-aligned instant after one at an instant: a period on, corrected towards the aimed instants (R164, R490). -/
def alignedNext (period phase : Nat) (offset : Int) (m : Ns) : Ns := ((m + period : Nat) + corrected period (residual period phase offset (m + period : Nat)) : Int).toNat
/-- The release instant after one at an instant, under an alignment offset (R163, R164). -/
def nextInstant (d : TaskDecl) (offset : Int) (m : Ns) : Ns :=
  let p := d.period * 1000
  if d.timeBase = 0 then m + p else alignedNext p (d.phase * 1000) offset m
/-- NET_ALIGN_FREE of a task as the wall clock stands, with E-0x064 at each change (R165). -/
def judgeAlign (s : State) (d : TaskDecl) : State :=
  if d.timeBase = 0 ∨ (s.task d.task).alignFree = !s.time.wallValid then s
  else (s.setTask d.task (fun k => { k with alignFree := !s.time.wallValid })).trigger 0x064 []
/-- Every network-aligned task judged. -/
def judgeAligns (s : State) : State := s.tasks.foldl judgeAlign s

/-! ## Overruns (R188 to R191) -/

/-- The deadline of a release has passed without its completion: the reaction of Table 6.8. E-0x060 carries CURRENT in its mode field, in a transition too, where the manual does not say which mode it carries (DESIGN CHOICE). -/
def overrun (s : State) (t : Nat) (r : Release) : State :=
  let k := s.task t
  let inRun := decide (k.adopted = Mode.run) && decide (s.mode.current ≠ Mode.cold)
  if k.halted || k.undispatchable || r.excused || !(s.mode.current = .track || inRun) then s else
  let u := (s.setTask t (fun k => { k with overruns := k.overruns + 1 })).trigger 0x060 [t, s.mode.current.code, sat32 (s.time.mono - r.instant), r.core]
  if s.mode.current = .track then ((u.occur 49 t).abandon t).runNext r.core
  else u.occurOpen (32 + t)
/-- The watchdog's check of a task (R188). -/
def opDeadline (s : State) (t : Nat) : State :=
  match (s.task t).release, s.taskDecl t with
  | some r, some d => if r.instant + d.deadline * 1000 ≤ s.time.mono then s.overrun t r else s
  | _, _ => s

/-! ## A release instant (R152, R167 to R169, R173, R174, R192) -/

/-- A task adopts the open epoch, this module's own or on a standby the active module's (R319), at its first release instant strictly after the COMMIT (R34, R35, R37). -/
def adopt (s : State) (t : Nat) : State :=
  if !(s.mode.pending.getLsbD t && s.mode.commitAt.elim false (fun c => decide (c < s.time.mono))) then s else
  let m : Mode := if s.mode.inTransition then s.mode.target else s.pair.lastEpoch.elim s.mode.target (·.1)
  let u := { s with
    mode.pending := s.mode.pending &&& ~~~(BitVec.ofNat 16 (2 ^ t))
    sig.entries := mapTab s.sig.entries (fun _ e =>
      if e.producer = some t then { (if m = Mode.run then e else adoptOutput (s.unitFenced e.unit) m e) with transition := false } else e) }
  let v := u.setTask t (fun k => { k with adopted := m, epoch := s.mode.epoch })
  let w := if v.mode.pending ≠ 0 then v else if v.mode.inTransition then v.completeMode
    else { v with mode.commitAt := none, pair.lastEpoch := some (m, false) }
  if s.mode.leavingSafe then w.gatesChanged else w
/-- The copies of the signals that a task reads, as they stand at the release instant (R152, R153). -/
def snapshots (s : State) (d : TaskDecl) : List Snap :=
  d.reads.map (fun g => let e := s.sigOf g; ⟨g, e.effective, e.status, e.forced, e.forceValue, e.substituted⟩)
/-- A pending constant page is taken by a declaring task (R266). -/
def switchPage (s : State) (t : Nat) : State :=
  match s.prog.change with
  | none => s
  | some c =>
    if !c.waiting.contains t || c.frame.isNone then s
    else { s with prog.change := some { c with waiting := c.waiting.filter (· ≠ t) }
                  pair.constOut := if s.pair.ownSelf then s.pair.constOut ++ [(t, c.page)] else s.pair.constOut }
/-- Passes of a task are dispatched in the mode it has adopted: in RUN, and on a standby that tracks (R35, R319, R336). -/
def dispatches (s : State) (t : Nat) : Bool :=
  let k := s.task t
  k.adopted = .run && (s.mode.current ≠ .safe || s.mode.leavingSafe) && s.mode.current ≠ .cold
    && (s.mode.current ≠ .track || (!s.prog.exch.heldHere && s.prog.exch.phase ≠ 4 && k.ready && !k.deltaDue && (s.pair.phase = 4 || s.pair.phase = 5) && s.pair.syncUp))
/-- Reaction shadows of the fences that keep a working set out have ended; a restore's shadow delays nothing here (R208). -/
def paged (s : State) : Bool := !s.hub.shadows.any (fun h => h.parent ≠ 511 && (h.domain = 0x52 || h.domain = s.imageRank))
/-- The pass entries of a release are placed on its core; they wait for the working set (R168, R169, R172). -/
def place (s : State) (d : TaskDecl) (c : Nat) : State :=
  let t := d.task
  let here := s.setResident t
  let r : Release := { instant := s.time.mono, core := c, waiting := !here, tainted := (s.task t).tainted && decide ((s.firnTask t).taintRemaining = 0),
                       traced := s.firn.traceTask.toNat = t, snaps := s.snapshots d }
  let u := { s.setTask t (fun k => { k with release := some r, lastCore := BitVec.ofNat 8 c, deltaDue := s.mode.current = .track }) with
             drift.prefetched := s.drift.prefetched.filter (· ≠ t) }
  if here then ((u.endRequest t).pin t).runNext c
  else
    let v := { u.requestPages t with drift.lateReleases := u.drift.lateReleases + 1 }
    if v.unobtainable t && v.paged then v.occurOpen 67 else v
/-- The instant passes without entries, counted (R174, R192). -/
def missed (s : State) (t : Nat) : State :=
  let k := s.task t
  let u := s.setTask t (fun k => { k with missed := k.missed + 1, haltSkipped := k.haltSkipped || k.halted })
  if k.halted ∧ !k.haltSkipped then u.trigger 0x063 [] else u
/-- The halt of a task ends: its release under way goes on; one whose deadline has passed meanwhile is no overrun (R192, R397). -/
def unhalt (s : State) (t : Nat) : State :=
  let late := fun (r : Release) => decide (r.instant + (s.taskDecl t).elim 0 (·.deadline) * 1000 ≤ s.time.mono)
  let u := s.setTask t (fun k => { k with halted := false, haltSkipped := false, resumeDue := false, release := k.release.map (fun r => { r with excused := r.excused || late r }) })
  (u.task t).release.elim u (fun r => u.runNext r.core)
/-- A release instant has come: LAST_RELEASE and NEXT_RELEASE, with the alignment offset of the instant (R163 to R166). -/
def stampRelease (s : State) (d : TaskDecl) : State :=
  s.setTask d.task (fun k => { k with
    lastRelease := s.time.mono, nextRelease := nextInstant d (s.alignOf d.task) s.time.mono, alignUsed := s.alignOf d.task, begun := true })
/-- S of an exchange, a REVERT or a handover is this instant, and a task is the slowest one: its release is abandoned, not dispatched (R276). -/
def atSwap (s : State) (d : TaskDecl) : Bool :=
  s.slowest.elim false (fun x => x.task = d.task) && (s.prog.exch.swapAt = some s.time.mono || s.pair.handoverAt = some s.time.mono)
/-- What a release instant does after deadlines and adoption: parameter and page changes, and the placing of the entries (R167, R264, R266). From S onward the standby hears of them as it hears of the instant (DEDUCED). -/
def releaseAt (s : State) (d : TaskDecl) : State :=
  let t := d.task
  let s0 := if (s.task t).resumeDue then s.unhalt t else s
  let v := ((s0.judgeAlign d).stampRelease d).setTask t (fun k => { k with releaseCount := k.releaseCount + 1 })
  let w := ({ v with prog.params := v.prog.params.map (fun (q : ParamQ) => if v.ownedBy t q.inst then { q with due := true } else q) }).applyParams t |>.switchPage t
  let none' := fun (y : State) => (y.sendDelta t s.time.mono 0 0 []).dropPrefetch t
  if w.prog.exch.stopped then
    (if s.atSwap d && w.dispatches t && !(w.task t).halted && (w.task t).release.isNone then
      ((w.setFirn t (fun f => { f with lastOutcome := 7, oddPass := 0 })).sendDelta t s.time.mono 7 0 []).dropPrefetch t
    else none' w)
  else if !w.dispatches t then none' w
  else if (w.task t).halted then none' (w.missed t)
  else if (w.task t).release.isSome then none' w
  else match w.chooseCore t with
    | none => none' (w.missed t)
    | some c => w.place d c
/-! ## Working sets (R168) -/

/-- PREFETCH_LEAD before a release instant, Drift is asked for the working set. -/
def opPrefetch (s : State) (t : Nat) : State :=
  match s.taskDecl t with
  | none => s
  | some d => if d.resident ∨ s.mode.current = .cold ∨ !s.dueAt d (s.time.mono + d.prefetchLead * 1000) then s else s.requestPages t
/-- Drift reports a working set resident, and pins it: the release that waits becomes eligible; one that is resident before its release instant stays pinned until then (R168, R195, R196). -/
def opResident (s : State) (t : Nat) : State :=
  if !s.setResident t || !s.drift.requests.any (fun q => q.task = t) then s else
  let u := s.endRequest t
  match (s.task t).release with
  | some r => if r.waiting then ((u.setRelease t (fun x => { x with waiting := false })).pin t).runNext r.core
      else ({ u with drift.prefetched := insertBy id t u.drift.prefetched }).pin t
  | none => ({ u with drift.prefetched := insertBy id t u.drift.prefetched }).pin t
/-! ## Core clocks (R179) and interrupt queues (R181 to R185) -/

/-- The runtime of a core executes its idle instruction; while a pass runs there, it does not. -/
def opIdle (s : State) (c : Nat) : State :=
  if 8 ≤ c ∨ s.fenced c ∨ (s.runningOn c).isSome then s else
  { s with disp.cores := put s.disp.cores c { get ({} : CoreSt) s.disp.cores c with idle := true } }
/-- Unconsumed entries of a queue. -/
def unconsumed (q : IntQ) : Nat := (q.producer + 128 - q.consumer % 128) % 128
/-- ENABLE, PENDING and no message outstanding. -/
def mayNotify (q : IntQ) : Bool := q.route.getLsbD 31 && decide (q.producer ≠ q.consumer) && !q.outstanding
/-- COALESCE_COUNT entries are unconsumed; 0 and 1 mean every entry. -/
def countReached (q : IntQ) : Bool := decide (max 1 (Machine.field q.route.toNat 15 8) ≤ unconsumed q)
/-- COALESCE_TIME has passed since the first unconsumed entry. -/
def timeReached (s : State) (q : IntQ) : Bool :=
  let t := Machine.field q.route.toNat 27 16
  decide (t ≠ 0) && decide (get 0 q.times (q.consumer % 128) + t * 1000 ≤ s.time.mono)
/-- A queue's message goes to its delivery core and starts its clocks (R179, R184). -/
def notify (s : State) (n : Nat) : State :=
  let q := get ({} : IntQ) s.disp.queues n
  let c := s.deliveryCore q
  ({ s with disp.queues := put s.disp.queues n { q with outstanding := true, lastCore := some c } }).message c n
/-- INTERRUPT_MESSAGE_SEND: the entry count asks for a message (R185). -/
def opNotify' (s : State) (n : Nat) : State :=
  let q := get ({} : IntQ) s.disp.queues n
  if mayNotify q && countReached q then s.notify n else s
/-- COALESCE_TIME_EXPIRY (R185). -/
def opCoalesce (s : State) (n : Nat) : State :=
  let q := get ({} : IntQ) s.disp.queues n
  if mayNotify q && s.timeReached q then s.notify n else s
/-- The runtime writes CONSUMER: the message is no longer outstanding, and the condition is judged again (R185). A write of an INDEX that is no slot of the ring, 128 or more, changes nothing: the manual does not say what it does (DESIGN CHOICE). -/
def opConsume (s : State) (n k : Nat) : State :=
  if 256 ≤ n ∨ 128 ≤ k then s else
  let q := { get ({} : IntQ) s.disp.queues n with consumer := k, outstanding := false }
  let u := { s with disp.queues := put s.disp.queues n q
                    disp.cores := mapTab s.disp.cores (fun _ (x : CoreSt) => { x with messages := x.messages.filter (· ≠ n) }) }
  if mayNotify q && (countReached q || u.timeReached q) then u.notify n else u
/-- A producer's entry of at most four words (R183). -/
def opProduce (s : State) (n : Nat) (entry : List Word) : State := if 256 ≤ n ∨ 4 < entry.length then s else s.produce n entry
/-- A core or Sedge writes a word of the interrupt queue registers (R182, Tables 6.4 and 6.5); a new ROUTE may move the queue's messages (R184). -/
def writeQueueReg (s : State) (a : Nat) (v : Word) : State :=
  let n := (a - 0x48000000) / 16
  let q := get ({} : IntQ) s.disp.queues n
  match (a - 0x48000000) % 16 with
  | 0 => ({ s with disp.queues := put s.disp.queues n { q with route := v &&& 0x8FFFFF77 } }).moveQueues s
  | 8 => s.opConsume n (v.toNat % 65536)
  | 12 => { s with disp.queues := put s.disp.queues n { q with overflow := q.overflow && !v.getLsbD 1 } }
  | _ => s
/-- A word of the interrupt queue registers as it reads (Tables 6.4 and 6.5). -/
def queueReg (s : State) (a : Nat) : Word :=
  let q := get ({} : IntQ) s.disp.queues ((a - 0x48000000) / 16)
  match (a - 0x48000000) % 16 with
  | 0 => q.route
  | 4 => BitVec.ofNat 32 q.producer
  | 8 => BitVec.ofNat 32 q.consumer
  | _ => BitVec.ofNat 32 (bit q.overflow 1 + bit (decide (q.producer ≠ q.consumer)) 0)
/-! ## Task objects (Table 6.6) -/

/-- Check 14 of STATS_RESET. -/
def opStatsReset (s : State) (x : ReplyTo) : State :=
  s.check14 x (x.req.value ≠ 1) false false (fun u =>
    u.setTask (x.req.index.toNat - 0x2400) (fun k => { k with maxSpan := 0, spans := [], longestBlock := 0, preemptions := 0 }))
/-- Check 14 of BUDGET_WARN. -/
def opBudgetWarn (s : State) (x : ReplyTo) : State :=
  s.check14 x (x.req.value < 50 || 100 < x.req.value) false false (fun u =>
    { u with disp.warns := put u.disp.warns (x.req.index.toNat - 0x2400) (BitVec.ofNat 8 x.req.value) })

end State

/-- PREFETCH_REQUEST (R168). -/
def execPrefetchRequest (task : Nat) (s : State) : Host.Outcome State Fault Refusal := .next (s.opPrefetch task)
/-- WORKING_SET_RESIDENT (R168). -/
def execWorkingSetResident (task : Nat) (s : State) : Host.Outcome State Fault Refusal := .next (s.opResident task)
/-- CORE_IDLE (R179). -/
def execCoreIdle (core : Nat) (s : State) : Host.Outcome State Fault Refusal := .next (s.opIdle core)
/-- QUEUE_ENTRY_PRODUCED (R183). -/
def execQueueEntryProduced (queue : Nat) (entry : List Word) (s : State) : Host.Outcome State Fault Refusal := .next (s.opProduce queue entry)
/-- INTERRUPT_MESSAGE_SEND (R185). -/
def execInterruptMessageSend (queue : Nat) (s : State) : Host.Outcome State Fault Refusal := .next (s.opNotify' queue)
/-- COALESCE_TIME_EXPIRY (R185). -/
def execCoalesceTimeExpiry (queue : Nat) (s : State) : Host.Outcome State Fault Refusal := .next (s.opCoalesce queue)
/-- CONSUMER_WRITE (R185). -/
def execConsumerWrite (queue index : Nat) (s : State) : Host.Outcome State Fault Refusal := .next (s.opConsume queue index)
/-- STATS_RESET (Table 6.6). -/
def execStatsReset (r : Req) (s : State) : Host.Outcome State Fault Refusal :=
  .next (if 0x2400 ≤ r.index.toNat ∧ r.index.toNat ≤ 0x240F ∧ r.sub = 0x16 then s.forwarded r 2 State.opStatsReset else s)

end Sys2Proof.Machine
end

