-- ==== Sys2Proof/Machine/Drift.lean ====
section
/-! DEFINITION. The commands of Drift, the Slot Allocator, the DRAM ranks and the checkpoints (07). -/
namespace Sys2Proof.Machine
namespace State

/-! ## Fetches and write-backs (R197 to R200) -/

/-- RESIDENT_LOADED as the frames stand. -/
def judgeLoaded (s : State) : State :=
  { s with drift.residentLoaded := s.image.isSome && s.tasks.all (fun d => !d.resident || s.setResident d.task) }
/-- Pages of the RESIDENT working sets of the image that an exchange brings. -/
def newResidentPages (s : State) : List Nat :=
  (s.prog.exch.other.elim [] (fun i => (i.tasks.filter (fun d => d.resident)).flatMap (fun d => pagesOf d.ranges))).eraseDups.filter (fun p => 256 ≤ p)
/-- A page of the new image is resident in the area it is staged in. -/
def newPageHere (s : State) (state p : Nat) : Bool := s.drift.frames.any (fun e => e.2.area = 1 - s.drift.area && e.2.page = p && e.2.state = state)
/-- In ARMED the standby fetches the new RESIDENT working sets (R274). -/
def armFetch (s : State) : State :=
  if s.prog.exch.phase ≠ 4 ∨ s.pair.ownSelf then s else
  s.newResidentPages.foldl (fun u p =>
    if u.newPageHere 2 p || u.newPageHere 1 p || 32 ≤ (u.drift.frames.filter (fun e => e.2.state = 1)).length || u.fenced 0x52 || u.fenced (0x51 - u.drift.area) then u
    else u.withFrame (wanted (1 - u.drift.area) p) (fun f => { u with drift.frames := put u.drift.frames f { state := 1, page := p, area := 1 - u.drift.area, residentPin := true } })) s
/-- The new copy of a constant page takes a frame: a free one, or an evicted one once its content has been written back. The copy stays pinned, and holds the pins of the copy it takes the place of (R198, R265, R266). -/
def placeCopy (s : State) : State :=
  match s.prog.change with
  | none => s
  | some c =>
    if c.frame.isSome || c.waiting.isEmpty then s
    else s.withFrame (2 ^ 19 + c.page) (fun f => { s with
      prog.change := some { c with frame := some f }
      drift.frames := put s.drift.frames f { state := 2, page := c.page, declaredBy := s.declaredBy c.page, residentPin := s.residentPage c.page, area := s.drift.area
                                             pinCount := 1 + (s.frameOf c.page).elim 0 (fun g => (s.frameAt g).pinCount) } })
/-- A fetch or a write-back has ended: Drift's queue entry (R181), and its next fetches. -/
def driftDone (s : State) : State := (((s.produceOpen 63).placeCopy).serveDrift).armFetch
/-- A fetch ends: the frame is resident, or a constant page whose CRC fails twice raises D066 against its rank (R200). -/
def opFetched (s : State) (page : Nat) (duration : Ns) (crcOk : Bool) : State :=
  match s.drift.frames.find? (fun e => e.2.state = 1 && e.2.page = page) with
  | none => s
  | some (f, x) =>
    let bad := 0x10000 ≤ page && page < 0x18000 && !crcOk
    if bad && !x.refetched then { s with drift.frames := put s.drift.frames f { x with refetched := true } }
    else if bad then ({ s with drift.frames := del s.drift.frames f }).occur 66 (0x50 + x.area)
    else
      (({ s with drift.frames := put s.drift.frames f { x with state := 2, refetched := false }
                 drift.fetchCount := s.drift.fetchCount + 1, drift.fetchTimes := (duration :: s.drift.fetchTimes).take 1024 }).judgeLoaded).driftDone
/-- A write-back ends: its frame is free (R198). -/
def opWrittenBack (s : State) (f : Nat) : State :=
  if s.drift.writeBacks.any (fun w => w.1 = f) then
    ({ s with drift.frames := del s.drift.frames f, drift.writeBacks := s.drift.writeBacks.filter (fun w => w.1 ≠ f)
              drift.writebackCount := s.drift.writebackCount + 1 }).driftDone
  else s
/-! ## Message objects (R212) -/

/-- The free message objects. -/
def freeMsgs (s : State) : List Nat := (List.range 6144).filter (fun m => !s.drift.messages.contains m)
/-- A read of ALLOC_MSG: an object's address, or 0; the manual does not say which free object, so the choice is free. -/
def opAlloc (s : State) : State :=
  let l := s.freeMsgs
  match l[(s.freeAt 0).toNat % l.length]? with
  | none => { s with drift.msgRead := 0 }
  | some m => { s with drift.messages := insertBy id m s.drift.messages, drift.msgRead := BitVec.ofNat 32 (0x44880000 + m * 256), draws := s.draws + 1 }
/-- A write of FREE_MSG: an address that is no allocated object is refused, E-0x072. -/
def opFree (s : State) (a : Nat) : State :=
  if 0x44880000 ≤ a ∧ (a - 0x44880000) % 256 = 0 ∧ s.drift.messages.contains ((a - 0x44880000) / 256) then
    { s with drift.messages := s.drift.messages.filter (· ≠ (a - 0x44880000) / 256) }
  else s.trigger 0x072 []

/-! ## Checkpoints (R215 to R218) -/

/-- A checkpoint begins unless one is still being written: it overwrites the area that does not hold the newest valid one (R216, R217). -/
def beginCkpt (s : State) : State :=
  if s.drift.ckptBusy.isSome || s.image.isNone then s else
  let area := 1 - s.drift.checkpoints.head?.elim 1 (·.area)
  { s with drift.checkpoints := s.drift.checkpoints.filter (fun c => c.area ≠ area)
           drift.ckptBusy := some { sequence := s.drift.ckptSequence.toNat + 1, hash := s.image.elim 0 (·.hash),
                                    forces := (s.sig.entries.filter (fun e => e.2.forced)).length, area := area } }
/-- The module takes checkpoints: it owns, or no partner answers and it is neither in COLD nor in TRACK (R215; what a lone module is, DEDUCED). -/
def takesCkpt (s : State) : Bool := s.pair.ownSelf || (!s.partnerAnswers && s.mode.current ≠ .cold && s.mode.current ≠ .track)
/-- Every 10 s of monotonic time the active or lone module takes one (R215). -/
def opCkptTick (s : State) : State :=
  if s.time.mono / 10000000000 ≤ s.drift.ckptLast / 10000000000 ∨ !s.takesCkpt then s
  else ({ s with drift.ckptLast := s.time.mono }).beginCkpt
/-- The checkpoint is written: valid on each device that took it (R216, R217). -/
def opCkptComplete (s : State) (ok1 ok2 : Bool) : State :=
  if s.drift.ckptBusy.isNone then s else
  let u := ((s.tasks.map (·.task)).foldl captureTask s).flashResult ok1 ok2
  match u.drift.ckptBusy with
  | none => u
  | some c =>
    let v := { u with drift.ckptBusy := none }
    if ok1 || ok2 then
      (({ v with drift.checkpoints := { c with on1 := ok1, on2 := ok2 } :: v.drift.checkpoints.filter (fun y => y.area ≠ c.area), drift.ckptSequence := BitVec.ofNat 64 c.sequence
                 drift.ckptTime := s.time.mono }).trigger 0x073 [c.sequence % 2 ^ 32, c.sequence / 2 ^ 32, bit ok1 0 + bit ok2 1])
    else (v.occurOpen 76).settle
/-- Check 14 of CHECKPOINT_WAIVE (R218): the module may start from declared initial states. -/
def opWaive (s : State) (x : ReplyTo) : State :=
  s.check14 x (x.req.value ≠ 1) false (!s.drift.noCheckpoint) (fun t => { t with drift.noCheckpoint := false, drift.waived := true })

/-! ## DRAM and statistics (Table 7.3, Table 7.7) -/

/-- A corrected ECC error of a rank: counted; more than ECC_THRESHOLD in one second raises D068 or D069. -/
def opEcc (s : State) (k : Nat) : State :=
  if 2 ≤ k then s else
  let sec := s.time.mono / 1000000000
  let old := get (0, 0) s.drift.eccSec k
  let n := if old.1 = sec then old.2 + 1 else 1
  let u := { s with drift.eccSec := put s.drift.eccSec k (sec, n)
                    drift.ecc0 := if k = 0 then s.drift.ecc0 + 1 else s.drift.ecc0, drift.ecc1 := if k = 1 then s.drift.ecc1 + 1 else s.drift.ecc1 }
  if n = s.drift.eccThreshold.toNat + 1 then u.occurOpen (68 + k) else u
/-- Check 14 of DRIFT_STATS_RESET. -/
def opDriftReset (s : State) (x : ReplyTo) : State :=
  s.check14 x (x.req.value ≠ 1) false false (fun t => { t with drift.fetchTimes := [], drift.lateReleases := 0, drift.steals := 0 })
/-- Check 14 of ECC_THRESHOLD. -/
def opEccThreshold (s : State) (x : ReplyTo) : State :=
  s.check14 x (x.req.value = 0 || 1000 < x.req.value) false false (fun t => { t with drift.eccThreshold := BitVec.ofNat 16 x.req.value })

end State

/-- PAGE_FETCH_COMPLETE (R200). -/
def execPageFetchComplete (page : Nat) (duration : Ns) (crcOk : Bool) (s : State) : Host.Outcome State Fault Refusal := .next (s.opFetched page duration crcOk)
/-- WRITE_BACK_COMPLETE (R198). -/
def execWriteBackComplete (frame : Nat) (s : State) : Host.Outcome State Fault Refusal := .next (s.opWrittenBack frame)
/-- ALLOC_MSG (R212). -/
def execAllocMsg (s : State) : Host.Outcome State Fault Refusal := .next s.opAlloc
/-- FREE_MSG (R212). -/
def execFreeMsg (address : Nat) (s : State) : Host.Outcome State Fault Refusal := .next (s.opFree address)
/-- CHECKPOINT_TICK (R215). -/
def execCheckpointTick (s : State) : Host.Outcome State Fault Refusal := .next s.opCkptTick
/-- CHECKPOINT_COMPLETE (R216). -/
def execCheckpointComplete (ok1 ok2 : Bool) (s : State) : Host.Outcome State Fault Refusal := .next (s.opCkptComplete ok1 ok2)
/-- ECC_CORRECTED_ERROR (Table 7.3). -/
def execEccCorrectedError (rank : Nat) (s : State) : Host.Outcome State Fault Refusal := .next (s.opEcc rank)
/-- DRIFT_STATS_RESET (Table 7.7). -/
def execDriftStatsReset (r : Req) (s : State) : Host.Outcome State Fault Refusal := .next (if rowFor r 0x7401 0 then s.forwarded r 2 State.opDriftReset else s)

end Sys2Proof.Machine
end

