-- ==== Sys2Proof/Machine/Guard.lean ====
section
/-! DEFINITION. Region Guard, the TAP and the debug master: how an access is judged, what a debugger does to tasks and state (12, R245 to R251). -/
namespace Sys2Proof.Machine
namespace State

/-! ## Judging an access (R382 to R386) -/

end State

/-- The entries of Table 7.9: first address and size. -/
def mapEntries : List (Nat × Nat) :=
  [(0x00000000, 0x40000000), (0x40000000, 0x20000), (0x41000000, 0x100000), (0x42000000, 0x2000000), (0x44000000, 0x200000), (0x44200000, 0x200000),
   (0x44400000, 0x400000), (0x44800000, 0x80000), (0x44880000, 0x180000), (0x44A00000, 0x2C0000), (0x44D00000, 0x100000), (0x44E00000, 0x100000),
   (0x44F00000, 0x40000), (0x48000000, 0x1000), (0x4C000000, 0x20000), (0x4C020000, 0x100), (0x50000000, 0x4000000), (0x100000000, 0x100000000)]
/-- The entry of Table 7.9 that holds an address; none in a gap. -/
def mapEntry (a : Nat) : Option Nat := (mapEntries.find? (fun e => e.1 ≤ a && a < e.1 + e.2)).map (·.1)
/-- A locked range refuses every master but its owner (R385). -/
def lockedTo (m a : Nat) : Bool := (mapEntry a = some 0x44E00000 && m ≠ 13) || (mapEntry a = some 0x44F00000 && m ≠ 15)
/-- Permissions of Table 12.3, 1 read, 2 write, 4 fetch. -/
def defaultBits (m a : Nat) : Nat :=
  let core := decide (m < 8)
  match mapEntry a with
  | some 0x00000000 => if core then 7 else 0
  | some 0x40000000 => if core then 7 else 0
  | some 0x41000000 => if core || m = 14 then 3 else if m = 13 then 1 else 0
  | some 0x42000000 => if core || m = 14 then 1 else if m = 8 then 3 else 0
  | some 0x44000000 => if core || m = 9 then 3 else if m = 12 || m = 14 then 1 else 0
  | some 0x44200000 => if core then 3 else if m = 14 then 1 else 0
  | some 0x44400000 => if core || m = 14 then 1 else if m = 12 then 3 else 0
  | some 0x44800000 => if core || (8 ≤ m && m ≤ 12) || m = 13 then 3 else 0
  | some 0x44880000 => if core || (9 ≤ m && m ≤ 11) then 3 else 0
  | some 0x44A00000 => if core || m = 9 then 3 else 0
  | some 0x44D00000 => if core || m = 13 then 3 else 0
  | some 0x44E00000 => if m = 13 then 3 else 0
  | some 0x44F00000 => if m = 15 then 3 else 0
  | some 0x48000000 => if core || m = 13 then 3 else 0
  | some 0x4C000000 => if core || m = 14 then 1 else 0
  | some 0x4C020000 => if core then 3 else 0
  | some 0x50000000 => if core || m = 13 then 3 else 0
  | some 0x100000000 => if core || m = 8 || m = 9 || m = 10 || m = 12 || m = 13 then 3 else if m = 15 || m = 14 then 1 else 0
  | _ => 0
/-- A region's first byte and size. -/
def regionBase (base : Word) : Nat := Machine.field base.toNat 27 0 * 256
/-- 256 B × 2^ORDER. -/
def regionSize (attr : Word) : Nat := 256 * 2 ^ Machine.field attr.toNat 30 26
/-- A region matches an address (R382, R383). -/
def regionMatches (base attr : Word) (a : Nat) : Bool :=
  attr.getLsbD 31 && decide (regionBase base ≤ a) && decide (a < regionBase base + regionSize attr)
    && tb (Machine.field attr.toNat 23 16) ((a - regionBase base) * 8 / regionSize attr)
/-- What judging an access comes to. -/
inductive Verdict where
  | allowed
  /-- A gap of Table 7.9: a bus error without a violation. -/
  | gap
  /-- Refused, with VIOL_INFO [23:16]. -/
  | refused (info : Nat)
  deriving DecidableEq, Repr

namespace State

/-- The deciding region among the live ones of a master. -/
def decider (s : State) (m a : Nat) : Option Nat :=
  leastBy (fun r => (15 - Machine.field (get (0 : Word) s.guard.live (64 * m + 2 * r + 1)).toNat 15 12) * 32 + r)
    ((List.range 32).filter (fun r => regionMatches (get 0 s.guard.live (64 * m + 2 * r)) (get 0 s.guard.live (64 * m + 2 * r + 1)) a))
/-- The judgement of an access (R383 to R386): its first byte alone counts. The program virtual space and a core's own memories exist for cores alone, so that no region opens them to another master (R220). -/
def verdict (s : State) (x : Access) : Verdict :=
  let none' : Verdict := if !x.privileged then .refused (bit true 5)
    else if tb (defaultBits x.master x.address) x.kind then .allowed else .refused (bit true 5 + bit true 7)
  if (mapEntry x.address).isNone then .gap
  else if lockedTo x.master x.address then .refused (bit true 6)
  else if 8 ≤ x.master ∧ x.address < 0x40020000 then none'
  else match s.decider x.master x.address with
  | some r => if tb (get (0 : Word) s.guard.live (64 * x.master + 2 * r + 1)).toNat (x.kind + if x.privileged then 0 else 4) then .allowed else .refused r
  | none => none'
/-- VIOL_INFO of a refused access (Table 12.6). -/
def violInfo (x : Access) (info : Nat) : Word :=
  BitVec.ofNat 32 (info * 65536 + bit x.privileged 13 + x.size % 8 * 1024 + x.kind % 4 * 256 + x.master % 16)
/-- The violation report of a refused access: the master's objects and E-0x0C0 (R388). -/
def report (s : State) (x : Access) (info : Nat) : State :=
  let old := get ({} : Viol) s.guard.reports x.master
  let v : Viol := { address := BitVec.ofNat 64 x.address, info := violInfo x info, time := s.time.mono, count := old.count + 1 }
  ({ s with guard.reports := put s.guard.reports x.master v, guard.violations := s.guard.violations + 1 }).trigger 0x0C0
    [x.address % 2 ^ 32, x.address / 2 ^ 32, v.info.toNat, v.time % 2 ^ 32, v.time / 2 ^ 32 % 2 ^ 32, v.count.toNat]
/-- The area of a core's running pass is marked faulted by the program (R201, R231). -/
def markFaulted (s : State) (t p : Nat) : State := s.setArea t (p - 1) { s.area t (p - 1) with faulted := true }
/-- What follows a refused access: the master's detector, E-0x0C1 for a debug access to a locked range, and a user fault of a pass (R387, R388, R398). -/
def violation (s : State) (x : Access) (info : Nat) : State :=
  let t := s.report x info
  let u := if x.master = 14 ∧ tb info 6 then t.trigger 0x0C1 [x.address % 2 ^ 32, x.address / 2 ^ 32, x.kind] else t.occurOpen (8 + x.master)
  if x.master < 8 ∧ !x.privileged then
    (match u.runningOn x.master with
     | none => u
     | some (k, r) => (u.markFaulted k r.pass).passOver k r).settle
  else u.settle
/-- GUARD_VIOLATION: an access that the Guard refuses. -/
def opViolation (s : State) (x : Access) : State :=
  if 16 ≤ x.master ∨ 3 ≤ x.kind ∨ 7 ≤ x.size ∨ 2 ^ 36 ≤ x.address then s else
  match s.verdict x with
  | .refused info => s.violation x info
  | _ => s


/-! ## Accesses that Drift translates (R201 to R205) -/

/-- Region Guard refuses an access, or its address lies in a gap: then it never reaches Drift (R202). -/
def refuses (s : State) (x : Access) : Bool := s.verdict x ≠ .allowed
/-- A user-mode access of the running pass to a page that its task does not declare ends the pass (R201). An access that translates through an entry whose CHECK fails ends it in the same way with D065, and no E-0x070; that D064 and LAST_UNDECLARED stay as they are then is a DESIGN CHOICE (R205). What Region Guard refuses, it reports alone (R202). -/
def opUndeclared (s : State) (c : Nat) (a : Word) (kind : Nat) (badEntry : Bool) : State :=
  match s.runningOn c with
  | none => s
  | some (t, r) =>
    let p := a.toNat / 4096
    if 2 < kind ∨ 0x40000000 ≤ a.toNat ∨ s.refuses { master := c, address := a.toNat, kind := kind, privileged := false } then s
    else if badEntry then (if s.resident p then (((s.markFaulted t r.pass).occurOpen 65).passOver t r).settle else s)
    else if s.inWorkingSet t p then s else
    let v := { s.markFaulted t r.pass with
      drift.lastUndeclared := a, drift.lastUndeclaredInfo := BitVec.ofNat 32 (t * 4096 + r.pass * 256 + c * 16 + kind) }
    (((v.occurOpen 64).trigger 0x070 [a.toNat, kind, t, r.pass, c]).passOver t r).settle
/-- A privileged access to a virtual page that is not resident ends in a bus error, E-0x071 (R203). -/
def opNonresident (s : State) (c : Nat) (a : Word) (kind : Nat) : State :=
  if 8 ≤ c ∨ 2 < kind ∨ 0x40000000 ≤ a.toNat ∨ s.resident (a.toNat / 4096) ∨ s.refuses { master := c, address := a.toNat, kind := kind, privileged := true } then s
  else s.trigger 0x071 [a.toNat, c]
/-! ## Changing the rules (R389 to R392) -/

/-- The bits of REGION_BASE and REGION_ATTR that hold what is written. -/
def regionMask (w : Nat) : Word := if w % 2 = 0 then 0x0FFFFFFF else 0xFCFFF077
/-- A home-address write of a region word by a master that may write it (R389, R392). -/
def writeRegion (s : State) (by' m w : Nat) (v : Word) : State :=
  if (m < 13 && by' < 8) || (13 ≤ m && by' = 13) then { s with guard.pending := put s.guard.pending (64 * m + w) (v &&& regionMask w) } else s
/-- A pending region passes the check of R390. -/
def regionOk (base attr : Word) : Bool :=
  !attr.getLsbD 31 || (decide (Machine.field attr.toNat 30 26 ≤ 24) && regionBase base % regionSize attr = 0)
/-- The masters of a mask, rising. -/
def maskMasters (mask : Half) : List Nat := (List.range 16).filter (fun m => mask.getLsbD m)
/-- Every pending region of a master passes. -/
def rulesOk (s : State) (m : Nat) : Bool :=
  (List.range 32).all (fun r => regionOk (get 0 s.guard.pending (64 * m + 2 * r)) (get 0 s.guard.pending (64 * m + 2 * r + 1)))
/-- GUARD_SYNC: the pending sets of the named masters become live together, or SYNC_ERROR names the lowest failing one. -/
def opGuardSync (s : State) (by' : Nat) (mask : Half) : State :=
  if !(by' < 8 || by' = 13) || (by' < 8 && (maskMasters mask).any (fun m => decide (13 ≤ m))) then s else
  match (maskMasters mask).find? (fun m => !s.rulesOk m) with
  | some m => { s with guard.syncError := true, guard.failing := BitVec.ofNat 4 m }
  | none =>
    let kept := s.guard.live.filter (fun e => !mask.getLsbD (e.1 / 64))
    { s with guard.syncError := false, guard.failing := 0
             guard.live := (s.guard.pending.filter (fun e => mask.getLsbD (e.1 / 64))).foldl (fun t e => put t e.1 e.2) kept }

/-! ## The TAP (R394) -/

/-- An instruction is loaded: its code, G, and whether it is boundary scan. -/
def loadTap (s : State) (code : Byte) (refused boundary : Bool) : State :=
  { s with guard.tap := code, guard.refused := refused, guard.boundary := boundary }
/-- EXTEST or SAMPLE/PRELOAD: BYPASS with G set when its gate is closed. -/
def opScan (s : State) (code : Byte) : State := if s.scanGate then s.loadTap code false true else s.loadTap 0xFF true false
/-- A DBG_CONTROL command that is not accepted sets G alone. -/
def refuseDebug (s : State) : State := s.loadTap 0x10 true false
/-- A DBG_CONTROL command is accepted. -/
def acceptDebug (s : State) : State := s.loadTap 0x10 false false

/-! ## Debug sessions (R245 to R248, R395 to R397) -/

/-- ATTACH is accepted (Table 12.5). -/
def mayAttach (s : State) : Bool :=
  !s.mode.inReset && ((s.mode.life = .develop && s.mode.current ≠ .safe)
    || (s.mode.life = .inService && s.inService && s.guard.permitUntil.isSome))
/-- ATTACH: E-0x0C2, with a cause whose code the manual does not give. -/
def opAttach (s : State) : State :=
  if !s.mayAttach then s.refuseDebug
  else if s.guard.attached then s.acceptDebug
  else (({ s with guard.attached := true, guard.onPermit := decide (s.mode.life = Life.inService), draws := s.draws + 1 }).acceptDebug).trigger 0x0C2 [(s.freeAt 0).toNat]
/-- HALT and STEP are accepted: attached, DEVELOP, RUN or HOLD. -/
def mayHalt (s : State) (t : Nat) : Bool :=
  s.guard.attached && s.mode.life = .develop && (s.mode.current = .run || s.mode.current = .hold) && decide (t < 16)
/-- A task enters DEBUG-TAINT, or returns to its attached state: E-0x084, DEBUG_TAINT on its signals; its release under way goes on with pass A alone, one whose vote has ended without a word written as well (R245 to R247, R249, R250; that such a vote is undone is DEDUCED). -/
def taint (s : State) (t : Nat) : State :=
  let fresh := !(s.task t).tainted
  let a := (s.setTask t (fun k => { k with tainted := true })).setFirn t (fun f => { f with taintRemaining := 0 })
  let b := { a with sig.entries := mapTab a.sig.entries (fun _ e => if e.producer = some t then { e with debugTaint := true } else e) }
  let c := match (b.task t).release with
    | none => b
    | some r =>
      let d := (if r.committing && !r.tainted then b.unvote t else b)
      let e := { d with firn.areas := del (del d.firn.areas (3 * t + 1)) (3 * t + 2) }
      if r.tainted then b
      else if r.voting || r.committing || 2 ≤ r.pass then
        e.setRelease t (fun x => { x with tainted := true, running := false, suspended := false, voting := true, committing := false })
      else e.setRelease t (fun x => { x with tainted := true })
  if fresh then c.trigger 0x084 [] else c
/-- HALT: the running pass stops at its next block boundary; in RUN the task enters DEBUG-TAINT. -/
def opHalt (s : State) (t : Nat) : State :=
  if !s.mayHalt t then s.refuseDebug else
  let u := s.acceptDebug.setTask t (fun k => { k with halted := true, resumeDue := false, haltSkipped := k.halted && k.haltSkipped })
  (if s.mode.current = .run then u.taint t else u).settle
/-- One block of pass A of a halted task's release; a release that has not begun waits for a repair of its task, and clears its areas as it begins (R230, R241). -/
def stepBlock (s : State) (t : Nat) (acts : List PassAct) (blockNs : Ns) (last : Bool) : State :=
  match (s.task t).release with
  | none => s
  | some r =>
    if r.running || r.voting || r.committing || r.waiting || r.stopping || (r.pass = 0 && (s.firnTask t).repair ≠ 0) then s else
    let b := if r.pass = 0 then s.clearAreas t else s
    let r1 : Release := { r with pass := 1, suspended := true, yielded := false
                                 since := if r.pass = 0 || r.yielded then s.time.mono - blockNs else r.since, coreTime := if r.pass = 0 then 0 else r.coreTime }
    let done := b.passActs t r1 (b.area t 0) acts
    let u := ((b.setArea t 0 done.1).setTask t (fun k => { k with longestBlock := max k.longestBlock blockNs })).setRelease t (fun _ => r1)
    if done.2 then (u.overflowed t 1 r.core).passOver t r1 else if last then u.passOver t r1 else u
/-- STEP: one block of pass A; in HOLD it dispatches a tainted release of the task when none is under way (R245). -/
def opStep (s : State) (t : Nat) (acts : List PassAct) (blockNs : Ns) (last : Bool) : State :=
  if !(s.mayHalt t && ((s.task t).halted || s.mode.current = .hold)) then s.refuseDebug else
  let u := (s.acceptDebug.setTask t (fun k => { k with halted := true, resumeDue := false })).taint t
  let v := if u.mode.current = .hold && (u.task t).release.isNone then
      (match u.taskDecl t, u.chooseCore t with
       | some d, some c => u.place d c
       | _, _ => u) else u
  (v.stepBlock t acts blockNs last).settle
/-- RESUME: the halt of a task ends; its release under way goes on. -/
def opResume (s : State) (t : Nat) : State :=
  if !(s.guard.attached && (s.task t).halted && decide (t < 16)) then s.refuseDebug else s.acceptDebug.unhalt t
/-- DETACH. -/
def opDetach (s : State) : State := if s.guard.attached then s.acceptDebug.endDebug else s.refuseDebug
/-- Five TCK cycles with TMS high. -/
def opTapReset (s : State) : State := (s.endDebug).loadTap 0x02 false false

/-! ## Accesses of the debug master (R395, R398 to R400) -/

/-- A word whose content the manual does not give. -/
def openWord (s : State) : Word × State := (s.freeAt 0, { s with draws := s.draws + 1 })
/-- The word of the executing image at an address of the program virtual space, 4-byte aligned; none where no chapter gives the content. -/
def virtWord (s : State) (v : Nat) : Option Word :=
  if 0x10000000 ≤ v ∧ v < 0x18000000 then some (constWord s (v / 4096) (v / 4 % 1024))
  else if 0x18000000 ≤ v ∧ v < 0x20000000 then some (get 0 s.firn.stateA ((v - 0x18000000) / 4))
  else if 0x20000000 ≤ v ∧ v < 0x28000000 then some (BitVec.ofNat 32 (s.copyWord 1 ((v - 0x20000000) / 4)).toNat)
  else if 0x28000000 ≤ v ∧ v < 0x38000000 then
    let d := s.copyWord 2 ((v - 0x28000000) / 8)
    some (if v % 8 = 0 then BitVec.ofNat 32 d.toNat else BitVec.ofNat 32 (d.toNat / 2 ^ 32))
  else none
/-- The virtual address of the executing image that a bus address holds: in a resident frame, or in its image-area backing. -/
def virtOf (s : State) (a : Nat) : Option Nat :=
  if 0x42100000 ≤ a ∧ a < 0x44000000 then
    let x := get ({} : Frame) s.drift.frames ((a - 0x42000000) / 4096)
    if 2 ≤ x.state ∧ x.area = s.drift.area then some (x.page * 4096 + a % 4096) else none
  else
    let base := 0x100000000 + s.drift.area * 0x80000000
    if base ≤ a ∧ a < base + 0x40000000 then some (a - base) else none
/-- The State A word at a bus address (R399). -/
def stateWordAt (s : State) (a : Nat) : Option Nat :=
  (s.virtOf a).elim none (fun v => if s.image.isSome ∧ 0x18000000 ≤ v ∧ v < 0x20000000 then some ((v - 0x18000000) / 4) else none)
/-- A page of the executing image that has been written since its fetch: its backing is older. -/
def backingOld (s : State) (a : Nat) : Bool :=
  decide (0x100000000 ≤ a) && (s.virtOf a).elim false (fun v => s.drift.frames.any (fun e => e.2.page = v / 4096 && e.2.state ≠ 0 && e.2.dirty && e.2.area = s.drift.area))
/-- A Signal Image entry as its 32 bytes in the internal map, each field little-endian (R60, Table 5.6). -/
def sigMap (s : State) (g : Nat) : List Byte :=
  let e := s.sigOf g
  (be 4 e.value.toNat).reverse ++ (be 2 e.status.toNat).reverse ++ be 1 (s.forceState g) ++ be 1 (e.producer.getD 0xFF) ++ (be 4 e.forceValue.toNat).reverse
    ++ (be 2 e.attributes.toNat).reverse ++ (be 8 e.changedMono).reverse ++ (be 6 e.changedWall.seconds.toNat).reverse ++ (be 4 e.changedWall.nanos.toNat).reverse
/-- A little-endian word in a byte string. -/
def leAt (l : List Byte) (o : Nat) : Word := BitVec.ofNat 32 (fromBe (slice l o 4).reverse)
/-- The entry of the Commit Stash at a number: areas in ascending task number, passes A, B, C (R228). -/
def stashEntry (s : State) (n : Nat) : Option Stash :=
  let f := (sortBy (fun (d : TaskDecl) => d.task) s.tasks).foldl (fun (r : Nat × Option Stash) d =>
    if r.1 ≤ n ∧ n < r.1 + 3 * d.stashWords then (r.1 + 3 * d.stashWords, (s.area d.task ((n - r.1) / d.stashWords)).entries[(n - r.1) % d.stashWords]?)
    else (r.1 + 3 * d.stashWords, r.2)) (0, none)
  f.2
/-- A word of a stash entry (Table 8.3). -/
def stashWord (e : Option Stash) (w : Nat) : Word :=
  e.elim 0 (fun x => match w with
    | 0 => BitVec.ofNat 32 x.value.toNat
    | 1 => BitVec.ofNat 32 (x.value.toNat / 2 ^ 32)
    | 2 => BitVec.ofNat 32 (x.kind.toNat * 2 ^ 30 + x.target.toNat)
    | _ => BitVec.ofNat 32 (2 ^ 31 + x.type.toNat))
/-- A word of a frame table entry (R204). -/
def frameWord (s : State) (f w : Nat) : Word := (s.frameAt f).words.getD w 0
/-- A register of the Slot Allocator as it reads: MSG_FREE_COUNT and SLOT_FREE_COUNT; the debug master's read of ALLOC_MSG is no read of a core, and allocates nothing (R212, Table 7.4; DESIGN CHOICE). -/
def allocWord (s : State) (o : Nat) : Option Word :=
  if o = 8 then some (BitVec.ofNat 32 s.freeMsgs.length)
  else if 0x10 ≤ o ∧ o < 0x24 then some (BitVec.ofNat 32 (slotsFree s ((o - 0x10) / 4))) else none
/-- A word of an interrupt queue's ring: 16 bytes an entry (Table 7.9). -/
def ringWord (s : State) (o : Nat) : Word :=
  (get [] (get ({} : IntQ) s.disp.queues (o / 0x800)).ring (o % 0x800 / 16)).getD (o % 16 / 4) 0
/-- DRAM whose bytes State.mem holds: runtime data, and the image area that the executing image does not occupy (Table 7.5). -/
def plainDram (s : State) (a : Nat) : Bool :=
  (0x149000000 ≤ a && a < 0x180000000) || (0x1E0000000 ≤ a && a < 0x200000000)
    || (let base := 0x100000000 + s.stageSlot * 0x80000000; base ≤ a && a < base + 0x40000000)
/-- The word of an object at this instant; the low word of a two-slot object latches the high one. -/
def homeLive (s : State) (m a i sub : Nat) : Word × State :=
  let plain := fun (o : Obj) (n : Nat) => if o.acc = .ws ∨ o.ty = .bytes then (0 : Nat) else readObj s 0 i n
  match lookup s i sub with
  | .found o =>
    let v := plain o sub
    (BitVec.ofNat 32 v, if o.ty = .u64 then { s with xan.latched := put s.xan.latched m (a + 4, BitVec.ofNat 32 (v / 2 ^ 32)) } else s)
  | _ =>
    match (if sub = 0 then .noSub else lookup s i (sub - 1)) with
    | .found o => (if o.ty = .u64 then BitVec.ofNat 32 (plain o (sub - 1) / 2 ^ 32) else 0, s)
    | _ => (0, s)
/-- A read of a master at a home address: a latched high word, else the live word (R64 to R67). -/
def homeRead (s : State) (m a : Nat) : Word × State :=
  match find s.xan.latched m with
  | some (b, w) =>
    if b = a then (w, { s with xan.latched := del s.xan.latched m }) else s.homeLive m a ((a - 0x50000000) / 0x400) ((a - 0x50000000) % 0x400 / 4)
  | none => s.homeLive m a ((a - 0x50000000) / 0x400) ((a - 0x50000000) % 0x400 / 4)
/-- What a read of the debug master returns: the content the chapters give, else a free word. Where a chapter gives an area's content but not its place within the area, as in the capture buffer, the Moraine rings, checkpoint staging and the resynchronisation buffer, the word is free. -/
def busWord (s : State) (a : Nat) : Word × State :=
  match mapEntry a with
  | some 0x41000000 => (rd32 s.mem a, s)
  | some 0x44000000 => (leAt (s.sigMap ((a - 0x44000000) / 32)) (a % 32), s)
  | some 0x44200000 => if a < 0x443FC000 then (stashWord (s.stashEntry ((a - 0x44200000) / 16)) (a / 4 % 4), s) else s.openWord
  | some 0x44800000 => (s.ringWord (a - 0x44800000), s)
  | some 0x44880000 => (rd32 s.mem a, s)
  | some 0x48000000 => (s.queueReg a, s)
  | some 0x4C000000 => (s.frameWord ((a - 0x4C000000) / 16) (a / 4 % 4), s)
  | some 0x50000000 => s.homeRead 14 a
  | some 0x4C020000 => (s.allocWord (a - 0x4C020000)).elim s.openWord (fun w => (w, s))
  | _ => match (if s.backingOld a then none else s.virtOf a) with
    | some v => (s.virtWord v).elim s.openWord (fun w => (w, s))
    | none => if s.plainDram a ∨ (0x42000000 ≤ a ∧ a < 0x42100000) then (rd32 s.mem a, s) else s.openWord
/-- The result of a DBG_ACCESS: STATUS and the word. -/
def dbgResult (s : State) (st : BitVec 2) (v : Word) : State := { s with guard.dbgStatus := st, guard.dbgData := v, guard.tap := 0x11, guard.refused := false, guard.boundary := false }
/-- DBG_ACCESS without an attached session acts as BYPASS with G set; STATUS shows the gate. -/
def dbgGate (s : State) : State := { s.loadTap 0xFF true false with guard.dbgStatus := 2 }
/-- The access as Region Guard sees it. -/
def dbgAccess (a kind : Nat) : Access := { master := 14, address := a, kind := kind, size := 2, privileged := true }
/-- DBG_ACCESS read. -/
def opDbgRead (s : State) (a : Nat) : State :=
  if !s.guard.attached then s.dbgGate
  else if a % 4 ≠ 0 then s.dbgResult 1 s.guard.dbgData
  else match s.verdict (dbgAccess a 0) with
  | .gap => s.dbgResult 1 s.guard.dbgData
  | .refused info => (s.violation (dbgAccess a 0) info).dbgResult 1 s.guard.dbgData
  | .allowed => let r := s.busWord a; r.2.dbgResult 0 r.1
/-- E-0x086: address, old value, new value, outcome (R251). -/
def dbgRecord (s : State) (a : Nat) (old new : Word) (outcome : Nat) : State := s.trigger 0x086 [a % 2 ^ 32, a / 2 ^ 32, old.toNat, new.toNat, outcome]
/-- The tasks whose slots hold a State A word. -/
def tasksOfWord (s : State) (w : Nat) : List Nat := ((s.tasks.map (·.task)).filter (fun t => (taskWords s t).contains w))
/-- No pass is dispatched: COLD, SERVICE, or a resynchronising module (R251). -/
def quiet (s : State) : Bool :=
  s.mode.current = .cold || s.inService || (s.mode.current = .track && 1 ≤ s.pair.phase && s.pair.phase ≤ 4)
/-- A debugger write to a State A word through the debug write path (R251, R400). -/
def dbgState (s : State) (a w : Nat) (v : Word) : State :=
  let old := get 0 s.firn.stateA w
  if s.quiet then ((s.setWord w (s.wordType w) v).dbgRecord a old v 0).dbgResult 0 s.guard.dbgData
  else if s.mode.current = .run ∨ s.mode.current = .hold then
    (((s.tasksOfWord w).foldl taint (s.setCopy 0 w (s.wordType w) v)).dbgRecord a old v 0).settle.dbgResult 0 s.guard.dbgData
  else (s.dbgRecord a old v 1).dbgResult 1 s.guard.dbgData
/-- One word of a Signal Image entry taken plain, with SOURCE 3 (R399). Which fields such a write may alter, the manual does not say: here it alters VALUE, the status bits, the force state and force value, and the change times, with no check of R155 and no E-0x050, and leaves PRODUCER and ATTRIBUTES (DESIGN CHOICE). -/
def dbgSigWord (e : Sig) (k : Nat) (v : Word) : Sig :=
  let n := v.toNat
  let x : Sig := { e with source := 3 }
  match k with
  | 0 => { x with value := v }
  | 1 => { x with quality := BitVec.ofNat 2 (Machine.field n 15 14), stale := tb n 12, transition := tb n 11, skewHeld := tb n 10, wireBreak := tb n 9
                  overrange := tb n 8, underrange := tb n 7, loopCompliance := tb n 6, undervolt := tb n 5, debugTaint := tb n 4, substituted := tb n 3
                  forced := tb n 16 }
  | 2 => { x with forceValue := v }
  | 3 => { x with changedMono := e.changedMono / 2 ^ 16 * 2 ^ 16 + Machine.field n 31 16 }
  | 4 => { x with changedMono := e.changedMono / 2 ^ 48 * 2 ^ 48 + n * 2 ^ 16 + e.changedMono % 2 ^ 16 }
  | 5 => { x with changedMono := Machine.field n 15 0 * 2 ^ 48 + e.changedMono % 2 ^ 48
                  changedWall := { e.changedWall with seconds := BitVec.ofNat 48 (e.changedWall.seconds.toNat / 2 ^ 16 * 2 ^ 16 + Machine.field n 31 16) } }
  | 6 => { x with changedWall := { e.changedWall with seconds := BitVec.ofNat 48 (n * 2 ^ 16 + e.changedWall.seconds.toNat % 2 ^ 16) } }
  | _ => { x with changedWall := { e.changedWall with nanos := v } }
/-- A debugger write into a Signal Image entry; an undeclared entry holds nothing that a write could change (R70). -/
def dbgSignal (s : State) (a : Nat) (v : Word) : State :=
  let g := (a - 0x44000000) / 32
  let k := a % 32 / 4
  let old := leAt (s.sigMap g) (a % 32)
  let t := if k = 0 then s.setSig g (fun e => dbgSigWord e 0 v)
    else (find s.sig.entries g).elim s (fun e => { s with sig.entries := put s.sig.entries g (if k = 1 then s.stamp e (dbgSigWord e k v) else dbgSigWord e k v) })
  ((t.dbgRecord a old v 0).settle).dbgResult 0 s.guard.dbgData
/-- A debugger write there ends in a bus error in every mode: code, constant pool, State B and State C (R400). -/
def barsDebug (s : State) (a : Nat) : Bool := (s.virtOf a).elim false (fun v => v < 0x18000000 || (0x20000000 ≤ v && v < 0x38000000))
/-- DBG_ACCESS write: the debug write path, else a bus write of master 14. -/
def opDbgWrite (s : State) (a : Nat) (v : Word) : State :=
  if !s.guard.attached then s.dbgGate
  else if a % 4 ≠ 0 then (({ s with draws := s.draws + 1 }).dbgRecord a (s.freeAt 0) v 1).dbgResult 1 s.guard.dbgData
  else match s.stateWordAt a with
  | some w => s.dbgState a w v
  | none =>
    if mapEntry a = some 0x44000000 then s.dbgSignal a v else
    let old := s.busWord a
    match s.verdict (dbgAccess a 1) with
    | .gap => (old.2.dbgRecord a old.1 v 1).dbgResult 1 s.guard.dbgData
    | .refused info => ((old.2.violation (dbgAccess a 1) info).dbgRecord a old.1 v 1).dbgResult 1 s.guard.dbgData
    | .allowed => if s.barsDebug a then (old.2.dbgRecord a old.1 v 1).dbgResult 1 s.guard.dbgData else (({ old.2 with mem := wr32 s.mem a v }).dbgRecord a old.1 v 0).dbgResult 0 s.guard.dbgData

/-! ## The debug permit (R396, R49) -/

/-- Check 14 of DEBUG_PERMIT. -/
def opDebugPermit (s : State) (x : ReplyTo) : State :=
  s.check14 x (x.req.value < 60 || 3600 < x.req.value) false (!(s.mode.life = .inService && s.inService))
    (fun t => { t with guard.permitUntil := some (t.time.mono + x.req.value * 1000000000) })
/-- The permit's time runs out: the session that depends on it ends. -/
def opPermitExpiry (s : State) : State :=
  if s.guard.permitUntil.elim false (fun e => decide (e ≤ s.time.mono)) then
    let t := { s with guard.permitUntil := none }
    if s.guard.onPermit then t.endDebug else t
  else s

end State

/-- UNDECLARED_ACCESS (R201). -/
def execUndeclaredAccess (core : Nat) (access : CoreAccess) (badEntry : Bool) (s : State) : Host.Outcome State Fault Refusal :=
  .next (s.opUndeclared core access.address access.kind badEntry)
/-- NONRESIDENT_PRIVILEGED_ACCESS (R203). -/
def execNonresidentPrivilegedAccess (core : Nat) (access : CoreAccess) (s : State) : Host.Outcome State Fault Refusal :=
  .next (s.opNonresident core access.address access.kind)
/-- GUARD_VIOLATION (R388). -/
def execGuardViolation (a : Access) (s : State) : Host.Outcome State Fault Refusal := .next (s.opViolation a)
/-- GUARD_SYNC (R390). -/
def execGuardSync (master : Nat) (mask : Half) (s : State) : Host.Outcome State Fault Refusal := .next (s.opGuardSync master mask)
/-- EXTEST (R394). -/
def execExtest (s : State) : Host.Outcome State Fault Refusal := .next (s.opScan 0x00)
/-- SAMPLE/PRELOAD (R394). -/
def execSamplePreload (s : State) : Host.Outcome State Fault Refusal := .next (s.opScan 0x01)
/-- IDCODE (R394). -/
def execIdcode (s : State) : Host.Outcome State Fault Refusal := .next (s.loadTap 0x02 false false)
/-- BYPASS (R394). -/
def execBypass (s : State) : Host.Outcome State Fault Refusal := .next (s.loadTap 0xFF false false)
/-- ATTACH (Table 12.5). -/
def execAttach (s : State) : Host.Outcome State Fault Refusal := .next s.opAttach
/-- HALT (R245). -/
def execHalt (task : Nat) (s : State) : Host.Outcome State Fault Refusal := .next (s.opHalt task)
/-- STEP (R245). -/
def execStep (task : Nat) (acts : List PassAct) (blockNs : Ns) (last : Bool) (s : State) : Host.Outcome State Fault Refusal := .next (s.opStep task acts blockNs last)
/-- RESUME (Table 12.5). -/
def execResume (task : Nat) (s : State) : Host.Outcome State Fault Refusal := .next (s.opResume task)
/-- DETACH (R248). -/
def execDetach (s : State) : Host.Outcome State Fault Refusal := .next s.opDetach
/-- DBG_ACCESS read (R395). -/
def execDbgAccessRead (address : BitVec 36) (s : State) : Host.Outcome State Fault Refusal := .next (s.opDbgRead address.toNat)
/-- DBG_ACCESS write (R399). -/
def execDbgAccessWrite (address : BitVec 36) (data : Word) (s : State) : Host.Outcome State Fault Refusal := .next (s.opDbgWrite address.toNat data)
/-- TAP_RESET (R397). -/
def execTapReset (s : State) : Host.Outcome State Fault Refusal := .next s.opTapReset
/-- DEBUG_PERMIT (R396). -/
def execDebugPermit (r : Req) (s : State) : Host.Outcome State Fault Refusal := .next (if rowFor r 0x7340 0 then s.forwarded r 2 State.opDebugPermit else s)
/-- DEBUG_PERMIT_EXPIRY (R396). -/
def execDebugPermitExpiry (s : State) : Host.Outcome State Fault Refusal := .next s.opPermitExpiry

end Sys2Proof.Machine
end

