-- ==== Sys2Proof/Machine/Links.lean ====
section
/-! DEFINITION. The I/O links: cycles, replies, missing positions, configuration, lane sync and parking (15). -/
namespace Sys2Proof.Machine
namespace State

/-! ## Missing positions (R461) -/

/-- D129 + 2k, which does not occur while the link is fenced, but within the shadow of its restore (R463, R467). -/
def linkEvent (s : State) (k info : Nat) : State :=
  if s.fenced (0x10 + k) && !s.hub.restore.elim false (fun r => r.domain = 0x10 + k) then s else s.occur (129 + 2 * k) info
/-- The Signal Image takes link inputs in every mode but COLD and TRACK (R318, R458). -/
def linkWrites (s : State) : Bool := s.mode.current ≠ .cold && s.mode.current ≠ .track
/-- Signals of a position marked by the engine, told to the partner. -/
def markInputs (s : State) (k m : Nat) (f : Sig → Sig) : State :=
  if !s.linkWrites then s else
  (s.linkInputs k m).foldl (fun u e =>
    let v := u.setSig e.2 f
    if (v.sigOf e.2).quality = (u.sigOf e.2).quality then v else v.streamSig e.2) s
/-- A position has missed one cycle. -/
def missOnce (s : State) (k m : Nat) : State :=
  let n := min 65535 ((s.pos k m).missed + 1)
  let t := (s.setPos k m (fun p => { p with missed := n, answered := false })).markInputs k m (fun e => { e with stale := true })
  if (s.lnk k).missInUse.toNat ≤ n ∧ ((s.pos k m).missed < (s.lnk k).missInUse.toNat ∨ (s.pos k m).state ≠ 3) then
    (((t.setPos k m (fun p => { p with state := 3 })).markInputs k m (fun e => { e with quality := if e.quality = 3 then 3 else 2 })).trigger 0x0E2 []).linkEvent k (m + 256)
  else t
/-- A transaction is judged missing. -/
def judgeMissing (s : State) (k m : Nat) : State :=
  ((s.endTransaction k m).setLnk k (fun x => { x with missedReplies := x.missedReplies + 1 })).missOnce k m
/-- The next cycle instant of a link. -/
def nextCycle (s : State) (k : Nat) : Ns := (s.lnk k).cycleAt + (s.linkDecl k).elim 0 (fun d => d.period * 1000)
/-- A retry can end before the next cycle instant: request, window and reply, once the lane is free (R455, Tables 15.1 and 15.2). That the latest end counts is DEDUCED. -/
def retryFits (s : State) (k m : Nat) : Bool :=
  decide (max s.time.mono (s.lnk k).laneFree + 1216 + 2000 + 2 * (s.lnk k).delay.toNat + 3000 * s.othersInFlight k m + 2912 ≤ s.nextCycle k)
/-- A transaction has failed: retried once, after the cycle's last first request, then missing (R455). -/
def failTransaction (s : State) (k m : Nat) : State :=
  if !(s.pos k m).retried && s.retryFits k m then
    ((s.setLnk k (fun x => { x with retries := x.retries + 1 })).setPos k m (fun p => { p with retried := true, retryDue := true })).sendRetries k
  else s.judgeMissing k m
/-! ## The end of a cycle (R459, R463) -/

/-- A position that counts for R463: configured since the module left COLD or the link was restored, not refused since. -/
def counts (p : Position) : Bool := p.everConfigured && p.state ≠ 2
/-- A mask of the positions of a link. -/
def posMask (s : State) (k : Nat) (f : Position → Bool) : Nat := (s.positionsOf k).foldl (fun a m => a + bit (f (s.pos k m)) m) 0
/-- D128 + 2k with its cause; on a link that is then fenced and trained it is not live (R463). -/
def linkFails (s : State) (k cause : Nat) : State :=
  let t := s.rise (128 + 2 * k) cause
  if t.fenced (0x10 + k) && (t.lnk k).trained then t.fall (128 + 2 * k) else t
/-- Positions that have not answered CONFIGURE count as missing (R465). -/
def unansweredConfigs (s : State) (k : Nat) : State :=
  ((s.positionsOf k).filter (fun m => (s.pos k m).configWait)).foldl
    (fun u m => (u.missOnce k m).setPos k m (fun p => { p with configWait := false, state := 3 })) s
/-- The cycle is over: unanswered CONFIGUREs count as missing, the entry in interrupt queue k, the count of cycles without a valid reply. -/
def closeCycle (s : State) (k : Nat) (overrun : Bool) : State :=
  let t := s.unansweredConfigs k
  let x := t.lnk k
  let answered := t.posMask k (·.answered)
  let missing := t.posMask k (fun p => !p.answered && decide (p.state = 1 ∨ p.state = 3))
  let owner := x.requested && x.ownerAll
  let run := if (t.positionsOf k).any (fun m => counts (t.pos k m)) && answered = 0 then x.silentRun + 1 else 0
  let u := (t.setLnk k (fun y => { y with
    cycleOpen := false, overrun := overrun, ownerSent := owner, answeredMask := answered, silentRun := run, lastCycle := if answered = 0 then 0 else y.lastReplyAt - y.cycleAt })).produce k
      [BitVec.ofNat 32 x.cycles.toNat, BitVec.ofNat 32 (x.cycleAt / 1000), BitVec.ofNat 32 (answered + missing * 65536), BitVec.ofNat 32 (bit overrun 0 + bit owner 1)]
  if x.missInUse.toNat ≤ run then u.linkFails k 3 else u
/-- Transactions still open at the next instant are missing, and the cycle has overrun (R455); between cycles only a restore's CONFIGUREs are open. -/
def overrunCycle (s : State) (k : Nat) : State :=
  if !(s.lnk k).cycleOpen then s.unansweredConfigs k else
  let late := (s.positionsOf k).filter (fun m => (s.pos k m).inFlight || s.link.waiting.any (fun w => w.2 = (k, m)))
  if late.isEmpty then s.closeCycle k false else
  let t := { s with link.waiting := s.link.waiting.filter (fun w => w.2.1 ≠ k) }
  ((late.foldl (fun u m => u.judgeMissing k m) t).setLnk k (fun x => { x with overruns := x.overruns + 1 })).closeCycle k true

/-! ## The commands of a cycle -/

/-- A cycle starts: CONFIGURE where it is due, one request to every position that is configured or missing (R454, R461, R465). -/
def startCycle (s : State) (k : Nat) : State :=
  let t := s.setLnk k (fun x => { x with
    exchanging := true, cycleOpen := true, cycles := x.cycles + 1, seq := BitVec.ofNat 8 (x.cycles.toNat + 1), cycleAt := s.time.mono
    missInUse := x.missLimit, silentInUse := x.silent, requested := false, ownerAll := true
    positions := mapTab x.positions (fun _ p => { p with answered := false, retried := false }) })
  (s.positionsOf k).foldl (fun u m =>
    let p := u.pos k m
    if p.configure then u.configure k m
    else if p.state = 1 ∨ p.state = 3 then u.request k m else u) t
/-- D128 + 2k stops being live once no cause of R463 holds any more. -/
def linkSound (s : State) (k : Nat) : State :=
  if (s.lnk k).trained && (s.fenced (0x10 + k) || decide ((s.lnk k).silentRun < (s.lnk k).missInUse.toNat)) then s.fall (128 + 2 * k) else s
/-- One cycle after LINK_PARK: the link is parked (R466); once the fence holds a trained link the cause is no longer judged (R463). -/
def parkNow (s : State) (k : Nat) : State :=
  ((s.setLnk k (fun x => { x with parkDue := false, parked := true })).trigger 0x0E0 [k, 3]).linkFails k 2
/-- LINK_CYCLE_INSTANT. -/
def opCycle (s : State) (k : Nat) : State :=
  match s.linkDecl k with
  | none => s
  | some d =>
    if s.mode.inReset ∨ !s.time.monoRun ∨ s.time.mono < d.phase * 1000 ∨ (s.time.mono - d.phase * 1000) % (d.period * 1000) ≠ 0 then s
    else if s.fenced (0x10 + k) then s.settle
    else
      let t := s.overrunCycle k
      if t.fenced (0x10 + k) then t.settle
      else if (t.lnk k).parkDue then (t.parkNow k).settle
      else if t.mode.current = .cold then (t.linkSound k).settle
      else ((t.linkSound k).startCycle k).settle
/-- Quality of a CH_STATUS byte: 10 and 11 are BAD; a fenced unit's inputs stay BAD-FENCED (R139, R458). -/
def linkQuality (s : State) (unit : Nat) (b : Byte) : BitVec 2 :=
  if s.unitFenced unit then 3 else if b.toNat % 4 = 0 then 0 else if b.toNat % 4 = 1 then 1 else 2
/-- A valid reply's inputs into the Signal Image (R458); SUBSTITUTED ends with the first value after a fence (R141). -/
def takeInputs (s : State) (k : Nat) (p : LinkReply) : State :=
  if !s.linkWrites then s else
  (s.linkInputs k p.position).foldl (fun u e =>
    let b : Byte := p.chStatus.getD e.1 0
    u.sourceSig e.2 (fun g => { g with value := p.input.getD e.1 0, quality := u.linkQuality g.unit b, source := 1
                                       substituted := g.substituted && u.unitFenced g.unit, wireBreak := b.getLsbD 2, overrange := b.getLsbD 3, underrange := b.getLsbD 4 })) s
/-- ECHO against OUTPUT on one channel (R462). -/
def judgeEcho (s : State) (k : Nat) (p : LinkReply) (c : Nat) : State :=
  let x := s.pos k p.position
  if !s.pair.ownSelf || !x.owner || x.mask.getLsbD c || get 0 x.age c = 0 then s
  else if p.echo.getD c 0 = get 0 x.sent c then s.setPos k p.position (fun y => { y with bad := put y.bad c 0 })
  else
    let n := min 4 (get 0 x.bad c + 1)
    let t := s.setPos k p.position (fun y => { y with bad := put y.bad c n })
    if n = 3 then t.linkEvent k (p.position + 0x500 + c * 65536) else t
/-- SOE records go to the Capture Engine with their tags (R458). -/
def takeSoe (s : State) (k : Nat) (p : LinkReply) : State :=
  (p.soe.take (min 8 (p.mstatus.toNat / 16))).foldl (fun u e =>
    u.opCapArrival { time := e.tag, channel := 0x1000 + k * 0x200 + p.position * 0x20 + e.channel % 32, value := BitVec.ofNat 32 (bit e.state 0) }) s
/-- MODULE_FAULT or SOE_LOST first reported (Table 15.8). -/
def firstReports (s : State) (k : Nat) (old : Byte) (p : LinkReply) : State :=
  let t := if p.mstatus.getLsbD 2 && !old.getLsbD 2 then s.linkEvent k (p.position + 0x300) else s
  if p.mstatus.getLsbD 3 && !old.getLsbD 3 then t.linkEvent k (p.position + 0x400) else t
/-- A valid reply to a request in flight. -/
def goodReply (s : State) (k : Nat) (p : LinkReply) : State :=
  let m := p.position
  let old := s.pos k m
  let again := decide (old.state = 3)
  let t := ((s.endTransaction k m).setLnk k (fun x => { x with lastReplyAt := s.time.mono })).setPos k m (fun y => { y with
    answered := true, missed := 0, moduleType := p.moduleType, mstatus := p.mstatus
    configure := y.configure || again || !p.mstatus.getLsbD 0, state := if again || !p.mstatus.getLsbD 0 then 0 else y.state })
  let u := if again then t.trigger 0x0E2 [] else t
  ((((List.range 32).foldl (fun v c => v.judgeEcho k p c) ((u.takeInputs k p).takeSoe k p)).firstReports k old.mstatus p)).settle
/-- LINK_REPLY, at the end of its last bit: a frame that R452 discards counts in CRC_ERRORS; one that fails, bears a wrong SEQ or did not begin within its window of 2.912 µs before is retried once (R455). -/
def opLinkReply (s : State) (k : Nat) (p : LinkReply) : State :=
  let x := s.pos k p.position
  let open' := x.inFlight && !x.retryDue
  if (s.linkDecl k).isNone ∨ s.fenced (0x10 + k) ∨ s.mode.inReset then s
  else if !p.crcOk then
    let t := s.setLnk k (fun x => { x with crcErrors := x.crcErrors + 1 })
    (if open' then t.failTransaction k p.position else t).settle
  else if !open' then s
  else if p.seq ≠ (s.lnk k).seq ∨ s.time.mono < x.requestEnd + 2912 ∨ x.windowEnd + 2912 < s.time.mono then (s.failTransaction k p.position).settle
  else s.goodReply k p
/-- REPLY_WINDOW_EXPIRY: no reply has begun when the window closes (R455). -/
def opReplyWindow (s : State) (k m : Nat) : State :=
  let p := s.pos k m
  if p.inFlight && !p.retryDue && decide (p.windowEnd ≤ s.time.mono) then (s.failTransaction k m).settle else s
/-- LINK_CYCLE_END: every transaction of the cycle has ended. -/
def opCycleEnd (s : State) (k : Nat) : State :=
  if (s.lnk k).cycleOpen && !(s.positionsOf k).any (fun m => (s.pos k m).inFlight) && !s.firstWaits k then (s.closeCycle k false).settle else s

/-! ## Configuration (R465, R467) -/

/-- The expected type of a position. -/
def expectedType (s : State) (k m : Nat) : Word :=
  (s.linkDecl k).elim 0 (fun d => (d.positions.find? (fun p => p.position = m)).elim 0 (·.typeId))
/-- CONFIGURE_REPLY: configured, or refused with D129 + 2k and BAD inputs; E-0x0E1 bears both types and the serial number. -/
def opConfigReply (s : State) (k : Nat) (p : ConfigReply) : State :=
  let m := p.position
  if (s.linkDecl k).isNone ∨ s.mode.inReset then s
  else if !p.crcOk then s.setLnk k (fun x => { x with crcErrors := x.crcErrors + 1 })
  else if !(s.pos k m).configWait then s
  else
    let t := s.trigger 0x0E1 [m, (s.expectedType k m).toNat, p.moduleType.toNat, p.serial.toNat % 2 ^ 32, p.serial.toNat / 2 ^ 32]
    if p.result = 0 then t.setPos k m (fun y => { y with state := 1, everConfigured := true, configWait := false, missed := 0, moduleType := p.moduleType })
    else
      (((t.setPos k m (fun y => { y with state := 2, configWait := false, refusedAt := s.time.mono, moduleType := p.moduleType })).markInputs k m
        (fun e => { e with quality := if e.quality = 3 then 3 else 2 })).linkEvent k (m + 0x200)).settle
/-- CONFIGURE again to a refused position every 1 s. -/
def opConfigRetry (s : State) (k m : Nat) : State :=
  if (s.pos k m).state = 2 ∧ (s.pos k m).refusedAt + 1000000000 ≤ s.time.mono ∧ !s.fenced (0x10 + k) ∧ s.mode.current ≠ .cold ∧ (s.positionsOf k).contains m then
    (s.configure k m).setPos k m (fun p => { p with refusedAt := s.time.mono })
  else s

/-! ## Lane sync and parking (R463, R466) -/

/-- Lane sync has been lost for 100 µs: D128 + 2k of a link that the image uses. -/
def opLinkLost (s : State) (k : Nat) : State :=
  if 48 ≤ k ∨ !(s.lnk k).trained then s else
  let t := (s.setLnk k (fun x => { x with trained := false })).trigger 0x0E0 [k, 2]
  (if (s.linkDecl k).isSome then t.rise (128 + 2 * k) 1 else t).settle
/-- The lane is trained, and LINK_DELAY measured. -/
def opLinkTrained (s : State) (k : Nat) (delay : Word) : State :=
  if 48 ≤ k ∨ (s.lnk k).trained then s else
  (((s.setLnk k (fun x => { x with trained := true, delay := delay })).trigger 0x0E0 [k, 1]).linkSound k).settle
/-- Check 14 of LINK_PARK. -/
def opLinkPark (s : State) (x : ReplyTo) : State :=
  let k := x.req.index.toNat - 0x7610
  s.check14 x (x.req.value ≠ 1) (s.fenced (0x10 + k)) false (fun t => (t.sendSafe [k]).setLnk k (fun y => { y with parkDue := true }))
/-- Check 14 of MISS_LIMIT and SILENT_TIMEOUT of a link (Table 15.5). -/
def opLinkSetting (s : State) (x : ReplyTo) : State :=
  let k := x.req.index.toNat - 0x7610
  let v := x.req.value
  if x.req.sub = 0x0E then s.check14 x (v = 0 || 16 < v) false false (fun t => t.setLnk k (fun y => { y with missLimit := BitVec.ofNat 8 v }))
  else s.check14 x (v < 2 || 500 < v) false false (fun t => t.setLnk k (fun y => { y with silent := BitVec.ofNat 16 v }))

end State

/-- LINK_CYCLE_INSTANT (R453). -/
def execLinkCycleInstant (link : Nat) (s : State) : Host.Outcome State Fault Refusal := .next (s.opCycle link)
/-- LINK_REPLY (R458). -/
def execLinkReply (link : Nat) (p : LinkReply) (s : State) : Host.Outcome State Fault Refusal := .next (s.opLinkReply link p)
/-- REPLY_WINDOW_EXPIRY (R455). -/
def execReplyWindowExpiry (link position : Nat) (s : State) : Host.Outcome State Fault Refusal := .next (s.opReplyWindow link position)
/-- LINK_CYCLE_END (R459). -/
def execLinkCycleEnd (link : Nat) (s : State) : Host.Outcome State Fault Refusal := .next (s.opCycleEnd link)
/-- CONFIGURE_REPLY (R465). -/
def execConfigureReply (link : Nat) (p : ConfigReply) (s : State) : Host.Outcome State Fault Refusal := .next (s.opConfigReply link p)
/-- CONFIGURE_RETRY (R465). -/
def execConfigureRetry (link position : Nat) (s : State) : Host.Outcome State Fault Refusal := .next (s.opConfigRetry link position)
/-- LINK_SYNC_LOST (R463). -/
def execLinkSyncLost (link : Nat) (s : State) : Host.Outcome State Fault Refusal := .next (s.opLinkLost link)
/-- LINK_TRAINED (R463). -/
def execLinkTrained (link : Nat) (delay : Word) (s : State) : Host.Outcome State Fault Refusal := .next (s.opLinkTrained link delay)
/-- LINK_PARK (R466). -/
def execLinkPark (r : Req) (s : State) : Host.Outcome State Fault Refusal :=
  .next (if 0x7610 ≤ r.index.toNat ∧ r.index.toNat ≤ 0x763F ∧ r.sub = 0x10 then s.forwarded r 2 State.opLinkPark else s)

end Sys2Proof.Machine
end

