-- ==== Sys2Proof/Machine/Load.lean ====
section
/-! DEFINITION. Program images: the load limits, slot assignment, loading an image, the instance map and the state carried across an exchange (05, 07, 09). -/
namespace Sys2Proof.Machine

/-! ## Slots (R209 to R211) -/

/-- The first State A word of a class's pool: pools lie in ascending class order, each from a 16 KiB boundary (R209). -/
def poolBase (pools : List Nat) (c : Nat) : Nat := (List.range c).foldl (fun a k => (a + pools.getD k 0 * classWords k + 4095) / 4096 * 4096) 0
/-- The slots of a class, lowest first. -/
def slotsOf (pools : List Nat) (c : Nat) : List Nat := (List.range (pools.getD c 0)).map (fun k => poolBase pools c + k * classWords c)
/-- Instances in ascending ID take the lowest free slots of their class; none when a class runs out (R210). -/
def assignSlots (pools : List Nat) : List InstDecl → Tab Nat → Option (Tab Nat)
  | [], t => some t
  | x :: rest, t =>
    if (find t x.id).isSome then assignSlots pools rest t
    else match (slotsOf pools x.slotClass).find? (fun o => !t.any (fun e => e.2 = o)) with
    | none => none
    | some o => assignSlots pools rest (put t x.id o)
/-- The instances of an image in ascending ID. -/
def byId (i : Image) : List InstDecl := sortBy (fun x => x.id) i.insts
/-- Slots that instances keep because the old image has them with the same ID and class (R211). -/
def keptSlots (new old : Image) (slots : Tab Nat) : Tab Nat :=
  (byId new).foldl (fun t x => match old.insts.find? (fun y => y.id = x.id && y.slotClass = x.slotClass) with
    | none => t
    | some y => (find slots y.id).elim t (put t x.id)) []
/-- The instance map of an image that is loaded (R210). -/
def loadMap (i : Image) : Option (Tab Nat) := assignSlots i.slotPools (byId i) []
/-- The instance map of an exchange; a kept offset must be a slot of the new image's pool (R211). -/
def exchangeMap (new old : Image) (slots : Tab Nat) : Option (Tab Nat) :=
  let kept := keptSlots new old slots
  if (byId new).all (fun x => (find kept x.id).elim true (fun o => (slotsOf new.slotPools x.slotClass).contains o)) then assignSlots new.slotPools (byId new) kept else none

/-! ## The load limits (check 5 of Table 9.3) -/

/-- The fields of a Task Table entry lie in the ranges of Table 6.1 (R162), its stash words in those of R228. -/
def taskOk (d : TaskDecl) : Bool :=
  d.task < 16 && 500 ≤ d.period && d.period ≤ 10000000 && d.phase < d.period && 50 ≤ d.deadline && d.deadline ≤ d.period && d.priority ≤ 15
    && d.affinity ≠ 0 && d.timeBase ≤ 1 && (d.timeBase = 0 || 10000000 % d.period = 0) && d.prefetchLead ≤ 5000
    && 1 ≤ d.stashWords && d.stashWords ≤ 43349
/-- Tasks are at most 16, differ in number, and their stash areas fit (R14, R162, R228). -/
def tasksOk (i : Image) : Bool :=
  !i.tasks.isEmpty && i.tasks.length ≤ 16 && i.tasks.all taskOk && (i.tasks.map (·.task)).Nodup
    && i.tasks.foldl (fun a d => a + 3 * d.stashWords) 0 ≤ 130048
/-- Working sets obey R195 and R196. -/
def setsOk (i : Image) : Bool :=
  let sets := i.tasks.map (fun d => (d.resident, pagesOf d.ranges))
  let u := ((sets.filter (·.1)).flatMap (·.2)).eraseDups
  i.tasks.all (fun d => d.ranges.all (fun r => r.1 + r.2 ≤ 0x38000) && 1 ≤ d.ranges.length && d.ranges.length ≤ 512) && sets.all (fun e => e.2.length ≤ 4096)
    && u.length + (sets.filter (fun e => !e.1)).foldl (fun n e => max n (e.2.filter (fun p => !u.contains p)).length) 0 ≤ 7936
/-- A unit reaches unit 0, which names no parent, through declared parents within 15 steps (R130). -/
def unitDeep (us : List UnitDecl) : Nat → Nat → Bool
  | 0, u => u = 0 && us.any (fun d => d.unit = 0 && d.parent.isNone)
  | n + 1, u => (us.find? (fun d => d.unit = u)).elim false (fun d => if u = 0 then d.parent.isNone else d.parent.elim false (unitDeep us n))
/-- The Unit Table and the units of members obey R130. -/
def unitsOk (i : Image) : Bool :=
  let has := fun (u : Nat) => i.units.any (fun d => d.unit = u)
  1 ≤ i.units.length && i.units.length ≤ 4096 && has 0 && i.units.all (fun d => d.unit < 4096 && unitDeep i.units 15 d.unit) && (i.units.map (·.unit)).Nodup
    && i.signals.all (fun g => has g.unit) && i.insts.all (fun x => has x.unit) && i.channels.all (fun c => has c.unit)
    && (i.signals.map (·.signal)).Nodup && (i.insts.map (·.id)).Nodup && (i.channels.map (·.channel)).Nodup
/-- A role that VALUE_ROLE or FORCE_ROLE may hold (R144). -/
def roleCodeOk (k : Nat) : Bool := k ≠ 1 && k ≠ 6 && k ≠ 7
/-- Signals obey R14 and R144. -/
def signalsOk (i : Image) : Bool :=
  i.signals.length ≤ 65536 && i.signals.all (fun g => g.signal < 65536 && roleCodeOk (field g.attributes.toNat 9 7) && roleCodeOk (field g.attributes.toNat 6 4)
    && (!g.attributes.getLsbD 11 || !g.readers.isEmpty))
/-- The declared signal of an image. -/
def declSignal (i : Image) (g : Nat) : Option SignalDecl := i.signals.find? (fun x => x.signal = g)
/-- A bound Field Block channel suits its kind (R518): 1 and 2 digital input, 3 digital output, 4 analog input, 5 analog output. -/
def fieldBindingOk (i : Image) (c : ChannelDecl) : Bool :=
  c.signal.elim true (fun g => (declSignal i g).elim false (fun d =>
    let ty := field d.attributes.toNat 15 14
    let dir := field d.attributes.toNat 13 12
    (if c.kind ≤ 3 then ty = 0 else ty ≠ 0) && (if c.kind = 3 || c.kind = 5 then dir = 2 else dir = 1)))
    && (!c.hart || c.kind = 4 || c.kind = 5) && (c.readback.isNone || c.kind = 3 || c.kind = 5)
/-- A bound link channel has a declared position and a signal of its direction (R451). -/
def linkBindingOk (i : Image) (c : ChannelDecl) : Bool :=
  (linkOf c.channel).elim false (fun l => i.links.any (fun d => d.link = l.1 && d.positions.any (fun p => p.position = l.2.1)))
    && c.signal.elim true (fun g => (declSignal i g).elim false (fun d => field d.attributes.toNat 13 12 = (if c.output then 2 else 1)))
/-- Channels obey R431, R451 and R518, and a group's members lie in its master unit's subtree. -/
def channelsOk (i : Image) : Bool :=
  i.channels.all (fun c => (if c.channel < 0x30 then fieldBindingOk i c else linkBindingOk i c) && (!c.capture || c.signal.isSome)
    && c.group.elim true (fun g => i.groups.any (fun d => d.group = g && (chain i.units 15 c.unit).contains d.masterUnit)))
/-- Links, their I/O modules of up to 32 channels, capture groups and interrupt queues obey R14 and R451. -/
def linksOk (i : Image) : Bool :=
  i.links.all (fun l => l.link < 48 && 500 ≤ l.period && l.period ≤ 100000 && l.period % 100 = 0 && l.phase < l.period
    && l.positions.length ≤ 16 && l.positions.all (fun p => p.position < 16 && p.kinds.length ≤ 32 && p.safe.length ≤ 32))
    && i.groups.length ≤ 32 && i.groups.all (fun g => g.group < 32) && i.routing.all (fun q => q.1 < 256) && (i.routing.map (·.1)).Nodup
/-- Slots and the type map obey R14, R210 and R239; code and constant pages lie in their regions (R193). -/
def slotsOk (i : Image) : Bool :=
  i.insts.length ≤ 120000 && i.insts.all (fun x => x.slotClass ≤ 4 && x.types.length = classWords x.slotClass)
    && poolBase i.slotPools 5 ≤ 33554432 && (loadMap i).isSome && i.constants.all (fun c => 0x10000 ≤ c.page && c.page < 0x18000) && i.code.all (fun p => 0x100 ≤ p && p < 0x10000)
/-- The limits of check 5 of Table 9.3. -/
def limitsOk (i : Image) : Bool :=
  tasksOk i && setsOk i && unitsOk i && signalsOk i && channelsOk i && linksOk i && slotsOk i
/-- The 4,096 bytes of a constant page. -/
def pageBytes (ws : List (Nat × Word)) : List Byte := (List.range 1024).flatMap (fun k => be 4 (get 0 ws k).toNat)
/-- Every constant page matches its CRC-32 (check 6). -/
def constantsOk (i : Image) : Bool := i.constants.all (fun c => crc32 (pageBytes c.words) = c.crc)

/-! ## An image's declared state -/

/-- A declared signal's entry at load (R145): SOURCE follows from its kind. -/
def declaredSig (i : Image) (g : SignalDecl) : Sig :=
  let dir := field g.attributes.toNat 13 12
  let onLink := i.channels.any (fun c => c.signal = some g.signal && (linkOf c.channel).isSome)
  { attributes := (g.attributes &&& 0xFFFC) ||| 4, unit := g.unit, producer := g.producer, fallback := g.fallback, readers := g.readers,
    source := if dir = 1 then (if onLink then 1 else 0) else if g.producer.isSome || dir = 2 then 2 else 3 }
/-- An instance's words at load: INITIAL_STATE, its parameters' declared values, and NEW in the first-release word (R290, R291). -/
def initialWords (x : InstDecl) : Tab Word :=
  let t := x.initial.zipIdx.foldl (fun (t : Tab Word) e => put t e.2 e.1) []
  let u := (x.params.flatMap paramWords).foldl (fun (t : Tab Word) e => put t e.1 e.2) t
  x.firstRelease.elim u (fun w => put u w 1)
/-- Words of a slot placed at its offset. -/
def placeWords (a : Tab Word) (offset : Nat) (ws : Tab Word) : Tab Word := ws.foldl (fun t e => put t (offset + e.1) e.2) a
/-- State A of an image that starts from its declared initial states. -/
def initialState (i : Image) (slots : Tab Nat) : Tab Word :=
  i.insts.foldl (fun a x => (find slots x.id).elim a (fun o => placeWords a o (initialWords x))) []

namespace State

/-- State B and State C rebuilt from State A by the Firn load path (R218, R273). -/
def rebuildCopies (s : State) : State :=
  { s with
    firn.stateB := s.firn.stateA.map (fun e => (e.1, BitVec.ofNat 32 (encode 1 (s.wordType e.1) e.2).toNat))
    firn.stateC := s.firn.stateA.map (fun e => (e.1, encode 2 (s.wordType e.1) e.2)) }
/-- A task's state as an image becomes executing: counters and times go on (R186), a release that stood has ended, and the Dispatcher finds its next release instant anew; a task of both images stays halted and tainted. -/
def carriedTask (s : State) (keep : Bool) (k : TaskSt) : TaskSt :=
  { k with release := none, nextRelease := 0, begun := false, adopted := s.mode.current, epoch := s.mode.epoch, ready := true, deltaDue := false
           halted := k.halted && keep, haltSkipped := k.haltSkipped && keep, resumeDue := k.resumeDue && keep, tainted := k.tainted && keep, alignFree := k.alignFree && keep }
/-- The tasks under an image: those that it does not declare keep their counters. -/
def taskTable (s : State) (i : Image) : Tab TaskSt :=
  i.tasks.foldl (fun t d => put t d.task (s.carriedTask (s.taskDecl d.task).isSome (s.task d.task))) (mapTab s.disp.tasks (fun _ k => s.carriedTask false k))
/-- The interrupt routing of an image (R182, R294). -/
def routing (s : State) (i : Image) : Tab IntQ :=
  i.routing.foldl (fun t e => upd ({} : IntQ) t e.1 (fun q => { q with route := e.2 &&& 0x8FFFFF77 })) (mapTab s.disp.queues (fun _ q => { q with route := 0 }))
/-- The Commit Stash, the state copies' repairs and the self-test counts begin anew with an image, and TRACE_TASK is reset; the counters go on (R243, R253, R294). -/
def freshFirn (s : State) : State :=
  { s with firn.areas := [], firn.traceTask := 0xFF
           firn.tasks := mapTab s.firn.tasks (fun t f => { f with
             repair := 0, rebuildDue := false, vote := none, commits := 0, selfTests := 0, bgShare := 0, taintRemaining := if (s.task t).tainted then f.taintRemaining else 0 }) }
/-- An entry of the boot measurement log, or LOG_FULL (R556). -/
def appendBoot (s : State) (e : BootEntry) : State :=
  if 800 ≤ s.sedge.bootLog.length then { s with sedge.bootFull := true } else { s with sedge.bootLog := s.sedge.bootLog ++ [e] }
/-- The entry of a component without RELEASE and SECURITY_VERSION of its own: those two fields are free (R555). -/
def appendMeasured (s : State) (component result slot : Nat) (digest : BitVec 512) : State :=
  ({ s with draws := s.draws + 2 }).appendBoot ⟨component, result, slot, Config.freeWord s.draws, Config.freeWord (s.draws + 1), digest⟩
/-- Tasks in DEBUG-TAINT that an image does not declare leave it, with E-0x085 (R250). -/
def untaintGone (s : State) (i : Image) : State :=
  ((s.disp.tasks.filter (fun e => e.2.tainted && !i.tasks.any (fun d => d.task = e.1))).map (·.1)).foldl (fun u _ => u.trigger 0x085 []) s
/-- DEBUG_TAINT of every signal as its producer stands (R250). -/
def taintSignals (s : State) : State :=
  { s with sig.entries := mapTab s.sig.entries (fun _ e => { e with debugTaint := e.producer.elim false (fun t => (s.task t).tainted) }) }
/-- An image becomes executing in an area with the slots and State A given; exchanges are counted from the first load on (Table 3.12, R137). -/
def execute (s : State) (i : Image) (area : Nat) (slots : Tab Nat) (words : Tab Word) : State :=
  let t := { s.untaintGone i with
    prog.image := some i, prog.execSince := s.time.mono, prog.slots := slots, prog.params := [], prog.change := none
    prog.exch := { s.prog.exch with exchanges := if s.image.isNone then 0 else s.prog.exch.exchanges + 1 }
    prog.flash := mapTab s.prog.flash (fun k f => if k = area then { f with total := 0 } else f)
    drift.area := area, drift.requests := [], drift.residentLoaded := false, drift.pinned := [], drift.prefetched := []
    disp.tasks := s.taskTable i, disp.queues := s.routing i, firn.stateA := words
    xan.gens := upd 0 s.xan.gens 0 (· + 1)
    capture.groups := s.capture.groups.filter (fun e => i.groups.any (fun g => g.group = e.1)) }
  let u := (((t.freshFirn.rebuildCopies).taintSignals).appendMeasured 5 0 area i.hash).judgeUndispatchable
  u.moveQueues s
/-- RESIDENT working sets are asked for (R196); RESIDENT_LOADED as they stand. -/
def fetchResident (s : State) : State :=
  let frames := mapTab (s.drift.frames.filter (fun e => e.2.area = s.drift.area)) (fun _ x => { x with residentPin := s.residentPage x.page, declaredBy := s.declaredBy x.page, pinCount := 0, reserved := none })
  (((s.tasks.filter (fun (d : TaskDecl) => d.resident)).foldl (fun (u : State) (d : TaskDecl) => if u.setResident d.task then u else u.requestPages d.task)
    { s with drift.frames := frames, drift.writeBacks := s.drift.writeBacks.filter (fun w => (find frames w.1).isSome) })).judgeLoaded
/-- A constant page of an image with changed words, and its CRC-32 as Drift computes it (R266). -/
def changedPage (words : List (Nat × Word)) (c : ConstPage) : ConstPage :=
  let ws := words.foldl (fun (p : Tab Word) w => put p w.1 w.2) c.words
  { c with words := ws, crc := crc32 (pageBytes ws) }
/-- An image with a changed constant page. -/
def withPage (i : Image) (page : Nat) (words : List (Nat × Word)) : Image :=
  { i with constants := i.constants.map (fun c => if c.page = page then changedPage words c else c) }
/-- The change record is applied again to the image that has its hash, and is empty for any other (R267). -/
def applyRecord (s : State) : State :=
  if s.prog.changeHash = s.image.elim 0 (·.hash) then
    { s with prog.image := s.image.map (fun i => s.prog.changeRecord.foldl (fun j e => withPage j e.1 e.2) i) }
  else { s with prog.changeRecord := [], prog.changeHash := s.image.elim 0 (·.hash) }
/-- An image is loaded with its declared signals and initial states (R145, R210). -/
def loadImage (s : State) (i : Image) (area : Nat) : State :=
  let slots := (loadMap i).getD []
  let t := { s with sig.entries := i.signals.foldl (fun (t : Tab Sig) (g : SignalDecl) => put t g.signal (declaredSig i g)) []
                    prog.exch := { s.prog.exch with layout := [], layoutState := [], other := none } }
  (t.execute i area slots (initialState i slots)).applyRecord.fetchResident

/-! ## Mapping between two images (R272, R273) -/

end State

/-- How an instance stands to another image: 0 without counterpart, 1 carried, 2 retyped (R272). -/
def fate (other : Image) (x : InstDecl) : Nat :=
  match other.insts.find? (fun y => y.id = x.id) with
  | none => 0
  | some y => if y.blockType = x.blockType ∧ y.version = x.version then 1 else 2
/-- The State A word of one image's layout mapped to the other's, when its instance is carried. -/
def mapWord (src dst : Image) (srcSlots dstSlots : Tab Nat) (w : Nat) : Option Nat :=
  src.insts.findSome? (fun x => (find srcSlots x.id).elim none (fun o =>
    if o ≤ w ∧ w < o + classWords x.slotClass ∧ fate dst x = 1 then
      (dst.insts.find? (fun y => y.id = x.id)).elim none (fun y => if w - o < classWords y.slotClass then (find dstSlots y.id).map (· + (w - o)) else none)
    else none))
/-- The words of carried instances copied from one layout into the other. -/
def mapState (src dst : Image) (srcSlots dstSlots : Tab Nat) (words : Tab Word) (into : Tab Word) : Tab Word :=
  words.foldl (fun t e => (mapWord src dst srcSlots dstSlots e.1).elim t (fun w => put t w e.2)) into
/-- The instances of an image with a fate against another, in ascending ID. -/
def withFate (i other : Image) (k : Nat) : List InstDecl := (byId i).filter (fun x => fate other x = k)

/-! ## The swap into a new layout (R287 to R294) -/

/-- The counterpart of an instance in an image. -/
def counterpart (i : Image) (x : InstDecl) : Option InstDecl := i.insts.find? (fun y => y.id = x.id)
/-- A parameter whose declared value changes takes the new one, whatever the live value (R287). -/
def newParams (old : Image) (x : InstDecl) : List ParamDecl :=
  (counterpart old x).elim [] (fun y => x.params.filter (fun p => !y.params.any (fun q => q.word = p.word && q.wide = p.wide && q.value = p.value)))
/-- A live value that differed from the old declared value and is overridden (R287). -/
def overridden (old : Image) (x : InstDecl) (live : Nat → Word) : List ParamDecl :=
  (newParams old x).filter (fun p => (counterpart old x).elim false (fun y => y.params.any (fun q => q.word = p.word && (paramWords q).any (fun e => e.2 ≠ live e.1))))
/-- The inputs of an instance whose edge binding differs from the old image's (R289). -/
def rewired (old : Image) (x : InstDecl) : List Nat :=
  (counterpart old x).elim [] (fun y => (x.edges.filter (fun e => find y.edges e.1 ≠ some e.2)).map (·.1))
/-- The words of a carried instance's slot at the swap. -/
def carriedWords (old : Image) (x : InstDecl) (live : Nat → Word) : Tab Word :=
  let t : Tab Word := (List.range (classWords x.slotClass)).foldl (fun (t : Tab Word) k => if live k = 0 then t else put t k (live k)) []
  let u := ((newParams old x).flatMap paramWords).foldl (fun (t : Tab Word) e => put t e.1 e.2) t
  if (rewired old x).isEmpty then u else x.firstRelease.elim u (fun w => put u w (get 0 u w ||| 2))
/-- State A of the new image at the swap: carried words, initial words for new and retyped instances (R287 to R291). -/
def swapState (new old : Image) (slots : Tab Nat) (mapped : Tab Word) : Tab Word :=
  new.insts.foldl (fun a x => (find slots x.id).elim a (fun o =>
    placeWords a o (if fate old x = 1 then carriedWords old x (fun k => get 0 mapped (o + k)) else initialWords x))) []
/-- A signal of the new image at the swap (R292, R293): the old entry under the new attributes, or a declared entry when it is new or its TYPE changes. -/
def swapSig (new : Image) (old : Tab Sig) (g : SignalDecl) : Sig :=
  let d := declaredSig new g
  match find old g.signal with
  | none => d
  | some e =>
    if e.type ≠ d.type then d
    else { e with attributes := d.attributes, unit := d.unit, producer := d.producer, fallback := d.fallback, readers := d.readers,
                  forced := e.forced && d.forceRole ≠ 0 }
/-- Signals whose force is dropped at the swap (R293). -/
def droppedForces (new : Image) (old : Tab Sig) : List Nat :=
  (old.filter (fun e => e.2.forced && (declSignal new e.1).elim true (fun g => (declaredSig new g).type ≠ e.2.type || (declaredSig new g).forceRole = 0))).map (·.1)
/-- Release instants of a task from S to an instant (R278). -/
def skippedBy (d : TaskDecl) (align : Int) (s now : Ns) : Nat :=
  let p : Int := (d.period * 1000 : Nat)
  let off : Int := (d.phase * 1000 : Nat) - (if d.timeBase = 1 then align else 0)
  (((now : Int) - off) / p - ((s : Int) - 1 - off) / p).toNat
/-- The entries of the exchange report that the images and the state decide: kind, number and a detail where the manual states one. -/
def reportOf (new old : Image) (slots : Tab Nat) (mapped : Tab Word) (sigs : Tab Sig) (pages : Nat) (skips : List (Nat × Nat)) : List (Nat × Nat × Option Nat) :=
  let live := fun (x : InstDecl) (k : Nat) => get (0 : Word) mapped (get 0 slots x.id + k)
  (withFate new old 2).map (fun x => (1, x.id, none)) ++ (withFate new old 0).map (fun x => (2, x.id, none)) ++ (withFate old new 0).map (fun x => (3, x.id, none))
    ++ (withFate new old 1).flatMap (fun x => (rewired old x).map (fun n => (4, x.id, some n)))
    ++ (droppedForces new sigs).map (fun g => (5, g, none)) ++ (sigs.filter (fun e => (declSignal new e.1).isNone)).map (fun e => (6, e.1, none))
    ++ (sigs.filter (fun e => (declSignal new e.1).elim false (fun g => (declaredSig new g).type ≠ e.2.type))).map (fun e => (7, e.1, none))
    ++ (withFate new old 1).flatMap (fun x => (overridden old x (live x)).map (fun _ => (8, x.id, none)))
    ++ [(9, 0, some pages)] ++ skips.map (fun e => (10, e.1, some e.2))

namespace State

/-- Details of report entries that the manual does not state are free words. -/
def fillReport (s : State) (l : List (Nat × Nat × Option Nat)) : State :=
  { s with prog.exch := { s.prog.exch with report := l.zipIdx.map (fun e => (e.1.1, e.1.2.1, e.1.2.2.getD (s.freeAt e.2).toNat)), reportGen := s.prog.exch.reportGen + 1 }
           draws := s.draws + l.length }
/-- The new image becomes executing at a swap, on the module that takes the plant (R278, R287 to R294); the old image stands staged as the revert point. -/
def swapIn (s : State) (new : Image) : State :=
  match s.image with
  | none => s
  | some old =>
    let x := s.prog.exch
    let skips := new.tasks.map (fun d => (d.task, skippedBy d s.time.align x.lastSwap s.time.mono))
    let drops := droppedForces new s.sig.entries
    let retyped := withFate new old 2
    let words := swapState new old x.layout x.layoutState
    let t := s.fillReport (reportOf new old x.layout x.layoutState s.sig.entries s.prog.changeRecord.length skips)
    let u := { t.swapGroups old new with sig.entries := new.signals.foldl (fun (e : Tab Sig) (g : SignalDecl) => put e g.signal (swapSig new s.sig.entries g)) [] }
    let v := u.execute new (1 - s.drift.area) x.layout words
    let w := { v with
      prog.staged := some old, prog.stageState := 5, prog.changeRecord := [], prog.changeHash := new.hash
      prog.exch := { v.prog.exch with layout := s.prog.slots, layoutState := s.firn.stateA, other := some old } }
    let y := (drops.foldl (fun (r : State) g => r.trigger 0x094 [g]) w)
    ((retyped.foldl (fun (r : State) _ => r.trigger 0x095 []) y).fetchResident).redrive.settle
/-- The image at the revert point becomes executing again on a module that runs the new one; the new image stays staged (R283, R296). -/
def swapBack (s : State) (old : Image) (slots : Tab Nat) (words : Tab Word) : State :=
  let new := s.image
  let t := { new.elim s (fun i => s.swapGroups i old) with sig.entries := old.signals.foldl (fun (e : Tab Sig) (g : SignalDecl) => put e g.signal (swapSig old s.sig.entries g)) [] }
  let u := t.execute old (1 - s.drift.area) slots words
  ({ u with prog.staged := new, prog.stageState := 3, prog.stageError := 0,
            prog.exch := { u.prog.exch with layout := [], layoutState := [], other := none } }).applyRecord.fetchResident.redrive.settle

end State
end Sys2Proof.Machine
end

