-- ==== Sys2Proof/Machine/ImageFile.lean ====
section
/-! DEFINITION. The program image as one file: its header, directory, signing certificate and signature, and the checks of Table 9.3 (09). -/
namespace Sys2Proof.Machine

/-! ## Header and directory (R256, R257) -/

/-- A big-endian number in a file. -/
def fileNum (f : ImageFile) (o n : Nat) : Nat := fromBe (pieceOf f.bytes o n)
/-- IMAGE_LENGTH of the header. -/
def fileLength (f : ImageFile) : Nat := fileNum f 4 8
/-- The bytes that SIGNATURE covers and the image hash is taken over. -/
def fileBody (f : ImageFile) : List Byte := pieceOf f.bytes 0 (fileLength f - 512)
/-- TYPE, OFFSET and LENGTH of a directory entry, and whether its other bytes are 0. -/
def fileEntry (f : ImageFile) (k : Nat) : Nat × Nat × Nat × Bool :=
  let o := 256 + 24 * k
  (fileNum f o 2, fileNum f (o + 8) 8, fileNum f (o + 16) 8, fileNum f (o + 2) 6 = 0)
/-- The section types of Table 9.2. -/
def sectionTypes : List Nat := [1, 2, 3, 4, 5, 6, 7, 8, 9, 10, 11, 12, 13, 15]
/-- Sections lie in ascending OFFSET without overlap, up to an end. -/
def sectionsApart (stop : Nat) : List (Nat × Nat × Nat × Bool) → Bool
  | [] => true
  | [e] => e.2.1 + e.2.2.1 ≤ stop
  | e :: d :: rest => e.2.1 + e.2.2.1 ≤ d.2.1 && sectionsApart stop (d :: rest)
/-- The directory obeys R257: every section type once, ascending and apart, the last one ending before the signature. -/
def directoryOk (f : ImageFile) : Bool :=
  let es := (List.range 14).map (fileEntry f)
  es.all (fun e => sectionTypes.contains e.1 && e.2.2.2) && (es.map (·.1)).Nodup && sectionsApart (fileLength f - 512) es
/-- The pages that an image's working sets, code and constants name. -/
def pagesUsed (i : Image) : List Nat := i.tasks.flatMap (fun d => d.ranges.map (fun r => r.1 + r.2 - 1)) ++ i.code ++ i.constants.map (·.page)
/-- The header obeys R256 and counts what the sections declare. VIRTUAL_PAGES lies above every page that they name, and within the virtual space; which pages of the metadata region it counts the manual does not say (DESIGN CHOICE). -/
def headerOk (f : ImageFile) (i : Image) : Bool :=
  fileNum f 0 2 = 3 && fileNum f 2 2 = 0 && 512 ≤ fileLength f && fileNum f 20 2 = i.tasks.length && fileNum f 22 2 = i.units.length
    && fileNum f 24 4 = i.signals.length && fileNum f 28 4 = i.insts.length && fileNum f 32 4 = 14
    && (pagesUsed i).all (fun p => p < fileNum f 36 4) && fileNum f 36 4 ≤ 0x40000 && fileNum f 40 216 = 0
/-- The image of a file: what its sections declare, with the header's fields and the hash of R258. -/
def fileImage (f : ImageFile) : Option Image :=
  f.image.map (fun i => { i with
    format := BitVec.ofNat 16 (fileNum f 0 2), length := fileLength f, build := BitVec.ofNat 32 (fileNum f 12 4)
    minFw := BitVec.ofNat 32 (fileNum f 16 4), hash := Config.sha512 (fileBody f) })

/-! ## The signing certificate (R258) -/

/-- The bytes of the SIGNER_CERT section. -/
def signerBytes (f : ImageFile) : List Byte :=
  (((List.range 14).map (fileEntry f)).find? (fun e => e.1 = 15)).elim [] (fun e => pieceOf f.bytes e.2.1 (min e.2.2.1 f.total))
/-- Days from 1970-01-01 to a date of the Gregorian calendar. -/
def daysTo (y m d : Nat) : Nat :=
  let a := if m ≤ 2 then y - 1 else y
  365 * a + a / 4 - a / 100 + a / 400 + ((m + 9) % 12 * 306 + 5) / 10 + d - 719469
/-- A decimal number in ASCII digits. -/
def decimal (l : List Byte) : Nat := l.foldl (fun n b => 10 * n + (b.toNat - 48)) 0
/-- Seconds since 1970 of the digits of a date and time, the year given. -/
def secondsOf (year : Nat) (l : List Byte) : Nat :=
  let two := fun (k : Nat) => decimal (slice l (2 * k) 2)
  daysTo year (two 0) (two 1) * 86400 + two 2 * 3600 + two 3 * 60 + two 4
/-- A UTCTime or GeneralizedTime at the front, in seconds since 1970, and what follows it; a two-digit year below 50 lies in this century (PRESUMED, X.509). -/
def derTime (l : List Byte) : Option (Nat × List Byte) :=
  match derTake 0x17 l, derTake 0x18 l with
  | some e, _ => if e.2.1.length = 13 then some (secondsOf (let y := decimal (slice e.2.1 0 2); if y < 50 then 2000 + y else 1900 + y) (e.2.1.drop 2), e.2.2) else none
  | none, some e => if e.2.1.length = 15 then some (secondsOf (decimal (slice e.2.1 0 4)) (e.2.1.drop 4), e.2.2) else none
  | none, none => none
/-- The validity of a certificate: its first and last second. -/
def certValidity (l : List Byte) : Option (Nat × Nat) := do
  let tbs ← derTake 0x30 l
  let version ← derTake 0xA0 tbs.2.1
  let validity ← (derSkip [2, 0x30, 0x30] version.2.2).bind (derTake 0x30)
  let first ← derTime validity.2.1
  let last ← derTime first.2
  some (first.1, last.1)

namespace State

/-- The wall time in UTC seconds: on the PTP timescale less the UTC offset (R484). -/
def utcSeconds (s : State) : Int := (s.wall.seconds.toNat : Int) - s.time.utcOffset
/-- The wall time lies within a certificate's validity; a wall clock that is not valid is not asked. That a certificate's times, which are UTC, are compared with the wall clock less UTC_OFFSET is a DESIGN CHOICE. -/
def inValidity (s : State) (c : Cert) : Bool :=
  !s.time.wallValid || (certValidity c.signed).elim false (fun v => decide ((v.1 : Int) ≤ s.utcSeconds) && decide (s.utcSeconds ≤ v.2))
/-- The first check of Table 9.3 that a file fails, 0 when none. A file whose sections nothing is known of fails the first. -/
def imageFault (s : State) (f : ImageFile) (staged : Bool) : Nat :=
  match fileImage f with
  | none => 1
  | some i =>
    if i.format ≠ 3 || (staged && i.length ≠ f.total) || !headerOk f i || !directoryOk f then 1
    else match readCert (signerBytes f) with
    | none => 2
    | some c =>
      if !s.authorityKey.elim false (fun k => c.signedBy k f.certSalt) || !s.inValidity c then 2
      else if !verifies c.key f.salt (fileBody f) (BitVec.ofNat 4096 (fileNum f (fileLength f - 512) 512)) then 3
      else if s.fwRelease < i.minFw then 4
      else if !limitsOk i then 5
      else if !constantsOk i then 6
      else 0
/-- What is known of a staged file's sections, and the salts that its two signatures enclose, once verification has read them. -/
def readFile (s : State) (i : Image) (k : ImageSalts) : ImageFile := { s.stageFile with image := some i, certSalt := k.cert, salt := k.image }
/-- A file put into the slot and area that do not hold the executing image (R259). -/
def putStage (s : State) (f : ImageFile) : State := { s with prog.flash := put s.prog.flash s.stageSlot f }
/-- That slot emptied. -/
def dropStage (s : State) : State := { s with prog.flash := del s.prog.flash s.stageSlot }

end State
end Sys2Proof.Machine
end

