-- ==== Sys2Proof/Machine/Images.lean ====
section
/-! DEFINITION. The commands of program images and changes: staging, verification, parameter and constant changes, and the exchange up to its swap (09). -/
namespace Sys2Proof.Machine
namespace State

/-! ## Leaving COLD with an image (R218, R262) -/

/-- The valid checkpoint of highest sequence number for the executing image (R218). -/
def bestCkpt (s : State) : Option Ckpt :=
  leastBy (fun c => 2 ^ 64 - c.sequence) (s.drift.checkpoints.filter (fun c => s.image.elim false (fun i => c.hash = i.hash)))
/-- The module can run: an executing image, and retained state under R218 (R315). -/
def canRun (s : State) : Bool := s.image.isSome && (s.bestCkpt.isSome || s.drift.waived)
/-- A lone module that has booted without a checkpoint for its image stays in COLD: E-0x074, NO_CHECKPOINT (R218). -/
def judgeCheckpoint (s : State) : State :=
  if s.mode.current = .cold ∧ s.mode.booted ∧ s.image.isSome ∧ !s.partnerAnswers ∧ !s.canRun ∧ !s.drift.noCheckpoint then
    ({ s with drift.noCheckpoint := true }).trigger 0x074 []
  else s

/-- The slot of the pair that is named as owner in the two OWNERSHIP records, none when neither or both differently are (R315). -/
def namedOwner (s : State) : Option Bool :=
  let p := s.pair
  if p.ownerEpoch = p.partnerOwnerEpoch then (if p.ownerEpoch ≠ 0 && p.ownerSlot = p.partnerOwnerSlot then some p.ownerSlot else none)
  else if p.partnerOwnerEpoch < p.ownerEpoch then some p.ownerSlot else some p.partnerOwnerSlot
/-- A module of the pair, by its slot, can run. -/
def slotRuns (s : State) (slot : Bool) : Bool := if slot = s.pair.slotPos then s.canRun else s.pair.partnerCanRun
/-- The slot whose module claims when both are in COLD (R315). -/
def chosen (s : State) : Option Bool :=
  ((match s.namedOwner with | some o => [o, !o] | none => [false, true]).filter s.slotRuns).head?
/-- Cold-start arbitration: the module that is not chosen sends HELLO_DEFER in place of accepting (R315). -/
def arbitrate (s : State) : State :=
  if !(s.mode.current = .cold && s.mode.booted && s.pair.syncUp && (s.pair.paired || s.pair.deferring) && s.pair.partnerCold && !s.pair.partnerOwns) then s else
  match s.chosen with
  | none => s
  | some o =>
    if o = s.pair.slotPos then { s with pair.deferring := false, pair.paired := true }
    else if s.pair.deferring then s
    else ({ s with pair.deferring := true, pair.paired := false }).sendSync .helloDefer
/-- Check 14 of CHECKPOINT_WAIVE, with the arbitration that it may decide (R218, R315). -/
def opWaived (s : State) (x : ReplyTo) : State :=
  let t := s.opWaive x
  if t.drift.waived && !s.drift.waived then (t.sendSync .hello).arbitrate else t

/-! ## Staging (R259 to R262) -/

/-- An exchange is in progress, or its revert point is held (R260, R269). -/
def exchanging (s : State) : Bool := s.prog.exch.outcome = 1 || s.prog.exch.held
/-- Staging is accepted by this module (R259). -/
def mayStage (s : State) : Bool :=
  (s.mode.life = .inService || s.mode.life = .develop) && (s.pair.ownSelf || (s.mode.current = .cold && s.image.isNone))
/-- Image bytes written at an OFFSET of the flash slot and of the DRAM image area that do not hold the executing image (R259). -/
def stageAt (s : State) (o : Nat) (b : List Byte) : State :=
  let f := s.stageFile
  { s.putStage { bytes := writeBytes f.bytes o b, total := max f.total (o + b.length) } with mem := wrBytes s.mem (0x100000000 + s.stageSlot * 0x80000000 + o) b }
/-- Check 14 of IMAGE_STAGE. -/
def opImageStage (s : State) (x : ReplyTo) : State :=
  let b := x.req.bytes
  s.check14 x (x.req.select ≠ 0 || s.stageFile.total < x.req.offset || !writeLength x.req || 2 ^ 30 < x.req.offset + b.length) s.exchanging (!s.mayStage) (fun t =>
    (t.stageAt x.req.offset b).setStaged none 1)
/-- Check 14 of STAGE_COMMAND (R261): 1 verifies, 2 discards. -/
def opStageCommand (s : State) (x : ReplyTo) : State :=
  let v := x.req.value
  s.check14 x (!(v = 1 || v = 2)) s.exchanging false (fun t =>
    if v = 1 then { t with prog.stageState := 2, prog.stageGen := t.prog.stageGen + 1 }
    else if v = 2 then { (t.setStaged none 0).dropStage with prog.stageGen := t.prog.stageGen + 1 }
    else t)

/-- A module in COLD without an image takes the verified one and goes on from the end of COLD (R262). -/
def takeStaged (s : State) (i : Image) : State :=
  (((s.loadImage i 0).judgeCheckpoint).sendSync .hello).arbitrate
/-- The checks of Table 9.3 on the staged bytes and their outcome (R261). -/
def judgeStaged (s : State) (i : Image) (k : ImageSalts) : State :=
  let f := s.readFile i k
  let e := s.imageFault f true
  let t := (s.putStage f).trigger 0x090 [e, fileNum f 12 4]
  if e ≠ 0 then { t with prog.stageState := 4, prog.stageError := e }
  else
    let u := t.setStaged (fileImage f) 3
    if u.mode.current = .cold ∧ u.image.isNone then (fileImage f).elim u (fun j => (u.setStaged none 0).takeStaged j) else u
/-- Verification of the staged bytes ends (R261). What the sections declare, and the salts that the two signatures enclose, are told with it, and so is which eMMC device failed a write or the read of them (R214). -/
def opImageVerified (s : State) (i : Image) (k : ImageSalts) (ok1 ok2 : Bool) : State :=
  if s.prog.stageState ≠ 2 then s else (s.judgeStaged i k).flashResult ok1 ok2
/-! ## Parameter changes (R94, R263, R264) -/

end State

/-- A REAL32 word that is no NaN and no infinity, times 2^149. -/
def realScaled (w : Word) : Int :=
  let e := field w.toNat 30 23
  let m := if e = 0 then field w.toNat 22 0 else (2 ^ 23 + field w.toNat 22 0) * 2 ^ (e - 1)
  if tb w.toNat 31 then -(m : Int) else m
/-- A value lies in a parameter's declared range, read under the word's TYPE (R94). A 64-bit value is read as signed when its range starts below zero, which the manual does not say (DESIGN CHOICE). -/
def paramOk (type : Nat) (p : ParamDecl) (v : DWord) : Bool :=
  if p.wide then
    let n : Int := if p.low < 0 then v.toInt else v.toNat
    decide (p.low ≤ n) && decide (n ≤ p.high)
  else if type = 3 then realOk v.toNat && decide (p.low * 2 ^ 149 ≤ realScaled (BitVec.ofNat 32 v.toNat)) && decide (realScaled (BitVec.ofNat 32 v.toNat) ≤ p.high * 2 ^ 149)
  else
    let n : Int := if type = 1 then sgn (BitVec.ofNat 32 v.toNat) else v.toNat
    decide (p.low ≤ n) && decide (n ≤ p.high)
/-- The parameters and values that a write of INSTANCE_PARAMS names. -/
def paramsWritten (x : InstDecl) (offset : Nat) (b : List Byte) : List (ParamDecl × DWord) :=
  ((numbered x).filter (fun e => offset ≤ 4 * e.1 && 4 * e.1 < offset + b.length)).map (fun e =>
    (e.2, BitVec.ofNat 64 (at_ b (4 * e.1 - offset) (if e.2.wide then 8 else 4))))
/-- The words of a slot that a parameter's new value takes. -/
def valueWords (p : ParamDecl) (v : DWord) : List (Nat × Word) := paramWords { p with value := v }
namespace State

/-- A judged request as it waits for its operation. -/
def fwdOf (x : ReplyTo) : Fwd := { req := x.req, opcode := BitVec.ofNat 8 x.opcode, auth := x.auth }
/-- Check 14 of INSTANCE_PARAMS; the values are written at the owning task's next release instant, and the final reply follows. -/
def opInstanceParams (s : State) (x : ReplyTo) : State :=
  let b := x.req.bytes
  match s.image.elim none (fun i => i.insts.find? (fun y => y.id = x.req.select)) with
  | none => s.check14 x true false false id
  | some y =>
    let ws := paramsWritten y x.req.offset b
    let range := !writeLength x.req || 4 * (instFields y).length < x.req.offset + b.length
      || !ws.all (fun e => paramOk ((y.types.getD e.1.word 2).toNat) e.1 e.2)
    s.check14Later x range false false (fun t =>
      { t with prog.params := t.prog.params ++ [{ inst := y.id, words := ws.flatMap (fun e => valueWords e.1 e.2), fwd := fwdOf x }] })

/-! ## Constant changes (R265 to R268) -/

/-- The words of a write of a constant page. -/
def wordsWritten (offset : Nat) (b : List Byte) : List (Nat × Word) :=
  (List.range (b.length / 4)).map (fun k => (offset / 4 + k, BitVec.ofNat 32 (at_ b (4 * k) 4)))
/-- A frame for the new copy of a page: a free one, or one that can be evicted (R265). -/
def copyFrame (s : State) : Option Nat := s.freeFrame.orElse (fun _ => if s.fenced 0x52 then none else s.victim)
/-- Every declaring task has switched: the page is in the change record and, with the CRC-32 that Drift computes, in the image area, the old frame is free, the final reply follows (R266, R267). A fenced rank or Drift lets no page be written (R206, R207). -/
def opConstantDone (s : State) : State :=
  match s.prog.change with
  | none => s
  | some c =>
    if !c.waiting.isEmpty || (c.frame.isNone && s.declaredBy c.page ≠ 0) || s.fenced s.imageRank || s.fenced 0x52 then s else
    let t := c.words.foldl (fun (u : State) w => u.logChange
      { kind := 2, number := c.page, offset := 4 * w.1, old := constWord s c.page w.1, new := w.2, session := c.fwd.auth.elim 0 (·.session), mono := s.time.mono }) s
    let page := c.words.foldl (fun (p : Tab Word) w => put p w.1 w.2) (get [] s.prog.changeRecord c.page)
    let frames := t.drift.frames.filter (fun e => some e.1 = c.frame || !(e.2.page = c.page && e.2.area = t.drift.area))
    (({ t with prog.change := none, prog.changeRecord := put t.prog.changeRecord c.page page, prog.changeHash := s.image.elim 0 (·.hash)
               prog.image := s.prog.image.map (fun i => withPage i c.page c.words)
               drift.frames := mapTab frames (fun f x => if some f = c.frame then { x with pinCount := x.pinCount - 1 } else x) }).replaced 0x2311 0).answer (replyOf c.fwd) 0
/-- Check 14 of CONSTANT_POOL. -/
def opConstantPool (s : State) (x : ReplyTo) : State :=
  let b := x.req.bytes
  let p := x.req.select
  let known := s.image.elim false (fun i => i.constants.any (fun c => c.page = p))
  let full := (find s.prog.changeRecord p).isNone && decide (256 ≤ s.prog.changeRecord.length)
  s.check14Later x (!known || !writeLength x.req || 4096 < x.req.offset + b.length || full) (s.prog.change.isSome || s.abortable || s.copyFrame.isNone) false (fun t =>
    let ts := (t.tasks.filter (fun d => (pagesOf d.ranges).contains p)).map (·.task)
    let u := { t with prog.change := some { page := p, words := wordsWritten x.req.offset b, frame := none, waiting := ts, fwd := fwdOf x } }
    if ts.isEmpty then u.opConstantDone else u.placeCopy)
/-! ## Program exchange: start, transfer, mapping, streaming (R269 to R275) -/

/-- The two words of a 64-bit payload field, the low word first (R410). -/
def two (v : Nat) : List Nat := [v % 2 ^ 32, v / 2 ^ 32 % 2 ^ 32]
/-- The first 8 bytes of a hash as payload words, the first four in the first word (R410). -/
def hash8 (h : BitVec 512) : List Nat := [h.toNat / 2 ^ 480, h.toNat / 2 ^ 448 % 2 ^ 32]
/-- An exchange begins on this module. -/
def beginExchange (s : State) (i : Option Image) (phase : Nat) (lone : Bool) (limit : Option Ns) : State :=
  { s with prog.exch := { s.prog.exch with
      phase := phase, outcome := 1, abortCause := 0, lone := lone, held := false, heldHere := false, stopped := false, windowEnd := none
      prepareEnd := limit, window := s.prog.revertWindow, swapAt := none, mapped := 0, copied := false, ready := false, dropped := false, layout := [], layoutState := [], other := i } }
/-- Check 14 of a verified EXCHANGE_START (R269, R295, R328). -/
def exchangeStart (t : State) (f : Fwd) : State :=
    let a := f.req.arg
    let limit := at_ a 64 4
    let known := t.prog.stageState = 3 && t.prog.staged.elim false (fun i => i.hash.toNat = at_ a 0 64)
    let conflict := t.pair.split || (if t.partnerAnswers then !(t.mode.current = .run || t.mode.current = .hold) || !t.partnerInStep || t.pair.partnerFw ≠ t.fwRelease
      else t.mode.current ≠ .hold)
    t.check14 (replyOf f) (a.length ≠ 68 || !known || limit < 60 || 3600 < limit) (t.exchanging || t.mode.prep.isSome || t.mode.inTransition || t.mode.rebootDue) conflict
      (fun u => match u.prog.staged with
        | none => u
        | some i =>
          let lone := !u.partnerAnswers
          let v := (u.beginExchange (some i) (if lone then 2 else 1) lone (some (u.time.mono + limit * 1000000000))).trigger 0x091
            (hash8 (u.image.elim 0 (·.hash)) ++ hash8 i.hash ++ [f.auth.elim 0 (·.session.toNat)])
          if lone then v else v.sendSync (.exchange (.start v.stageFile limit)))
/-- EXCHANGE_START. -/
def opExchangeStart (s : State) : State := s.onSigned 0x2320 exchangeStart
/-- The phase of an exchange, told to nobody. -/
def setPhase (s : State) (n : Nat) : State := { s with prog.exch := { s.prog.exch with phase := n } }
/-- TRANSFER ends (R271): the standby judges the transferred image by the checks of Table 9.3 and tells the active module, which takes its report. -/
def opTransferEnd (s : State) (e : Nat) : State :=
  let cause := fun (k : Nat) => if k = 4 then 9 else 1
  if !(s.exchangeOpen && s.prog.exch.phase = 1) then s
  else if s.pair.ownSelf then (if e = 0 then s.setPhase 2 else s.abortExchange (cause e))
  else
    let k := s.imageFault s.stageFile true
    if k ≠ 0 then (s.sendSync (.exchange (.refused k))).abortExchange (cause k)
    else
      let i := fileImage s.stageFile
      (((s.setStaged i 3).setPhase 2).sendSync (.exchange .verified))
/-- MAPPING ends: the map of R211 and the counts of R272, or an abort with cause 0x02. -/
def opMappingEnd (s : State) : State :=
  match s.image, s.prog.exch.other with
  | some old, some new =>
    if !(s.exchangeOpen && s.prog.exch.phase = 2) then s else
    (match exchangeMap new old s.prog.slots with
     | none => if s.pair.ownSelf then s.abortExchange 2 else (s.sendSync (.exchange .mapFailed)).abortExchange 2
     | some m =>
       let n := fun (k : List InstDecl) => (BitVec.ofNat 32 k.length : Word)
       let t := { s with prog.exch := { s.prog.exch with
         phase := 3, layout := m, carried := n (withFate new old 1), fresh := n (withFate new old 0), retyped := n (withFate new old 2), removed := n (withFate old new 0) } }
       if s.pair.ownSelf then t else t.sendSync (.exchange .mapBuilt))
  | _, _ => s
/-- The words of the executing layout as they stand in the new layout (R273). -/
def mappedWords (s : State) : Tab Word :=
  match s.image, s.prog.exch.other with
  | some old, some new => mapState old new s.prog.slots s.prog.exch.layout s.firn.stateA []
  | _, _ => []
/-- The copy of carried State A into the new layout ends (R273, R295). -/
def opBulkCopyEnd (s : State) : State :=
  if !(s.exchangeOpen && s.prog.exch.phase = 3) || (s.pair.ownSelf && !s.prog.exch.lone) then s
  else { s with prog.exch := { s.prog.exch with copied := true, mapped := 0, layoutState := s.mappedWords } }
/-- ARMED begins on the standby: no old-image pass is dispatched, the old frames are unpinned, the new RESIDENT sets are fetched (R274). -/
def arm (s : State) : State :=
  let t := (s.setPhase 4).discardReleases
  ({ t with drift.frames := mapTab t.drift.frames (fun _ x => { x with residentPin := false, pinCount := 0, reserved := none }), drift.requests := [], drift.pinned := [], drift.prefetched := [] }).armFetch
/-- The new layout is in step (R273, R274). -/
def opNewInStep (s : State) : State :=
  let x := s.prog.exch
  if !(s.exchangeOpen && x.phase = 3) || x.lone then s
  else if s.pair.ownSelf then s.setPhase 4
  else if x.copied && 2 ≤ x.mapped then s.arm.sendSync (.exchange .inStep) else s
/-- The new RESIDENT working sets are resident. -/
def newResident (s : State) : Bool := s.newResidentPages.all (s.newPageHere 2)
/-- The first release instant of a task at or after an instant; a network-aligned task's instants are taken at whole periods from its next one. -/
def firstInstant (s : State) (d : TaskDecl) (m : Ns) : Ns :=
  let p := d.period * 1000
  let from_ := if d.timeBase = 0 then d.phase * 1000 else (s.task d.task).nextRelease
  if m ≤ from_ then from_ - (from_ - m) / p * p else from_ + (m - from_ + p - 1) / p * p
/-- The active module fixes S and tells the standby (R275, R282). -/
def fixSwap (s : State) (at' : Ns) : State :=
  ({ s with prog.exch := { s.prog.exch with swapAt := some at', lastSwap := at' } }).sendSync (.handover (.swapAt at'))
/-- S at least 50 ms from now, from the slowest task of the executing image. -/
def fixSwapLater (s : State) : State := s.slowest.elim s (fun d => s.fixSwap (s.firstInstant d (s.time.mono + 50000000)))
/-- The standby's report that it is ready, or that it cannot be (R275, Table 9.5 0x08). -/
def opStandbyReady (s : State) (ok : Bool) : State :=
  let x := s.prog.exch
  if !s.exchangeOpen || !(x.phase = 4 || x.phase = 8) || x.lone then s
  else if s.pair.ownSelf then
    (if !ok then s.abortBoth 8 else if x.swapAt.isSome then s else s.fixSwapLater)
  else if !ok then s.abortBoth 8
  else if x.ready || (x.phase = 4 && !s.newResident) then s
  else ({ s with prog.exch := { x with ready := true } }).sendSync (.handover .ready)

/-! ## Aborts (R280) -/

/-- Check 14 of EXCHANGE_ABORT, which ends a planned handover before its swap too (R335). -/
def opExchangeAbort (s : State) (x : ReplyTo) : State :=
  s.check14 x (x.req.value ≠ 1) false (!(s.abortable || (s.pair.handover = 1 && s.pair.ownSelf))) (fun t => (t.abortBoth 6).abortHandover)
/-- PREPARE_LIMIT has passed before the swap. -/
def opPrepareLimit (s : State) : State := if s.prog.exch.prepareEnd.elim false (fun e => decide (e ≤ s.time.mono)) then s.abortBoth 7 else s

/-! ## The revert window (R281 to R284, R295, R296) -/

/-- E-0x093: S and the claim time; where no claim has been made its words are free. -/
def swapRecord (s : State) (claim : Option Ns) : State :=
  match claim with
  | some c => s.trigger 0x093 (two s.prog.exch.lastSwap ++ two c)
  | none => ({ s with draws := s.draws + 2 }).trigger 0x093 (two s.prog.exch.lastSwap ++ [(s.freeAt 0).toNat, (s.freeAt 1).toNat])
/-- The end of a revert window that begins now. -/
def windowFromNow (s : State) : Option Ns := some (s.time.mono + s.prog.exch.window.toNat * 60000000000)
/-- This instant is a release instant of the slowest task of the executing image. -/
def slowestInstant (s : State) : Bool :=
  s.slowest.elim false (fun d => if d.timeBase = 0 then decide (s.time.mono % (d.period * 1000) = d.phase * 1000)
    else decide ((s.task d.task).lastRelease = s.time.mono) || decide ((s.task d.task).nextRelease = s.time.mono))
/-- Accepted parameter writes that still wait as a lone module changes its image are applied before the state is carried over (R263, R268); that S counts as the release instant they wait for is a DESIGN CHOICE. -/
def flushParams (s : State) : State := s.prog.params.foldl applyParam { s with prog.params := [] }
/-- On a lone module the new image becomes executing at S (R295). -/
def opLoneExecute (s : State) : State :=
  match s.prog.exch.other with
  | none => s
  | some new =>
    let x := s.prog.exch
    if !(s.exchangeOpen && x.lone && x.phase = 3 && x.copied && s.slowestInstant) then s else
    let p := s.flushParams
    let t := ({ p with prog.exch := { x with layoutState := p.mappedWords, lastSwap := s.time.mono } }).swapIn new
    (({ t with prog.exch := { t.prog.exch with phase := 6, dropped := true, held := true, heldHere := true, windowEnd := t.windowFromNow } }).swapRecord none).beginCkpt
/-- On a lone module the old image becomes executing again (R296). -/
def opLoneRevert (s : State) : State :=
  match s.image, s.prog.exch.other with
  | some new, some old =>
    let x := s.prog.exch
    if !(s.exchangeOpen && x.lone && x.phase = 8 && s.slowestInstant) then s else
    let p := s.flushParams
    let words := mapState new old p.prog.slots x.layout p.firn.stateA x.layoutState
    let t := ({ p with prog.exch := { x with lastSwap := s.time.mono } }).swapBack old x.layout words
    (({ t with prog.exch := { t.prog.exch with phase := 0, outcome := 4, held := false, heldHere := false, windowEnd := none, dropped := true } }).swapRecord none).trigger 0x096 []
  | _, _ => s
/-- Check 14 of a verified EXCHANGE_REVERT (R282, R296). -/
def exchangeRevert (t : State) (f : Fwd) : State :=
    let a := f.req.arg
    let x := t.prog.exch
    let m := t.mode.current
    let held := t.prog.stageState = 5 && t.prog.staged.elim false (fun i => i.hash.toNat = at_ a 0 64)
    let conflict := x.phase ≠ 6 || (if x.lone then m ≠ .hold else !(m = .run || m = .hold || m = .safe) || !t.partnerAnswers || tb t.pair.partnerMode.toNat 18)
    t.check14 (replyOf f) (a.length ≠ 64 || !held) t.modeBusy conflict (fun u =>
      let v := { u with prog.exch := { x with phase := 8, dropped := false, stopped := false, ready := false, swapAt := none } }
      if x.lone then v
      else
        let w := v.sendSync (.exchange (.phase 8))
        if m = .safe then w.fixSwap w.time.mono else w)
/-- EXCHANGE_REVERT. -/
def opExchangeRevert (s : State) : State := s.onSigned 0x2321 exchangeRevert
/-- The revert window ends (R284): the revert point is given up and SETTLING begins; on a lone module the exchange is complete. -/
def endWindow (s : State) : State :=
  let x := s.prog.exch
  let t := { s with prog.exch := { x with phase := 7, held := false, heldHere := false, windowEnd := none, layout := [], layoutState := [], other := none } }
  let clear := fun (u : State) => u.setStaged none 0
  if x.lone then (clear { t with prog.exch := { t.prog.exch with phase := 0, outcome := 2 } }).trigger 0x097 []
  else if s.pair.ownSelf then (clear t).sendSync (.exchange .confirm)
  else match s.prog.staged with
  | none => t.beginResync
  | some i => ((clear t).loadImage i (1 - s.drift.area)).beginResync
/-- Check 14 of EXCHANGE_CONFIRM. -/
def opExchangeConfirm (s : State) (x : ReplyTo) : State :=
  s.check14 x (x.req.value ≠ 1) false (!(s.prog.exch.outcome = 1 && s.prog.exch.phase = 6)) (fun t => t.endWindow)
/-- REVERT_WINDOW minutes have passed since the claim. -/
def opWindowExpiry (s : State) : State :=
  if s.prog.exch.phase = 6 ∧ s.prog.exch.windowEnd.elim false (fun e => decide (e ≤ s.time.mono)) then s.endWindow else s
/-- Check 14 of REVERT_WINDOW (Table 9.6). -/
def opRevertWindow (s : State) (x : ReplyTo) : State :=
  s.check14 x (x.req.value = 0 || 120 < x.req.value) false false (fun t => { t with prog.revertWindow := BitVec.ofNat 16 x.req.value })

end State

/-- CHECKPOINT_WAIVE (R218). -/
def execCheckpointWaive (r : Req) (s : State) : Host.Outcome State Fault Refusal := .next (if rowFor r 0x7440 4 then s.forwarded r 2 State.opWaived else s)
/-- IMAGE_STAGE (R259). -/
def execImageStage (r : Req) (s : State) : Host.Outcome State Fault Refusal := .next (if rowFor r 0x2301 0 then s.forwarded r 5 State.opImageStage else s)
/-- STAGE_VERIFY (R261). -/
def execStageVerify (r : Req) (s : State) : Host.Outcome State Fault Refusal := .next (if rowFor r 0x2302 0 && r.value = 1 then s.forwarded r 2 State.opStageCommand else s)
/-- STAGE_DISCARD (R261). -/
def execStageDiscard (r : Req) (s : State) : Host.Outcome State Fault Refusal := .next (if rowFor r 0x2302 0 && r.value = 2 then s.forwarded r 2 State.opStageCommand else s)
/-- IMAGE_VERIFY_COMPLETE (R261, R262). -/
def execImageVerifyComplete (image : Image) (salts : ImageSalts) (ok1 ok2 : Bool) (s : State) : Host.Outcome State Fault Refusal :=
  .next (s.opImageVerified image salts ok1 ok2)
/-- INSTANCE_PARAMS_WRITE (R94, R263). -/
def execInstanceParamsWrite (r : Req) (s : State) : Host.Outcome State Fault Refusal := .next (if rowFor r 0x2310 0 then s.forwarded r 5 State.opInstanceParams else s)
/-- CONSTANT_POOL_WRITE (R265). -/
def execConstantPoolWrite (r : Req) (s : State) : Host.Outcome State Fault Refusal := .next (if rowFor r 0x2311 0 then s.forwarded r 5 State.opConstantPool else s)
/-- CONSTANT_CHANGE_COMPLETE (R266). -/
def execConstantChangeComplete (s : State) : Host.Outcome State Fault Refusal := .next s.opConstantDone
/-- EXCHANGE_START (R269). -/
def execExchangeStart (s : State) : Host.Outcome State Fault Refusal := .next s.opExchangeStart
/-- TRANSFER_END (R271). -/
def execTransferEnd (stageError : Nat) (s : State) : Host.Outcome State Fault Refusal := .next (s.opTransferEnd stageError)
/-- MAPPING_END (R272). -/
def execMappingEnd (s : State) : Host.Outcome State Fault Refusal := .next s.opMappingEnd
/-- BULK_COPY_END (R273). -/
def execBulkCopyEnd (s : State) : Host.Outcome State Fault Refusal := .next s.opBulkCopyEnd
/-- NEW_LAYOUT_IN_STEP (R273). -/
def execNewLayoutInStep (s : State) : Host.Outcome State Fault Refusal := .next s.opNewInStep
/-- STANDBY_READY (R275). -/
def execStandbyReady (ok : Bool) (s : State) : Host.Outcome State Fault Refusal := .next (s.opStandbyReady ok)
/-- EXCHANGE_ABORT (R280). -/
def execExchangeAbort (r : Req) (s : State) : Host.Outcome State Fault Refusal := .next (if rowFor r 0x2325 0 then s.forwarded r 2 State.opExchangeAbort else s)
/-- PREPARE_LIMIT_EXPIRY (R280). -/
def execPrepareLimitExpiry (s : State) : Host.Outcome State Fault Refusal := .next s.opPrepareLimit
/-- EXCHANGE_REVERT (R282). -/
def execExchangeRevert (s : State) : Host.Outcome State Fault Refusal := .next s.opExchangeRevert
/-- EXCHANGE_CONFIRM (R284). -/
def execExchangeConfirm (r : Req) (s : State) : Host.Outcome State Fault Refusal := .next (if rowFor r 0x2326 0 then s.forwarded r 2 State.opExchangeConfirm else s)
/-- REVERT_WINDOW_EXPIRY (R284). -/
def execRevertWindowExpiry (s : State) : Host.Outcome State Fault Refusal := .next s.opWindowExpiry
/-- LONE_EXCHANGE_EXECUTE (R295). -/
def execLoneExchangeExecute (s : State) : Host.Outcome State Fault Refusal := .next s.opLoneExecute
/-- LONE_REVERT_EXECUTE (R296). -/
def execLoneRevertExecute (s : State) : Host.Outcome State Fault Refusal := .next s.opLoneRevert

end Sys2Proof.Machine
end

