-- ==== Sys2Proof/Machine/TimeOps.lean ====
section
/-! DEFINITION. The wall clock's sources, steps and slews, and what a nanosecond does to the clocks (R484 to R489, R312). -/
namespace Sys2Proof.Machine
namespace State

/-- E-0x112 with the alignment offset. -/
def sourceRecord (s : State) : State := s.trigger 0x112 (two (BitVec.ofInt 64 s.time.align).toNat)
/-- E-0x0F0: the wall time before a change and the wall time now (R409). -/
def stepRecord (s : State) (old : Wall) : State := s.trigger 0x0F0 (wallWords old ++ wallWords s.wall)
/-- A pending launch instant that a step has placed in the past (R482). -/
def markPassed (now before after : Int) (f : TxFrame) : TxFrame :=
  f.launch.elim f (fun l => { f with passed := (decide (now < (l : Int) - before) || f.passed) && decide ((l : Int) - after < now) })
/-- Launch instants after a step of the offset: a forward step can place one in the past (R482). -/
def moveLaunches (s : State) (before : Int) : State :=
  { s with eth.ports := mapTab s.eth.ports (fun _ p => { p with waiting := p.waiting.map (markPassed s.time.mono before s.time.align) }) }
/-- The wall clock takes an offset from a source: a step when it differs by more than a threshold, else a slew; a clock that was not valid becomes so (R487, R488). -/
def takeTime (s : State) (offset : Int) (source : Nat) (threshold : Int) : State :=
  let stepped := decide (threshold < (offset - s.time.align).natAbs)
  let fresh := !s.time.wallValid
  let old := s.wall
  let before := if fresh then 0 else s.time.align
  let t := { s with
    time := { s.time with wallValid := true, everValid := true, source := source, holdSince := none, align := if stepped then offset else s.time.align,
                          slewTo := if stepped || offset = s.time.align then none else some offset, stepCount := if stepped then s.time.stepCount + 1 else s.time.stepCount } }
  let u := if stepped || fresh then ((t.moveLaunches s.time.align).stepRecord old).stepPairs before t.time.align else t
  let v := if stepped || source ≠ s.time.source then u.sourceRecord else u
  if fresh then ((v.trigger 0x113 []).fall 51).judgeAligns else v
/-- A source time under STEP_THRESHOLD. -/
def takeSource (s : State) (offset : Int) (source : Nat) : State := s.takeTime offset source s.time.stepThreshold.toNat
/-- The wall clock is valid no more (R487). -/
def loseTime (s : State) : State :=
  if s.time.wallValid then (({ s with time.wallValid := false, time.source := 0, time.slewTo := none }).trigger 0x113 []).judgeAligns else s
/-- The first source of R485 that is available when PTP is not: the partner, the last WALL_SET, or holdover. -/
def nextSource (s : State) : State :=
  match (if s.pair.syncUp then s.pair.partnerPtp else none), s.time.wallSet with
  | some o, _ => s.takeSource o 2
  | none, some o => s.takeSource o 3
  | none, none =>
    if s.time.source = 0 then s
    else ({ s with time.source := 0, time.holdSince := some s.time.mono, time.slewTo := none }).sourceRecord

/-! ## A nanosecond (R312, R484, R488) -/

/-- The wall clock's slew, at most 500 ppm: one nanosecond or none in 2,000. -/
def slewWall (s : State) : State :=
  match s.time.slewTo with
  | none => s
  | some o =>
    if o = s.time.align then { s with time.slewTo := none }
    else if s.time.mono % 2000 ≠ 0 then s
    else { s with time.align := if (s.freeAt 0).getLsbD 0 then (if s.time.align < o then s.time.align + 1 else s.time.align - 1) else s.time.align, draws := s.draws + 1 }
/-- The standby tracks: its clock follows the partner's (R312). -/
def tracks (s : State) : Bool := s.mode.current = .track && !s.pair.ownSelf && s.pair.syncUp && s.time.monoRun
/-- The standby's slew, at most 100 ppm: its clock gains or loses one nanosecond or none in 10,000; an instant at which a task is released is not passed over. -/
def slewMono (s : State) : State :=
  if !s.tracks || s.pair.clockOffset = 0 || s.time.now % 10000 ≠ 0 then s else
  let free := (s.freeAt 0).getLsbD 0
  let next := s.time.mono + 1
  let t := { s with draws := s.draws + 1 }
  if !free then t
  else if 0 < s.pair.clockOffset then { t with time.mono := s.time.mono - 1, pair.clockOffset := s.pair.clockOffset - 1 }
  else if s.time.mono % 1000 = 0 || s.disp.tasks.any (fun e => e.2.nextRelease = s.time.mono) then t
  else { t with time.mono := next, pair.clockOffset := s.pair.clockOffset + 1 }
/-- One nanosecond passes: the monotonic clock counts once it has started (R314). DESIGN CHOICE: what a step does on an empty queue. -/
def tick (s : State) : State :=
  let t := { s with time.now := s.time.now + 1, time.mono := if s.time.monoRun then s.time.mono + 1 else s.time.mono }
  if s.time.monoRun then t.slewMono.slewWall else t

end State
end Sys2Proof.Machine
end

