-- ==== Sys2Proof/Machine/PairOps.lean ====
section
/-! DEFINITION. The Ownership Interlock: claims, ties, the takeover self-check, the swap and its end on both modules (10, 09). -/
namespace Sys2Proof.Machine
namespace State

/-- E-0x0A3: what happened, and the lanes that are up after it (R599). -/
def syncRecord (s : State) (kind : Nat) : State := s.trigger 0x0A3 [kind, bit s.pair.lane0 0 + bit s.pair.lane1 1]
/-- The exchange's state rewritten. -/
def setExch (s : State) (f : Exch → Exch) : State := { s with prog.exch := f s.prog.exch }

/-! ## What every claim does (R316, R324) -/

/-- The output paths that the image uses: links with an output channel and groups with a bound output, as domain codes (R327). -/
def outputPaths (s : State) : List Nat :=
  s.image.elim [] (fun i =>
    (((i.links.map (·.link)).filter (fun k => i.channels.any (fun c => c.output && (linkOf c.channel).elim false (fun l => l.1 = k)))).map (· + 0x10))
      ++ [0x4C, 0x4D].filter (fun d => i.channels.any (fun c => decide (c.channel < 0x30) && (c.kind = 3 || c.kind = 5) && groupOf c.channel + 0x4B = d)))
/-- The OWNERSHIP record names this module at one more than the higher epoch, and a partner is told (R316). -/
def newRecord (s : State) : State :=
  let e := (if s.pair.ownerEpoch < s.pair.partnerOwnerEpoch then s.pair.partnerOwnerEpoch else s.pair.ownerEpoch) + 1
  ({ s with pair.ownerEpoch := e, pair.ownerSlot := s.pair.slotPos }).sendSync .record
/-- OWN_SELF is asserted: E-0x0A1 with the kind of claim and the mode taken, the record, and a self-check that begins. -/
def assertOwn (s : State) (kind : Nat) (m : Mode) : State :=
  let t := s.trigger 0x0A1 [kind, s.pair.goodbye, bit s.pair.stale 0, m.code]
  ({ t with
    pair := { t.pair with
      ownSelf := true, claimedAt := some t.time.now, claimFrom := t.mode.current, lastClaim := t.time.mono, claims := t.pair.claims + 1, claimWait := none
      checkDone := false, gateChecked := false, gateFailed := false, group1Failed := false, group2Failed := false, failedLinks := 0
      toCheck := t.outputPaths.filter (fun d => !t.fenced d && !(decide (0x4C ≤ d) && (t.grp (d - 0x4B)).switchedOff)), phase := 0, stale := false, staleFromStep := false, openSince := none, offsetSince := none, waitUntil := none
      received := [], buffer := [], bufferInputs := [], goodbye := 0, handoverAt := none }
    prog.exch := { t.prog.exch with stopped := false }
    disp.tasks := mapTab t.disp.tasks (fun _ k => { k with ready := true, deltaDue := false })
    firn.tasks := mapTab t.firn.tasks (fun _ f => { f with vote := none }) }).newRecord

/-! ## Takeover from TRACK (R323, R324, R330) -/

/-- The mode taken at a takeover, and whether the transition stays open (Table 10.6). -/
def takeoverMode (s : State) : Mode × Bool :=
  if s.pair.stale then (.hold, false) else
  match s.pair.lastEpoch with
  | some (.run, o) => (.run, o)
  | some (.hold, o) => (.hold, o)
  | _ => (.hold, false)
/-- The transition that the former active module had opened stays open for the tasks that have not adopted it (R43): CURRENT is the mode that module still read, REQUEST_STATUS shows the committed request, whose unit, reason and session this module does not know. -/
def openAgain (s old : State) : State :=
  let pend := old.mode.pending
  let from' : Nat := old.pair.partnerMode.toNat % 256
  let was : Mode := if 2 ≤ from' ∧ from' ≤ 5 then modeOf from' else s.mode.current
  { s with
    mode := { s.mode with current := was, inTransition := true, pending := pend, commitAt := old.mode.commitAt, leavingSafe := decide (was = Mode.safe)
                          reqResult := 2, reqUnit := 0, reqReason := 0, reqSession := 0 }
    disp.tasks := mapTab s.disp.tasks (fun t k => if pend.getLsbD t then { k with adopted := (old.task t).adopted, epoch := (old.task t).epoch } else k)
    sig.entries := mapTab s.sig.entries (fun g e => if e.producer.elim false (fun t => pend.getLsbD t) then old.sigOf g else e) }
/-- STALE ends at the claim on a signal that is no input and has no producer task (R330). -/
def unstale (s : State) : State :=
  { s with sig.entries := mapTab s.sig.entries (fun _ e => if e.direction ≠ 1 ∧ e.producer.isNone then { e with stale := false } else e) }
/-- The claim is the swap of an exchange: the partner handed over at S (R277, R278). -/
def swapClaim (s : State) : Bool :=
  let x := s.prog.exch
  s.pair.goodbye = 1 && x.outcome = 1 && (x.phase = 4 || x.phase = 5) && !x.lone && !x.heldHere && x.swapAt.elim false (fun t => decide (t ≤ s.time.mono))
/-- The exchange after a swap claim: the revert window runs on this module, the new active one. -/
def beginWindow (s : State) : State :=
  (s.setExch (fun x => { x with phase := 6, held := true, heldHere := false, dropped := true, swapAt := none, windowEnd := s.windowFromNow })).swapRecord (some s.time.mono)
/-- The exchange after the revert-point module has claimed under the old image: REVERTED at a REVERT's swap, REVERTED_BY_TAKEOVER otherwise (R281, R283). -/
def backToOld (s : State) (planned : Bool) : State :=
  let t := s.setStaged s.prog.exch.other 3
  let u := if planned then t.swapRecord (some s.time.mono) else t
  (u.setExch (fun x => { x with phase := 0, outcome := if planned then 4 else 5, held := false, heldHere := false, swapAt := none, windowEnd := none,
                                layout := [], layoutState := [], other := none })).trigger 0x096 []
/-- A claim by an eligible standby; a partner that hears this module is told the epoch (R33). -/
def takeover (s : State) : State :=
  let mode := s.takeoverMode
  let planned := s.pair.goodbye = 1
  let swap := s.swapClaim
  let back := s.prog.exch.heldHere
  let reverting := planned && s.prog.exch.phase = 8
  let s0 := s.discardReleases
  let s1 := if swap then s0.prog.exch.other.elim s0 s0.swapIn else s0.abortExchange 4
  let s2 := (s1.assertOwn 2 mode.1).immediate mode.1
  let still := mode.2 && s1.mode.pending ≠ 0
  let s3 := (if still then s2.openAgain s1 else s2).tellEpoch (if still then s1.mode.commitAt.getD s.time.mono else s.time.mono) (!still)
  let s4 := if swap then s3.beginWindow else if back then s3.backToOld reverting else s3
  let s5 := if planned then s4.beginCkpt else s4
  s5.unstale.gatesChanged.settle
/-! ## Claim from COLD (R18, R25, R218, R315) -/

/-- A module in COLD may claim: booted, in a life-cycle state that allows it, with an image and retained state, and no partner answering. -/
def coldReady (s : State) : Bool :=
  s.mode.current = .cold && s.mode.booted && !s.mode.inReset && s.sess.ksLoaded && (s.mode.life = .inService || s.mode.life = .develop) && s.canRun
    && s.mode.lifePending.isNone && !s.mode.verifyFailed && !s.partnerAnswers && !s.pair.deferring && s.pair.phase ≠ 7 && !s.safeCause && !s.hub.leafStopped
/-- The claim of a lone or chosen module: retained state from the checkpoint, or the declared initial state after a waive, which enters HOLD. -/
def coldClaim (s : State) : State :=
  let m : Mode := if s.drift.waived then .hold else if s.mode.powerUpPolicy = 1 then .run else .hold
  let t := match (if s.drift.waived then none else s.bestCkpt) with
    | some c => (({ s with firn.stateA := c.slots.foldl (fun (a : Tab Word) (e : Nat × Tab Word) => (find s.prog.slots e.1).elim a (fun o => placeWords a o e.2)) s.firn.stateA }).rebuildCopies).trigger 0x052 [c.forces]
    | none => s.trigger 0x052 [0xFFFFFFFF]
  let u := ((t.assertOwn 1 m).immediate m).tellEpoch s.time.mono true
  ({ u.leaveCold with drift.waived := false }).gatesChanged.settle

/-- A claim is open to the module: as an eligible standby, or from COLD. -/
def mayClaim (s : State) : Bool := s.claimArmed || s.coldReady
/-- OWN_PEER has been low for 2 ms: the Interlock waits for the received deltas, at most 3 ms (R303). -/
def opClaimTimer (s : State) : State :=
  if s.pair.ownSelf ∨ s.pair.ownPeer ∨ s.pair.claimWait.isSome ∨ !s.mayClaim ∨ !s.pair.lowSince.elim false (fun t => decide (t + 2000000 ≤ s.time.now)) then s
  else { s with pair.claimWait := some (s.time.now + 3000000) }
/-- OWN_SELF is asserted once every received delta is applied, or 3 ms have passed. -/
def opClaim (s : State) : State :=
  match s.pair.claimWait with
  | none => s
  | some e =>
    if s.pair.ownSelf ∨ s.pair.ownPeer ∨ !s.mayClaim ∨ !(s.pair.received.isEmpty || decide (e ≤ s.time.now)) then s
    else if s.mode.current = .cold then s.coldClaim else s.takeover

/-! ## OWN_PEER (R303 to R305, R307, R332) -/

/-- A module that has claimed under the new image and lost the tie runs the old one again; the exchange has failed at its swap (R279). -/
def failSwap (s : State) : State :=
  let x := s.prog.exch
  if !(x.outcome = 1 && x.phase = 6 && !x.heldHere && !x.lone) then s else
  let t := s.setExch (fun y => { y with phase := 0, outcome := 6, held := false, windowEnd := none, layout := [], layoutState := [], other := none })
  let u := s.prog.staged.elim t (fun old => { t.loadImage old (1 - s.drift.area) with prog.staged := none, prog.stageState := 0, prog.stageError := 0 })
  u.trigger 0x097 []
/-- The module in the upper slot loses a tie: it undoes the mode of its claim (R304); one that has entered SAFE since stays in SAFE, which Table 2.6 leaves at a request alone. -/
def loseTie (s : State) : State :=
  let t := (s.abortPrepareIfOwned 7).dropOwn 4
  let safe : Bool := s.mode.current = .safe
  if s.pair.claimFrom = .cold then
    let u := (if safe then t else t.immediate .cold).endAllSessions
    ({ u with pair.paired := false, pair.deferred := false, pair.phase := if safe then 0 else 1
              mode.leftColdAt := if safe then u.mode.leftColdAt else none }).sendSync .hello
  else if safe then t.failSwap
  else (((t.failSwap).immediate .track).trigger 0x0A6 [2, 7]).startPhase 3
/-- The partner has claimed after this module's drop: the handover or the swap is complete (R279, R283, R335). -/
def swapDone (s : State) : State :=
  let x := s.prog.exch
  let t := ({ s with pair.waitUntil := none }).setExch (fun y => { y with stopped := false, swapAt := none })
  if s.pair.handover = 1 then ({ t with pair.handover := 2, pair.handoverAt := none }).trigger 0x0AA []
  else if x.phase = 5 then
    ({ t with pair.partnerImage := x.other.map (fun (i : Image) => i.hash) }).setExch (fun y => { y with phase := 6, windowEnd := s.windowFromNow })
  else if x.phase = 8 then
    let old : Option Image := s.prog.staged
    let new := s.image
    let u : State := old.elim t (fun i => t.loadImage i (1 - s.drift.area))
    let v : State := { u with prog.staged := new, prog.stageState := 3, prog.stageError := 0, pair.partnerImage := old.map (fun (i : Image) => i.hash) }
    let w : State := (v.setExch (fun y => { y with phase := 0, outcome := 4, held := false, windowEnd := none })).trigger 0x096 []
    if w.mode.current = .track then w.beginResync else w
  else t
/-- A deferring module accepts its partner once the partner owns, and enters TRACK (R315); a booted module does whose partner owns (Table 2.6). -/
def joinPartner (s : State) : State :=
  if s.mode.current = .cold && s.mode.booted && !s.mode.inReset && s.mode.lifePending.isNone && !s.mode.verifyFailed && s.sess.ksLoaded && (s.pair.paired || s.pair.deferring) && s.pair.syncUp && s.pair.partnerOwns
      && (s.mode.life = .inService || s.mode.life = .develop) && !s.safeCause then
    let t := if s.pair.deferring then (s.sendSync .accept).trigger 0x0A0 [] else s
    let u := ({ t with pair.paired := true, pair.deferring := false, pair.deferred := false }).immediate .track
    (u.leaveCold).beginResync
  else s
/-- The partner owns again after its drop, and this module has not claimed: the exchange, or the REVERT, has failed at its swap. This module gives up the layout that does not execute and resynchronises under the partner's image (R279, R282). -/
def partnerReclaimed (s : State) : State :=
  let x := s.prog.exch
  let ended := fun (u : State) => (u.setExch (fun y => { y with
    phase := 0, outcome := 6, held := false, heldHere := false, stopped := false, swapAt := none, prepareEnd := none, windowEnd := none, ready := false
    copied := false, mapped := 0, layout := [], layoutState := [], other := none })).trigger 0x097 []
  if x.heldHere then
    let t := (s.setStaged none 0)
    (ended (s.prog.staged.elim t (fun i => t.loadImage i (1 - s.drift.area)))).beginResync
  else (ended s.dropTransferred).beginResync
/-- The partner has claimed under the old image while this module ran the new one: the revert point has taken over (R281). -/
def takenBack (s : State) : State :=
  (s.setExch (fun y => { y with phase := 0, outcome := 5, held := false, heldHere := false, windowEnd := none, layout := [], layoutState := [], other := none })).trigger 0x096 []
/-- What an exchange or a handover makes of OWN_PEER rising on a module that has not dropped OWN_SELF itself just now. -/
def peerOwns (s : State) : State :=
  let x := s.prog.exch
  let s0 := { s with pair.handoverAt := if s.pair.ownSelf then s.pair.handoverAt else none }
  if s.pair.ownSelf || x.lone || x.outcome ≠ 1 then s0
  else if s.mode.current = .track && (x.phase = 4 || x.phase = 5 || x.phase = 8) && x.swapAt.elim false (fun t => decide (t ≤ s.time.mono)) then s0.partnerReclaimed
  else if x.phase = 6 && !x.heldHere then s0.takenBack
  else s0
/-- INTERLOCK_OPEN ends (R332). -/
def closeInterlock (s : State) : State :=
  let t := { s with pair.openSince := none }
  if s.pair.interlockOpen then (({ t with pair.interlockOpen := false }).fall 114).syncRecord 8 else t
/-- OWN_PEER rises: a claim that waits is abandoned, a tie is broken, a swap is complete. -/
def peerRises (s : State) : State :=
  let t := { s with pair.ownPeer := true, pair.highSince := some s.time.now, pair.lowSince := none, pair.claimWait := none, pair.goodbye := 0, pair.partnerOwns := true }
  let tie := s.pair.ownSelf && s.pair.claimedAt.elim false (fun c => decide (s.time.now ≤ c + 50000))
  if tie then
    let u := t.trigger 0x0A9 []
    if s.pair.slotPos then u.loseTie.gatesChanged else u.gatesChanged
  else if s.pair.waitUntil.isSome then t.swapDone.settle
  else (t.peerOwns).joinPartner.gatesChanged
/-- OWN_PEER changes level. -/
def opOwnPeer (s : State) (high : Bool) : State :=
  if s.pair.ownPeer = high then s
  else if high then s.peerRises
  else
    let t := { s with pair.ownPeer := false, pair.highSince := none, pair.partnerOwns := false, pair.lowSince := if s.pair.ownSelf then none else some s.time.now }
    ((t.closeInterlock).fall 115).gatesChanged
/-- OWN_PEER has been high for more than 50 µs outside the tie window: D115 (R305). -/
def opConflict (s : State) : State :=
  match s.pair.highSince with
  | none => s
  | some h =>
    if s.pair.ownSelf && s.pair.ownPeer && decide (h + 50000 < s.time.now) && !s.pair.claimedAt.elim false (fun c => decide (s.time.now ≤ c + 50000)) then
      (s.riseOpen 115).settle
    else s
/-- OWN_PEER has read high for 10 ms while the partner reports OWN_SELF low (R332). -/
def opInterlockOpen (s : State) : State :=
  if s.pair.syncUp && s.pair.ownPeer && !s.pair.ownSelf && !s.pair.interlockOpen && s.pair.openSince.elim false (fun t => decide (t + 10000000 ≤ s.time.now)) then
    (({ s with pair.interlockOpen := true }).riseOpen 114).syncRecord 7
  else s

/-! ## The takeover self-check (R326, R327) -/

/-- The gates have been read back: a gate that has not opened raises D116 and ends the self-check. -/
def opGateCheck (s : State) (ok : Bool) : State :=
  if !(s.pair.ownSelf && s.pair.claimedAt.isSome && !s.pair.gateChecked && !s.pair.gateFailed) then s
  else if ok then ((({ s with pair.gateChecked := true }).fall 116)).finishCheck
  else
    let t := ((({ s with pair.gateFailed := true, pair.toCheck := [] }).trigger 0x0A8 []).abortPrepareIfOwned 7).riseOpen 116
    (if t.pair.ownSelf then t else t.fall 116).settle
/-- A failed path raises D120, whose cause information names it. -/
def pathFailed (s : State) (d : Nat) : State := (s.occur 120 d).settle
/-- A path has been compared: at a takeover its failure is kept in TAKEOVER_CHECK; after a restore it raises D120 alone. -/
def opPathCheck (s : State) (d : Nat) (ok : Bool) : State :=
  if !s.pair.ownSelf ∨ s.pair.gateFailed ∨ !s.outputPaths.contains d then s
  else if s.fenced d ∨ (0x4C ≤ d ∧ (s.grp (d - 0x4B)).switchedOff) then s
  else if !s.pair.toCheck.contains d then (if ok then s else s.pathFailed d)
  else
    let p := s.pair
    let t := { s with pair := { p with
      toCheck := p.toCheck.filter (· ≠ d), group1Failed := p.group1Failed || (!ok && d = 0x4C), group2Failed := p.group2Failed || (!ok && d = 0x4D)
      failedLinks := if !ok ∧ d < 0x40 then p.failedLinks ||| BitVec.ofNat 64 (2 ^ (d - 0x10)) else p.failedLinks } }
    (if ok then t else t.pathFailed d).finishCheck

/-! ## The swap on the module that hands over (R276 to R279, R335) -/

/-- S of an exchange, a REVERT or a planned handover on this module. -/
def swapDue (s : State) : Bool :=
  (s.exchangeOpen && !s.prog.exch.lone && s.prog.exch.swapAt.elim false (fun t => decide (t ≤ s.time.mono)))
    || (s.pair.handover = 1 && s.pair.handoverAt.elim false (fun t => decide (t ≤ s.time.mono)))
/-- SWAP_INSTANT: at S the active module stops dispatching; the releases whose commit has not begun are abandoned. -/
def opSwapInstant (s : State) : State :=
  if !s.swapDue ∨ s.prog.exch.stopped then s else
  let t := if s.exchangeOpen && s.prog.exch.phase = 4 then s.setPhase 5 else s
  if s.pair.ownSelf then (t.setExch (fun x => { x with stopped := true })).discardReleases else t
/-- The last delta is acknowledged: the module drops OWN_SELF and enters TRACK; this is the swap. -/
def opLastDelta (s : State) : State :=
  if !(s.pair.ownSelf && s.prog.exch.stopped && s.swapDue && s.releases.isEmpty) then s else
  let m : Mode := s.mode.current
  let t := (s.abortPrepareIfOwned 7).dropOwn 1
  let u := if m = Mode.run ∨ m = Mode.hold then t.immediate .track else t
  let v := { u with pair.waitUntil := some (s.time.now + 6000000), pair.phase := if m = Mode.safe then 0 else 5, pair.streamSeq := u.pair.streamSeq, pair.drained := true,
                    pair.lastEpoch := some (m, false)
                    disp.tasks := mapTab u.disp.tasks (fun _ k => { k with adopted := m, ready := true, deltaDue := false }) }
  if s.pair.handover = 1 then v.setExch (fun x => { x with swapMode := m })
  else
    let hold := s.prog.exch.phase = 5
    (v.setExch (fun x => { x with swapMode := m, dropped := true, held := hold, heldHere := hold })).swapRecord none
/-- The exchange, or the handover, of a swap whose partner has not claimed has failed (R279, R335). -/
def swapFailed (s : State) : State :=
  if s.pair.handover = 1 then ({ s with pair.handover := 4 }).trigger 0x0AA []
  else
    let v := s.setExch (fun x => { x with phase := 0, outcome := 6, held := false, heldHere := false, swapAt := none, dropped := false, stopped := false
                                          layout := [], layoutState := [], other := none })
    ({ v with prog.stageState := if v.prog.stageState = 5 then 3 else v.prog.stageState }).trigger 0x097 []
/-- OWN_PEER has not risen within 6 ms of the drop: the module claims again under the image it ran and returns to its mode (R279). A module that has entered SAFE since makes no claim and stays in SAFE (R308, R46). -/
def opReclaim (s : State) : State :=
  if !s.pair.waitUntil.elim false (fun t => decide (t ≤ s.time.now)) ∨ s.pair.ownPeer ∨ s.pair.ownSelf ∨ s.mode.current = .cold ∨ s.mode.inReset then s else
  let m : Mode := s.prog.exch.swapMode
  if s.mode.current = .safe ∧ m ≠ .safe then ({ s with pair.waitUntil := none }).swapFailed.settle else
  let t := s.assertOwn 3 m
  let u := if t.mode.current = m then t else t.immediate m
  (u.tellEpoch s.time.mono true).swapFailed.gatesChanged.settle
/-! ## Planned handover (R334, R335) -/

/-- Check 14 of HANDOVER_REQUEST; S is the first release instant of the slowest task at least 50 ms after the final reply. -/
def opHandover (s : State) (x : ReplyTo) : State :=
  s.check14 x (x.req.value ≠ 1) (s.modeBusy || s.pair.handover = 1 || s.exchanging || s.mode.rebootDue)
    (!(s.mode.current = .run || s.mode.current = .hold) || !s.partnerInStep || s.pair.split)
    (fun t => t.slowest.elim t (fun d =>
      let instant := t.firstInstant d (t.time.mono + 50000000)
      (({ t with pair.handover := 1, pair.handoverAt := some instant }).trigger 0x0AA []).sendSync (.handover (.swapAt instant))))

end State

/-- HANDOVER_REQUEST (R334). -/
def execHandoverRequest (r : Req) (s : State) : Host.Outcome State Fault Refusal := .next (if rowFor r 0x2205 0 then s.forwarded r 2 State.opHandover else s)
/-- OWN_PEER_CHANGE (R303). -/
def execOwnPeerChange (high : Bool) (s : State) : Host.Outcome State Fault Refusal := .next (s.opOwnPeer high)
/-- CLAIM_TIMER_EXPIRY (R303). -/
def execClaimTimerExpiry (s : State) : Host.Outcome State Fault Refusal := .next s.opClaimTimer
/-- CLAIM (R324). -/
def execClaim (s : State) : Host.Outcome State Fault Refusal := .next s.opClaim
/-- OWNERSHIP_CONFLICT (R305). -/
def execOwnershipConflict (s : State) : Host.Outcome State Fault Refusal := .next s.opConflict
/-- GATE_CHECK (R326). -/
def execGateCheck (ok : Bool) (s : State) : Host.Outcome State Fault Refusal := .next (s.opGateCheck ok)
/-- OUTPUT_PATH_CHECK (R327). -/
def execOutputPathCheck (domain : Nat) (ok : Bool) (s : State) : Host.Outcome State Fault Refusal := .next (s.opPathCheck domain ok)
/-- INTERLOCK_OPEN_TIMEOUT (R332). -/
def execInterlockOpenTimeout (s : State) : Host.Outcome State Fault Refusal := .next s.opInterlockOpen
/-- SWAP_INSTANT (R276). -/
def execSwapInstant (s : State) : Host.Outcome State Fault Refusal := .next s.opSwapInstant
/-- LAST_DELTA_ACKNOWLEDGED (R276). -/
def execLastDeltaAcknowledged (s : State) : Host.Outcome State Fault Refusal := .next s.opLastDelta
/-- SWAP_RECLAIM_TIMEOUT (R279). -/
def execSwapReclaimTimeout (s : State) : Host.Outcome State Fault Refusal := .next s.opReclaim

end Sys2Proof.Machine
end

