-- ==== Sys2Proof/Machine/Pair.lean ====
section
/-! DEFINITION. The Sync Link's messages, pairing, tracking, resynchronisation and stale standbys; the release instants and votes that follow the partner's deltas (10, 06, 08). -/
namespace Sys2Proof.Machine
namespace State

/-! ## Pairing (R313 to R316) -/

/-- The checks of Table 10.5. -/
def pairingOk (s : State) (m : HelloMsg) : Bool :=
  m.protocol = 3 && m.lifecycle = s.mode.life.code && m.slotPos ≠ s.pair.slotPos && (!m.owns || decide (m.minFw ≤ s.fwRelease))
/-- The monotonic clock starts once (R314). -/
def startClock (s : State) (m : Ns) : State := if s.time.monoRun then s else { s with time.mono := m, time.monoRun := true }
/-- HELLO to the lanes that are up, also before the link counts as up (R313). -/
def sayHello (s : State) : State :=
  if s.pair.lane0 || s.pair.lane1 then { s with pair.out := s.pair.out ++ [.hello], pair.lastHello := s.time.now } else s
/-- What a HELLO says of the partner. -/
def noteHello (s : State) (m : HelloMsg) : State :=
  { s with pair := { s.pair with
      peerPresent := true, lastFrame := s.time.now, partnerSerial := m.serial, partnerFw := m.firmware, partnerCanRun := m.canRun, partnerImage := m.image
      partnerCold := m.cold, partnerOwns := m.owns, partnerOwnerEpoch := m.ownershipEpoch, partnerOwnerSlot := m.ownerSlot } }
/-- The partner is accepted: E-0x0A0; an owner's newer record is stored, and what waited for the pairing follows. -/
def acceptPartner (s : State) (m : HelloMsg) : State :=
  let fresh := !s.pair.paired
  let t := { s with pair.paired := true, pair.fwMismatch := decide (m.firmware ≠ s.fwRelease), pair.deferred := s.pair.deferred && !m.owns
                    pair.phase := if s.pair.phase = 7 then 0 else s.pair.phase }
  let u := if fresh then (t.trigger 0x0A0 []).sendSync .accept else t
  let v := if m.owns && decide (u.pair.ownerEpoch < m.ownershipEpoch) then { u with pair.ownerEpoch := m.ownershipEpoch, pair.ownerSlot := m.ownerSlot } else u
  let w := if v.mode.current = .cold then v.arbitrate.joinPartner
    else if v.mode.current = .track && !v.pair.stale && fresh then v.beginResync else v
  if w.pair.ownSelf && w.prog.exch.phase = 6 && !w.prog.exch.lone && m.cold then w.endWindow else w
/-- The partner is refused: D119, E-0x0A0, SYNC_PHASE 7 (R313). -/
def refusePartner (s : State) : State :=
  (({ s with pair.paired := false, pair.phase := 7 }).occurOpen 119).trigger 0x0A0 []
/-- HELLO; before the link counts as up it starts the clock alone (R310, R314). -/
def opHello (s : State) (m : HelloMsg) : State :=
  if s.mode.inReset ∨ !(s.pair.syncUp || s.pair.lane0 || s.pair.lane1) then s else
  if !s.pair.syncUp then s.startClock m.mono else
  let t := (s.startClock m.mono).noteHello m
  if t.pair.stale && m.owns && !t.pair.ownSelf then t.assertReset
  else if t.pairingOk m then t.acceptPartner m
  else t.refusePartner
/-- Every 10 s until pairing succeeds. -/
def opHelloTimer (s : State) : State := if s.pair.paired ∨ s.time.now < s.pair.lastHello + 10000000000 then s else s.sayHello
/-- HELLO_DEFER: the module counts as having no partner answering (R315). -/
def opHelloDefer (s : State) : State :=
  if s.mode.current = .cold ∧ s.pair.syncUp then ({ s with pair.deferred := true, pair.deferring := false }).judgeCheckpoint else s

/-! ## HEARTBEAT, GOODBYE and EPOCH (R33, R43, R306, R312, R319, R331, R332) -/

/-- What the partner's heartbeat says of time: CLOCK_OFFSET of a module that does not own, and the partner's PTP as a source (R312, R485). -/
def heartTime (s : State) (m : HeartbeatMsg) : State :=
  let off := if s.pair.ownSelf then 0 else m.offset
  let far := decide (1000 < off.natAbs)
  let t := { s with pair.clockOffset := off, pair.offsetSince := if far then some (s.pair.offsetSince.getD s.time.now) else none
                    pair.cleanRun := if far then 0 else s.pair.cleanRun, pair.partnerPtp := if m.ptpLocked then some (m.alignOffset - m.offset) else none }
  if t.time.servo = 2 ∨ !t.time.monoRun then t
  else if m.ptpLocked then t.takeSource (m.alignOffset - m.offset) 2
  else if t.time.source = 2 then t.nextSource else t
/-- What an owner draws from the standby's state: PAIR_SPLIT, an exchange or a handover whose standby has left step, the end of SETTLING (R281, R284, R331, Table 9.5). -/
def heartOwner (s : State) (m : HeartbeatMsg) : State :=
  if !s.pair.ownSelf then s else
  let t := { s with pair.split := s.pair.split && !s.partnerInStep, pair.mismatches := if m.mismatch then s.pair.mismatches + 1 else s.pair.mismatches }
  let u := if t.partnerInStep then t else (t.abortBoth 3).abortHandover
  if u.prog.exch.phase = 7 && !u.prog.exch.lone && u.partnerInStep then (u.setExch (fun x => { x with phase := 0, outcome := 2 })).trigger 0x097 [] else u
/-- HEARTBEAT. -/
def opHeartbeat (s : State) (m : HeartbeatMsg) : State :=
  if s.mode.inReset ∨ !s.pair.syncUp then s else
  let t := { s with pair := { s.pair with
    peerPresent := true, lastFrame := s.time.now, partnerMode := m.mode, partnerEpoch := m.epoch, partnerPhase := m.syncPhase, partnerOwns := m.ownSelf
    partnerArmed := m.claimArmed, partnerCold := m.mode.toNat % 256 = 0 } }
  if t.pair.stale && m.ownSelf && !t.pair.ownSelf then t.assertReset else
  let u := (t.heartTime m).heartOwner m
  let v := if m.ownSelf then u.closeInterlock
    else if u.pair.ownPeer && !u.pair.ownSelf then { u with pair.openSince := some (u.pair.openSince.getD u.time.now) }
    else { u with pair.openSince := none }
  v.joinPartner
/-- GOODBYE with its reason (R306). -/
def opGoodbye (s : State) (reason : Nat) : State := if s.pair.syncUp ∧ 1 ≤ reason ∧ reason ≤ 8 then { s with pair.goodbye := reason } else s
/-- EPOCH on a standby: the epoch with its COMMIT instant, or an immediate change. -/
def opEpoch (s : State) (epoch : Word) (target : Nat) (commit : Ns) (now : Bool) : State :=
  if s.mode.current ≠ .track ∨ s.pair.ownSelf ∨ !s.pair.syncUp ∨ 5 < target then s else
  let m : Mode := modeOf target
  let mask := s.taskMask
  if now || mask = 0 then
    let t := { s with
      mode.epoch := epoch, mode.pending := 0, mode.commitAt := none, pair.lastEpoch := some (m, false)
      disp.tasks := mapTab s.disp.tasks (fun _ k => { k with adopted := m, epoch := epoch })
      sig.entries := mapTab s.sig.entries (fun _ g => adoptOutput (s.unitFenced g.unit) m { g with transition := false }) }
    (if m = Mode.safe then t.discardReleases else t).settle
  else
    ({ s with mode.epoch := epoch, mode.pending := mask, mode.commitAt := some commit, pair.lastEpoch := some (m, true)
              sig.entries := mapTab s.sig.entries (fun _ g => s.commitSignal m g) }).settle

/-! ## STREAM: the one ordered sequence (R317, R318, R322, R336) -/

/-- A tracking module takes STREAM from STATE_COPY on. -/
def streams (s : State) : Bool :=
  s.mode.current = .track && !s.pair.ownSelf && s.pair.syncUp && !s.pair.stale && 3 ≤ s.pair.phase && s.pair.phase ≤ 5 && s.pair.resyncWait.isNone
/-- The message is the next of the sequence. -/
def inOrder (s : State) (n : Nat) : Bool := s.pair.streamSeq = 0 || n = s.pair.streamSeq + 1
/-- A sequence gap: an in-step standby leaves step, a resynchronising one begins STATE_COPY again (R322). -/
def streamGap (s : State) : State := if s.pair.phase = 5 then s.leaveStep 2 3 else s.startPhase 3
/-- STREAM goes to the resynchronisation buffer until it has drained. -/
def buffers (s : State) : Bool := s.pair.phase = 3 || (s.pair.phase = 4 && !s.pair.drained)
/-- An input change written into the Signal Image (R317, R318); an input of a unit that is FENCED here stays BAD-FENCED, and SUBSTITUTED ends with the first value after the fence (R139, R141). -/
def applyInput (s : State) (c : StreamChange) : State :=
  s.setSig c.signal (fun e => { e with
    value := c.value, quality := if s.unitFenced e.unit then 3 else c.quality, source := c.source, stale := false, substituted := e.substituted && s.unitFenced e.unit
    wireBreak := c.flags.getLsbD 2, overrange := c.flags.getLsbD 1, underrange := c.flags.getLsbD 0 })
/-- STREAM_INPUT_CHANGE. -/
def opInputChange (s : State) (c : StreamChange) : State :=
  if !s.streams then s
  else if !s.inOrder c.sequence then s.streamGap
  else
    let t := { s with pair.streamSeq := c.sequence }
    if s.buffers then { t with pair.bufferInputs := t.pair.bufferInputs ++ [c] } else (t.applyInput c).settle

/-! ## Commit deltas (R264, R266, R303, R319 to R321, R338) -/

/-- A force as the partner wrote it (R159). -/
def applyForce (s : State) (f : ForceMsg) : State := s.setSig f.signal (fun e => { e with forced := f.forced, forceValue := f.value })
/-- A parameter change of the partner; its session is not told, so CHANGE_LOG holds a free word there (R264, R267). The module that holds the revert point takes it for a carried instance (R281). -/
def applyPartnerParam (s : State) (p : ParamWrite) : State :=
  let other := (s.image.bind (fun i => i.insts.find? (fun x => x.id = p.inst))).elim 0 (fun x => s.prog.exch.other.elim 0 (fun o => fate o x))
  match find s.prog.slots p.inst with
  | none => s
  | some o =>
    if s.prog.exch.heldHere && other ≠ 1 then s else
    let w := o + p.word
    (({ s with draws := s.draws + 1 }).setWord w (s.wordType w) p.value).logChange
      { kind := 1, number := p.inst, offset := s.paramOffset p.inst p.word, old := get 0 s.firn.stateA w, new := p.value, session := s.freeAt 0, mono := s.time.mono }
/-- A constant-page switch of the partner (R266, R267); the module that holds the revert point runs another image, whose pages stay. -/
def applyPartnerPage (s : State) (c : Nat × List (Nat × Word)) : State :=
  if s.prog.exch.heldHere then s else
  let t := c.2.foldl (fun (u : State) (w : Nat × Word) => ({ u with draws := u.draws + 1 }).logChange
    { kind := 2, number := c.1, offset := 4 * w.1, old := constWord s c.1 w.1, new := w.2, session := u.freeAt 0, mono := s.time.mono }) s
  ({ t with prog.changeRecord := put t.prog.changeRecord c.1 (c.2.foldl (fun (p : Tab Word) (w : Nat × Word) => put p w.1 w.2) (get [] t.prog.changeRecord c.1))
            prog.changeHash := s.image.elim 0 (·.hash), prog.image := s.prog.image.map (fun i => withPage i c.1 c.2) }).replaced 0x2311 0
/-- Arm states sent with a delta; a group that fires here keeps its own (R438). -/
def applyArm (s : State) (a : Nat × Bool) : State := if (s.cap a.1).firing.isSome then s else s.setArm a.1 a.2
/-- State words of the partner's layout as they stand in this module's, when it runs the other image of a revert window (R281). -/
def localWrites (s : State) (ws : List PlainWrite) : List PlainWrite :=
  match s.image, s.prog.exch.other with
  | some old, some new =>
    if !s.prog.exch.heldHere then ws else
    ws.filterMap (fun w => if w.kind ≠ 0 then some w
      else (mapWord new old s.prog.exch.layout s.prog.slots w.target.toNat).map (fun n => { w with target := BitVec.ofNat 25 n }))
  | _, _ => ws
/-- Writes of carried state mapped into the new layout while an exchange streams (R273). -/
def mapIntoNew (s : State) (ws : List PlainWrite) : State :=
  match s.image, s.prog.exch.other with
  | some old, some new =>
    let x := s.prog.exch
    if !(s.exchangeOpen && (x.phase = 3 || x.phase = 4 || x.phase = 5) && x.copied) then s else
    s.setExch (fun y => { y with layoutState := ws.foldl (fun (a : Tab Word) w =>
      if w.kind ≠ 0 then a else (mapWord old new s.prog.slots x.layout w.target.toNat).elim a (fun n => put a n w.value)) y.layoutState })
  | _, _ => s
/-- The slot words that a delta's parameter changes write, in the executing layout (R264). -/
def paramPlain (s : State) (ps : List ParamWrite) : List PlainWrite :=
  ps.filterMap (fun p => (find s.prog.slots p.inst).map (fun o => { kind := 0, target := BitVec.ofNat 25 (o + p.word), type := 0, value := p.value }))
/-- The lowest target on which two write sets differ. -/
def differing (a b : List PlainWrite) : Nat :=
  ((a ++ b).filter (fun w => !(a.contains w && b.contains w))).foldl (fun m w => min m (word2 (some (w.kind, w.target, w.type)))) 0xFFFFFFFF
/-- The standby's own vote of the release against the delta (R321): compared when both are UNANIMOUS with one input digest. -/
def compareVote (s : State) (d : Delta) (own : Option Vote) : State × Bool :=
  match own with
  | none => (if d.outcome = 0 ∨ s.buffers then s else { s with pair.uncompared := s.pair.uncompared + 1 }, false)
  | some v =>
    if !(v.outcome = 1 && d.outcome = 1 && v.digest = d.digest) then ({ s with pair.uncompared := s.pair.uncompared + 1 }, false)
    else
      let bad := decide (0 < (v.writes.filter (fun w => !d.writes.contains w)).length) || decide (0 < (d.writes.filter (fun w => !v.writes.contains w)).length)
      let t := { s with pair.compared := s.pair.compared + 1, pair.window := (bad :: s.pair.window).take 256 }
      if !bad then (t, false)
      else
        let u := (({ t with pair.mismatches := t.pair.mismatches + 1 }).occur 117 d.task).trigger 0x0A7 ([d.task] ++ two d.instant ++ [differing v.writes d.writes])
        (if 3 ≤ (u.pair.window.filter id).length then u.leaveStep 1 3 else u, true)
/-- The repair after an own vote (R240 to R242). -/
def followVote (s : State) (t : Nat) (own : Option Vote) : State := own.elim (s.unpin t) (fun v => s.follow t v.outcome v.odd)
/-- The module is in step (R338): E-0x0A6, D118 ends, SETTLING is over. -/
def reachStep (s : State) : State :=
  let t := ((({ s with pair.phase := 5, pair.restartRun := 0 }).trigger 0x0A5 []).trigger 0x0A6 [1, 0]).fall 118
  if t.prog.exch.phase = 7 then (t.setExch (fun x => { x with phase := 0, outcome := 2 })).trigger 0x097 [] else t
/-- Two clean releases of the slowest task since the buffer drained, with the clocks within 1 µs (R338); and, while the standby keeps the new layout too, its releases whose deltas have been mapped since the bulk copy (R273). -/
def judgeStep (s : State) (d : Delta) (own : Option Vote) (bad : Bool) : State :=
  if !s.slowest.elim false (fun x => x.task = d.task) then s else
  let clean := !bad && (own.elim (d.outcome = 0) (fun v => v.outcome ≠ 3 && v.outcome ≠ 5)) && decide (s.pair.clockOffset.natAbs ≤ 1000)
  let t := { s with pair.cleanRun := if clean then s.pair.cleanRun + 1 else 0 }
  let u := if t.prog.exch.copied && t.prog.exch.phase = 3 then t.setExch (fun x => { x with mapped := x.mapped + 1 }) else t
  if u.pair.phase = 4 && u.pair.drained && 2 ≤ u.pair.cleanRun then u.reachStep else u
/-- A delta takes effect: its committed writes in place of the own vote's result, with the status effects of its outcome (R234 to R236, R320). -/
def applyDelta (s : State) (d : Delta) : State :=
  let t := d.task
  let own := (s.firnTask t).vote.filter (fun v => v.instant = d.instant)
  let s1 := d.arms.foldl applyArm (d.constPages.foldl applyPartnerPage (d.params.foldl applyPartnerParam (d.forces.foldl applyForce s)))
  let s1 := s1.mapIntoNew (s.paramPlain d.params)
  let ws := s.localWrites d.writes
  let s2 := if d.outcome = 1 ∨ d.outcome = 2 ∨ d.outcome = 3 ∨ d.outcome = 6 then
      ((s1.commit t ws).mapIntoNew ws).setFirn t (fun f => { f with lastCommit := d.instant })
    else if d.outcome = 4 then s1.skewHold t else s1
  let next := fun (k : TaskSt) => match s.taskDecl t with
    | some x => if x.timeBase = 1 ∧ k.lastRelease = d.instant then nextInstant x d.alignOffset d.instant else k.nextRelease
    | none => k.nextRelease
  let s3 := (s2.setTask t (fun k => { k with alignRecv := some d.alignOffset, nextRelease := next k, deltaDue := false })).setFirn t (fun f => { f with vote := none })
  let c := (s3.followVote t own).compareVote d own
  c.1.judgeStep d own c.2
/-- A delta waits while this module's own release of its instant has not ended (R303, R320). -/
def deltaWaits (s : State) (d : Delta) : Bool :=
  (s.task d.task).release.elim false (fun r => r.instant ≤ d.instant) || (s.dispatches d.task && decide (s.time.mono < d.instant))
    || s.pair.received.any (fun e => e.task = d.task)
/-- The received deltas that need not wait are applied, those of one task in order. -/
def applyReceived (s : State) : State :=
  s.pair.received.foldl (fun u d => if u.deltaWaits d then { u with pair.received := u.pair.received ++ [d] } else u.applyDelta d) { s with pair.received := [] }
/-- COMMIT_DELTA. -/
def opDelta (s : State) (d : Delta) : State :=
  if !s.streams then s
  else if !s.inOrder d.sequence then s.streamGap
  else
    let t := { s with pair.streamSeq := d.sequence }
    (if s.buffers then { t with pair.buffer := t.pair.buffer ++ [d] } else ({ t with pair.received := t.pair.received ++ [d] }).applyReceived).settle

/-! ## Release instants, deadlines and votes (R163, R188, R233) -/

/-- The declared tasks whose release instant this is, in order of priority and then of task number (R167). -/
def dueTasks (s : State) : List TaskDecl := sortBy (fun (d : TaskDecl) => d.priority * 16 + d.task) (s.tasks.filter s.releaseDue)
/-- A release instant of a task, with those of every task that the same instant releases: S of a swap first (R276), then the deadlines that fall on it, then adoption, then the releases in order of priority and task number; after an overrun's entry to SAFE nothing is released (R167, R188, R190). -/
def opRelease (s : State) (t : Nat) : State :=
  match s.taskDecl t with
  | none => s
  | some d =>
    if s.mode.current = .cold ∨ !s.time.monoRun ∨ !s.releaseDue d then s else
    let u := (sortBy id (s.tasks.map (·.task))).foldl opDeadline s.opSwapInstant
    if u.mode.current = .safe ∧ u.mode.epoch ≠ s.mode.epoch then (u.dueTasks.foldl stampRelease u).settle else
    let v := u.applyReceived
    let w := v.dueTasks.foldl (fun (y : State) x => y.adopt x.task) v
    ((v.dueTasks.foldl releaseAt w).applyReceived).settle
/-! ## HANDOVER and EXCHANGE traffic (R270, R275, R276) -/

/-- HANDOVER_MESSAGE. -/
def opHandoverMsg (s : State) (m : HandoverMsg) : State :=
  if !s.pair.syncUp then s else
  match m with
  | .ready => if s.pair.ownSelf then s.opStandbyReady true else s
  | .swapAt i =>
    if s.pair.ownSelf then s
    else if s.exchangeOpen then s.setExch (fun x => { x with swapAt := some i, lastSwap := i })
    else { s with pair.handoverAt := some i }
  | .deltaAck n => if n = s.pair.streamSeq then s.opLastDelta else s
/-- EXCHANGE_MESSAGE. -/
def opExchangeMsg (s : State) (m : ExchangeMsg) : State :=
  if !s.pair.syncUp then s else
  match m with
  | .start f limit => if s.pair.ownSelf ∨ s.mode.current ≠ .track then s
      else ((s.putStage f).setStaged none 1).beginExchange (fileImage f) 1 false (some (s.time.mono + limit * 1000000000))
  | .phase k => if s.pair.ownSelf ∨ !(s.prog.exch.outcome = 1) then s
      else if k = 8 then s.setExch (fun x => { x with phase := 8, dropped := false, stopped := false, ready := false, swapAt := none }) else s.setPhase k
  | .verified => if s.pair.ownSelf then s.opTransferEnd 0 else s
  | .refused e => if s.pair.ownSelf ∧ e ≠ 0 then s.opTransferEnd e else s
  | .mapBuilt => if s.pair.ownSelf then s.opMappingEnd else s
  | .mapFailed => s.abortExchange 2
  | .inStep => if s.pair.ownSelf then s.opNewInStep else s
  | .notReady => if s.pair.ownSelf then s.opStandbyReady false else s
  | .aborted c => s.abortExchange c
  | .confirm => if !s.pair.ownSelf ∧ s.prog.exch.heldHere ∧ s.prog.exch.phase = 6 then s.endWindow else s

/-! ## Resynchronisation (R336 to R338) -/

/-- A part of the copy (Table 10.8). -/
def opBulk (s : State) (p : BulkPart) : State :=
  if s.mode.current ≠ .track ∨ s.pair.ownSelf ∨ !s.pair.syncUp then s else
  match p with
  | .image f record =>
    if s.pair.phase ≠ 2 then s
    else if s.imageFault f false ≠ 0 then ({ s with pair.phase := 7 }).occurOpen 119
    else
      let i := (fileImage f).getD {}
      (({ s.putStage f with prog.changeRecord := record, prog.changeHash := i.hash }).loadImage i s.stageSlot).startPhase 3
  | .modes epoch target pending =>
    if s.pair.phase ≠ 3 then s else
    let m : Mode := modeOf target
    { s with mode.epoch := epoch, mode.pending := pending, mode.commitAt := if pending = 0 then none else some s.time.mono
             pair.lastEpoch := some (m, decide (pending ≠ 0))
             disp.tasks := mapTab s.disp.tasks (fun t k => if pending.getLsbD t then k else { k with adopted := m, epoch := epoch }) }
  | .signal g v q f =>
    if s.pair.phase ≠ 3 then s
    else (s.setSig g (fun e => { e with
      value := v, source := 5, forced := f.forced, forceValue := f.value, stale := false
      quality := if s.unitFenced e.unit && (e.direction ≠ 0 || e.producer.elim false s.undispatchable) then 3 else q
      substituted := e.substituted && (e.direction ≠ 1 || s.unitFenced e.unit) })).settle
  | .holdRun t n => if s.pair.phase ≠ 3 then s else s.setFirn t (fun f => { f with skewRun := n })
  | .stateWords inst ws =>
    if s.pair.phase ≠ 3 then s else { s with firn.stateA := placeWords s.firn.stateA (get 0 s.prog.slots inst) ws }
  | .percent n => if s.pair.phase ≠ 3 then s else { s with pair.percent := min 100 n }
/-- The state copy ends: State B and State C are rebuilt, the RESIDENT sets fetched, and STREAMING begins. -/
def opCopyEnd (s : State) : State :=
  if s.mode.current = .track ∧ s.pair.phase = 3 ∧ s.pair.syncUp ∧ s.pair.resyncWait.isNone then
    (({ s with pair.phase := 4, pair.percent := 100 }).rebuildCopies.fetchResident).trigger 0x0A5 []
  else s
/-- The buffered STREAM in its order: each message with its sequence number. -/
def buffered (s : State) : List (Nat × (StreamChange ⊕ Delta)) :=
  sortBy (fun (e : Nat × (StreamChange ⊕ Delta)) => e.1)
    (s.pair.bufferInputs.map (fun c => (c.sequence, Sum.inl c)) ++ s.pair.buffer.map (fun d => (d.sequence, Sum.inr d)))
/-- The buffered STREAM has been applied: each task is dispatched from its next release instant. -/
def opDrained (s : State) : State :=
  if !(s.streams && s.pair.phase = 4 && !s.pair.drained) then s else
  let t := s.buffered.foldl (fun (u : State) e => match e.2 with | .inl c => u.applyInput c | .inr d => u.applyDelta d) s
  ({ t with pair.drained := true, pair.cleanRun := 0, pair.buffer := [], pair.bufferInputs := []
            disp.tasks := mapTab t.disp.tasks (fun _ k => { k with ready := true }) }).settle
/-- The buffer fills: STATE_COPY again, after the third restart in a row only when 60 s have passed (R337). -/
def opBufferFull (s : State) : State :=
  if !(s.streams && s.buffers) then s else
  let n := s.pair.restartRun + 1
  let t := { s with pair.restarts := min 255 (s.pair.restarts + 1), pair.restartRun := n }
  if n < 3 then t.startPhase 3
  else (({ t.startPhase 3 with pair.resyncWait := some (s.time.now + 60000000000), pair.restartRun := 0 }).riseOpen 118)
/-- The 60 s wait ends. -/
def opRestartWait (s : State) : State :=
  if s.pair.resyncWait.elim false (fun e => decide (e ≤ s.time.now)) then
    let t := { s with pair.resyncWait := none }
    if s.mode.current = .track ∧ s.pair.syncUp then t.startPhase 3 else t
  else s
/-- CLOCK_OFFSET has exceeded 1 µs for 1 s (R322). -/
def opOffsetExcess (s : State) : State :=
  if s.mode.current = .track ∧ s.pair.offsetSince.elim false (fun t => decide (t + 1000000000 ≤ s.time.now)) then s.leaveStep 3 3 else s

/-! ## Lanes and the link (R309, R310, R328, R329) -/

/-- A frame not acknowledged in time is sent again. -/
def opRetransmit (s : State) (_sequence : Nat) : State := if s.pair.syncUp then { s with pair.retransmits := s.pair.retransmits + 1 } else s
/-- A lane's level. -/
def laneUp (s : State) (k : Nat) : Bool := if k = 0 then s.pair.lane0 else s.pair.lane1
/-- A lane set up or down, with the instant. -/
def setLane (s : State) (k : Nat) (on : Bool) : State :=
  { s with pair.lane0 := if k = 0 then on else s.pair.lane0, pair.lane1 := if k = 1 then on else s.pair.lane1
           pair.laneSince := put s.pair.laneSince k s.time.now }
/-- LANE_DOWN: D113, E-0x0A3. -/
def opLaneDown (s : State) (k : Nat) : State :=
  if 2 ≤ k ∨ !s.laneUp k then s else
  let t := s.setLane k false
  (({ t with pair.laneFailures := t.pair.laneFailures + 1 }).riseOpen 113).syncRecord (3 + 2 * k)
/-- LANE_RETRAIN: a down lane is retrained every 1 s; its 100 ms without error count from there. -/
def opLaneRetrain (s : State) (k : Nat) : State :=
  if 2 ≤ k ∨ s.laneUp k ∨ s.time.now < get 0 s.pair.laneSince k + 1000000000 then s else { s with pair.laneSince := put s.pair.laneSince k s.time.now }
/-- LANE_UP: 100 ms without error; HELLO is sent as the lane trains (R313). -/
def opLaneUp (s : State) (k : Nat) : State :=
  if 2 ≤ k ∨ s.laneUp k ∨ s.time.now < get 0 s.pair.laneSince k + 100000000 then s else
  let t := s.setLane k true
  let u := (if t.pair.lane0 && t.pair.lane1 then t.fall 113 else t).syncRecord (4 + 2 * k)
  if u.pair.paired then u else u.sayHello
/-- What a link failure does on each side (R280, R322, R328, R329). -/
def partApart (s : State) : State :=
  if s.pair.ownSelf then
    let t := (({ s with pair.split := s.pair.peerPresent }).abortExchange 3).abortHandover
    if t.prog.exch.outcome = 1 ∧ t.prog.exch.phase = 8 ∧ !t.prog.exch.lone ∧ !t.prog.exch.dropped then t.setExch (fun x => { x with phase := 6, swapAt := none, ready := false, stopped := false }) else t
  else if s.mode.current = .track then
    let t := s.discardReleases.abortExchange 3
    let u := if s.pair.phase = 5 then t.trigger 0x0A6 [2, 6] else t
    if u.prog.exch.outcome = 1 ∧ u.prog.exch.phase = 8 ∧ u.prog.exch.heldHere then u.setExch (fun x => { x with phase := 6, swapAt := none }) else u
  else s
/-- SYNC_LINK_FAILURE: D112, E-0x0A3. -/
def opSyncFailure (s : State) (_cause : Nat) : State :=
  if !s.pair.syncUp then s else
  let t := { s with
    pair := { s.pair with
      syncUp := false, paired := false, linkKept := false, deferred := false, deferring := false, partnerPtp := none, failedAt := some s.time.now
      syncFailures := s.pair.syncFailures + 1, openSince := none, offsetSince := none } }
  let u := ((t.riseOpen 112).syncRecord 1).partApart
  (if u.time.source = 2 then u.nextSource else u).settle
/-- SYNC_LINK_UP: D112 ends; a stale standby whose partner owns resets itself (R331). -/
def opSyncUp (s : State) : State :=
  if s.pair.syncUp ∨ s.mode.inReset ∨ !(s.pair.lane0 || s.pair.lane1) then s else
  let t := ((({ s with pair.syncUp := true, pair.failedAt := none, pair.lastFrame := s.time.now }).fall 112).syncRecord 2).sayHello
  if t.pair.stale && t.pair.ownPeer && t.pair.partnerOwns && !t.pair.ownSelf then t.assertReset else t
/-- STALE_TIMEOUT: OWN_PEER has stayed high for 3 ms after the failure (R329). -/
def opStale (s : State) : State :=
  if s.mode.current = .track && !s.pair.syncUp && !s.pair.ownSelf && !s.pair.stale && s.pair.ownPeer
      && s.pair.failedAt.elim false (fun f => decide (f + 3000000 ≤ s.time.now) && s.pair.highSince.elim true (fun h => decide (h ≤ f))) then
    (({ s with pair.stale := true, pair.staleFromStep := s.pair.phase = 5, pair.phase := 6
               sig.entries := mapTab s.sig.entries (fun _ e => { e with stale := true }) }).trigger 0x0A4 []).settle
  else s

end State

/-- HELLO (R313). -/
def execHello (m : HelloMsg) (s : State) : Host.Outcome State Fault Refusal := .next (s.opHello m)
/-- HELLO_TIMER (R313). -/
def execHelloTimer (s : State) : Host.Outcome State Fault Refusal := .next s.opHelloTimer
/-- HELLO_DEFER (R315). -/
def execHelloDefer (s : State) : Host.Outcome State Fault Refusal := .next s.opHelloDefer
/-- HEARTBEAT (R312). -/
def execHeartbeat (m : HeartbeatMsg) (s : State) : Host.Outcome State Fault Refusal := .next (s.opHeartbeat m)
/-- GOODBYE (R306). -/
def execGoodbye (reason : Nat) (s : State) : Host.Outcome State Fault Refusal := .next (s.opGoodbye reason)
/-- EPOCH_RECEIVED (R33, R43). -/
def execEpochReceived (epoch : Word) (target : Nat) (commit : Ns) (immediate : Bool) (s : State) : Host.Outcome State Fault Refusal :=
  .next (s.opEpoch epoch target commit immediate)
/-- STREAM_INPUT_CHANGE (R317). -/
def execStreamInputChange (c : StreamChange) (s : State) : Host.Outcome State Fault Refusal := .next (s.opInputChange c)
/-- COMMIT_DELTA (R320). -/
def execCommitDelta (d : Delta) (s : State) : Host.Outcome State Fault Refusal := .next (s.opDelta d)
/-- HANDOVER_MESSAGE (R275). -/
def execHandoverMessage (m : HandoverMsg) (s : State) : Host.Outcome State Fault Refusal := .next (s.opHandoverMsg m)
/-- EXCHANGE_MESSAGE (R270). -/
def execExchangeMessage (m : ExchangeMsg) (s : State) : Host.Outcome State Fault Refusal := .next (s.opExchangeMsg m)
/-- BULK (R336). -/
def execBulk (p : BulkPart) (s : State) : Host.Outcome State Fault Refusal := .next (s.opBulk p)
/-- SYNC_RETRANSMIT_TIMEOUT (R309). -/
def execSyncRetransmitTimeout (sequence : Nat) (s : State) : Host.Outcome State Fault Refusal := .next (s.opRetransmit sequence)
/-- LANE_DOWN (R309). -/
def execLaneDown (lane : Nat) (s : State) : Host.Outcome State Fault Refusal := .next (s.opLaneDown lane)
/-- LANE_RETRAIN (R309). -/
def execLaneRetrain (lane : Nat) (s : State) : Host.Outcome State Fault Refusal := .next (s.opLaneRetrain lane)
/-- LANE_UP (R309). -/
def execLaneUp (lane : Nat) (s : State) : Host.Outcome State Fault Refusal := .next (s.opLaneUp lane)
/-- SYNC_LINK_FAILURE (R310). -/
def execSyncLinkFailure (cause : Nat) (s : State) : Host.Outcome State Fault Refusal := .next (s.opSyncFailure cause)
/-- SYNC_LINK_UP (R310). -/
def execSyncLinkUp (s : State) : Host.Outcome State Fault Refusal := .next s.opSyncUp
/-- STALE_TIMEOUT (R329). -/
def execStaleTimeout (s : State) : Host.Outcome State Fault Refusal := .next s.opStale
/-- CLOCK_OFFSET_EXCESS (R322). -/
def execClockOffsetExcess (s : State) : Host.Outcome State Fault Refusal := .next s.opOffsetExcess
/-- STATE_COPY_END (R336). -/
def execStateCopyEnd (s : State) : Host.Outcome State Fault Refusal := .next s.opCopyEnd
/-- RESYNC_BUFFER_FULL (R337). -/
def execResyncBufferFull (s : State) : Host.Outcome State Fault Refusal := .next s.opBufferFull
/-- RESYNC_BUFFER_DRAINED (R336). -/
def execResyncBufferDrained (s : State) : Host.Outcome State Fault Refusal := .next s.opDrained
/-- RESYNC_RESTART_WAIT_EXPIRY (R337). -/
def execResyncRestartWaitExpiry (s : State) : Host.Outcome State Fault Refusal := .next s.opRestartWait
/-- TASK_RELEASE_INSTANT (R167). -/
def execTaskReleaseInstant (task : Nat) (s : State) : Host.Outcome State Fault Refusal := .next (s.opRelease task)
/-- DEADLINE_CHECK (R188). -/
def execDeadlineCheck (task : Nat) (s : State) : Host.Outcome State Fault Refusal := .next ((s.opDeadline task).applyReceived).settle
/-- VOTE_END (R233). -/
def execVoteEnd (task : Nat) (s : State) : Host.Outcome State Fault Refusal := .next ((s.opVoteEnd task).applyReceived).settle

end Sys2Proof.Machine
end

