-- ==== Sys2Proof/Machine/Ether.lean ====
section
/-! DEFINITION. The Ethernet ports and their DMA, PRP, the PTP servo and the wall clock's commands (16). -/
namespace Sys2Proof.Machine

/-! ## Frame objects (Table 16.1) -/

/-- A number of n bytes at an address, the first the least significant (R60). -/
def rdLe (m : List Host.Cell) (a : Nat) : Nat → Nat
  | 0 => 0
  | n + 1 => (rd8 m a).toNat + 256 * rdLe m (a + 1) n
/-- Bytes read from an address on. -/
def rdBytes (m : List Host.Cell) (a n : Nat) : List Byte := (List.range n).map (fun k => rd8 m (a + k))
/-- The objects of a chain by NEXT, each once; a chain that turns back on itself ends there. -/
def chainOf (m : List Host.Cell) : Nat → Nat → List Nat → List Nat
  | 0, _, seen => seen
  | fuel + 1, a, seen => if a = 0 ∨ seen.contains a then seen else chainOf m fuel (rdLe m a 4) (seen ++ [a])
/-- The last object of a chain points on: the chain does not end (R477). -/
def endless (m : List Host.Cell) (c : List Nat) : Bool := c.getLast?.elim true (fun a => decide (rdLe m a 4 ≠ 0))
/-- LENGTH of an object. -/
def objLength (m : List Host.Cell) (a : Nat) : Nat := rdLe m (a + 4) 2
/-- Object `k` of a received frame of `l` objects: header and data (R477). -/
def rxObject (m : List Host.Cell) (objs : List Nat) (bytes : List Byte) (port : Nat) (flags : Byte) (launch : DWord) (k : Nat) : List Host.Cell :=
  let a := objs.getD k 0
  let part := slice bytes (224 * k) 224
  let head := (be 4 (objs.getD (k + 1) 0)).reverse ++ (be 2 part.length).reverse
  let first := if k = 0 then [BitVec.ofNat 8 port, flags] ++ (be 8 launch.toNat).reverse else List.replicate 10 0
  wrBytes m a (head ++ first ++ List.replicate 16 0 ++ part)

/-! ## PTP Sync frames (R486) -/

/-- Where the PTP message of a frame begins: behind Ethertype 0x88F7, or in a UDP/IPv4 datagram to port 319; none for another frame. -/
def ptpStart (b : List Byte) : Option Nat :=
  let t := if at_ b 12 2 = 0x8100 then 16 else 12
  if at_ b t 2 = 0x88F7 then some (t + 2)
  else if at_ b t 2 = 0x0800 ∧ at_ b (t + 11) 1 = 17 then
    let u := t + 2 + at_ b (t + 2) 1 % 16 * 4
    if at_ b (u + 2) 2 = 319 then some (u + 8) else none
  else none
/-- A PTP frame: Ethertype 0x88F7, or UDP port 319 or 320 (R472). -/
def isPtp (b : List Byte) : Bool :=
  let t := if at_ b 12 2 = 0x8100 then 16 else 12
  let u := t + 2 + at_ b (t + 2) 1 % 16 * 4
  at_ b t 2 = 0x88F7 || (at_ b t 2 = 0x0800 && at_ b (t + 11) 1 = 17 && (at_ b (u + 2) 2 = 319 || at_ b (u + 2) 2 = 320))
/-- The frame is a PTP Sync message. -/
def isSync (b : List Byte) : Bool := (ptpStart b).elim false (fun o => decide (o + 44 ≤ b.length) && decide (at_ b o 1 % 16 = 0))
/-- A byte string with bytes put in at an offset. -/
def overwrite (b : List Byte) (o : Nat) (v : List Byte) : List Byte := b.take o ++ v ++ b.drop (o + v.length)
/-- A one-step Sync as it leaves: correctionField cleared, originTimestamp set, the UDP checksum 0. -/
def oneStepBytes (b : List Byte) (w : Wall) : List Byte :=
  match ptpStart b with
  | none => b
  | some o =>
    let c := overwrite (overwrite b (o + 8) (List.replicate 8 0)) (o + 34) w.bytes
    let t := if at_ b 12 2 = 0x8100 then 16 else 12
    if at_ b t 2 = 0x0800 then overwrite c (o - 2) [0, 0] else c

/-- The first entry of a list that meets a test, replaced or taken out. -/
def mapFirst {α : Type} (test : α → Bool) (y : Option α) : List α → List α
  | [] => []
  | x :: r => if test x then (match y with | some z => z :: r | none => r) else x :: mapFirst test y r

namespace State

/-! ## Ports and pairs (R471, R474) -/

/-- A port rewritten. -/
def setPort (s : State) (p : Nat) (f : Port → Port) : State := { s with eth.ports := put s.eth.ports p (f (s.port p)) }
/-- The port that gives a port's node its addresses and queues: the lower one of an enabled pair (R474). -/
def nodePort (s : State) (p : Nat) : Nat := if s.prpMember p then p / 2 * 2 else p
/-- The port is the upper one of an enabled pair. -/
def upperPort (s : State) (p : Nat) : Bool := s.prpMember p && p % 2 = 1
/-- The ports on which a node's frames leave. -/
def nodePorts (s : State) (p : Nat) : List Nat := if s.prpMember p then [p / 2 * 2, p / 2 * 2 + 1] else [p]
/-- A port has a link and is not fenced. -/
def usable (s : State) (p : Nat) : Bool := (s.port p).up && !s.fenced (0x40 + p)
/-- A frame leaves on its node's ports. -/
def sendEth (s : State) (p : Nat) (y : Nat → EthOut) : State := { s with eth.out := s.eth.out ++ ((s.nodePorts p).filter s.usable).map y }
/-- Link down on P1 to P4, as the port's settings and link stand (Table 16.7). -/
def judgeLink (s : State) (p : Nat) : State :=
  if 4 ≤ p then s else
  if !(s.port p).up && (s.eth.prpConfig.getLsbD (p / 2) || s.time.ptpPorts.getLsbD p || (s.port p).ip ≠ 0) then s.riseOpen (224 + 3 * p)
  else s.fall (224 + 3 * p)
/-- Every port's link judged. -/
def judgePorts (s : State) : State := (List.range 4).foldl judgeLink s

/-! ## Receiving (R472 to R476, R480) -/

/-- The receive-drop detector of a port (Table 16.7). -/
def dropDet (p : Nat) : Nat := if p = 4 then 237 else 226 + 3 * p
/-- A frame is dropped at a port: counted, and told of at the first drop in each second (R480). -/
def rxDrop (s : State) (p : Nat) : State :=
  let second := s.time.mono / 1000000000
  let t := s.setPort p (fun x => { x with rxDropped := x.rxDropped + 1, dropSecond := some second })
  if (s.port p).dropSecond = some second then t else (t.occurOpen (dropDet p)).settle
/-- A frame for platform code: receive objects are taken and a receive entry is queued, or the frame is dropped (R477, R480). -/
def deliver (s : State) (p : Nat) (f : EthFrame) : State :=
  let q := s.nodePort p
  let n := (f.bytes.length + 223) / 224
  let objs := s.eth.pool.take n
  let ring := get ({} : IntQ) s.disp.queues (48 + q)
  let flags := bit (f.kind = .ptp) 0 + bit (s.upperPort p) 1 + bit f.tagged 2
  let entry := [BitVec.ofNat 32 (objs.headD 0), BitVec.ofNat 32 (f.bytes.length + flags * 65536), s.freeAt 0, s.freeAt 1]
  if (ring.producer + 1) % 128 = ring.consumer % 128 then (s.produce (48 + q) entry).rxDrop p
  else if s.eth.pool.length < n then s.rxDrop p
  else
    let header := s.freeAt 2
    let launch := (s.freeAt 3).toNat * 2 ^ 32 + (s.freeAt 4).toNat
    ({ s with eth.pool := s.eth.pool.drop n, draws := s.draws + 5,
              mem := (List.range n).foldl (fun m k => rxObject m objs f.bytes (q + 1) (BitVec.ofNat 8 (header.toNat % 128)) (BitVec.ofNat 64 launch) k) s.mem }).produce (48 + q) entry
/-- A frame's copy has been taken already within the entry forget time (R475). -/
def isDuplicate (s : State) (p : Nat) (key : BitVec 48 × Half) : Bool :=
  s.eth.duplicates.any (fun d => d.1 = key.1 && d.2.1 = key.2 && d.2.2.1 = p / 2 && decide (s.time.mono < d.2.2.2 + 400000000))
/-- The first copy of a frame remembered, forgotten ones dropped. -/
def remember (s : State) (p : Nat) (key : BitVec 48 × Half) : State :=
  { s with eth.duplicates := (s.eth.duplicates.filter (fun d => decide (s.time.mono < d.2.2.2 + 400000000))) ++ [(key.1, key.2, p / 2, s.time.mono)] }
/-- A supervision frame shows a node on a LAN; the node table holds 256 nodes (R475). -/
def seeNode (s : State) (p : Nat) (node : BitVec 48) : State :=
  let see := fun (x : PrpNode) => if p % 2 = 0 then { x with lastA := some s.time.mono } else { x with lastB := some s.time.mono }
  if s.eth.nodes.any (fun x => x.node = node && x.pair = p / 2) then
    { s with eth.nodes := s.eth.nodes.map (fun (x : PrpNode) => if x.node = node ∧ x.pair = p / 2 then see x else x) }
  else if s.eth.nodes.length < 256 then { s with eth.nodes := s.eth.nodes ++ [see { pair := p / 2, node := node, since := s.time.mono }] }
  else s
/-- An ICMP echo request to the port's address: answered at most 100 times per second (R472). -/
def echo (s : State) (q : Nat) : State :=
  let second := s.time.mono / 1000000000
  let n := if (s.port q).icmpSecond = second then (s.port q).icmpCount else 0
  if 100 ≤ n then s else (s.setPort q (fun x => { x with icmpSecond := second, icmpCount := n + 1 })).sendEth q .echoReply
/-- A frame is for the port: its own MAC address, broadcast, or an enabled multicast group (R472). -/
def forPort (s : State) (q : Nat) (f : EthFrame) : Bool :=
  f.dest = Config.mac q || f.dest = 0xFFFFFFFFFFFF || (s.port q).multicast.any (fun e => e.2 ≠ 0 && e.2 = f.dest)
/-- A frame without errors that is no duplicate: handled in hardware, given to platform code, or discarded (R472, R473). -/
def takeFrame' (s : State) (p : Nat) (f : EthFrame) : State :=
  let q := s.nodePort p
  let own : Bool := (s.port q).ip ≠ 0 && f.ipDest = (s.port q).ip
  match f.kind with
  | .ptp => s.deliver p f
  | .prpSupervision node => if s.prpMember p then s.seeNode p node else s
  | .arp => if own then s.sendEth q .arpReply else if s.forPort q f then s.deliver p f else s
  | .icmpEcho => if own then s.echo q else if s.forPort q f then s.deliver p f else s
  | .xanfil => if own && f.udpPort = s.xan.udpPort then s else if s.forPort q f then s.deliver p f else s
  | .other => if s.forPort q f then s.deliver p f else s
/-- A frame arrives at a port (R471, R472, R474 to R476): supervision frames of both LANs count for the node table, of other copies the first is taken. A Xanfil request's own effect is that of its own command. -/
def opFrame (s : State) (p : Nat) (f : EthFrame) : State :=
  if 5 ≤ p || s.mode.inReset || !s.usable p then s
  else if !f.fcsOk || decide (f.bytes.length < 60) || decide (1518 < f.bytes.length) then s.setPort p (fun x => { x with rxErrors := x.rxErrors + 1 })
  else
    let t := s.setPort p (fun x => { x with rx := x.rx + 1 })
    let single : Bool := match f.kind with
      | .ptp => true | .prpSupervision _ => true | _ => false
    match (if t.prpMember p && !single then f.prp else none) with
    | none => t.takeFrame' p f
    | some key => if t.isDuplicate p key then t.setPort p (fun x => { x with prpDiscards := x.prpDiscards + 1 }) else (t.remember p key).takeFrame' p f
/-- RX_SUPPLY of platform code: an object more in the pool, ignored with E-0x072 when the pool is full (R480). -/
def homeSupply (s : State) (v : Word) : State :=
  if 1024 ≤ s.eth.pool.length then s.trigger 0x072 [] else { s with eth.pool := s.eth.pool ++ [v.toNat] }
/-- A Xanfil write of an object that takes writes at its home address alone (R376, R478). -/
def opHomeOnly (s : State) (x : ReplyTo) : State := s.check14 x false false true id

/-! ## Sending (R478 to R483) -/

/-- A frame completes: its chain is freed unless KEEP, and its transmit entry is queued (R479). -/
def endFrame (s : State) (p : Nat) (f : TxFrame) (status : Nat) (stamp : DWord) : State :=
  let t := if f.keep then s else f.chain.foldl (fun u a => u.opFree a) s
  t.produce (53 + p) [BitVec.ofNat 32 f.object, BitVec.ofNat 32 (status + f.queue % 8 * 65536), BitVec.ofNat 32 stamp.toNat, BitVec.ofNat 32 (stamp.toNat / 2 ^ 32)]
/-- The frame of a chain as its headers describe it. -/
def txFrameAt (s : State) (a : Nat) : TxFrame :=
  let c := chainOf s.mem 6145 a []
  let f := rdLe s.mem (a + 7) 1
  { object := a, chain := c, queue := f % 8, launch := if tb f 3 then some (rdLe s.mem (a + 8) 8) else none,
    timestamp := tb f 4, oneStep := tb f 5, keep := tb f 6, bytes := (c.take 8).flatMap (fun o => rdBytes s.mem (o + 32) (min 224 (objLength s.mem o))) }
/-- The Ethernet DMA refuses a frame (R478). -/
def txRefused (s : State) (p : Nat) (f : TxFrame) : Bool :=
  decide (8 < f.chain.length) || endless s.mem f.chain || f.chain.any (fun o => objLength s.mem o = 0 || decide (224 < objLength s.mem o))
    || decide (f.bytes.length < 60) || decide (1518 < f.bytes.length) || s.fenced (0x40 + p) || s.upperPort p || f.queue = 6
    || (f.oneStep && !(f.queue = 7 && isSync f.bytes))
    || (s.time.everValid && f.launch.elim false (fun l => decide (s.wallNs + 1000000000 < l)))
/-- The first frame of a queue of a port. -/
def headFrame (s : State) (p q : Nat) : Option TxFrame := (s.port p).waiting.find? (fun f => f.queue = q)
/-- A frame may begin to leave: it has no launch time or no wall clock to take one from, it is late and sent all the same, or its instant came at most 20 µs ago (R482, R483). -/
def readyFrame (s : State) (f : TxFrame) : Bool :=
  f.launch.elim true (fun l => !s.time.everValid || f.due = 2 || (f.due = 1 && decide ((s.time.mono : Int) - ((l : Int) - s.time.align) ≤ 20000)))
/-- The queue that sends next, in strict priority; queue 6 is the Dictionary Responder's own (R481). -/
def nextQueue (s : State) (p : Nat) : Option Nat := [7, 5, 4, 3, 2, 1, 0].find? (fun q => (s.headFrame p q).elim false s.readyFrame)
/-- A port that sends nothing begins with the next frame; one that is down sends none (R481). -/
def startTx (s : State) (p : Nat) : State :=
  if !(s.nodePorts p).any s.usable then s.setPort p (fun x => { x with sending := none })
  else if (s.port p).sending.isSome then s
  else s.setPort p (fun x => { x with sending := s.nextQueue p })
/-- TX_SUBMIT of platform code: the frame joins its port's queue or completes with status 3; a PORT outside 1 to 5 has no queue for its entry. -/
def homeSubmit (s : State) (v : Word) : State :=
  let f := s.txFrameAt v.toNat
  let port := rdLe s.mem (v.toNat + 6) 1
  if port = 0 ∨ 5 < port then (if f.keep then s else f.chain.foldl (fun u a => u.opFree a) s)
  else if s.txRefused (port - 1) f then s.endFrame (port - 1) f 3 0
  else (s.setPort (port - 1) (fun x => { x with waiting := x.waiting ++ [f] })).startTx (port - 1)
/-- A write of TX_SUBMIT or RX_SUPPLY: its Xanfil form is refused, its home form goes to the DMA. -/
def opDma (s : State) (w : ObjWrite) (sub : Nat) (act : State → Word → State) : State :=
  match w with
  | .xanfil r => if rowFor r 0x7730 sub then s.forwarded r 2 opHomeOnly else s
  | .home m a v => if homeMaster m && a = homeAddress 0x7730 sub then act s v else s
/-- The first frame of a queue rewritten, or removed. -/
def setHead (s : State) (p q : Nat) (f : Option TxFrame) : State :=
  s.setPort p (fun x => { x with waiting := mapFirst (fun (y : TxFrame) => y.queue = q) f x.waiting })
/-- A late frame: counted and recorded, then sent at once or discarded as LAUNCH_POLICY sets for its queue (R483). -/
def lateFrame (s : State) (p q : Nat) (f : TxFrame) (lateness : Nat) : State :=
  let t := ((s.setPort p (fun x => { x with launchLate := x.launchLate + 1 })).trigger 0x114 [p + 1, q, lateness]).occurOpen 54
  ((if (s.port p).launchPolicy.getLsbD q then (t.setHead p q none).endFrame p f 2 0 else t.setHead p q (some { f with due := 2 })).startTx p).settle
/-- The launch instant of the first frame of a queue has come: it competes for its port, on time within 20 µs, or is late (R482, R483). -/
def opLaunch (s : State) (p q : Nat) (late : Bool) : State :=
  match s.headFrame p q with
  | none => s
  | some f => match f.launch with
    | none => s
    | some l =>
      let passed : Int := (s.time.mono : Int) - ((l : Int) - s.time.align)
      if !s.time.everValid || f.due = 2 || passed < 0 || (s.port p).sending = some q then s
      else if f.passed || decide (20000 < passed) then (if late then s.lateFrame p q f passed.toNat else s)
      else if late || f.due = 1 then s else (s.setHead p q (some { f with due := 1 })).startTx p
/-- The first frame of the queue that is sending completes: it has left, with its transmit time when TIMESTAMP asks for it; on a port that is down the first frame of any queue does (R479, R481, R483, R486). A PTP frame leaves on its own port alone and bears no trailer (R476). The instant at which it left is not the command's and is free. -/
def opTxComplete (s : State) (p q : Nat) (down : Bool) : State :=
  match s.headFrame p q with
  | none => s
  | some f =>
    let t := s.startTx p
    let ready := (s.nodePorts p).any s.usable
    if down then (if ready then s else (t.setHead p q none).endFrame p f 4 0)
    else if (t.port p).sending ≠ some q then t
    else
      let left : Nat := (s.freeAt 0).toNat * 2 ^ 32 + (s.freeAt 1).toNat
      let bytes := if f.oneStep then oneStepBytes f.bytes (wallOf ((left : Int) + s.time.align).toNat) else f.bytes
      let on := (if isPtp f.bytes then [p] else s.nodePorts p).filter s.usable
      let u := on.foldl (fun (v : State) n => v.setPort n (fun x => { x with tx := x.tx + 1 })) (({ t with draws := t.draws + 2 } : State).setHead p q none)
      let v := ({ u with eth.out := u.eth.out ++ on.map (fun n => EthOut.frame n bytes (s.prpMember p && !isPtp f.bytes)) }).setPort p (fun x => { x with sending := none })
      (v.endFrame p f (if on.isEmpty then 4 else if f.due = 2 then 1 else if f.launch.isSome && f.due = 0 then 5 else 0) (if f.timestamp && !on.isEmpty then BitVec.ofNat 64 left else 0)).startTx p

/-! ## Links and settings (R473, R474, R476, R495) -/

/-- The PTP port of an ordinary clock: it stays while its link is up, else the lowest-numbered other one that is up, with E-0x111; the other enabled ports are held PASSIVE (R492). The new port begins in LISTENING (PRESUMED: portState codes 4 and 7 of IEEE 1588). -/
def choosePort (s : State) : State :=
  let ok := fun (p : Nat) => (s.port p).up && s.time.ptpPorts.getLsbD p
  let ordinary : Bool := s.time.profile ≠ 0 && s.time.clockType = 0
  let next : Option Nat := if !ordinary then none else if s.time.activePort.elim false ok then s.time.activePort else (List.range 4).find? ok
  let code := fun (t : Tab Nat) (p : Nat) =>
    if !s.time.ptpPorts.getLsbD p then t else if next ≠ some p then put t p 7 else if next = s.time.activePort then t else put t p 4
  let t := if ordinary then { s with time.portStates := (List.range 4).foldl code s.time.portStates } else s
  if next = s.time.activePort then t
  else
    let u := { t with time.activePort := next }
    if next.isSome then u.trigger 0x111 [] else u
/-- A port's link goes up or down: E-0x110 with its speed, the link detectors and the PTP port (R492, Table 16.7). -/
def opLinkChange (s : State) (p : Nat) (up gig : Bool) : State :=
  if 5 ≤ p || s.mode.inReset || (s.port p).up = up || (up && p ≠ 4 && !gig) then s else
  let t := (s.setPort p (fun x => { x with up := up, gig := up && gig })).trigger 0x110 [if !up then 0 else if gig then 1000 else 100]
  (((t.judgeLink p).choosePort).startTx (s.nodePort p)).settle
/-- A mask is contiguous ones from its highest bit. -/
def maskOk (v : Nat) : Bool := (List.range 33).any (fun k => v = 2 ^ 32 - 2 ^ k)
/-- Check 14 of the settings of a port (Table 16.6). -/
def opPortSetting (s : State) (x : ReplyTo) : State :=
  let p := x.req.index.toNat - 0x7710
  let v := x.req.value
  match x.req.sub.toNat with
  | 0xB => s.check14 x false false false (fun t => t.setPort p (fun y => { y with launchPolicy := BitVec.ofNat 8 v }))
  | 0xC => s.check14 x false false (s.upperPort p) (fun t => ((t.setPort p (fun y => { y with ip := BitVec.ofNat 32 v })).judgeLink p).settle)
  | 0xD => s.check14 x (!maskOk v) false (s.upperPort p) (fun t => t.setPort p (fun y => { y with mask := BitVec.ofNat 32 v }))
  | _ => s.check14 x false false (s.upperPort p) (fun t => t.setPort p (fun y => { y with gateway := BitVec.ofNat 32 v }))
/-- The bytes of a port's RX_MULTICAST (Table 16.6). -/
def multicastBytes (x : Port) : List Byte := (List.range 16).flatMap (fun k => be 2 0 ++ be 6 (get 0 x.multicast k).toNat)
/-- The table of the addresses in RX_MULTICAST's bytes. -/
def multicastOf (b : List Byte) : Tab (BitVec 48) :=
  (List.range 16).foldl (fun (t : Tab (BitVec 48)) k => if at_ b (8 * k + 2) 6 = 0 then t else put t k (BitVec.ofNat 48 (at_ b (8 * k + 2) 6))) []
/-- Check 14 of a write of RX_MULTICAST. -/
def opMulticast (s : State) (x : ReplyTo) : State :=
  let p := x.req.index.toNat - 0x7710
  s.check14 x (x.req.select ≠ 0 || !writeLength x.req || decide (128 < x.req.offset + x.req.bytes.length)) false false (fun t =>
    t.setPort p (fun y => { y with multicast := multicastOf (overwrite (multicastBytes y) x.req.offset x.req.bytes) }))
/-- Check 14 of PRP_PAIRS, which applies from the next power-on reset (R476). -/
def opPrpPairs (s : State) (x : ReplyTo) : State :=
  s.check14 x (decide (3 < x.req.value)) false false (fun t => ({ t with eth.prpConfig := BitVec.ofNat 8 x.req.value }).judgePorts.settle)
/-- Check 14 of STEP_THRESHOLD and HOLDOVER_LIMIT (Table 16.4). -/
def opTimeSetting (s : State) (x : ReplyTo) : State :=
  let v := x.req.value
  if x.req.sub = 0 then s.check14 x (decide (v < 10000) || decide (1000000000 < v)) false false (fun t => { t with time.stepThreshold := BitVec.ofNat 32 v })
  else s.check14 x (decide (v < 60) || decide (86400 < v)) false false (fun t => { t with time.holdoverLimit := BitVec.ofNat 32 v })
/-- Every 2 s: supervision frames leave, nodes unseen for 60 s are forgotten, a node seen on one LAN only for 60 s raises D238 (R475). -/
def opSupervision (s : State) : State :=
  if s.mode.inReset || s.eth.prpActive = 0 || decide (s.time.now < s.eth.lastSupervision + 2000000000) then s else
  let now := s.time.mono
  let recent := fun (t : Option Ns) => t.elim false (fun x => decide (now < x + 60000000000))
  let kept := s.eth.nodes.filter (fun (n : PrpNode) => recent n.lastA || recent n.lastB)
  let lone := fun (n : PrpNode) => !(recent n.lastA && recent n.lastB) && decide (n.since + 60000000000 ≤ now)
  let t := { s with eth.lastSupervision := s.time.now, eth.nodes := kept.map (fun (n : PrpNode) => { n with told := lone n })
                    eth.duplicates := s.eth.duplicates.filter (fun d => decide (now < d.2.2.2 + 400000000)) }
  let u := ((List.range 2).filter (fun k => s.eth.prpActive.getLsbD k)).foldl (fun (v : State) k => v.sendEth (2 * k) .supervision) t
  ((kept.filter (fun (n : PrpNode) => lone n && !n.told)).foldl (fun v _ => v.occurOpen 238) u).settle

/-! ## The servo (R487, R488, R491 to R493) -/

/-- A PTP correction while PTP is not the wall clock's source: a step above STEP_THRESHOLD, else a slew (R488). -/
def correct (s : State) (offset : Int) : State :=
  let goal := s.time.align - offset
  if offset.natAbs ≤ s.time.stepThreshold.toNat then { s with time.slewTo := if offset = 0 then none else some goal }
  else
    let old := s.wall
    let shown := fun (o : Int) => if s.time.wallValid then o else 0
    let t := { s with time.align := goal, time.slewTo := none, time.stepCount := s.time.stepCount + 1 }
    (((t.moveLaunches s.time.align).stepRecord old).stepPairs (shown s.time.align) (shown goal)).sourceRecord
/-- SERVO takes a state; D050 and D052 follow it (R493). -/
def setServo (s : State) (servo : Nat) : State :=
  let t := { s with time.servo := servo, time.goodSyncs := 0 }
  let u := if servo = 3 then t.riseOpen 50 else t.fall 50
  if servo = 2 then u else u.fall 52
/-- A Sync while LOCKED: the wall clock follows; a step unlocks the servo; D052 as the offset stands. -/
def lockedSync (s : State) (offset : Int) : State :=
  let stepped := decide (s.time.stepThreshold.toNat < offset.natAbs)
  let t := s.takeSource (s.time.align - offset) 1
  if stepped then (t.setServo 1).nextSource
  else if s.time.offsetAlarm.toNat < offset.natAbs then t.riseOpen 52 else t.fall 52
/-- A Sync while not LOCKED: 16 in a row of at most 1 µs lock the servo (R493). -/
def acquiringSync (s : State) (offset : Int) : State :=
  let n := if s.time.servo = 1 then s.time.goodSyncs else 0
  let t := if s.time.servo = 1 then s else s.setServo 1
  if offset.natAbs ≤ 1000 then
    (if 15 ≤ n then (t.setServo 2).takeSource (s.time.align - offset) 1 else ({ t with time.goodSyncs := n + 1 }).correct offset)
  else ({ t with time.goodSyncs := 0 }).correct offset
/-- What a PTP message leads the servo and the BMCA to (R491 to R493). -/
def opPtp (s : State) (e : PtpEvent) : State :=
  if s.mode.inReset || s.time.profile = 0 || !s.time.monoRun then s else
  match e with
  | .unsupported => s
  | .sync offset path =>
    let t := { s with time.offsetFromMaster := offset, time.meanPath := BitVec.ofNat 32 (sat32 path) }
    (if s.time.servo = 2 then t.lockedSync offset else t.acquiringSync offset).settle
  | .announce gm utc ok =>
    let t := { s with time.grandmaster := gm, time.utcOffset := utc, time.utcValid := ok }
    let u := if s.time.servo = 4 then t.setServo 1 else t
    if gm = s.time.grandmaster then u else u.sourceRecord
  | .portState p code =>
    if 4 ≤ p || !s.time.ptpPorts.getLsbD p || code = 0 || decide (9 < code) || get 0 s.time.portStates p = code || (s.time.clockType = 0 && s.time.activePort ≠ some p) then s
    else ({ s with time.portStates := put s.time.portStates p code }).trigger 0x111 []
  | .grandmaster =>
    if s.time.servo = 4 then s else
    let t := { s with time.grandmaster := BitVec.ofNat 64 ((s.freeAt 0).toNat * 2 ^ 32 + (s.freeAt 1).toNat), draws := s.draws + 2 }
    (((t.setServo 4).sourceRecord).nextSource).settle
/-- No port has been SLAVE for three Announce intervals: a LOCKED servo goes to HOLDOVER (R493). -/
def opPtpHoldover (s : State) (quiet : Nat) : State :=
  if s.time.servo = 2 && decide (3 ≤ quiet) && !s.time.portStates.any (fun e => e.2 = 9) then ((s.setServo 3).nextSource).settle else s
/-- Holdover has lasted HOLDOVER_LIMIT with no other source: the wall clock is valid no more, D051 (R487). -/
def opHoldoverLimit (s : State) : State :=
  if s.time.wallValid && s.time.source = 0 && s.time.holdSince.elim false (fun t => decide (t + s.time.holdoverLimit.toNat * 1000000000 ≤ s.time.mono)) then
    (s.loseTime.riseOpen 51).settle
  else s
/-- The PTP instance starts anew (R495). -/
def restartPtp (s : State) : State :=
  let on := s.time.profile ≠ 0
  let t := (s.setServo (if on then 1 else 0))
  let u := { t with time.portStates := [], time.grandmaster := 0, time.offsetFromMaster := 0, time.meanPath := 0, time.activePort := none,
                    time.utcOffset := 0, time.utcValid := false }
  let v := u.choosePort
  if s.time.source = 1 then v.nextSource else v
/-- A PTP setting lies in its range (Table 16.6). -/
def ptpRange (s : State) (sub v : Nat) : Bool :=
  match sub with
  | 0 => 2 < v || (v = 2 && s.time.domain ≠ 0) | 1 => 1 < v | 2 => 15 < v | 3 => 127 < v || (s.time.profile = 2 && v ≠ 0)
  | 7 => 1 < v | 8 => decide (sgn (BitVec.ofNat 32 v) < -7) || decide (4 < sgn (BitVec.ofNat 32 v)) | 0xE => v < 100 || 1000000 < v | _ => false
/-- A PTP setting stored. -/
def storePtp (s : State) (sub v : Nat) : State :=
  let b := BitVec.ofNat 8 v
  match sub with
  | 0 => { s with time.profile := b } | 1 => { s with time.clockType := b } | 2 => { s with time.ptpPorts := b } | 3 => { s with time.domain := b }
  | 4 => { s with time.priority1 := b } | 5 => { s with time.priority2 := b } | 7 => { s with time.oneStep := b }
  | 8 => { s with time.logSync := BitVec.ofNat 32 v } | 0xE => { s with time.offsetAlarm := BitVec.ofNat 32 v } | _ => s
/-- Check 14 of a PTP setting; a change of one restarts the instance after the reply. OFFSET_ALARM is judged anew instead. -/
def opPtpSetting (s : State) (x : ReplyTo) : State :=
  let sub := x.req.sub.toNat
  let t := s.check14 x (s.ptpRange sub x.req.value) false false (fun t => t.storePtp sub x.req.value)
  if t.time = s.time then t
  else if sub = 0xE then
    (if t.time.servo ≠ 2 then t else if t.time.offsetAlarm.toNat < t.time.offsetFromMaster.natAbs then t.riseOpen 52 else t.fall 52).settle
  else (t.restartPtp.judgePorts).settle

/-! ## The wall clock's commands (R102, R489) -/

/-- Check 14 of WALL_SET: refused while LOCKED, else always a step (R489). -/
def opWallSet (s : State) (x : ReplyTo) : State :=
  s.check14 x false false (s.time.servo = 2) (fun t =>
    let o : Int := (x.req.value : Int) - t.time.mono
    (((({ t with time.wallSet := some o }).takeTime o 3 (-1)).trigger 0x115 [x.session.toNat])).settle)
/-- Once a second Sedge stores the wall time while it is valid (R102). -/
def opWallStore (s : State) : State :=
  if s.time.wallValid && (s.time.stored.isNone || decide (s.time.storedAt + 1000000000 ≤ s.time.now)) then
    { s with time.stored := some s.wall, time.storedAt := s.time.now }
  else s

end State

/-- ETH_FRAME_RECEIVED (R472). -/
def execEthFrameReceived (port : Nat) (f : EthFrame) (s : State) : Host.Outcome State Fault Refusal := .next (s.opFrame port f)
/-- TX_SUBMIT (R478). -/
def execTxSubmit (w : ObjWrite) (s : State) : Host.Outcome State Fault Refusal := .next (s.opDma w 0 State.homeSubmit)
/-- RX_SUPPLY (R480). -/
def execRxSupply (w : ObjWrite) (s : State) : Host.Outcome State Fault Refusal := .next (s.opDma w 1 State.homeSupply)
/-- LAUNCH_INSTANT (R482). -/
def execLaunchInstant (port queue : Nat) (late : Bool) (s : State) : Host.Outcome State Fault Refusal := .next (s.opLaunch port queue late)
/-- TX_COMPLETE (R479). -/
def execTxComplete (port queue : Nat) (portDown : Bool) (s : State) : Host.Outcome State Fault Refusal := .next (s.opTxComplete port queue portDown)
/-- ETH_LINK_CHANGE (R492). -/
def execEthLinkChange (port : Nat) (up gig : Bool) (s : State) : Host.Outcome State Fault Refusal := .next (s.opLinkChange port up gig)
/-- PTP_MESSAGE (R493). -/
def execPtpMessage (e : PtpEvent) (s : State) : Host.Outcome State Fault Refusal := .next (s.opPtp e)
/-- PTP_HOLDOVER (R493). -/
def execPtpHoldover (quietIntervals : Nat) (s : State) : Host.Outcome State Fault Refusal := .next (s.opPtpHoldover quietIntervals)
/-- HOLDOVER_LIMIT_EXPIRY (R487). -/
def execHoldoverLimitExpiry (s : State) : Host.Outcome State Fault Refusal := .next s.opHoldoverLimit
/-- WALL_SET (R489). -/
def execWallSet (r : Req) (s : State) : Host.Outcome State Fault Refusal := .next (if rowFor r 0x2101 0 then s.forwarded r 2 State.opWallSet else s)
/-- WALL_TIME_STORE (R102). -/
def execWallTimeStore (s : State) : Host.Outcome State Fault Refusal := .next s.opWallStore
/-- PTP_SETTING_WRITE (R495). -/
def execPtpSettingWrite (r : Req) (s : State) : Host.Outcome State Fault Refusal :=
  .next (if r.index = 0x7720 ∧ [0, 1, 2, 3, 4, 5, 7, 8].contains r.sub.toNat then s.forwarded r 2 State.opPtpSetting else s)
/-- PRP_SUPERVISION_TIMER (R475). -/
def execPrpSupervisionTimer (s : State) : Host.Outcome State Fault Refusal := .next s.opSupervision

end Sys2Proof.Machine
end

