-- ==== Sys2Proof/Machine/Can.lean ====
section
/-! DEFINITION. The CAN FD channels: modes, message objects, arbitration, errors and bus-off (17). -/
namespace Sys2Proof.Machine

/-- Data bytes of a DLC (ISO 11898-1); a classical frame carries at most 8. -/
def dlcBytes (fdf : Bool) (dlc : Nat) : Nat :=
  if dlc ≤ 8 then dlc else if !fdf then 8 else match dlc with
  | 9 => 12 | 10 => 16 | 11 => 20 | 12 => 24 | 13 => 32 | 14 => 48 | _ => 64
/-- A frame's rank in arbitration, the smaller the sooner: base identifier, a base before an extended frame, the extension, classical before FD (ISO 11898-1). -/
def arbKey (ide fdf : Bool) (ident : Nat) : Nat :=
  (if ide then ident / 2 ^ 18 % 2 ^ 11 * 2 ^ 19 + 2 ^ 18 + ident % 2 ^ 18 else ident % 2 ^ 11 * 2 ^ 19) * 2 + bit fdf 0
/-- The candidate nominal rates of automatic detection (R502). -/
def abrRates : List Nat := [1000000, 500000, 250000, 125000]
/-- The candidate data rates of automatic detection (R502). -/
def abrDataRates : List Nat := [5000000, 4000000, 2000000, 1000000]
/-- A message object's channel and number by its index (R515). -/
def moOf (i sub : Nat) : Nat × Nat := ((i - 0x7840) / 0x40 + 1, (i - 0x7840) % 0x40 * 2 + sub / 0x20)
/-- The index belongs to the message objects. -/
def isMo (i : Nat) : Bool := 0x7840 ≤ i && i ≤ 0x78BF

/-- MO_CONFIG's IDE, FDF or ACCEPT_FD, BRS or ACCEPT_CLASSICAL, ONE_SHOT. -/
def MsgObj.ide (m : MsgObj) : Bool := m.config.getLsbD 29
/-- MO_CONFIG [28]. -/
def MsgObj.fd (m : MsgObj) : Bool := m.config.getLsbD 28
/-- MO_CONFIG [27]. -/
def MsgObj.brs (m : MsgObj) : Bool := m.config.getLsbD 27
/-- A valid transmit object. -/
def MsgObj.transmits (m : MsgObj) : Bool := m.config.getLsbD 31 && m.config.getLsbD 30
/-- A valid receive object takes a frame (R504). -/
def MsgObj.matches (m : MsgObj) (f : CanFrame) : Bool :=
  m.config.getLsbD 31 && !m.config.getLsbD 30 && m.ide == f.ide && (if f.fdf then m.fd else m.brs)
    && (BitVec.ofNat 29 m.ident.toNat ^^^ f.ident) &&& BitVec.ofNat 29 m.mask.toNat = 0
/-- The frame that a transmit object sends; its data were latched at the request (R506). -/
def MsgObj.frame (m : MsgObj) (brsAllowed passive : Bool) : CanFrame :=
  let dlc := m.config.toNat % 16
  let n := dlcBytes m.fd dlc
  { ident := BitVec.ofNat 29 m.frameInfo.1, ide := m.ide, fdf := m.fd, brs := m.fd && m.brs && brsAllowed, esi := m.fd && passive, dlc := BitVec.ofNat 4 dlc,
    data := ((List.range ((n + 3) / 4)).flatMap (fun k => be 4 (get 0 m.latched k).toNat)).take n }
/-- FLAGS of a queue entry (Table 17.2). -/
def frameFlags (f : CanFrame) : Nat := bit f.ide 0 + bit f.fdf 1 + bit f.brs 2 + bit f.esi 3

namespace State

/-- A channel rewritten. -/
def setCan (s : State) (c : Nat) (f : Can → Can) : State := { s with can.chan := put s.can.chan c (f (s.canCh c)) }
/-- The channel is one of the two. -/
def isCan (c : Nat) : Bool := c = 1 || c = 2
/-- A queue entry about a frame (Table 17.2). -/
def frameEntry (s : State) (c m kind : Nat) (f : CanFrame) : State := s.canEntry c m kind f.ident.toNat f.dlc.toNat (frameFlags f)
/-- A channel event's queue entry (Table 17.2). -/
def channelEntry (s : State) (c kind : Nat) : State := s.canEntry c 0xFFFF kind 0 0 0
/-- Pending transmit objects of a channel. -/
def pendingCount (s : State) (c : Nat) : Nat := ((s.canCh c).objects.filter (fun e => e.2.pending)).length
/-- OWNER_ONLY objects may send (R509). -/
def ownerCan (s : State) : Bool := s.gateOpen && s.mode.current ≠ .safe

/-! ## Receiving (R498, R504, R505, R508) -/

/-- A receive object takes a frame: data, DLC and flags in one burst, NEW_DATA, and OVERRUN when it was set (R505); bytes of the last word beyond the frame are free. -/
def takeCan (s : State) (c m : Nat) (f : CanFrame) : State :=
  let x := s.msgObj c m
  let n := dlcBytes f.fdf f.dlc.toNat
  let bytes := (f.data ++ be 4 (s.freeAt 0).toNat ++ List.replicate 64 0).take ((n + 3) / 4 * 4)
  let data := (List.range ((n + 3) / 4)).foldl (fun (t : Tab Word) k => put t k (BitVec.ofNat 32 (at_ bytes (4 * k) 4))) x.data
  let y : MsgObj := { x with data := data, newData := true, overrun := x.overrun || x.newData, rxFlags := BitVec.ofNat 7 (f.dlc.toNat + bit f.fdf 4 + bit f.brs 5 + bit f.esi 6) }
  let t := ({ s with draws := s.draws + 1 }).setObj c m y
  let u := t.setCan c (fun z => { z with rxFrames := z.rxFrames + 1, rxOverruns := if x.newData then z.rxOverruns + 1 else z.rxOverruns })
  let v := u.frameEntry c m 1 f
  if x.newData then (v.occurOpen (243 + 4 * (c - 1))).settle else v
/-- The first valid receive object that matches a frame, in ascending number. -/
def matchObj (s : State) (c : Nat) (f : CanFrame) : Option Nat := ((s.canCh c).objects.find? (fun e => e.2.matches f)).map (·.1)
/-- The identifier is the Xanfil request identifier of this module on this channel (R508). -/
def xanfilFrame (s : State) (c : Nat) (f : CanFrame) : Bool :=
  0 < s.can.node.toNat && s.can.channels.getLsbD (c - 1) && !f.ide && f.ident.toNat = 0x480 + s.can.node.toNat
/-- An error-free frame heard in automatic detection: two in a row take the candidate (R502). -/
def hearAbr (s : State) (c : Nat) : State :=
  s.setCan c (fun x => if x.abrTaken.isSome then x else if 1 ≤ x.abrGood then { x with abrGood := 2, abrTaken := some s.time.now } else { x with abrGood := 1 })
/-- REC after a frame received without an error: one less; from above 127 to 119 to 127, which the manual does not narrow (ISO 11898-1). -/
def recGood (s : State) (c : Nat) : State :=
  let r := (s.canCh c).recErr.toNat
  if (s.canCh c).mode ≠ 1 ∨ r = 0 then s
  else if r ≤ 127 then s.setCan c (fun x => { x with recErr := BitVec.ofNat 16 (r - 1) })
  else ({ s with draws := s.draws + 1 }).setCan c (fun x => { x with recErr := BitVec.ofNat 16 (119 + (s.freeAt 0).toNat % 9) })
/-- A frame is received on a channel. A Xanfil request's own effect is that of its own command. -/
def opCanFrame (s : State) (c : Nat) (f : CanFrame) : State :=
  if !isCan c || s.mode.inReset then s
  else if s.abrRuns c then s.hearAbr c
  else if !s.canOnBus c || (f.fdf && !(s.canCh c).usesFd) then s
  else
    let t := (s.setCan c (fun x => { x with frameSeq := x.frameSeq + 1 })).recGood c
    let discard := t.setCan c (fun x => { x with rxDiscarded := x.rxDiscarded + 1 })
    if f.remote then discard
    else if t.xanfilFrame c f then
      (if f.fdf && (t.canCh c).mode = 1 && decide (8 ≤ (t.canCh c).replies.length) then { t with can.dropped := t.can.dropped + 1 } else t)
    else match t.matchObj c f with
    | some m => t.takeCan c m f
    | none => discard

/-! ## Transmitting (R506, R507, R509) -/

/-- MO_COMMAND 1: the object is pending with its data latched, or ends with NOT_OWNER (R506, R509, R511). -/
def requestMo (s : State) (c m : Nat) : State :=
  let x := s.msgObj c m
  if !x.transmits || x.pending then s
  else if x.config.getLsbD 26 && !s.ownerCan then s.endNotOwner c m
  else s.setObj c m { x with pending := true, latched := x.data, abortAsked := false, transmitting := false,
                             byBusOff := (s.canCh c).error = 2, byFence := s.fenced (0x47 + c) }
/-- An object ends with a LAST_RESULT and a queue entry. -/
def endMo (s : State) (c m result kind : Nat) : State :=
  (s.setObj c m { s.msgObj c m with pending := false, transmitting := false, abortAsked := false, byBusOff := false, byFence := false, lastResult := result }).objEntry c m kind
/-- MO_COMMAND 2 (R507). -/
def abortMo (s : State) (c m : Nat) : State :=
  let x := s.msgObj c m
  if !x.pending then s else if x.transmitting then s.setObj c m { x with abortAsked := true } else s.endMo c m 2 3
/-- Check 14 of MO_COMMAND (Table 17.5). -/
def opMoCommand (s : State) (x : ReplyTo) : State :=
  let a := moOf x.req.index.toNat x.req.sub.toNat
  let v := x.req.value
  s.check14 x (!(v = 1 || v = 2)) false false (fun t => if v = 1 then t.requestMo a.1 a.2 else t.abortMo a.1 a.2)
/-- A write of MO_COMMAND with the value of the row: 1 requests, 2 aborts; a value that is neither goes with the request and is refused. -/
def opMoRow (s : State) (w : ObjWrite) (abort : Bool) : State :=
  match w with
  | .xanfil r => if isMo r.index.toNat && decide (r.sub.toNat % 0x20 = 3) && decide (r.sub.toNat < 0x40) && (r.value = 2) == abort then s.forwarded r 2 opMoCommand else s
  | .home m a v =>
    let i := (a - 0x50000000) / 0x400
    let sub := (a - 0x50000000) % 0x400 / 4
    if homeMaster m && isMo i && decide (a = homeAddress i sub) && decide (sub % 0x20 = 3) && decide (sub < 0x40) then
      (if v = 1 ∧ !abort then s.requestMo (moOf i sub).1 (moOf i sub).2 else if v = 2 ∧ abort then s.abortMo (moOf i sub).1 (moOf i sub).2 else s)
    else s
/-- The objects of a channel that a frame start offers, in arbitration order. -/
def offered (s : State) (c : Nat) : List (Nat × Nat) :=
  let fd := (s.canCh c).usesFd
  let objs := ((s.canCh c).objects.filter (fun e => e.2.pending && e.2.transmits && (fd || !e.2.fd))).map
    (fun e => (arbKey e.2.ide e.2.fd e.2.frameInfo.1, e.1))
  objs ++ (if (s.canCh c).replies.isEmpty || !fd then [] else [(arbKey false true (0x4C0 + s.can.node.toNat), 128)])
/-- The frame that ranks first, the lowest object number among equals (R506). -/
def firstRanking (s : State) (c : Nat) : Option Nat := (leastBy (fun (e : Nat × Nat) => e.1 * 256 + e.2) (s.offered c)).map (·.2)
/-- An attempt is on the bus. -/
def attempting (s : State) (c : Nat) : Bool := (s.canCh c).sendingReply || (s.canCh c).objects.any (fun e => e.2.transmitting)
/-- The channel can start a frame: normal mode, on the bus, no attempt under way (R506). -/
def opTxStart (s : State) (c : Nat) : State :=
  if !isCan c || !s.canOnBus c || (s.canCh c).mode ≠ 1 || s.attempting c then s else
  match s.firstRanking c with
  | none => s
  | some m => if m = 128 then s.setCan c (fun x => { x with sendingReply := true }) else s.setObj c m { s.msgObj c m with transmitting := true }
/-- TEC after an attempt: one less after a success; after a failure 8 more, or as it was when arbitration was lost, which the command does not say (ISO 11898-1). -/
def tecAfter (s : State) (c : Nat) (ok : Bool) : State :=
  let t := (s.canCh c).tec.toNat
  if ok then s.setCan c (fun x => { x with tec := BitVec.ofNat 16 (t - 1) })
  else ({ s with draws := s.draws + 1 }).setCan c (fun x => { x with tec := BitVec.ofNat 16 (if (s.freeAt 0).getLsbD 0 then t + 8 else t) })
/-- A frame has been sent: counted, and kept among the sent ones. -/
def sentFrame (s : State) (c : Nat) (f : CanFrame) : State :=
  s.setCan c (fun x => { x with txFrames := x.txFrames + 1, frameSeq := x.frameSeq + 1, sent := x.sent ++ [f] })
/-- A reply of the buffer as a frame: the identifier of R74; its bytes are the reply's. -/
def replyFrame (s : State) (y : Reply) : CanFrame :=
  let body := [1, y.opcode] ++ be 2 y.transaction.toNat ++ be 2 y.index.toNat
    ++ [y.sub, BitVec.ofNat 8 (bit y.trailer.isSome 0 + bit y.pending 1), y.status, 0] ++ be 2 y.data.length ++ y.data
    ++ y.trailer.elim [] (fun t => be 4 t.session.toNat ++ be 8 t.counter.toNat ++ be 16 t.tag.toNat)
  let dlc := ((List.range 16).find? (fun d => body.length ≤ dlcBytes true d)).getD 15
  { ident := BitVec.ofNat 29 (0x4C0 + s.can.node.toNat), fdf := true, brs := true, dlc := BitVec.ofNat 4 dlc,
    data := (body ++ List.replicate 64 0).take (dlcBytes true dlc) }
/-- An attempt of an object ends (R507). -/
def endAttempt (s : State) (c m : Nat) (ok : Bool) : State :=
  let x := s.msgObj c m
  let f := x.frame ((s.canCh c).fdOptions.getLsbD 1) ((s.canCh c).error = 1)
  if ok then
    let t := (s.sentFrame c f).setObj c m { x with pending := false, transmitting := false, abortAsked := false, byBusOff := false, byFence := false, lastResult := 1 }
    t.frameEntry c m 2 f
  else if x.abortAsked then s.endMo c m 2 3
  else if x.config.getLsbD 25 then s.endMo c m 4 5
  else (s.setObj c m { x with transmitting := false }).cancelOwnerOnly
/-- A transmission attempt ends. -/
def opTxEnd (s : State) (c : Nat) (ok : Bool) : State :=
  if !isCan c || !s.canOnBus c || (s.canCh c).mode ≠ 1 then s else
  let t := s.tecAfter c ok
  if (s.canCh c).sendingReply then
    let u := t.setCan c (fun x => { x with sendingReply := false })
    match (s.canCh c).replies with
    | [] => u
    | y :: rest => if ok then (u.setCan c (fun x => { x with replies := rest })).sentFrame c (s.replyFrame y) else u
  else match (s.canCh c).objects.find? (fun e => e.2.transmitting) with
  | none => s
  | some e => t.endAttempt c e.1 ok

/-! ## Errors and bus-off (R511, R512) -/

/-- TEC exceeds 255: the channel leaves the bus, its objects stay pending (R511). -/
def opBusOff (s : State) (c : Nat) (tec : Half) : State :=
  if !isCan c || !s.canOnBus c || (s.canCh c).mode ≠ 1 || decide (tec.toNat ≤ 255) then s else
  let u := (s.dropAttempts c).setCan c (fun x => { x with
    error := 2, tec := tec, busOffs := x.busOffs + 1, recovering := x.policy = 0
    objects := mapTab x.objects (fun _ m => if m.pending then { m with byBusOff := true } else m) })
  ((((u.fall (241 + 4 * (c - 1))).riseOpen (240 + 4 * (c - 1))).trigger 0x101 [u.pendingCount c]).channelEntry c 7).settle
/-- Check 14 of CAN_RECOVER (R512). -/
def opRecover (s : State) (x : ReplyTo) : State :=
  let c := x.req.index.toNat - 0x780F
  s.check14 x (x.req.value ≠ 1) false (!((s.canCh c).policy = 1 && (s.canCh c).error = 2 && !(s.canCh c).recovering)) (fun t => t.setCan c (fun y => { y with recovering := true }))
/-- 128 occurrences of 11 recessive bits have been seen: the channel is error active (R512). -/
def opRecovered (s : State) (c occurrences : Nat) : State :=
  if !isCan c || (s.canCh c).error ≠ 2 || !(s.canCh c).recovering || s.fenced (0x47 + c) || decide (occurrences < 128) then s else
  let u := s.setCan c (fun x => { x with error := 0, tec := 0, recErr := 0, recovering := false })
  (((u.fall (240 + 4 * (c - 1))).trigger 0x101 [u.pendingCount c]).channelEntry c 8).settle
/-- TEC and REC move the channel between error active and error passive, the limit being 127 (R511, ISO 11898-1). -/
def opErrorState (s : State) (c : Nat) (tec rec' : Half) : State :=
  let passive := decide (127 < tec.toNat) || decide (127 < rec'.toNat)
  if !isCan c || !s.canOnBus c || (s.canCh c).mode ≠ 1 || decide (255 < tec.toNat) || passive == ((s.canCh c).error = 1) then s else
  let u := s.setCan c (fun x => { x with tec := tec, recErr := rec', error := if passive then 1 else 0 })
  let v := if passive then u.riseOpen (241 + 4 * (c - 1)) else u.fall (241 + 4 * (c - 1))
  ((v.trigger 0x100 [tec.toNat, rec'.toNat]).channelEntry c 6).settle

/-! ## Channel modes and settings (R499 to R503, R514) -/

/-- Check 14 of CHANNEL_MODE (R500); E-0x103 tells of a change. -/
def opChannelMode (s : State) (x : ReplyTo) : State :=
  let c := x.req.index.toNat - 0x780F
  let v := x.req.value
  s.check14 x (decide (3 < v)) false false (fun t =>
    if (t.canCh c).mode.toNat = v then t else
    ((t.dropAttempts c).setCan c (fun y =>
      let z : Can := { y with mode := BitVec.ofNat 8 v }
      if v = 3 then z.startAbr t.time.now else z)).trigger 0x103 [x.session.toNat])
/-- 200 ms have passed at a candidate that was not taken (R502). -/
def opAbrNext (s : State) (c : Nat) : State :=
  let x := s.canCh c
  if !isCan c || !s.abrRuns c || x.abrTaken.isSome || decide (s.time.now < x.abrSince + 200000000) then s
  else s.setCan c (fun y => { y with abrCandidate := (x.abrCandidate + 1) % 4, abrGood := 0, abrSince := s.time.now })
/-- A detection has found its rates: the candidate taken, and a data rate or none within 2 s (R502). -/
def abrFound (s : State) (c : Nat) (nominal dataRate : Word) : Bool :=
  let x := s.canCh c
  x.abrTaken.elim false (fun t => nominal.toNat = abrRates.getD x.abrCandidate 0
    && (abrDataRates.contains dataRate.toNat || (dataRate = 0 && decide (t + 2000000000 ≤ s.time.now))))
/-- Automatic detection ends (R502). -/
def opAbrResult (s : State) (c : Nat) (ok : Bool) (nominal dataRate : Word) : State :=
  let x := s.canCh c
  if !isCan c || !s.abrRuns c then s
  else if ok then
    (if s.abrFound c nominal dataRate then
      (s.setCan c (fun y => { y with mode := 2, nominalRate := nominal, nominalSample := 800, dataRate := dataRate, dataSample := 800, abrFailed := false })).trigger 0x102 []
     else s)
  else if s.time.now < x.abrStart + x.abrTimeout.toNat * 1000000000 then s
  else (s.setCan c (fun y => { y with mode := 0, abrFailed := true })).trigger 0x102 []
/-- A bit rate between two limits whose quotient of 80 MHz is an integer (R499). -/
def rateOk (v low high : Nat) : Bool := low ≤ v && v ≤ high && 80000000 % v = 0
/-- Check 14 of the settings of a channel (Table 17.3, R499, R500). -/
def opCanSetting (s : State) (x : ReplyTo) : State :=
  let c := x.req.index.toNat - 0x780F
  let v := x.req.value
  let busy : Bool := (s.canCh c).mode ≠ 0
  match x.req.sub.toNat with
  | 2 => s.check14 x (!rateOk v 125000 1000000) busy false (fun t => t.setCan c (fun y => { y with nominalRate := BitVec.ofNat 32 v }))
  | 3 => s.check14 x (v < 500 || 900 < v) busy false (fun t => t.setCan c (fun y => { y with nominalSample := BitVec.ofNat 16 v }))
  | 4 => s.check14 x (v ≠ 0 && !rateOk v 1000000 5000000) busy false (fun t => t.setCan c (fun y => { y with dataRate := BitVec.ofNat 32 v }))
  | 5 => s.check14 x (v < 500 || 900 < v) busy false (fun t => t.setCan c (fun y => { y with dataSample := BitVec.ofNat 16 v }))
  | 6 => s.check14 x (decide (3 < v)) busy false (fun t => t.setCan c (fun y => { y with fdOptions := BitVec.ofNat 8 v }))
  | 9 => s.check14 x (decide (1 < v)) false false (fun t => t.setCan c (fun y => { y with policy := BitVec.ofNat 8 v }))
  | _ => s.check14 x (v = 0 || 600 < v) false false (fun t => t.setCan c (fun y => { y with abrTimeout := BitVec.ofNat 16 v }))
/-- Check 14 of XANFIL_NODE and XANFIL_CHANNELS (Table 17.3). -/
def opCanModule (s : State) (x : ReplyTo) : State :=
  let v := x.req.value
  if x.req.sub = 1 then s.check14 x (decide (64 ≤ v)) false false (fun t => { t with can.node := BitVec.ofNat 8 v })
  else s.check14 x (decide (3 < v)) false false (fun t => { t with can.channels := BitVec.ofNat 8 v })
/-- Check 14 of a message object's slots other than MO_COMMAND (Table 17.5, R503, R506). -/
def opMoSlot (s : State) (x : ReplyTo) : State :=
  let a := moOf x.req.index.toNat x.req.sub.toNat
  let w : Word := BitVec.ofNat 32 x.req.value
  let m := s.msgObj a.1 a.2
  let set := fun (y : MsgObj) (t : State) => t.setObj a.1 a.2 y
  match x.req.sub.toNat % 0x20 with
  | 0 => s.check14 x false m.pending false (set { m with config := w &&& 0xFE00000F })
  | 1 => s.check14 x false m.pending false (set { m with ident := w &&& 0x1FFFFFFF })
  | 2 => s.check14 x false m.pending false (set { m with mask := w })
  | 4 => s.check14 x false false false (set { m with overrun := m.overrun && !w.getLsbD 5, newData := m.newData && !w.getLsbD 4 })
  | f => s.check14 x false m.pending false (set { m with data := put m.data (f - 5) w })

end State

/-- CAN_FRAME_RECEIVED (R504). -/
def execCanFrameReceived (channel : Nat) (f : CanFrame) (s : State) : Host.Outcome State Fault Refusal := .next (s.opCanFrame channel f)
/-- MO_TRANSMIT_REQUEST (R506). -/
def execMoTransmitRequest (w : ObjWrite) (s : State) : Host.Outcome State Fault Refusal := .next (s.opMoRow w false)
/-- MO_ABORT (R507). -/
def execMoAbort (w : ObjWrite) (s : State) : Host.Outcome State Fault Refusal := .next (s.opMoRow w true)
/-- CAN_TRANSMIT_START (R506). -/
def execCanTransmitStart (channel : Nat) (s : State) : Host.Outcome State Fault Refusal := .next (s.opTxStart channel)
/-- CAN_TRANSMIT_END (R507). -/
def execCanTransmitEnd (channel : Nat) (ok : Bool) (s : State) : Host.Outcome State Fault Refusal := .next (s.opTxEnd channel ok)
/-- CAN_BUS_OFF (R511). -/
def execCanBusOff (channel : Nat) (tec : Half) (s : State) : Host.Outcome State Fault Refusal := .next (s.opBusOff channel tec)
/-- CAN_RECOVER (R512). -/
def execCanRecover (r : Req) (s : State) : Host.Outcome State Fault Refusal :=
  .next (if rowFor r 0x7810 0x0A || rowFor r 0x7811 0x0A then s.forwarded r 2 State.opRecover else s)
/-- BUS_OFF_RECOVERY_COMPLETE (R512). -/
def execBusOffRecoveryComplete (channel occurrences : Nat) (s : State) : Host.Outcome State Fault Refusal := .next (s.opRecovered channel occurrences)
/-- CAN_ERROR_STATE_CHANGE (R511). -/
def execCanErrorStateChange (channel : Nat) (tec rec' : Half) (s : State) : Host.Outcome State Fault Refusal := .next (s.opErrorState channel tec rec')
/-- CHANNEL_MODE (R500). -/
def execChannelMode (r : Req) (s : State) : Host.Outcome State Fault Refusal :=
  .next (if rowFor r 0x7810 1 || rowFor r 0x7811 1 then s.forwarded r 2 State.opChannelMode else s)
/-- ABR_CANDIDATE_TIMEOUT (R502). -/
def execAbrCandidateTimeout (channel : Nat) (s : State) : Host.Outcome State Fault Refusal := .next (s.opAbrNext channel)
/-- ABR_RESULT (R502). -/
def execAbrResult (channel : Nat) (ok : Bool) (nominal dataRate : Word) (s : State) : Host.Outcome State Fault Refusal := .next (s.opAbrResult channel ok nominal dataRate)

end Sys2Proof.Machine
end

