-- ==== Sys2Proof/Machine/Field.lean ====
section
/-! DEFINITION. The Field Block: output updates, the watchdog, supply sag, channels, HART and trim (18). -/
namespace Sys2Proof.Machine

/-! ## Bands (Tables 18.3 and 18.4) -/

/-- Quality, WIRE_BREAK, OVERRANGE and UNDERRANGE of a trimmed current in µA (Table 18.4). -/
def currentBand (ua : Int) : BitVec 2 × Bool × Bool × Bool :=
  if ua < 500 then (2, true, false, true) else if ua ≤ 3600 then (2, false, false, true) else if ua < 3800 then (1, false, false, true)
  else if ua ≤ 20500 then (0, false, false, false) else if ua < 21000 then (1, false, true, false) else (2, false, true, false)
/-- The worse of two qualities. -/
def worse (a b : BitVec 2) : BitVec 2 := if a.toNat < b.toNat then b else a
/-- Why an analog sample is recorded: CAUSE of Table 14.2 for the last recorded, the previous and the new current; 0 when it is not. -/
def sampleCause (b : ChannelDecl) (recorded : Option Int) (old new : Int) : Nat :=
  let up := fun (h : Nat) => decide (old < (h : Int)) && decide ((h : Int) ≤ new)
  let down := fun (h : Nat) => decide (new < (h : Int)) && decide ((h : Int) ≤ old)
  bit (recorded.elim true (fun r => decide (b.deadband ≤ (new - r).natAbs))) 0 + bit (up b.high) 1 + bit (down b.high) 2 + bit (down b.low) 3 + bit (up b.low) 4

namespace State

/-- A group rewritten. -/
def setGrp (s : State) (g : Nat) (f : Group → Group) : State := { s with field.groups := put s.field.groups g (f (s.grp g)) }
/-- A channel rewritten. -/
def setChan (s : State) (c : Nat) (f : Chan → Chan) : State := { s with field.chans := put s.field.chans c (f (s.chan c)) }
/-- The number is a group's. -/
def isGroup (g : Nat) : Bool := g = 1 || g = 2
/-- The bound channels of a group. -/
def groupChannels (s : State) (g : Nat) : List ChannelDecl :=
  s.image.elim [] (fun i => i.channels.filter (fun b => decide (b.channel < 0x30) && groupOf b.channel = g))
/-- A bound channel of one of some kinds. -/
def bound (s : State) (c : Nat) (kinds : List Nat) : Option ChannelDecl := (s.binding c).filter (fun b => decide (c < 0x30) && kinds.contains b.kind)
/-- Inputs are sampled: in every mode but COLD (R519). -/
def samples (s : State) : Bool := s.mode.current ≠ .cold && !s.mode.inReset

/-! ## Input quality (R525, Table 18.3) -/

/-- The quality that a group's supply leaves its inputs at best. -/
def supplyQuality (s : State) (g : Nat) : BitVec 2 := if !(s.grp g).undervolt then 0 else if (s.grp g).deep then 2 else 1
/-- A quality as measured on a channel, with its supply and its unit's fences (R139, R525). -/
def fieldQuality (s : State) (c unit : Nat) (measured : BitVec 2) : BitVec 2 := if s.unitFenced unit then 3 else worse measured (s.supplyQuality (groupOf c))
/-- What a channel's own state says of the quality of the input or readback signal it carries. -/
def ownQuality (s : State) (b : ChannelDecl) : BitVec 2 :=
  let x := s.chan b.channel
  match b.kind with
  | 3 => if x.readbackFail then 2 else 0
  | 5 => if x.loopCompliance then 2 else 0
  | 4 => (currentBand x.measured).1
  | _ => if x.wireBreak then 2 else 0
/-- The signal that carries what a channel measures: the bound signal of an input, the readback signal of an output. -/
def inputOf (b : ChannelDecl) : Option Nat := if b.kind = 3 ∨ b.kind = 5 then b.readback else b.signal
/-- A measured value into the Signal Image (R519); SUBSTITUTED ends with the first value after a fence (R141). -/
def writeInput (s : State) (b : ChannelDecl) (f : Sig → Sig) : State :=
  if !s.linkWrites then s else (inputOf b).elim s (fun g => s.sourceSig g (fun e => { f e with source := 0, substituted := e.substituted && s.unitFenced e.unit, undervolt := (s.grp (groupOf b.channel)).undervolt }))
/-- What a channel tells of its input beside the value, which it keeps: flags and quality; a value that a fence has replaced keeps its quality until the next value (R141, R530). -/
def flagInput (s : State) (b : ChannelDecl) (f : Sig → Sig) : State :=
  if !s.linkWrites then s else (inputOf b).elim s (fun g => s.sourceSig g (fun e => let n := f e; { n with quality := if e.substituted then e.quality else n.quality, undervolt := (s.grp (groupOf b.channel)).undervolt }))
/-- UNDERVOLT on every signal of a group's channels, and the quality of its inputs as the supply stands (R525). -/
def markSupply (s : State) (g : Nat) : State :=
  if !s.linkWrites then s else
  (s.groupChannels g).foldl (fun u b =>
    let v := b.signal.elim u (fun n => u.setSig n (fun e => { e with undervolt := (u.grp g).undervolt }))
    (inputOf b).elim v (fun n => v.sourceSig n (fun e => { e with undervolt := (u.grp g).undervolt, quality := if e.substituted then e.quality else u.fieldQuality b.channel e.unit (u.ownQuality b) }))) s

/-- UNDERVOLT as a group's sample leaves it on every signal of the group's channels (R525). -/
def markUndervolt (s : State) (g : Nat) : State :=
  if !s.linkWrites then s else
  (s.groupChannels g).foldl (fun u b => (b.signal.toList ++ b.readback.toList).foldl (fun v n => v.setSig n (fun e => { e with undervolt := (v.grp g).undervolt })) u) s

/-! ## The output path (R520 to R524) -/

/-- A channel fault is set: counted, recorded, and told of by its detector with the channel code (R545). -/
def chanFault (s : State) (c d : Nat) : State := ((s.setChan c (fun x => { x with faults := x.faults + 1 })).trigger 0x123 []).occur d c
/-- OUTPUT_UPDATE: OWNER and every value of the group (R520, R521, R523). -/
def opOutputUpdate (s : State) (g : Nat) : State :=
  if !isGroup g || s.mode.inReset || !s.time.monoRun || s.time.mono % 100000 ≠ 0 then s else
  let t := s.setGrp g (fun x => { x with gateOpen := s.gateOpen, lastOwner := if s.gateOpen then s.time.now else x.lastOwner,
                                         limit := s.field.watchdog })
  (t.redriveGroup g true).settle
/-- FB_WATCHDOG_EXPIRY: safe states at once, then the detector fences the group (R523, R524). -/
def opWatchdog (s : State) (g : Nat) : State :=
  if !isGroup g || !(s.grp g).gateOpen || (s.grp g).watchdogExpired || decide (s.time.now < (s.grp g).lastOwner + (s.grp g).limit.toNat * 1000000) then s else
  let t := ((s.setGrp g (fun x => { x with watchdogExpired := true })).redriveGroup g).trigger 0x122 []
  (t.occurOpen (251 + g)).settle

/-! ## Field supply (R525 to R528) -/

/-- A 100 µs sample of a group's supply. -/
def opSupply (s : State) (g mv : Nat) : State :=
  if !isGroup g || s.mode.inReset then s else
  let now := s.time.now
  let old := s.grp g
  let low := decide (mv < 16000)
  let good := decide (19200 ≤ mv)
  let t := s.setGrp g (fun x => { x with
    supply := mv, below16 := if low then some (x.below16.getD now) else none, above19 := if good then some (x.above19.getD now) else none
    restoreReady := x.restoreReady && !low })
  if !good && !old.undervolt then
    let u := ((t.setGrp g (fun x => { x with undervolt := true, deep := false })).trigger 0x120 [mv]).markSupply g
    (u.riseOpen (247 + g)).settle
  else if good && old.undervolt && decide ((t.grp g).above19.getD now + 100000000 ≤ now) then
    let u := ((t.setGrp g (fun x => { x with undervolt := false, deep := false })).trigger 0x120 [mv]).markSupply g
    (u.fall (247 + g)).settle
  else (t.markUndervolt g).settle
/-- The supply has stayed below 16.0 V for 2 ms: every output switches off, inputs read BAD (R526). -/
def opSwitchOff (s : State) (g : Nat) : State :=
  let x := s.grp g
  if !isGroup g || !x.below16.elim false (fun t => decide (t + 2000000 ≤ s.time.now)) || (x.switchedOff && x.deep) then s else
  let t := (s.setGrp g (fun x => { x with deep := true, restoreReady := false, storeReady := false })).markSupply g
  if x.switchedOff then t.settle else
  let u := (t.setGrp g (fun x => { x with switchedOff := true, switchOffs := x.switchOffs + 1 })).trigger 0x121 []
  ((((u.cancelGroupTrim g).pathOver (0x4B + g)).redriveGroup g).riseOpen (249 + g)).settle
/-- A group's outputs resume: each takes its row (R527). -/
def resume (s : State) (g : Nat) : State :=
  let t := (s.setGrp g (fun x => { x with switchedOff := false, restoreReady := false })).trigger 0x121 []
  ((t.redriveGroup g).fall (249 + g)).settle
/-- The supply has stayed at or above 19.2 V for 100 ms: RESTORE_READY, and the outputs resume under automatic policy. -/
def opRestoreReady (s : State) (g : Nat) : State :=
  let x := s.grp g
  if !isGroup g || !x.switchedOff || x.restoreReady || !x.above19.elim false (fun t => decide (t + 100000000 ≤ s.time.now)) then s else
  let t := (s.setGrp g (fun x => { x with restoreReady := true })).trigger 0x121 []
  if s.field.restorePolicy.getLsbD (g - 1) then t.resume g else t
/-- Check 14 of GROUP_RESTORE. -/
def opGroupRestore (s : State) (x : ReplyTo) : State :=
  let g := x.req.index.toNat - 0x7900
  s.check14 x (x.req.value ≠ 1) (!(s.grp g).restoreReady) false (fun t => t.resume g)
/-- A group's energy store is charged (R531). -/
def opStoreCharged (s : State) (g : Nat) : State := if isGroup g && !s.mode.inReset then s.setGrp g (fun x => { x with storeReady := true }) else s

/-! ## Digital channels (R529 to R532) -/

/-- A debounced edge of a digital input, with its tag in monotonic microseconds (R529, R519). -/
def opInputEdge (s : State) (c : Nat) (on : Bool) (tag : Nat) : State :=
  match s.bound c [1, 2] with
  | none => s
  | some b =>
    if !s.samples || (s.chan c).on == on || (s.chan c).wireBreak then s else
    let t := s.setChan c (fun x => { x with on := on })
    let u := t.writeInput b (fun e => { e with value := BitVec.ofNat 32 (bit on 0), quality := t.fieldQuality c e.unit 0 })
    let bad := (u.fieldQuality c b.unit 0).toNat ≥ 2
    (u.opCapArrival { time := tag, channel := c, value := BitVec.ofNat 32 (bit on 0), bad := bad }).settle
/-- Wire-break detection of a digital input: VALUE is kept, quality BAD (R530); suspended while its group is switched off (R526). -/
def opWireBreak (s : State) (c : Nat) (broken : Bool) : State :=
  match s.bound c [1, 2] with
  | none => s
  | some b =>
    if !b.wireBreak || !s.samples || (s.grp (groupOf c)).switchedOff || (s.chan c).wireBreak == broken then s else
    let t := s.setChan c (fun x => { x with wireBreak := broken })
    let u := t.flagInput b (fun e => { e with wireBreak := broken, quality := t.fieldQuality c e.unit (if broken then 2 else 0) })
    (if broken then u.chanFault c (259 + groupOf c) else u.trigger 0x123 []).settle
/-- A digital output exceeds 2.0 A, or 0.6 A for more than 10 ms: it switches off (R531). -/
def opOverload (s : State) (c ma lasted : Nat) : State :=
  match s.bound c [3] with
  | none => s
  | some _ =>
    if !(s.chan c).drivenOn || !(decide (2000 < ma) || (decide (600 < ma) && decide (10000000 < lasted))) then s else
    let g := groupOf c
    let t := (s.setGrp g (fun x => { x with storeReady := false })).setChan c (fun x => { x with overload := true, overloadAt := s.time.now })
    ((t.redriveGroup g).chanFault c (255 + g)).settle
/-- The output would be on but for its overload. -/
def wantsOn (s : State) (b : ChannelDecl) : Bool := (s.setChan b.channel (fun x => { x with overload := false })).driveOn b
/-- The 1 s retry of an overloaded output that is commanded on: within limits it clears OVERLOAD, else the output switches off again (R531). -/
def opOverloadRetry (s : State) (c : Nat) (ok : Bool) : State :=
  match s.bound c [3] with
  | none => s
  | some b =>
    let g := groupOf c
    if !(s.chan c).overload || !s.wantsOn b || (s.grp g).switchedOff || decide (s.time.now < (s.chan c).overloadAt + 1000000000) then s
    else if ok then (((s.setChan c (fun x => { x with overload := false })).redriveGroup g).trigger 0x123 []).settle
    else ((s.setChan c (fun x => { x with overloadAt := s.time.now, faults := x.faults + 1 })).occur (255 + g) c).settle
/-- A digital output's readback against its driven state, 1 ms after a change (R532). -/
def opReadback (s : State) (c : Nat) (state : Bool) : State :=
  match s.bound c [3] with
  | none => s
  | some b =>
    let x := s.chan c
    let fail := state != x.drivenOn
    if !s.samples || (s.grp (groupOf c)).switchedOff || decide (s.time.mono < x.drivenAt + 1000000) then s else
    let t := s.setChan c (fun y => { y with on := state, readbackFail := fail })
    let u := t.writeInput b (fun e => { e with value := BitVec.ofNat 32 (bit state 0), quality := t.fieldQuality c e.unit (if fail then 2 else 0) })
    (if fail && !x.readbackFail then u.chanFault c (255 + groupOf c) else if x.readbackFail && !fail then u.trigger 0x123 [] else u).settle

/-! ## Analog channels (R533 to R536) -/

/-- One analog input's conversion: filter, trim, band, Signal Image, capture (R533, R534). While its group is switched off no wire break is judged (R526). -/
def convert (s : State) (c : Nat) (raw : Int) : State :=
  match s.bound c [4] with
  | none => s
  | some b =>
    let x := s.chan c
    let out := if b.filter = 0 then raw else Config.filtered x.filtered raw b.filter
    let m := trimOf x out
    let off := (s.grp (groupOf c)).switchedOff
    let band := currentBand m
    let broken := if off then x.wireBreak else band.2.1
    let before := currentBand x.measured
    let wasBad := before.1 = 2 && (x.overrange || x.underrange)
    let entered := band.1 = 2 && (!wasBad || (band.2.1 != before.2.1 && !off) || band.2.2.1 != before.2.2.1)
    let cause := sampleCause b x.recorded x.measured m
    let t := s.setChan c (fun y => { y with filtered := out, measured := m, wireBreak := broken, overrange := band.2.2.1, underrange := band.2.2.2,
                                            recorded := if b.capture && cause ≠ 0 then some m else y.recorded })
    let u := t.writeInput b (fun e => { e with value := currentValue e.type m, quality := t.fieldQuality c e.unit band.1, wireBreak := broken, overrange := band.2.2.1, underrange := band.2.2.2 })
    let v := if cause = 0 then u else u.opCapArrival { time := s.nowUs, channel := c, value := i32 m, cause := BitVec.ofNat 8 cause, bad := band.1 = 2 }
    let w := if broken && !x.wireBreak then (v.setChan c (fun y => { y with faults := y.faults + 1 })).trigger 0x123 []
             else if x.wireBreak && !broken then v.trigger 0x123 [] else v
    if entered then w.occur (259 + groupOf c) c else w
/-- A group's converter starts now: at multiples of 100 µs of monotonic time, or on network time as a TIME_BASE 1 release of that period and no phase (R490, R533). -/
def convertDue (s : State) (g : Nat) : Bool :=
  let x := s.grp g
  if !s.field.convertBase.getLsbD (g - 1) then decide (s.time.mono % 100000 = 0)
  else if x.aligned && decide (s.time.mono ≤ x.nextStart) then decide (s.time.mono = x.nextStart)
  else decide (((s.time.mono : Int) + s.ownAlign) % 100000 = 0)
/-- The next start of a group's converter on network time, corrected by at most 1 µs (R490). -/
def stampStart (s : State) (g : Nat) : State :=
  s.setGrp g (fun x => { x with aligned := s.field.convertBase.getLsbD (g - 1), nextStart := alignedNext 100000 0 s.ownAlign s.time.mono })
/-- ANALOG_CONVERSION: the four inputs of a group, in the order of their codes; a result is 16 bits over 0 to 24 mA. -/
def opConversion (s : State) (g : Nat) (l : List Int) : State :=
  if !isGroup g || !s.samples || l.length ≠ 4 || !s.convertDue g then s
  else ((List.range 4).foldl (fun u k => u.convert (0x1C + 4 * g + k) (max 0 (min 24000 (l.getD k 0)))) (s.stampStart g)).settle
/-- LOOP_COMPLIANCE of an analog output set or cleared on its output and readback signals. -/
def markLoop (s : State) (b : ChannelDecl) (ua : Int) (bad : Bool) : State :=
  let t := s.setChan b.channel (fun x => { x with loopCompliance := bad, measured := ua })
  let u := if t.linkWrites then b.signal.elim t (fun n => t.setSig n (fun e => { e with loopCompliance := bad })) else t
  u.writeInput b (fun e => { e with value := currentValue e.type ua, loopCompliance := bad, quality := u.fieldQuality b.channel e.unit (if bad then 2 else 0) })
/-- The measured current has differed by more than 0.2 mA, or been within it, for 20 ms since the last drive value (R536). -/
def opLoop (s : State) (c : Nat) (ua : Int) (bad : Bool) : State :=
  match s.bound c [5] with
  | none => s
  | some b =>
    let x := s.chan c
    let out := decide (200 < (ua - x.commanded).natAbs)
    if !s.samples || (s.grp (groupOf c)).switchedOff || out != bad || x.loopCompliance == bad || decide (s.time.mono < x.drivenAt + 20000000) then s
    else
      let t := s.markLoop b ua bad
      (if bad then t.chanFault c (257 + groupOf c) else t.trigger 0x123 []).settle

/-! ## HART (R537 to R539) -/

/-- A HART channel's state. -/
def hartOf (s : State) (h : Nat) : Hart := get {} s.field.harts h
/-- HART is enabled on an analog channel. -/
def hartOn (s : State) (h : Nat) : Bool := decide (h < 16) && (s.bound (h + 0x20) [4, 5]).elim false (·.hart)
/-- Check 14 of HART_REQUEST: a polling address lies in 0 to 63. -/
def opHartRequest (s : State) (x : ReplyTo) : State :=
  let h := x.req.index.toNat - 0x7940
  let b := x.req.bytes
  s.check14 x (x.req.select ≠ 0 || x.req.offset ≠ 0 || !writeLength x.req || decide (1 < at_ b 0 1) || (at_ b 0 1 = 0 && decide (63 < at_ b 1 1)))
    ((s.hartOf h).result = 1) (!s.hartOn h) (fun t =>
    { t with field.harts := put t.field.harts h { t.hartOf h with result := 1, tries := 0, command := b.getD 6 0, response := 0, status := 0, request := b } }.replaced x.req.index.toNat 1)
/-- A transaction ends; a channel whose group is fenced or switched off gets no response (R538, R539). -/
def opHartDone (s : State) (h : Nat) (r : HartResult) : State :=
  let x := s.hartOf h
  let dead := s.fenced (0x4B + groupOf (h + 0x20)) || (s.grp (groupOf (h + 0x20))).switchedOff
  if x.result ≠ 1 || decide (r.result < 2) || decide (4 < r.result) || (dead && r.result ≠ 3) || r.tries = 0 || decide (3 < r.tries) then s else
  let done := r.result = 2
  let y : Hart := { x with
    result := r.result, tries := r.tries, response := if done then r.response else 0, status := if done then r.deviceStatus else 0
    reply := if done then [x.command, BitVec.ofNat 8 (r.data.length + 2), r.response, r.deviceStatus] ++ r.data else x.reply
    replyGen := if done then x.replyGen + 1 else x.replyGen }
  let t := { s with field.harts := put s.field.harts h y }
  if done then t else t.trigger 0x126 []
/-- A burst frame, in the layout of HART_REPLY (R539). -/
def opHartBurst (s : State) (h : Nat) (bytes : List Byte) : State :=
  if !s.hartOn h || !s.samples then s
  else ({ s with field.harts := put s.field.harts h { s.hartOf h with burst := bytes, burstCount := (s.hartOf h).burstCount + 1 } }).replaced (0x7940 + h) 3

/-! ## Trim (R540 to R543) -/

/-- Check 14 of TRIM_SELECT. -/
def opTrimSelect (s : State) (x : ReplyTo) : State :=
  let v := x.req.value
  let c := v % 64
  s.check14 x (decide (c < 0x20) || decide (0x30 ≤ c) || (v - c) % 256 ≠ 0 || decide (512 ≤ v)) s.field.trim.isSome
    (!s.inService || (decide (0x28 ≤ c) && !s.pair.ownSelf)) (fun t =>
    let m : Trim := { channel := c, span := tb v 8, zero := (t.chan c).trimZero, spanBefore := (t.chan c).trimSpan, session := x.session, last := t.time.now }
    (({ t with field.trim := some m }).redriveGroup (groupOf c)).trimRecord m x.session)
/-- The trim after a number of steps, none when it would leave its limits (R541). -/
def stepped (s : State) (t : Trim) (n : Int) : Option Chan :=
  let x := s.chan t.channel
  let y : Chan := if t.span then { x with trimSpan := x.trimSpan + 25 * n } else { x with trimZero := x.trimZero + 500 * n }
  if y.trimSpan.natAbs ≤ 20000 ∧ y.trimZero.natAbs ≤ 200000 then some y else none
/-- An adjustment applied. -/
def adjust (s : State) (t : Trim) (n : Int) (y : Chan) : State :=
  (({ s with field.trim := some { t with steps := t.steps + n, last := s.time.now }, field.chans := put s.field.chans t.channel y }).redriveGroup (groupOf t.channel) true)
/-- Check 14 of TRIM_ADJUST. -/
def opTrimAdjust (s : State) (x : ReplyTo) : State :=
  let n := sgn (BitVec.ofNat 32 x.req.value)
  let far := decide (1000 < n.natAbs)
  match s.field.trim with
  | none => s.check14 x far false true id
  | some t => match s.stepped t n with
    | none => s.check14 x true false false id
    | some y => s.check14 x far false false (fun u => u.adjust t n y)
/-- The front keys act: in SERVICE, with presence permitted and a trim selected (R541). -/
def keysAct (s : State) : Option Trim := if s.inService ∧ s.sess.presenceUntil.elim false (fun e => decide (s.time.mono < e)) then s.field.trim else none
/-- A press of TRIM+ or TRIM-: one step, or ignored with E-0x125. -/
def opTrimKey (s : State) (plus : Bool) : State :=
  let n : Int := if plus then 1 else -1
  match s.keysAct with
  | none => s.trigger 0x125 []
  | some t => (s.stepped t n).elim (s.trigger 0x125 []) (fun y => s.adjust t n y)
/-- A key held for more than 1 s: a further step, ten per second. -/
def opTrimRepeat (s : State) (plus : Bool) (held : Ns) : State :=
  let n : Int := if plus then 1 else -1
  if held ≤ 1000000000 then s else s.keysAct.elim s (fun t => (s.stepped t n).elim s (fun y => s.adjust t n y))
/-- A trim is stored (R542). -/
def storeTrim (s : State) (t : Trim) (session : Word) : State := (({ s with field.trim := none }).redriveGroup (groupOf t.channel)).trimRecord t session
/-- Check 14 of TRIM_END: 1 stores, 2 cancels. -/
def opTrimEnd (s : State) (x : ReplyTo) : State :=
  let v := x.req.value
  s.check14 x (!(v = 1 || v = 2)) false s.field.trim.isNone (fun u => if v = 1 then u.field.trim.elim u (fun t => u.storeTrim t x.session) else if v = 2 then u.cancelTrim (some x.session) else u)
/-- Both keys held for 2 s store the trim; what E-0x124 holds for "keys" is free (R542). -/
def opTrimKeys (s : State) : State := s.keysAct.elim (s.trigger 0x125 []) (fun t => ({ s with draws := s.draws + 1 }).storeTrim t (s.freeAt 0))
/-- 15 min without an adjustment (R542). -/
def opTrimIdle (s : State) : State := if s.field.trim.elim false (fun t => decide (t.last + 900000000000 ≤ s.time.now)) then s.cancelTrim else s
/-- Check 14 of FB_WATCHDOG, RESTORE_POLICY and CONVERT_BASE (Table 18.5). -/
def opFieldSetting (s : State) (x : ReplyTo) : State :=
  let v := x.req.value
  match x.req.sub.toNat with
  | 0 => s.check14 x (v < 5 || 500 < v) false false (fun t => { t with field.watchdog := BitVec.ofNat 16 v })
  | 1 => s.check14 x (decide (3 < v)) false false (fun t =>
      let u := { t with field.restorePolicy := BitVec.ofNat 8 v }
      [1, 2].foldl (fun (w : State) g => if tb v (g - 1) && (w.grp g).restoreReady then w.resume g else w) u)
  | _ => s.check14 x (decide (3 < v)) false false (fun t => { t with field.convertBase := BitVec.ofNat 8 v })

end State

/-- OUTPUT_UPDATE (R520). -/
def execOutputUpdate (group : Nat) (s : State) : Host.Outcome State Fault Refusal := .next (s.opOutputUpdate group)
/-- FB_WATCHDOG_EXPIRY (R523). -/
def execFbWatchdogExpiry (group : Nat) (s : State) : Host.Outcome State Fault Refusal := .next (s.opWatchdog group)
/-- DIGITAL_INPUT_EDGE (R529). -/
def execDigitalInputEdge (channel : Nat) (on : Bool) (tag : Nat) (s : State) : Host.Outcome State Fault Refusal := .next (s.opInputEdge channel on tag)
/-- ANALOG_CONVERSION (R533). -/
def execAnalogConversion (group : Nat) (microamps : List Int) (s : State) : Host.Outcome State Fault Refusal := .next (s.opConversion group microamps)
/-- SUPPLY_SAMPLE (R525). -/
def execSupplySample (group millivolts : Nat) (s : State) : Host.Outcome State Fault Refusal := .next (s.opSupply group millivolts)
/-- GROUP_SWITCH_OFF (R526). -/
def execGroupSwitchOff (group : Nat) (s : State) : Host.Outcome State Fault Refusal := .next (s.opSwitchOff group)
/-- RESTORE_READY (R527). -/
def execRestoreReady (group : Nat) (s : State) : Host.Outcome State Fault Refusal := .next (s.opRestoreReady group)
/-- GROUP_RESTORE (R527). -/
def execGroupRestore (r : Req) (s : State) : Host.Outcome State Fault Refusal :=
  .next (if rowFor r 0x7901 2 || rowFor r 0x7902 2 then s.forwarded r 2 State.opGroupRestore else s)
/-- ENERGY_STORE_CHARGED (R531). -/
def execEnergyStoreCharged (group : Nat) (s : State) : Host.Outcome State Fault Refusal := .next (s.opStoreCharged group)
/-- OUTPUT_OVERLOAD (R531). -/
def execOutputOverload (channel milliamps : Nat) (lasted : Ns) (s : State) : Host.Outcome State Fault Refusal := .next (s.opOverload channel milliamps lasted)
/-- OVERLOAD_RETRY (R531). -/
def execOverloadRetry (channel : Nat) (ok : Bool) (s : State) : Host.Outcome State Fault Refusal := .next (s.opOverloadRetry channel ok)
/-- READBACK_COMPARE (R532). -/
def execReadbackCompare (channel : Nat) (state : Bool) (s : State) : Host.Outcome State Fault Refusal := .next (s.opReadback channel state)
/-- WIRE_BREAK_CHANGE (R530). -/
def execWireBreakChange (channel : Nat) (broken : Bool) (s : State) : Host.Outcome State Fault Refusal := .next (s.opWireBreak channel broken)
/-- LOOP_COMPLIANCE (R536). -/
def execLoopCompliance (channel : Nat) (microamps : Int) (s : State) : Host.Outcome State Fault Refusal := .next (s.opLoop channel microamps true)
/-- LOOP_COMPLIANCE_CLEARED (R536). -/
def execLoopComplianceCleared (channel : Nat) (microamps : Int) (s : State) : Host.Outcome State Fault Refusal := .next (s.opLoop channel microamps false)
/-- HART_REQUEST (R538). -/
def execHartRequest (r : Req) (s : State) : Host.Outcome State Fault Refusal :=
  .next (if 0x7940 ≤ r.index.toNat ∧ r.index.toNat ≤ 0x794F ∧ r.sub = 1 then s.forwarded r 5 State.opHartRequest else s)
/-- HART_TRANSACTION_DONE (R538). -/
def execHartTransactionDone (hart : Nat) (result : HartResult) (s : State) : Host.Outcome State Fault Refusal := .next (s.opHartDone hart result)
/-- HART_BURST_FRAME (R539). -/
def execHartBurstFrame (hart : Nat) (bytes : List Byte) (s : State) : Host.Outcome State Fault Refusal := .next (s.opHartBurst hart bytes)
/-- TRIM_SELECT (R540). -/
def execTrimSelect (r : Req) (s : State) : Host.Outcome State Fault Refusal := .next (if rowFor r 0x7903 0 then s.forwarded r 2 State.opTrimSelect else s)
/-- TRIM_ADJUST (R541). -/
def execTrimAdjust (r : Req) (s : State) : Host.Outcome State Fault Refusal := .next (if rowFor r 0x7903 1 then s.forwarded r 2 State.opTrimAdjust else s)
/-- TRIM_KEY_PRESS (R541). -/
def execTrimKeyPress (plus : Bool) (s : State) : Host.Outcome State Fault Refusal := .next (s.opTrimKey plus)
/-- TRIM_KEY_REPEAT (R541). -/
def execTrimKeyRepeat (plus : Bool) (heldFor : Ns) (s : State) : Host.Outcome State Fault Refusal := .next (s.opTrimRepeat plus heldFor)
/-- TRIM_STORE (R542): a TRIM_END that is not 2, or both keys. -/
def execTrimStore (by_ : StoreBy) (s : State) : Host.Outcome State Fault Refusal :=
  .next (match by_ with
    | .command r => if rowFor r 0x7903 2 && r.value ≠ 2 then s.forwarded r 2 State.opTrimEnd else s
    | .keys => s.opTrimKeys)
/-- TRIM_CANCEL (R542). -/
def execTrimCancel (r : Req) (s : State) : Host.Outcome State Fault Refusal := .next (if rowFor r 0x7903 2 && r.value = 2 then s.forwarded r 2 State.opTrimEnd else s)
/-- TRIM_IDLE_TIMEOUT (R542). -/
def execTrimIdleTimeout (s : State) : Host.Outcome State Fault Refusal := .next s.opTrimIdle

end Sys2Proof.Machine
end

