-- ==== Sys2Proof/Machine/Sedge.lean ====
section
/-! DEFINITION. Sedge: its log, the sensors, the cover and seat switches, the feeds, and firmware packages (19, 20). -/
namespace Sys2Proof.Machine

/-! ## Sensors (Table 19.2) -/

/-- Nominal value of a rail, in mV. -/
def railNominal (n : Nat) : Int :=
  match n with
  | 8 => 12000 | 9 => 5000 | 10 => 3300 | 11 => 3300 | 12 => 1800 | 13 => 850 | 14 => 900 | 15 => 1000 | 16 => 1200 | 17 => 2500 | 18 => 600 | 19 => 1100 | _ => 0
/-- Warning and limit thresholds of a temperature, in m°C. -/
def temperatureLimits (n : Nat) : Int × Int :=
  match n with
  | 0 => (72000, 85000) | 1 => (105000, 120000) | 2 => (85000, 95000) | 3 => (100000, 115000) | _ => (90000, 105000)
/-- Warning threshold of a current, in mA. -/
def currentLimit (n : Nat) : Int := if n = 22 then 28000 else if n = 23 then 6000 else 2000
/-- The band of a reading, each threshold drawn in by a margin: 0 normal, 1 warning, 2 limit. Rails compare in hundredths of a percent of nominal. -/
def bandOf (n : Nat) (v : Int) (inner : Bool) : Nat :=
  if n < 6 then
    let m : Int := if inner then v + 2000 else v
    if (temperatureLimits n).2 < m then 2 else if (temperatureLimits n).1 < m then 1 else 0
  else if n < 8 then
    let h : Int := if inner then 240 else 0
    if v - h < 19200 ∨ 30000 < v + h then 2 else if v - h < 20400 ∨ 29000 < v + h then 1 else 0
  else if n < 20 then
    let d : Int := (v - railNominal n).natAbs * 100
    let h : Int := if inner then railNominal n else 0
    if 6 * railNominal n < d + h then 2 else if 3 * railNominal n < d + h then 1 else 0
  else
    let m : Int := if inner then v * 20 + currentLimit n else v * 20
    if currentLimit n * 20 < m then 1 else 0
/-- The band that a sample points to: a harsher one at once, a milder one only inside the hysteresis, 3 for a failed reading (R550). -/
def bandAim (n band : Nat) (v : Int) (failed : Bool) : Nat :=
  if failed then 3
  else if band < 3 ∧ band < bandOf n v false then bandOf n v false
  else if bandOf n v true < band then bandOf n v true
  else band
/-- A sensor after a sample: it changes band after three samples in a row that point there; a failed reading does at once (R550). -/
def Sensor.sample (x : Sensor) (n : Nat) (v : Int) (failed : Bool) : Sensor :=
  let aim := bandAim n x.band v failed
  let run := if aim = x.band then 0 else if aim = x.candidate then x.run + 1 else 1
  if aim = 3 ∨ (aim ≠ x.band ∧ 3 ≤ run) then { value := v, band := aim, candidate := aim, run := 0 }
  else { x with value := v, candidate := aim, run := run }
/-- The warning detector of a sensor, and its limit detector where it has one of its own (Table 19.2). -/
def warnDet (n : Nat) : Option Nat :=
  if n < 6 then some (304 + n) else if n < 8 then none else if n < 20 then some (310 + n) else some (311 + n)

namespace State

/-! ## The Sedge log (R548, R553) -/

/-- An entry of the Sedge log, posted to Moraine as E-0x130 with KIND, LOG_SEQ and DATA. -/
def logEntry (s : State) (kind subject : Nat) (a b c : Nat) : State :=
  let e : LogEntry := { seq := s.sedge.logNewest + 1, boot := BitVec.ofNat 32 s.moraine.boot, mono := s.time.mono, kind := kind, subject := subject,
                        data := [BitVec.ofNat 32 a, BitVec.ofNat 32 b, BitVec.ofNat 32 c] }
  ({ s with sedge.log := (e :: s.sedge.log).take 8192, sedge.logNewest := s.sedge.logNewest + 1 }).trigger 0x130 [kind, e.seq.toNat, a, b, c]
/-- SEDGE_STORE_RETRY: a write that fails, again or for the first time, raises D337 and stays outstanding. -/
def opStoreRetry (s : State) (ok : Bool) : State :=
  if ok then { s with sedge.storeFailed := false } else (({ s with sedge.storeFailed := true }).occurOpen 337).settle

/-! ## Sensors (R550) -/

/-- One sensor sampled, with its BAND entry. -/
def sampleSensor (s : State) (n : Nat) (v : Int) (failed : Bool) : State :=
  let x := s.sensor n
  let y := x.sample n v failed
  let t := { s with sedge.sensors := put s.sedge.sensors n y }
  if y.band = x.band then t else t.logEntry 3 n x.band y.band (i32 v).toNat
/-- A level detector follows a condition. -/
def level (s : State) (d : Nat) (on : Bool) : State := if on then s.riseOpen d else s.fall d
/-- A sensor is in a band. -/
def inBand (s : State) (n b : Nat) : Bool := (s.sensor n).band = b
/-- The detectors of Table 19.2 and D340 as the bands stand. -/
def judgeSensors (s : State) : State :=
  let warn := (List.range 24).foldl (fun (u : State) n => (warnDet n).elim u (fun d => u.level d (u.inBand n 1 || u.inBand n 2))) s
  let hot := (List.range 6).foldl (fun (u : State) n => u.level (310 + n) (u.inBand n 2)) warn
  let feeds := (List.range 2).foldl (fun (u : State) k => u.level (316 + k) (u.inBand (6 + k) 2)) hot
  let rails := (feeds.level 330 ((List.range 12).any (fun k => k ≠ 5 && feeds.inBand (8 + k) 2))).level 26 (feeds.inBand 13 2)
  rails.level 340 (rails.sedge.sensors.any (fun e => e.2.band = 3))
/-- What the feeds read; both below 16.0 V no longer lasts once one of them is above (R574). -/
def noteFeeds (s : State) (a b : Nat) : State :=
  { s with sedge.feedA := { s.sedge.feedA with millivolts := a }, sedge.feedB := { s.sedge.feedB with millivolts := b }
           sedge.lowSince := if a < 16000 ∧ b < 16000 then s.sedge.lowSince else none }
/-- SENSOR_SAMPLE: the 24 readings, and the sensors that read outside their physical range. -/
def opSensors (s : State) (l : List Int) (failed : List Nat) : State :=
  if l.length ≠ 24 ∨ s.sedge.sampledAt.elim false (fun t => decide (s.time.now < t + 10000000)) then s else
  let t := (l.zipIdx.foldl (fun (u : State) e => u.sampleSensor e.2 e.1 (failed.contains e.2)) { s with sedge.sampledAt := some s.time.now })
  ((t.noteFeeds (l.getD 6 0).toNat (l.getD 7 0).toNat).judgeSensors).settle

/-! ## Cover and seat (R551, R552, R577) -/

/-- The cover switch changes: an opening raises D335, a closing ends the sessions of a BLANK module; each writes a COVER entry. -/
def opCover (s : State) (isOpen : Bool) : State :=
  if isOpen = s.sedge.coverOpen then s else
  let t := ({ s with sedge.coverOpen := isOpen }).logEntry 4 (bit isOpen 0) 0 0 0
  if isOpen then (t.occurOpen 335).settle
  else t.endSessions ((t.sess.table.filter (fun (x : Session) => x.blank)).map (fun (x : Session) => x.number))
/-- PRESENT_N has read high for 4 µs: the module loses ownership and asserts its power-on reset. -/
def opUnseated (s : State) (held : Ns) : State :=
  if held < 4000 ∨ !s.sedge.inserted then s else
  let t := (((s.abortPrepareIfOwned 7).dropOwn 8).occurOpen 336).logEntry 11 0 0 0 0
  ({ t with sedge.inserted := false }).assertReset

/-! ## The feeds (R549, R572 to R574) -/

/-- Both feeds fall below 16.0 V: the POWER_FAIL entry, and the cover state is recorded. -/
def opPowerFail (s : State) (a b : Nat) : State :=
  if 16000 ≤ a ∨ 16000 ≤ b ∨ s.sedge.lowSince.isSome then s else
  let t := s.noteFeeds a b
  ({ t with sedge.lowSince := some s.time.now, sedge.coverSaved := some s.sedge.coverOpen }).logEntry 2 (bit s.sedge.coverOpen 0) a b 0
/-- Both feeds have been below 16.0 V for 200 µs: the supply is lost, and power-on reset is held asserted. -/
def opSupplyLost (s : State) : State :=
  if s.sedge.lowSince.elim false (fun t => decide (t + 200000 ≤ s.time.now)) && !s.mode.inReset then (s.abortPrepareIfOwned 7).assertReset else s
/-- A logic feed, 0 A and 1 B. -/
def feed (s : State) (f : Nat) : Feed := if f = 0 then s.sedge.feedA else s.sedge.feedB
/-- A logic feed rewritten. -/
def setFeed (s : State) (f : Nat) (x : Feed) : State := if f = 0 then { s with sedge.feedA := x } else { s with sedge.feedB := x }
/-- A feed above 33.0 V is disconnected. -/
def opFeedOff (s : State) (f mv : Nat) : State :=
  if 2 ≤ f ∨ mv ≤ 33000 ∨ (s.feed f).disconnected then s else s.setFeed f { millivolts := mv, disconnected := true }
/-- A disconnected feed returns once it has been below 31.0 V for 10 ms. -/
def opFeedOn (s : State) (f mv : Nat) (below : Ns) : State :=
  if 2 ≤ f ∨ 31000 ≤ mv ∨ below < 10000000 ∨ !(s.feed f).disconnected then s else s.setFeed f { millivolts := mv, disconnected := false }

/-! ## Firmware packages (R557 to R563) -/

/-- The slot that does not run is rewritten. -/
def setOther (s : State) (p : Option FwPackage) : State :=
  if s.sedge.runningB then { s with sedge.slotA := p } else { s with sedge.slotB := p }
/-- Staging is open: in the life-cycle states of R558, and in recovery. -/
def mayStageFw (s : State) : Bool := s.mode.life = .provisioned || s.mode.life = .inService || s.mode.life = .develop || s.sedge.recovery
/-- Check 14 of FW_STAGE (R558). -/
def opFwStage (s : State) (x : ReplyTo) : State :=
  let b := x.req.bytes
  s.check14 x (x.req.select ≠ 0 || s.sedge.stageTotal < x.req.offset || !writeLength x.req || 2 ^ 28 < x.req.offset + b.length) s.sedge.trial (!s.mayStageFw) (fun t =>
    ({ t with sedge.stage := writeBytes t.sedge.stage x.req.offset b, sedge.stageTotal := max t.sedge.stageTotal (x.req.offset + b.length)
              sedge.stageState := 1, sedge.stageError := 0 }).setOther none)
/-- Check 14 of FW_COMMAND (R558): 1 verifies; 2 discards what is staged, a previous package is no staged one. -/
def opFwCommand (s : State) (x : ReplyTo) : State :=
  let v := x.req.value
  s.check14 x (!(v = 1 || v = 2)) false false (fun t =>
    if v = 1 then { t with sedge.stageState := 2, sedge.stageError := 0 }
    else if v ≠ 2 then t
    else
      let u := ({ t with sedge.stage := [], sedge.stageTotal := 0, sedge.stageState := 0, sedge.stageError := 0 }).replaced 0x7A21 0
      if t.sedge.stageState = 0 ∨ t.sedge.stageState = 5 then u else u.setOther none)
/-- A number in the staged package, big-endian (Table 19.6). -/
def fwNum (s : State) (o n : Nat) : Nat := fromBe (pieceOf s.sedge.stage o n)
/-- The package that the staged bytes hold (Table 19.6). Where in a package the release of its Sedge component stands is not given: it comes with the end of the verification, as does the salt of the signature. -/
def stagedPackage (s : State) (sedgeRelease : Word) (salt : BitVec 512) : FwPackage :=
  { format := BitVec.ofNat 16 (s.fwNum 0 2), product := BitVec.ofNat 16 (s.fwNum 2 2), release := BitVec.ofNat 32 (s.fwNum 4 4), securityVersion := s.fwNum 8 4
    syncProtocol := s.fwNum 12 1, minHw := s.fwNum 13 1, length := s.fwNum 16 8
    hash := Config.sha512 (pieceOf s.sedge.stage 0 (s.sedge.stageTotal - 512)), sedgeRelease := sedgeRelease, bytes := s.sedge.stage, salt := salt }
/-- A component of the staged package, 0 Sedge and 1 runtime: its OFFSET and LENGTH. -/
def component (s : State) (k : Nat) : Nat × Nat := (s.fwNum (24 + 16 * k) 8, s.fwNum (32 + 16 * k) 8)
/-- A component lies inside the package, clear of bytes 0 to 1279 and of the signature. -/
def componentInside (s : State) (k : Nat) : Bool := 1280 ≤ (s.component k).1 && (s.component k).1 + (s.component k).2 + 512 ≤ s.sedge.stageTotal
/-- A component's hash matches it. -/
def componentOk (s : State) (k : Nat) : Bool := (Config.sha512 (pieceOf s.sedge.stage (s.component k).1 (s.component k).2)).toNat = s.fwNum (56 + 64 * k) 64
/-- VENDOR_KEY of the staged package in DER, without its padding. -/
def vendorKey (s : State) : List Byte := (derTake 0x30 (pieceOf s.sedge.stage 256 1024)).elim [] (·.1)
/-- The first check of Table 19.7 that the staged package fails, 0 when none. -/
def packageFault (s : State) (p : FwPackage) : Nat :=
  if p.format ≠ 1 || p.product ≠ 0x4800 || p.length ≠ s.sedge.stageTotal || !s.componentInside 0 || !s.componentInside 1 then 1
  else if Config.sha512 s.vendorKey ≠ Config.vendorKeyHash then 2
  else if !(spkiKey s.vendorKey).elim false (fun k => verifies k p.salt (pieceOf s.sedge.stage 0 (s.sedge.stageTotal - 512)) (BitVec.ofNat 4096 (s.fwNum (s.sedge.stageTotal - 512) 512))) then 3
  else if 3 < p.minHw then 4
  else if s.belowFloor p then 5
  else if !s.componentOk 0 || !s.componentOk 1 then 6
  else 0
/-- The checks of Table 19.7 on the staged bytes and their outcome, with an FW_STAGED entry. -/
def judgePackage (s : State) (sedgeRelease : Word) (salt : BitVec 512) : State :=
  let p := s.stagedPackage sedgeRelease salt
  let e := s.packageFault p
  let t := { s with sedge.stageState := if e = 0 then 3 else 4, sedge.stageError := e }
  (if e = 0 then t.setOther (some p) else t).logEntry 6 e p.release.toNat p.securityVersion (p.hash.toNat / 2 ^ 480)
/-- Verification of the staged bytes ends (R558); which eMMC device failed a write or the read of them is told with it (R214). -/
def opFwVerified (s : State) (sedgeRelease : Word) (salt : BitVec 512) (ok1 ok2 : Bool) : State :=
  if s.sedge.stageState ≠ 2 then s else (s.judgePackage sedgeRelease salt).flashResult ok1 ok2
/-- The argument of FW_ACTIVATE: OP, three bytes of 0, a package hash (R559). -/
def fwArgument (a : List Byte) (op : Nat) (p : Option FwPackage) : Bool :=
  a.length = 68 && at_ a 0 1 = op && at_ a 1 3 = 0 && p.elim false (fun q => q.hash.toNat = at_ a 4 64)
/-- Something that R559 refuses FW_ACTIVATE for is in progress. -/
def fwBusy (s : State) : Bool := s.exchanging || s.modeBusy || s.pair.handover = 1 || s.mode.lifePending.isSome || s.sedge.trial || s.mode.rebootDue
/-- A verified FW_ACTIVATE of an operation, or of no operation at all: check 14 and effect; a command whose OP is the other row's waits for that row. -/
def takeFwActivate (s : State) (op : Nat) (range conflict : State → List Byte → Bool) (act : State → Word → State) : State :=
  s.onSigned 0x7A20 (fun t f =>
    let a := f.req.arg
    let code := at_ a 0 1
    if code ≠ op ∧ (code = 1 ∨ code = 2) then s
    else t.check14 (replyOf f) (range t a) t.fwBusy (t.mode.life = .blank || t.mode.life = .retired || conflict t a) (fun u => act u (replyOf f).session))
/-- On a lone module a checkpoint is completed before the final reply (R560). -/
def loneCkpt (s : State) : State := if s.pair.ownSelf && !s.partnerAnswers then (s.beginCkpt).opCkptComplete true true else s
/-- FW_ACTIVATE OP 1: the slot selection record, a lone module's checkpoint, the FW_ACTIVATED entry, E-0x131; the reboot follows the reply (R560). -/
def activate (s : State) (session : Word) : State :=
  let p := s.other
  let t := ({ s with sedge.recordB := !s.sedge.runningB, sedge.trial := true, sedge.attempts := 2 }).loneCkpt
  (({ t with mode.rebootDue := true }).logEntry 7 1 (p.elim 0 (fun q => q.release.toNat)) (p.elim 0 (·.securityVersion)) session.toNat).trigger 0x131 [1, session.toNat]
/-- FW_ACTIVATE. -/
def opFwActivate (s : State) : State :=
  s.takeFwActivate 1 (fun t a => t.sedge.stageState ≠ 3 || !fwArgument a 1 t.other)
    (fun t _ => (t.pair.ownSelf && (t.partnerAnswers || !(t.mode.current = .hold || t.mode.current = .service)))
      || (t.partnerAnswers && t.other.elim 0 (·.syncProtocol) ≠ t.running.elim 0 (·.syncProtocol)))
    activate
/-- FW_ACTIVATE OP 2: fuses are blown up to the running package's SECURITY_VERSION (R563). -/
def raiseFloor (s : State) (session : Word) : State :=
  let old := s.sedge.floor
  let new := s.running.elim old (·.securityVersion)
  (({ s with sedge.floor := new }).logEntry 10 new old (new - old) session.toNat).trigger 0x131 [2, session.toNat]
/-- FLOOR_RAISE. -/
def opFloorRaise (s : State) : State :=
  s.takeFwActivate 2 (fun t a => !fwArgument a 2 t.running || t.running.elim true (fun p => decide (p.securityVersion ≤ t.sedge.floor))) (fun _ _ => false) raiseFloor
/-- FW_ACTIVATE as a write that has passed check 14: the operation its first byte names. -/
def activateAny (s : State) (f : Fwd) : State :=
  match at_ f.req.arg 0 1 with
  | 1 => s.activate (replyOf f).session
  | 2 => s.raiseFloor (replyOf f).session
  | _ => s
/-- FIRMWARE_REBOOT: within 10 ms of an accepted activation the module enters COLD and resets itself (R560). -/
def opReboot (s : State) : State := if s.mode.rebootDue then ({ s with mode.rebootDue := false }).assertReset else s
/-- A trial can be confirmed: in step, or on a lone module in HOLD or RUN 60 s after it left COLD, without SAFE (R562). -/
def trialGood (s : State) : Bool :=
  s.pair.phase = 5 || (s.pair.ownSelf && !s.partnerAnswers && (s.mode.current = .hold || s.mode.current = .run) && s.hub.firstSafe = 0xFFFF
    && s.mode.leftColdAt.elim false (fun t => decide (t + 60000000000 ≤ s.time.now)))
/-- TRIAL_CONFIRMED. -/
def opConfirmed (s : State) : State :=
  if s.sedge.trial && !s.mode.rebootDue && s.trialGood then
    ({ s with sedge.trial := false, sedge.fallback := false, sedge.attempts := 0 }).logEntry 8 (bit s.sedge.runningB 0) s.fwRelease.toNat 0 0
  else s

end State

/-- SENSOR_SAMPLE (R550). -/
def execSensorSample (readings : List Int) (failed : List Nat) (s : State) : Host.Outcome State Fault Refusal := .next (s.opSensors readings failed)
/-- COVER (R551). -/
def execCover (isOpen : Bool) (s : State) : Host.Outcome State Fault Refusal := .next (s.opCover isOpen)
/-- SEDGE_STORE_RETRY (R548). -/
def execSedgeStoreRetry (ok : Bool) (s : State) : Host.Outcome State Fault Refusal := .next (s.opStoreRetry ok)
/-- PRESENT_N_HIGH (R577). -/
def execPresentNHigh (heldFor : Ns) (s : State) : Host.Outcome State Fault Refusal := .next (s.opUnseated heldFor)
/-- POWER_FAIL (R549). -/
def execPowerFail (a b : Nat) (s : State) : Host.Outcome State Fault Refusal := .next (s.opPowerFail a b)
/-- LOGIC_SUPPLY_LOST (R574). -/
def execLogicSupplyLost (s : State) : Host.Outcome State Fault Refusal := .next s.opSupplyLost
/-- FEED_OVERVOLTAGE_DISCONNECT (R573). -/
def execFeedOvervoltageDisconnect (feed mv : Nat) (s : State) : Host.Outcome State Fault Refusal := .next (s.opFeedOff feed mv)
/-- FEED_RECONNECT (R573). -/
def execFeedReconnect (feed mv : Nat) (belowFor : Ns) (s : State) : Host.Outcome State Fault Refusal := .next (s.opFeedOn feed mv belowFor)
/-- FW_STAGE (R558). -/
def execFwStage (r : Req) (s : State) : Host.Outcome State Fault Refusal := .next (if rowFor r 0x7A21 0 then s.forwarded r 5 State.opFwStage else s)
/-- FW_VERIFY (R558). -/
def execFwVerify (r : Req) (s : State) : Host.Outcome State Fault Refusal := .next (if rowFor r 0x7A22 0 && r.value = 1 then s.forwarded r 2 State.opFwCommand else s)
/-- FW_DISCARD (R558). -/
def execFwDiscard (r : Req) (s : State) : Host.Outcome State Fault Refusal := .next (if rowFor r 0x7A22 0 && r.value = 2 then s.forwarded r 2 State.opFwCommand else s)
/-- FW_VERIFY_COMPLETE (R558). -/
def execFwVerifyComplete (sedgeRelease : Word) (salt : BitVec 512) (ok1 ok2 : Bool) (s : State) : Host.Outcome State Fault Refusal :=
  .next (s.opFwVerified sedgeRelease salt ok1 ok2)
/-- FW_ACTIVATE (R559, R560). -/
def execFwActivate (s : State) : Host.Outcome State Fault Refusal := .next s.opFwActivate
/-- FIRMWARE_REBOOT (R560). -/
def execFirmwareReboot (s : State) : Host.Outcome State Fault Refusal := .next s.opReboot
/-- FLOOR_RAISE (R563). -/
def execFloorRaise (s : State) : Host.Outcome State Fault Refusal := .next s.opFloorRaise
/-- TRIAL_CONFIRMED (R562). -/
def execTrialConfirmed (s : State) : Host.Outcome State Fault Refusal := .next s.opConfirmed

end Sys2Proof.Machine
end

