-- ==== Sys2Proof/Machine/Boot.lean ====
section
/-! DEFINITION. Power-on reset, boot, what survives a reset, and the life-cycle change with its wipe (02, 19, 20). -/
namespace Sys2Proof.Machine

/-! ## Settings (R20, R72, R114, R186, R219, R267, R297, R316, R377, R415, R427, R449, R468, R473, R494, R495, R514, R544) -/

/-- A table whose entries take their settings from another's. -/
def carry {α : Type} (d : α) (f : α → α → α) (s o : Tab α) : Tab α :=
  o.foldl (fun t e => put t e.1 (f (get d s e.1) e.2)) (mapTab s (fun _ x => f x d))
/-- A code's limits and snapshot list; a carried bucket is full. -/
def carryCode (x y : CodeSt) : CodeSt :=
  let z := y.relimit
  { x with rate := z.rate, burst := z.burst, newLimit := none, tokens := z.burst * 1000000000, snaps := y.snaps }
/-- A capture group's windows and re-arm setting. -/
def carryGroup (x y : CapGroup) : CapGroup := { x with pre := y.pre, post := y.post, rearm := y.rearm }
/-- A link's settings. -/
def carryLink (x y : Link) : Link := { x with missLimit := y.missLimit, silent := y.silent }
/-- A port's settings. -/
def carryPort (x y : Port) : Port := { x with launchPolicy := y.launchPolicy, ip := y.ip, mask := y.mask, gateway := y.gateway, multicast := y.multicast }
/-- A CAN channel's settings. -/
def carryCan (x y : Can) : Can :=
  { x with mode := y.mode, nominalRate := y.nominalRate, nominalSample := y.nominalSample, dataRate := y.dataRate, dataSample := y.dataSample,
           fdOptions := y.fdOptions, policy := y.policy, abrTimeout := y.abrTimeout }
/-- A channel's trim. -/
def carryTrim (x y : Chan) : Chan := { x with trimZero := y.trimZero, trimSpan := y.trimSpan }

namespace State

/-- Every setting that survives a power-on reset and that a life-cycle change returns to its default, taken from another state. -/
def withSettings (s o : State) : State :=
  { s with
    mode := { s.mode with powerUpPolicy := o.mode.powerUpPolicy, prepareTimeout := o.mode.prepareTimeout }
    xan := { s.xan with udpPort := o.xan.udpPort }
    sess := { s.sess with idleTimeout := o.sess.idleTimeout, revoked := o.sess.revoked, revokedGen := o.sess.revokedGen }
    disp := { s.disp with warns := o.disp.warns }
    drift := { s.drift with eccThreshold := o.drift.eccThreshold }
    prog := { s.prog with revertWindow := o.prog.revertWindow, changeRecord := o.prog.changeRecord, changeHash := o.prog.changeHash }
    pair := { s.pair with ownerEpoch := o.pair.ownerEpoch, ownerSlot := o.pair.ownerSlot }
    hub := { s.hub with leafTimeout := o.hub.leafTimeout }
    moraine := { s.moraine with codes := carry {} carryCode s.moraine.codes o.moraine.codes, notify := o.moraine.notify }
    capture := { s.capture with reorderDelay := o.capture.reorderDelay, share := o.capture.share, groups := carry {} carryGroup s.capture.groups o.capture.groups }
    link := { s.link with links := carry {} carryLink s.link.links o.link.links }
    eth := { s.eth with ports := carry {} carryPort s.eth.ports o.eth.ports, prpConfig := o.eth.prpConfig }
    time := { s.time with stepThreshold := o.time.stepThreshold, holdoverLimit := o.time.holdoverLimit, profile := o.time.profile, clockType := o.time.clockType,
                          ptpPorts := o.time.ptpPorts, domain := o.time.domain, priority1 := o.time.priority1, priority2 := o.time.priority2,
                          oneStep := o.time.oneStep, logSync := o.time.logSync, offsetAlarm := o.time.offsetAlarm }
    can := { s.can with node := o.can.node, channels := o.can.channels, chan := carry {} carryCan s.can.chan o.can.chan }
    field := { s.field with watchdog := o.field.watchdog, restorePolicy := o.field.restorePolicy, convertBase := o.field.convertBase } }

/-! ## The wipe of a life-cycle change (R53, R54) -/

/-- On-chip SRAM, DRAM and the flash areas that a life-cycle change wipes (R54): settings of the configuration record stand until the new state is written, the key store, firmware slots and Sedge memory beyond. -/
def clearStores (s : State) : State :=
  { s with
    mem := [], sig := {}, disp := { warns := s.disp.warns }, firn := {}
    prog := { revertWindow := s.prog.revertWindow, changeRecord := s.prog.changeRecord, changeHash := s.prog.changeHash }
    drift := { eccThreshold := s.drift.eccThreshold }
    moraine := { s.moraine with queue := [], ring := [], store := [], persisting := [], persistBusy := false, cursors := [], posts := [] }
    capture := { s.capture with waiting := [], queue := [], writerFree := 0, overwritten := none, buffer := [], held := [], cursors := [], groups := carry {} carryGroup [] s.capture.groups }
    sess := { s.sess with stage := [], stageTotal := 0, quoteNonce := [], quote := [], quoteBusy := false }
    pair := { s.pair with received := [], buffer := [], bufferInputs := [], forceOut := [], paramOut := [], constOut := [], armOut := [] }
    xan := { s.xan with queue := [], latched := [], held := [] }
    eth := { s.eth with ports := mapTab s.eth.ports (fun _ p => { p with waiting := [], sending := none }), duplicates := [], nodes := [] }
    link := { s.link with waiting := [], slots := 0, links := mapTab s.link.links (fun _ l => { l with positions := [], cycleOpen := false }) }
    can := { s.can with chan := mapTab s.can.chan (fun _ c => { c with replies := [], objects := [] }) }
    field := { s.field with trim := none, harts := [] } }
/-- The wiping steps as far as verification, each with its LIFECYCLE entry (R53, R54). -/
def wipe (s : State) : State :=
  let t := { s.clearStores with mode.wipeStep := 5 }
  let code := s.mode.lifePending.elim 0 (·.code)
  [2, 3, 4, 5].foldl (fun (u : State) k => u.logEntry 5 code k 0 0) t
/-- Step 2 of R53, for RETIRED alone: the key store and its sealed copies are zeroised. -/
def zeroise (s : State) : State :=
  if s.mode.lifePending = some .retired then
    (((({ s with sess := { s.sess with ks := {}, ksLoaded := false, sealed1 := none, sealed2 := none, sealedCopy1 := 1, sealedCopy2 := 1 }
                 mode.wipeStep := 1 }).emptyStage.replaced 0x1120 0).replaced 0x1121 0).replaced 0x1122 0).logEntry 5 4 1 0 0
  else s
/-- The wipe from the first step of R53. -/
def startWipe (s : State) : State := s.zeroise.wipe
/-- A life-cycle transition of Table 2.10. -/
def mayBecome (life target : Life) : Bool :=
  match life, target with
  | .blank, .provisioned => true
  | .provisioned, .inService => true
  | .provisioned, .develop => true
  | .inService, .develop => true
  | .develop, .inService => true
  | .retired, _ => false
  | _, .retired => true
  | _, _ => false
/-- From BLANK: the identity key pair is generated, its private key what the true random source gives (R121), the staged certificate installed and the key store sealed (R125). -/
def provision (s : State) (secret : BitVec 4096) : State :=
  if s.mode.life = .blank && s.mode.lifePending = some .provisioned then
    ((({ s with sess.ks := { s.sess.ks with secret := some secret, authority := s.keyStage }}).reseal).replaced 0x1120 0).replaced 0x1122 0
  else s
/-- An accepted change: the final reply, then COLD, the pending record and the wipe (R53). -/
def beginLife (s : State) (x : ReplyTo) (target : Life) (secret : BitVec 4096) : State :=
  let t := ({ s.answer x 0 with mode.lifePending := some target }).provision secret
  (if t.mode.current = .cold then t else (t.dropOwn 1).immediate .cold x.session).endAllSessions.startWipe
/-- Check 14 of a verified life-cycle command (R52, R125) and the change; only the transitions of Table 2.10 exist, whoever writes. -/
def lifecycle (secret : BitVec 4096) (t : State) (f : Fwd) : State :=
  let v := fromBe f.req.arg
  let own := t.stagedCert (fun c => f.auth.elim false (fun a => c.key = a.clientKey))
  t.check14Later (replyOf f) (f.req.arg.length ≠ 4 || 4 < v || (t.mode.life = .blank && v = 1 && !own)) (t.mode.lifePending.isSome || t.mode.rebootDue)
    (!mayBecome t.mode.life (lifeOf v) || t.pair.ownSelf || !(t.mode.current = .cold || t.mode.current = .track || t.mode.current = .service))
    (fun u => if v ≤ 4 && mayBecome u.mode.life (lifeOf v) && u.mode.lifePending.isNone then u.beginLife (replyOf f) (lifeOf v) secret else u)
/-- LIFECYCLE_REQUEST. -/
def opLifecycle (s : State) (secret : BitVec 4096) : State := s.onSigned 0x1101 (lifecycle secret)
/-- WIPE_COMPLETE: the wipe has verified, so that what it wiped reads zero; the new state is written, every setting is at its default, and the module reboots (R53, R59). -/
def opWiped (s : State) : State :=
  match s.mode.lifePending with
  | none => s
  | some l =>
    if s.mode.wipeStep ≠ 5 ∨ s.mode.inReset then s else
    let t := s.clearStores.withSettings State.reset
    ({ t with mode := { t.mode with life := l, lifePending := none, wipeStep := 0, verifyFailed := false, wipeCount := t.mode.wipeCount + 1 }
              time.stored := none, field.chans := mapTab t.field.chans (fun _ x => carryTrim x {}) }).assertReset
/-- WIPE_VERIFY_FAILED: read-back found a non-zero word; the wipe repeats from SRAM (R59). -/
def opWipeFailed (s : State) : State :=
  if s.mode.lifePending.isSome && s.mode.wipeStep = 5 && !s.mode.inReset then ({ s with mode.verifyFailed := true }).wipe else s

/-! ## Power-on reset (R55 to R57, R561, R578) -/

/-- A package may boot: the slot holds one that stages 1 and 2 verify, not below the floor (R561, R563). -/
def bootable (s : State) (ok : Bool) (p : Option FwPackage) : Bool := ok && p.elim false (fun q => !s.belowFloor q)
/-- The slot's package under its letter. -/
def slotOf (s : State) (b : Bool) : Option FwPackage := if b then s.sedge.slotB else s.sedge.slotA
/-- A fallback to the previous slot: TRIAL ends, FALLBACK, the FW_FALLBACK entry with the release refused and its reason, D338 (R561). -/
def fallBack (s : State) (reason : Nat) : State :=
  let refused := s.slotOf s.sedge.recordB
  let t := { s with sedge.runningB := !s.sedge.recordB, sedge.recordB := !s.sedge.recordB, sedge.trial := false, sedge.attempts := 0, sedge.fallback := true, sedge.stageState := 5 }
  (t.logEntry 9 (bit t.sedge.runningB 0) (refused.elim 0 (fun q => q.release.toNat)) reason 0).occurOpen 338
/-- The slot selection of a boot. -/
def selectSlot (s : State) (okA okB : Bool) : State :=
  let ok := fun (b : Bool) => s.bootable (if b then okB else okA) (s.slotOf b)
  let b := s.sedge.recordB
  if s.sedge.trial then
    if 0 < s.sedge.attempts && ok b then
      { s with sedge.runningB := b, sedge.attempts := s.sedge.attempts - 1, sedge.stageState := 5, sedge.stage := [], sedge.stageTotal := 0, sedge.fallback := false }
    else
      let t := s.fallBack (if s.sedge.attempts = 0 then 1 else 2)
      if ok (!b) then t else { t with sedge.recovery := true }
  else if ok b then { s with sedge.runningB := b, sedge.fallback := false }
  else if ok (!b) then { s with sedge.runningB := !b, sedge.recordB := !b, sedge.fallback := false }
  else { s with sedge.runningB := b, sedge.recovery := true }
/-- The BOOT entry (R549, Table 19.4): UNCLEAN when no POWER_FAIL entry follows the last BOOT entry. -/
def bootEntry (s : State) : State :=
  let clean := (s.sedge.log.takeWhile (fun e => e.kind ≠ 1)).any (fun e => e.kind = 2)
  let unclean := s.sedge.log.any (fun e => e.kind = 1) && !clean
  s.logEntry 1 (bit s.sedge.runningB 0) s.fwRelease.toNat (s.running.elim 0 (·.securityVersion)) (bit unclean 0 + bit s.sedge.trial 1 + bit s.sedge.fallback 2)
/-- The entries of the Sedge and the runtime component of the slot that boots (Table 19.5, stages 1 and 2). -/
def measureFirmware (s : State) (p : PowerUp) : State :=
  if s.sedge.recovery then s else
  let e := fun (c : Nat) (d : BitVec 512) (r : Word) =>
    (⟨c, if s.sedge.fallback then 2 else 0, bit s.sedge.runningB 0, r, BitVec.ofNat 32 (s.running.elim 0 (·.securityVersion)), d⟩ : BootEntry)
  let digest := fun (o : Nat) (shipped : BitVec 512) => s.running.elim 0 (fun q => if q.bytes.isEmpty then shipped else BitVec.ofNat 512 (fromBe (pieceOf q.bytes o 64)))
  (s.appendBoot (e 1 (digest 56 p.sedgeDigest) (s.running.elim 0 (·.sedgeRelease)))).appendBoot (e 2 (digest 120 p.runtimeDigest) s.fwRelease)
/-- What a power-on reset keeps: the settings, the life-cycle record, flash, the sealed key store, the trims and Sedge's own state; all else is as at reset (R56, R57). -/
def kept (s : State) (p : PowerUp) : State :=
  let b := State.reset.withSettings s
  let boot := s.moraine.boot + 1
  let last := s.moraine.store.head?.elim 0 (·.seq)
  { b with
    mode := { b.mode with life := s.mode.life, lifePending := s.mode.lifePending, verifyFailed := s.mode.verifyFailed, wipeCount := s.mode.wipeCount, resetAt := s.time.now }
    time := { b.time with now := s.time.now, stored := s.time.stored, storedAt := s.time.storedAt, servo := if b.time.profile = 0 then 0 else 1 }
    xan := { b.xan with gens := upd 0 s.xan.gens 0 (· + 1) }
    sess := { b.sess with sealed1 := s.sess.sealed1, sealed2 := s.sess.sealed2, sealedCopy1 := s.sess.sealedCopy1, sealedCopy2 := s.sess.sealedCopy2,
                          generation := s.sess.generation, quoteGen := s.sess.quoteGen, ksLoaded := s.mode.life = .blank }
    drift := { b.drift with area := s.drift.area, checkpoints := s.drift.checkpoints, ckptSequence := s.drift.ckptSequence }
    prog := { b.prog with flash := mapTab s.prog.flash (fun _ f => { f with total := 0 }) }
    pair := { b.pair with slotPos := p.slotPos, peerPresent := p.peerPresent, ownPeer := p.ownPeer
                          lowSince := if p.ownPeer then none else some s.time.now, highSince := if p.ownPeer then some s.time.now else none }
    hub := { b.hub with leafLimit := s.hub.leafTimeout, aliveAt := s.time.now }
    moraine := { b.moraine with boot := boot, store := s.moraine.store, newest := last, persisted := last }
    capture := { b.capture with epoch := max boot (s.capture.epoch + 1) }
    eth := { b.eth with prpActive := b.eth.prpConfig }
    field := { b.field with chans := mapTab s.field.chans (fun c x => if p.trimBad.contains c then {} else carryTrim {} x) }
    sedge := { s.sedge with sensors := [], sampledAt := none, coverOpen := p.coverOpen, inserted := true, bootLog := [], bootFull := false, recovery := false
                            stageState := if s.sedge.stageState = 2 then 1 else s.sedge.stageState
                            feedA := { millivolts := p.feedA, disconnected := decide (33000 < p.feedA) }
                            feedB := { millivolts := p.feedB, disconnected := decide (33000 < p.feedB) }, lowSince := none }
    draws := s.draws, pending := s.pending }
/-- A feed has been above 19.2 V (R578) and is not cut off (R573). -/
def supplied (p : PowerUp) : Bool := (19200 < p.feedA && p.feedA ≤ 33000) || (19200 < p.feedB && p.feedB ≤ 33000)
/-- The first things after the release: E-0x0F2, the slot selection, the BOOT entry, the cover, the trims, a pending wipe (R55, R420, R543, R551, R561). -/
def powerUp (s : State) (p : PowerUp) : State :=
  let last := s.moraine.store.head?.elim 0 (fun r => r.seq.toNat)
  let t0 := (s.kept p).trigger 0x0F2 (two last ++ [s.moraine.boot])
  let t := ((t0.selectSlot p.slotAOk p.slotBOk).bootEntry).measureFirmware p
  let u := if s.sedge.coverSaved.elim false (fun c => c ≠ p.coverOpen) then t.occurOpen 335 else t
  let bad := (s.field.chans.filter (fun e => p.trimBad.contains e.1)).map (·.1)
  let v := bad.foldl (fun (w : State) c => w.occur 262 c) u
  if v.mode.lifePending.isSome then v.startWipe else v
/-- POWER_ON_RESET_RELEASE: out of a held reset, or for the first time. -/
def opPowerOn (s : State) (p : PowerUp) : State :=
  if (s.mode.inReset || s.moraine.boot = 0) && supplied p then s.powerUp p else s

/-! ## Boot (R25, R120, R314, R372, R554) -/

/-- HUB_STARTUP_TEST_COMPLETE: ALIVE toggles unless something freezes it. -/
def opHubTested (s : State) : State :=
  if s.mode.inReset ∨ s.mode.hubTested then s
  else { s with mode.hubTested := true, hub.aliveFrozen := s.safeCause || s.hub.leafStopped, hub.aliveAt := s.time.now }
/-- MONOTONIC_CLOCK_START_TIMEOUT: no HELLO has started the clock within 200 ms. -/
def opClockStart (s : State) : State :=
  if s.mode.inReset ∨ s.time.monoRun ∨ s.time.now < s.mode.resetAt + 200000000 then s else s.startClock 0
/-- The key store is loaded from the sealed copy that authenticates and bears the higher version, and the other copy is rewritten to match; a BLANK module looks for none (R120). The operands say why a copy that is there does not load. -/
def loadKeyStore (s : State) (c1 c2 : Nat) : State :=
  if s.mode.life = .blank then { s with sess.ksLoaded := true } else
  let usable := fun (c : Option KeyStore) (why : Nat) => if why = 0 then c else none
  let load := fun (k : KeyStore) => { s with sess := { s.sess with ks := k, ksLoaded := true, sealed1 := some k, sealed2 := some k, sealedCopy1 := 0, sealedCopy2 := 0 } }
  match usable s.sess.sealed1 c1, usable s.sess.sealed2 c2 with
  | some a, some b => load (if a.version < b.version then b else a)
  | some a, none => load a
  | none, some b => load b
  | none, none => { s with sess := { s.sess with ks := {}, ksLoaded := false, sealedCopy1 := if s.sess.sealed1.isNone then 1 else c1
                                                 sealedCopy2 := if s.sess.sealed2.isNone then 1 else c2 } }
/-- A copy of an item of flash can be read on one of the eMMC devices (R214). -/
def readable (m : BootMeasure) (item : Nat) : Bool := !(m.bad1.contains item && m.bad2.contains item)
/-- What is read of the images in the flash slots, for stage 5 to judge. -/
def readSlots (s : State) (l : List ImageReading) : State :=
  { s with prog.flash := mapTab s.prog.flash (fun k f => (l.find? (fun r => r.slot = k)).elim f (fun r =>
      if f.image.isSome then f else { f with image := some r.image, certSalt := r.certSalt, salt := r.salt })) }
/-- What a boot finds of the flash (R214, R217): a checkpoint counts when a device that took it gives it back, an image slot when either device does; D074 and D075 tell of the devices that gave something back wrong. -/
def readFlash (s : State) (m : BootMeasure) : State :=
  ({ s with
     drift.checkpoints := s.drift.checkpoints.filter (fun c => (c.on1 && !m.bad1.contains (2 + c.area)) || (c.on2 && !m.bad2.contains (2 + c.area)))
     prog.flash := mapTab (s.readSlots m.images).prog.flash (fun k f => if readable m k then f else { f with image := none }) }).flashResult m.bad1.isEmpty m.bad2.isEmpty
/-- Stage 3 (Table 19.5): the key store is loaded and measured. -/
def stage3 (s : State) (m : BootMeasure) : State :=
  let t := s.loadKeyStore m.copy1 m.copy2
  let k := t.sess.ks
  t.appendMeasured 3 (if t.sess.ksLoaded then 0 else 1) 0
    (if t.sess.ksLoaded then Config.sha512 (Config.keyStoreRecord k.authority k.deviceCert (k.secret.elim [] (fun x => spkiBytes (Config.modulusOf x))) k.version) else m.keyStoreDigest)
/-- BOOT_MEASUREMENT_COMPLETE: stages 3 and 4; a configuration record that fails on both devices is replaced by the defaults, with D337. In recovery no runtime component runs: Sedge loads the key store, and stage 4 does not follow (R554, R561). -/
def opMeasured (s : State) (m : BootMeasure) : State :=
  if s.mode.inReset ∨ s.mode.measured ∨ s.mode.lifePending.isSome then s
  else if s.sedge.recovery then (if s.sedge.bootLog.isEmpty then s.stage3 m else s)
  else
    let u := (s.stage3 m).readFlash m
    let ok := readable m 4
    let v := if ok then u else (u.withSettings State.reset).occurOpen 337
    { (v.appendMeasured 4 (if ok then 0 else 1) 0 (if ok then v.configHash else m.configDigest)).settle with mode.measured := true }
/-- The result for a program image slot at boot: none of an empty slot, else the STAGE_ERROR that refuses the image, 0 when nothing does; without a key store no certificate verifies. -/
def slotFault (s : State) (k : Nat) : Option Nat :=
  (find s.prog.flash k).bind (fun f => if f.bytes.isEmpty then none else some (s.imageFault f false))
/-- The image slot that boots: the one last executing when it verifies, else the other. -/
def bootSlot (s : State) : Option Nat := [s.drift.area, 1 - s.drift.area].find? (fun k => s.slotFault k = some 0)
/-- END_OF_BOOT: the program image is verified and loaded; what follows is pairing or the claim of a lone module. -/
def opEndOfBoot (s : State) : State :=
  if s.mode.inReset ∨ !s.mode.measured ∨ s.mode.booted then s else
  let t0 := { s with mode.booted := true }
  let t := if s.sess.ksLoaded then t0 else t0.trigger 0x022 [s.sess.sealedCopy1, s.sess.sealedCopy2]
  let u := match t.bootSlot with
    | some k => ((find t.prog.flash k).bind fileImage).elim t (fun i => t.loadImage i k)
    | none => ({ t with mode.noImage := true }).trigger 0x021 [(t.slotFault 0).getD 0, (t.slotFault 1).getD 0]
  (((u.judgeCheckpoint.sendSync .hello).arbitrate).joinPartner).judgePorts.settle
end State

/-- POWER_ON_RESET_RELEASE (R578). -/
def execPowerOnResetRelease (p : PowerUp) (s : State) : Host.Outcome State Fault Refusal := .next (s.opPowerOn p)
/-- HUB_STARTUP_TEST_COMPLETE (R372). -/
def execHubStartupTestComplete (s : State) : Host.Outcome State Fault Refusal := .next s.opHubTested
/-- BOOT_MEASUREMENT_COMPLETE (R554). -/
def execBootMeasurementComplete (m : BootMeasure) (s : State) : Host.Outcome State Fault Refusal := .next (s.opMeasured m)
/-- END_OF_BOOT (R25). -/
def execEndOfBoot (s : State) : Host.Outcome State Fault Refusal := .next s.opEndOfBoot
/-- MONOTONIC_CLOCK_START_TIMEOUT (R314). -/
def execMonotonicClockStartTimeout (s : State) : Host.Outcome State Fault Refusal := .next s.opClockStart
/-- LIFECYCLE_REQUEST (R53). -/
def execLifecycleRequest (secret : BitVec 4096) (s : State) : Host.Outcome State Fault Refusal := .next (s.opLifecycle secret)
/-- WIPE_COMPLETE (R53). -/
def execWipeComplete (s : State) : Host.Outcome State Fault Refusal := .next s.opWiped
/-- WIPE_VERIFY_FAILED (R59). -/
def execWipeVerifyFailed (s : State) : Host.Outcome State Fault Refusal := .next s.opWipeFailed

end Sys2Proof.Machine
end

