-- ==== Sys2Proof/Machine/Responder.lean ====
section
/-! DEFINITION. Requests by their operation alone: reads, windows, which object a write acts on, the forward queue, and writes through home addresses (03). -/
namespace Sys2Proof.Machine
namespace State

/-! ## Reads (R78, R92, R421) -/

/-- The value of an object at its wire size (Table 3.1, R63). -/
def valueBytes (s : State) (ses : Word) (i sub : Nat) : List Byte := be (wireSize i (objOf s i sub)) (readObj s ses i sub)
/-- READ: the value of this instant. -/
def opRead (s : State) (x : ReplyTo) : State := s.answer x 0 (s.valueBytes x.session x.req.index.toNat x.req.sub.toNat)
/-- COUNT of a READ_RANGE. -/
def rangeCount (r : Req) : Nat := fromBe r.data
/-- COUNT lies outside the limits of R78. -/
def rangeFault (s : State) (r : Req) : Bool :=
  let n := rangeCount r
  n = 0 || 0xFF < r.sub.toNat + n - 1
    || (r.overCan && decide (64 < 12 + n * wireSize r.index.toNat (objOf s r.index.toNat r.sub.toNat) + (if r.trailer.isSome then 28 else 0)))
/-- READ_RANGE: one read burst (R78). A COUNT outside its limits is refused with RANGE; which subindex that reply names as the first at fault is not given, and the model names the request's own (DESIGN CHOICE). -/
def opReadRange (s : State) (x : ReplyTo) : State :=
  if s.rangeFault x.req then s.answer x 6
  else s.answer x 0 ((rangeSubs x.req).flatMap (fun sub => s.valueBytes x.session x.req.index.toNat sub))
/-- A first WINDOW_READ of MORAINE_WINDOW or CAPTURE_STREAM gives the session its cursor at the oldest record (R421, R447). -/
def obtainCursor (s : State) (x : ReplyTo) : State :=
  if x.req.index = 0x7120 then
    (if s.moraine.cursors.any (fun c => c.1 = x.session) then s else { s with moraine.cursors := setCursor s.moraine.cursors x.session (oldestRec s) })
  else if x.req.index = 0x7220 then
    (if s.capture.cursors.any (fun c => c.1 = x.session) then s else { s with capture.cursors := setCursor s.capture.cursors x.session (oldestCap s) })
  else s
/-- All eight cursors are held by other sessions. -/
def cursorBusy (s : State) (x : ReplyTo) : Bool :=
  (x.req.index = 0x7120 && cursorsFull s.moraine.cursors x.session) || (x.req.index = 0x7220 && cursorsFull s.capture.cursors x.session)
/-- WINDOW_READ: TOTAL, GENERATION and up to LENGTH bytes from OFFSET (R92). -/
def opWindowRead (s : State) (x : ReplyTo) : State :=
  if s.windowRange x then s.answer x 6
  else if s.cursorBusy x then s.answer x 0x0A
  else
    let t := s.obtainCursor x
    match window t x.session x.req.index.toNat x.req.sub.toNat x.req.select with
    | none => t.answer x 6
    | some w => t.answer x 0 (be 4 w.total ++ be 4 w.gen.toNat ++ w.piece x.req.offset x.req.len)

/-! ## Objects without a row of their own -/

/-- Check 14 of XANFIL_UDP_PORT (Table 3.3): the reply still leaves from the old port (R72). -/
def opUdpPort (s : State) (x : ReplyTo) : State :=
  s.check14Later x (x.req.value < 1024) false false (fun t => { t.answer x 0 with xan.udpPort := BitVec.ofNat 16 x.req.value })
/-- Check 14 of LEAF_TIMEOUT (Table 11.6). -/
def opLeafTimeout (s : State) (x : ReplyTo) : State :=
  s.check14 x (x.req.value < 10 || 500 < x.req.value) false false (fun t => { t with hub.leafTimeout := BitVec.ofNat 16 x.req.value })
/-- A vendor object stores what is written (R4). -/
def opVendor (s : State) (x : ReplyTo) : State :=
  s.check14 x false false false (fun t =>
    { t with xan.vendor := put t.xan.vendor (x.req.index.toNat * 256 + x.req.sub.toNat) (BitVec.ofNat 32 x.req.value) })

/-! ## Which object a write acts on -/

/-- Writes of 1000 to 23FF: service, sessions, modes, time, pair and images. -/
def writeLow (i sub : Nat) : State → ReplyTo → State :=
  match i with
  | 0x1010 => opUdpPort | 0x1111 => opQuoteNonce | 0x1131 => opKeystoreStage | 0x1201 => opIdleTimeout | 0x1203 => opSessionKill
  | 0x1210 => opRevokedNonces | 0x2001 => opModeRequest | 0x2003 => opServiceRequest | 0x2004 => opPowerUpPolicy | 0x2005 => opPrepareTimeout
  | 0x2101 => opWallSet | 0x2102 => opTimeSetting | 0x2205 => opHandover | 0x2301 => opImageStage | 0x2302 => opStageCommand
  | 0x2310 => opInstanceParams | 0x2311 => opConstantPool | 0x2323 => opRevertWindow | 0x2325 => opExchangeAbort | 0x2326 => opExchangeConfirm
  | _ => if sub = 0x16 then opStatsReset else opBudgetWarn
/-- Writes of 3000 to 6FFF: units, signal values and forces. -/
def writeSignals (i : Nat) : State → ReplyTo → State :=
  if i < 0x6000 then opReleaseAll else if i < 0x6100 then opSignalValue else if i < 0x6300 then opForceValue else opForceState
/-- Writes of 7000 to 73FF: the Hub, Moraine, capture and Region Guard. -/
def writeRecords (i sub : Nat) : State → ReplyTo → State :=
  if 0x7130 ≤ i ∧ i < 0x7134 then opRateLimit
  else if 0x7140 ≤ i ∧ i < 0x7160 then opSnapList
  else if 0x7240 ≤ i ∧ i < 0x7260 then (if sub = 1 then opGroupArm else opCapSetting)
  else match i with
  | 0x7003 => opFenceRestore | 0x7004 => opLeafTimeout | 0x7006 => opRaise | 0x7010 => opCauseLatch | 0x7101 => opNotify
  | 0x7121 => opMoraineCursor | 0x7201 => (if sub = 0 then opReorderDelay else opCaptureShare) | 0x7202 => opCaptureRelease
  | 0x7221 => opCaptureCursor | 0x7340 => opDebugPermit | _ => opHomeOnly
/-- Writes of 7400 to 77FF: memory, Firn, links and Ethernet. -/
def writeEngines (i sub : Nat) : State → ReplyTo → State :=
  if 0x7610 ≤ i ∧ i < 0x7640 then (if sub = 0x10 then opLinkPark else opLinkSetting)
  else if 0x7710 ≤ i ∧ i < 0x7715 then (if sub = 0xF then opMulticast else opPortSetting)
  else match i with
  | 0x7401 => opDriftReset | 0x7430 => opEccThreshold | 0x7440 => opWaived | 0x7500 => opTraceTask | 0x7501 => opFirnReset
  | 0x7700 => opPrpPairs | 0x7720 => opPtpSetting | _ => opHomeOnly
/-- Writes of 7800 to 7AFF: CAN FD, the Field Block and Sedge. -/
def writeField (i sub : Nat) : State → ReplyTo → State :=
  if 0x7810 ≤ i ∧ i < 0x7812 then (if sub = 1 then opChannelMode else if sub = 0xA then opRecover else opCanSetting)
  else if isMo i then (if sub % 0x20 = 3 then opMoCommand else opMoSlot)
  else if 0x7940 ≤ i ∧ i < 0x7950 then opHartRequest
  else match i with
  | 0x7800 => opCanModule | 0x7900 => opFieldSetting | 0x7901 => opGroupRestore | 0x7902 => opGroupRestore
  | 0x7903 => (if sub = 0 then opTrimSelect else if sub = 1 then opTrimAdjust else opTrimEnd)
  | 0x7A21 => opFwStage | _ => opFwCommand
/-- Check 14 and operation of a write, by its object. -/
def writeOp (i sub : Nat) : State → ReplyTo → State :=
  if i < 0x3000 then writeLow i sub else if i < 0x7000 then writeSignals i else if i < 0x7400 then writeRecords i sub
  else if i < 0x7800 then writeEngines i sub else if i < 0x8000 then writeField i sub else opVendor
/-- The Responder completes a write itself: 6000 to 63FF, and W1C writes of 7000 to 70FF (R87). -/
def ownWrite (i : Nat) : Bool := (0x6000 ≤ i && i < 0x6400) || i = 0x7010
/-- A WRITE or WINDOW_WRITE, completed by the Responder or put into the forward queue. -/
def opWrite (s : State) (r : Req) (op : Nat) : State :=
  match s.judge r op with
  | .ignored => s
  | .over t => t
  | .passed t x => if ownWrite r.index.toNat then writeOp r.index.toNat r.sub.toNat t x else t.enqueue x
/-- A WINDOW_READ: 6400 by the Responder, the others forwarded (R87). -/
def opWindowed (s : State) (r : Req) : State :=
  match s.judge r 4 with
  | .ignored => s
  | .over t => t
  | .passed t x => if r.index = 0x6400 then t.opWindowRead x else t.enqueue x
/-- A forwarded request carried out. -/
def carryOut (s : State) (x : ReplyTo) : State :=
  if x.opcode = 4 then s.opWindowRead x else writeOp x.req.index.toNat x.req.sub.toNat s x
/-- The runtime completes the oldest forwarded request (R88, R90); a SIGNED_WRITE there is its own command's. -/
def opComplete (s : State) : State :=
  match s.xan.queue with
  | [] => s
  | f :: rest => if s.runtimeUp && f.opcode ≠ 0x12 then ({ s with xan.queue := rest }).carryOut (replyOf f) else s
/-! ## Home addresses (R64 to R68) -/

/-- A home-address write as the request that has passed every check of Table 3.7: no port, no session, no reply (R68). -/
def homeReq (i sub : Nat) (data : List Byte) : Req := { port := 0, index := BitVec.ofNat 16 i, sub := BitVec.ofNat 8 sub, data := data }
/-- Bytes of ARGUMENT that a signed command takes (Table 4.8). -/
def argLength (i : Nat) : Nat :=
  match i with
  | 0x1130 => 68 | 0x2320 => 68 | 0x2321 => 64 | 0x7110 => 8 | 0x7A20 => 68 | _ => 4
/-- The effect of a signed command that has passed check 14. -/
def signedOp (i : Nat) : State → Fwd → State :=
  match i with
  | 0x1101 => fun t f => lifecycle (Config.identityPrivate t.draws) { t with draws := t.draws + 1 } f | 0x1220 => grantPresence | 0x1130 => keystoreAny | 0x2320 => exchangeStart | 0x2321 => exchangeRevert
  | 0x7110 => clearMoraine | _ => activateAny
/-- A signed object written at its home address: the word's four bytes begin its argument; bytes that a longer argument has beyond them are free (DESIGN CHOICE: R68 lets the write pass, and a slot holds no more than a word). -/
def homeSigned (s : State) (i : Nat) (v : Word) : State :=
  let arg := (be 4 v.toNat ++ (List.range 16).flatMap (fun k => be 4 (s.freeAt k).toNat)).take (argLength i)
  signedOp i { s with draws := s.draws + 16 } { req := homeReq i 0 (be 24 0 ++ be 2 arg.length ++ be 2 0 ++ arg), opcode := 0x12, signedOk := true }
/-- A word cut to an object's type (Table 3.1). -/
def homeValue (ty : OTy) (v : Word) : Nat :=
  match ty with
  | .u8 => v.toNat % 256 | .u16 => v.toNat % 65536 | _ => v.toNat
/-- A value that an object's chapter gives an effect: a command, mode, state or domain code that none defines has no effect when it is written at a home address, where no check refuses it (DEDUCED). -/
def homeCode (i sub v : Nat) : Bool :=
  if i = 0x2001 then v % 256 = 2 || v % 256 = 3
  else if i = 0x2003 then v % 256 = 1 || v % 256 = 3 || v % 256 = 4
  else if i = 0x2302 || i = 0x7A22 || (i = 0x7903 && sub = 2) || (isMo i && sub % 0x20 = 3) then v = 1 || v = 2
  else if i = 0x2205 || i = 0x2325 || i = 0x2326 || i = 0x7401 || (i = 0x7440 && sub = 4) || i = 0x7501 || i = 0x7901 || i = 0x7902
      || (0x3000 ≤ i && i < 0x4000 && sub = 0x12) || (0x2400 ≤ i && i < 0x2410 && sub = 0x16) || (0x7810 ≤ i && i < 0x7812 && sub = 0xA)
      || (0x7610 ≤ i && i < 0x7640 && sub = 0x10) then v = 1
  else if (0x6300 ≤ i && i < 0x6400) || (0x7240 ≤ i && i < 0x7260 && sub = 1) then v ≤ 1
  else if i = 0x7003 then (resetTime v).isSome
  else true
/-- A write of a dictionary object at its home address that no other rule takes. -/
def homePlain (s : State) (i sub : Nat) (o : Obj) (v : Nat) : State :=
  if homeCode i sub v then writeOp i sub s ⟨homeReq i sub (be (wireSize i o) v), 2, none⟩ else s
/-- The high word of a two-slot object written at its home address: the value is that word over the low word that the master has written before it, or over the present low word (DESIGN CHOICE: no rule says when a two-word write takes effect). -/
def homeHigh (s : State) (m a i sub : Nat) (o : Obj) (v : Word) : State :=
  let low := match find s.xan.held m with
    | some (b, w) => if b = a then w.toNat else readObj s 0 i sub % 2 ^ 32
    | none => readObj s 0 i sub % 2 ^ 32
  ({ s with xan.held := del s.xan.held m }).homePlain i sub o (v.toNat * 2 ^ 32 + low)
/-- A slot of a message object that is pending takes no home-address write: configuration, identifier, mask and data (R503, R506). -/
def moHeld (s : State) (i sub : Nat) : Bool :=
  isMo i && sub % 0x20 ≠ 3 && sub % 0x20 ≠ 4 && (s.msgObj (moOf i sub).1 (moOf i sub).2).pending
/-- An object takes no home-address write: a read-only one, BYTES, a signal that the image does not declare, or a slot of a pending message object (R65, R66, R70, R503, R506). -/
def homeBarred (s : State) (i sub : Nat) (o : Obj) : Bool :=
  o.acc = .r || o.acc = .rs || o.ty = .bytes || (0x6000 ≤ i && i < 0x6400 && !s.sigDecl (sigNo i sub)) || s.moHeld i sub
/-- A write of a dictionary object at its home address: objects that do not exist, read-only ones and BYTES end in a bus error without effect. A vendor object takes the write, and reads back, in every life-cycle state: R4 refuses every access in IN-SERVICE and RETIRED, R68 lets a home write pass every check of Table 3.7, and the model follows R68 (DESIGN CHOICE). -/
def homeObject (s : State) (m a i sub : Nat) (v : Word) : State :=
  match lookup s i sub with
  | .found o =>
    if s.homeBarred i sub o then s
    else if i = 0x7005 then s.homeKick v
    else if i = 0x7006 then s.homeRaise v.toNat
    else if i = 0x7730 then (if sub = 0 then s.homeSubmit v else s.homeSupply v)
    else if i = 0x7301 then s.opGuardSync m (BitVec.ofNat 16 v.toNat)
    else if 0x7310 ≤ i ∧ i < 0x7320 then s.writeRegion m (i - 0x7310) sub v
    else if signedObj i sub then s.homeSigned i v
    else if o.ty = .u64 then { s with xan.held := put s.xan.held m (a + 4, v) }
    else s.homePlain i sub o (homeValue o.ty v)
  | _ =>
    match (if sub = 0 then .noSub else lookup s i (sub - 1)) with
    | .found o => if o.ty = .u64 && !s.homeBarred i (sub - 1) o then s.homeHigh m a i (sub - 1) o v else s
    | _ => s
/-- A write of a master at an address: the interrupt queue registers and the dictionary; any other address is no object. -/
def opHomeWrite (s : State) (m a : Nat) (v : Word) : State :=
  if !homeMaster m ∨ a % 4 ≠ 0 then s
  else if 0x48000000 ≤ a ∧ a < 0x48001000 then s.writeQueueReg a v
  else if 0x50000000 ≤ a ∧ a < 0x54000000 then s.homeObject m a ((a - 0x50000000) / 0x400) ((a - 0x50000000) % 0x400 / 4) v
  else s
/-- OBJECT_WRITE in its two forms. -/
def opObject (s : State) (w : ObjWrite) : State :=
  match w with
  | .xanfil r => if ownWrite r.index.toNat then s.completed r 2 (writeOp r.index.toNat r.sub.toNat) else s.forwarded r 2 (writeOp r.index.toNat r.sub.toNat)
  | .home m a v => s.opHomeWrite m a v

end State

/-- READ (R87). -/
def execRead (r : Req) (s : State) : Host.Outcome State Fault Refusal := .next (s.completed r 1 State.opRead)
/-- READ_RANGE (R78). -/
def execReadRange (r : Req) (s : State) : Host.Outcome State Fault Refusal := .next (s.completed r 3 State.opReadRange)
/-- WRITE (R81). -/
def execWrite (r : Req) (s : State) : Host.Outcome State Fault Refusal := .next (s.opWrite r 2)
/-- WINDOW_READ (R92). -/
def execWindowRead (r : Req) (s : State) : Host.Outcome State Fault Refusal := .next (s.opWindowed r)
/-- WINDOW_WRITE (R92). -/
def execWindowWrite (r : Req) (s : State) : Host.Outcome State Fault Refusal := .next (s.opWrite r 5)
/-- FORWARDED_REQUEST_COMPLETE (R88). -/
def execForwardedRequestComplete (s : State) : Host.Outcome State Fault Refusal := .next s.opComplete
/-- OBJECT_WRITE (R81, R68). -/
def execObjectWrite (w : ObjWrite) (s : State) : Host.Outcome State Fault Refusal := .next (s.opObject w)

end Sys2Proof.Machine
end

