-- ==== Sys2Proof/Machine/Dispatch.lean ====
section
/-! DEFINITION. One arm per command: a direct call of its meaning. -/
namespace Sys2Proof.Machine

/-- The effect of a command on everything but the queue. -/
def exec (i : Instr) (s : State) : Host.Outcome State Fault Refusal :=
  match i with
  | .powerOnResetRelease p => Sys2Proof.Machine.execPowerOnResetRelease p s
  | .hubStartupTestComplete => Sys2Proof.Machine.execHubStartupTestComplete s
  | .bootMeasurementComplete m => Sys2Proof.Machine.execBootMeasurementComplete m s
  | .endOfBoot => Sys2Proof.Machine.execEndOfBoot s
  | .monotonicClockStartTimeout => Sys2Proof.Machine.execMonotonicClockStartTimeout s
  | .logicSupplyLost => Sys2Proof.Machine.execLogicSupplyLost s
  | .powerFail a b => Sys2Proof.Machine.execPowerFail a b s
  | .feedOvervoltageDisconnect feed mv => Sys2Proof.Machine.execFeedOvervoltageDisconnect feed mv s
  | .feedReconnect feed mv belowFor => Sys2Proof.Machine.execFeedReconnect feed mv belowFor s
  | .presentNHigh heldFor => Sys2Proof.Machine.execPresentNHigh heldFor s
  | .modeRequestRun r => Sys2Proof.Machine.execModeRequestRun r s
  | .modeRequestHold r => Sys2Proof.Machine.execModeRequestHold r s
  | .serviceRequestService r => Sys2Proof.Machine.execServiceRequestService r s
  | .serviceRequestHold r => Sys2Proof.Machine.execServiceRequestHold r s
  | .serviceRequestTrack r => Sys2Proof.Machine.execServiceRequestTrack r s
  | .prepareComplete => Sys2Proof.Machine.execPrepareComplete s
  | .prepareTimeout => Sys2Proof.Machine.execPrepareTimeout s
  | .epochReceived epoch target commit immediate => Sys2Proof.Machine.execEpochReceived epoch target commit immediate s
  | .taskReleaseInstant task => Sys2Proof.Machine.execTaskReleaseInstant task s
  | .deadlineCheck task => Sys2Proof.Machine.execDeadlineCheck task s
  | .prefetchRequest task => Sys2Proof.Machine.execPrefetchRequest task s
  | .workingSetResident task => Sys2Proof.Machine.execWorkingSetResident task s
  | .pageFetchComplete page duration crcOk => Sys2Proof.Machine.execPageFetchComplete page duration crcOk s
  | .writeBackComplete frame => Sys2Proof.Machine.execWriteBackComplete frame s
  | .passEnd core acts blockNs gapNs => Sys2Proof.Machine.execPassEnd core acts blockNs gapNs s
  | .blockBoundary core acts blockNs => Sys2Proof.Machine.execBlockBoundary core acts blockNs s
  | .coreIdle core => Sys2Proof.Machine.execCoreIdle core s
  | .voteEnd task => Sys2Proof.Machine.execVoteEnd task s
  | .commitComplete task => Sys2Proof.Machine.execCommitComplete task s
  | .resyncEnd task => Sys2Proof.Machine.execResyncEnd task s
  | .bgCompareEnd task => Sys2Proof.Machine.execBgCompareEnd task s
  | .undeclaredAccess core access badEntry => Sys2Proof.Machine.execUndeclaredAccess core access badEntry s
  | .stashOverflow core write => Sys2Proof.Machine.execStashOverflow core write s
  | .nonresidentPrivilegedAccess core access => Sys2Proof.Machine.execNonresidentPrivilegedAccess core access s
  | .guardViolation a => Sys2Proof.Machine.execGuardViolation a s
  | .guardSync master mask => Sys2Proof.Machine.execGuardSync master mask s
  | .queueEntryProduced queue entry => Sys2Proof.Machine.execQueueEntryProduced queue entry s
  | .interruptMessageSend queue => Sys2Proof.Machine.execInterruptMessageSend queue s
  | .coalesceTimeExpiry queue => Sys2Proof.Machine.execCoalesceTimeExpiry queue s
  | .consumerWrite queue index => Sys2Proof.Machine.execConsumerWrite queue index s
  | .allocMsg => Sys2Proof.Machine.execAllocMsg s
  | .freeMsg address => Sys2Proof.Machine.execFreeMsg address s
  | .read r => Sys2Proof.Machine.execRead r s
  | .write r => Sys2Proof.Machine.execWrite r s
  | .readRange r => Sys2Proof.Machine.execReadRange r s
  | .windowRead r => Sys2Proof.Machine.execWindowRead r s
  | .windowWrite r => Sys2Proof.Machine.execWindowWrite r s
  | .sessionOpen r salt => Sys2Proof.Machine.execSessionOpen r salt s
  | .sessionOpenReply key number => Sys2Proof.Machine.execSessionOpenReply key number s
  | .sessionClose r => Sys2Proof.Machine.execSessionClose r s
  | .signedWrite r => Sys2Proof.Machine.execSignedWrite r s
  | .signatureVerified salt => Sys2Proof.Machine.execSignatureVerified salt s
  | .forwardedRequestComplete => Sys2Proof.Machine.execForwardedRequestComplete s
  | .sessionIdleTimeout number => Sys2Proof.Machine.execSessionIdleTimeout number s
  | .sessionValidityExpiry number => Sys2Proof.Machine.execSessionValidityExpiry number s
  | .sessionKill r => Sys2Proof.Machine.execSessionKill r s
  | .revokedNonces r => Sys2Proof.Machine.execRevokedNonces r s
  | .presencePermit => Sys2Proof.Machine.execPresencePermit s
  | .presencePermitExpiry => Sys2Proof.Machine.execPresencePermitExpiry s
  | .attestQuoteNonce r => Sys2Proof.Machine.execAttestQuoteNonce r s
  | .quoteComplete => Sys2Proof.Machine.execQuoteComplete s
  | .replaceAuthority salt => Sys2Proof.Machine.execReplaceAuthority salt s
  | .installDeviceCert salt => Sys2Proof.Machine.execInstallDeviceCert salt s
  | .removeDeviceCert => Sys2Proof.Machine.execRemoveDeviceCert s
  | .lifecycleRequest secret => Sys2Proof.Machine.execLifecycleRequest secret s
  | .wipeComplete => Sys2Proof.Machine.execWipeComplete s
  | .wipeVerifyFailed => Sys2Proof.Machine.execWipeVerifyFailed s
  | .signalValueWrite r => Sys2Proof.Machine.execSignalValueWrite r s
  | .forceValueWrite r => Sys2Proof.Machine.execForceValueWrite r s
  | .forceSet r => Sys2Proof.Machine.execForceSet r s
  | .forceRelease r => Sys2Proof.Machine.execForceRelease r s
  | .forceReleaseAll r => Sys2Proof.Machine.execForceReleaseAll r s
  | .imageStage r => Sys2Proof.Machine.execImageStage r s
  | .stageVerify r => Sys2Proof.Machine.execStageVerify r s
  | .stageDiscard r => Sys2Proof.Machine.execStageDiscard r s
  | .imageVerifyComplete image salts ok1 ok2 => Sys2Proof.Machine.execImageVerifyComplete image salts ok1 ok2 s
  | .instanceParamsWrite r => Sys2Proof.Machine.execInstanceParamsWrite r s
  | .constantPoolWrite r => Sys2Proof.Machine.execConstantPoolWrite r s
  | .constantChangeComplete => Sys2Proof.Machine.execConstantChangeComplete s
  | .exchangeStart => Sys2Proof.Machine.execExchangeStart s
  | .transferEnd stageError => Sys2Proof.Machine.execTransferEnd stageError s
  | .mappingEnd => Sys2Proof.Machine.execMappingEnd s
  | .bulkCopyEnd => Sys2Proof.Machine.execBulkCopyEnd s
  | .newLayoutInStep => Sys2Proof.Machine.execNewLayoutInStep s
  | .standbyReady ok => Sys2Proof.Machine.execStandbyReady ok s
  | .swapInstant => Sys2Proof.Machine.execSwapInstant s
  | .lastDeltaAcknowledged => Sys2Proof.Machine.execLastDeltaAcknowledged s
  | .swapReclaimTimeout => Sys2Proof.Machine.execSwapReclaimTimeout s
  | .exchangeAbort r => Sys2Proof.Machine.execExchangeAbort r s
  | .prepareLimitExpiry => Sys2Proof.Machine.execPrepareLimitExpiry s
  | .exchangeRevert => Sys2Proof.Machine.execExchangeRevert s
  | .exchangeConfirm r => Sys2Proof.Machine.execExchangeConfirm r s
  | .revertWindowExpiry => Sys2Proof.Machine.execRevertWindowExpiry s
  | .loneExchangeExecute => Sys2Proof.Machine.execLoneExchangeExecute s
  | .loneRevertExecute => Sys2Proof.Machine.execLoneRevertExecute s
  | .handoverRequest r => Sys2Proof.Machine.execHandoverRequest r s
  | .ownPeerChange high => Sys2Proof.Machine.execOwnPeerChange high s
  | .claimTimerExpiry => Sys2Proof.Machine.execClaimTimerExpiry s
  | .claim => Sys2Proof.Machine.execClaim s
  | .ownershipConflict => Sys2Proof.Machine.execOwnershipConflict s
  | .gateCheck ok => Sys2Proof.Machine.execGateCheck ok s
  | .outputPathCheck domain ok => Sys2Proof.Machine.execOutputPathCheck domain ok s
  | .interlockOpenTimeout => Sys2Proof.Machine.execInterlockOpenTimeout s
  | .hello m => Sys2Proof.Machine.execHello m s
  | .helloTimer => Sys2Proof.Machine.execHelloTimer s
  | .helloDefer => Sys2Proof.Machine.execHelloDefer s
  | .heartbeat m => Sys2Proof.Machine.execHeartbeat m s
  | .goodbye reason => Sys2Proof.Machine.execGoodbye reason s
  | .streamInputChange c => Sys2Proof.Machine.execStreamInputChange c s
  | .commitDelta d => Sys2Proof.Machine.execCommitDelta d s
  | .handoverMessage m => Sys2Proof.Machine.execHandoverMessage m s
  | .exchangeMessage m => Sys2Proof.Machine.execExchangeMessage m s
  | .bulk p => Sys2Proof.Machine.execBulk p s
  | .syncRetransmitTimeout sequence => Sys2Proof.Machine.execSyncRetransmitTimeout sequence s
  | .laneDown lane => Sys2Proof.Machine.execLaneDown lane s
  | .laneRetrain lane => Sys2Proof.Machine.execLaneRetrain lane s
  | .laneUp lane => Sys2Proof.Machine.execLaneUp lane s
  | .syncLinkFailure cause => Sys2Proof.Machine.execSyncLinkFailure cause s
  | .syncLinkUp => Sys2Proof.Machine.execSyncLinkUp s
  | .staleTimeout => Sys2Proof.Machine.execStaleTimeout s
  | .clockOffsetExcess => Sys2Proof.Machine.execClockOffsetExcess s
  | .stateCopyEnd => Sys2Proof.Machine.execStateCopyEnd s
  | .resyncBufferFull => Sys2Proof.Machine.execResyncBufferFull s
  | .resyncBufferDrained => Sys2Proof.Machine.execResyncBufferDrained s
  | .resyncRestartWaitExpiry => Sys2Proof.Machine.execResyncRestartWaitExpiry s
  | .checkpointTick => Sys2Proof.Machine.execCheckpointTick s
  | .checkpointComplete ok1 ok2 => Sys2Proof.Machine.execCheckpointComplete ok1 ok2 s
  | .checkpointWaive r => Sys2Proof.Machine.execCheckpointWaive r s
  | .detectorOccurrence detector info => Sys2Proof.Machine.execDetectorOccurrence detector info s
  | .detectorLiveFall detector => Sys2Proof.Machine.execDetectorLiveFall detector s
  | .shadowEnd domain => Sys2Proof.Machine.execShadowEnd domain s
  | .causeLatch r => Sys2Proof.Machine.execCauseLatch r s
  | .fenceRestore r => Sys2Proof.Machine.execFenceRestore r s
  | .restoreShadowEnd => Sys2Proof.Machine.execRestoreShadowEnd s
  | .detRaise w => Sys2Proof.Machine.execDetRaise w s
  | .detRaiseLevelOff w => Sys2Proof.Machine.execDetRaiseLevelOff w s
  | .leafKick w => Sys2Proof.Machine.execLeafKick w s
  | .leafWatchdogStop missing => Sys2Proof.Machine.execLeafWatchdogStop missing s
  | .moraineTrigger code unit payload => Sys2Proof.Machine.execMoraineTrigger code unit payload s
  | .moraineAccept => Sys2Proof.Machine.execMoraineAccept s
  | .post port code unit payload => Sys2Proof.Machine.execPost port code unit payload s
  | .persistTick => Sys2Proof.Machine.execPersistTick s
  | .persistComplete ok1 ok2 => Sys2Proof.Machine.execPersistComplete ok1 ok2 s
  | .moraineClear => Sys2Proof.Machine.execMoraineClear s
  | .moraineCursor r => Sys2Proof.Machine.execMoraineCursor r s
  | .rateLimit r => Sys2Proof.Machine.execRateLimit r s
  | .snapList r => Sys2Proof.Machine.execSnapList r s
  | .captureRecordArrival c => Sys2Proof.Machine.execCaptureRecordArrival c s
  | .reorderDelayExpiry => Sys2Proof.Machine.execReorderDelayExpiry s
  | .captureEnd group => Sys2Proof.Machine.execCaptureEnd group s
  | .groupArm by_ => Sys2Proof.Machine.execGroupArm by_ s
  | .groupDisarm r => Sys2Proof.Machine.execGroupDisarm r s
  | .captureRelease r => Sys2Proof.Machine.execCaptureRelease r s
  | .captureCursor r => Sys2Proof.Machine.execCaptureCursor r s
  | .linkCycleInstant link => Sys2Proof.Machine.execLinkCycleInstant link s
  | .linkReply link p => Sys2Proof.Machine.execLinkReply link p s
  | .replyWindowExpiry link position => Sys2Proof.Machine.execReplyWindowExpiry link position s
  | .linkCycleEnd link => Sys2Proof.Machine.execLinkCycleEnd link s
  | .configureReply link p => Sys2Proof.Machine.execConfigureReply link p s
  | .configureRetry link position => Sys2Proof.Machine.execConfigureRetry link position s
  | .linkSyncLost link => Sys2Proof.Machine.execLinkSyncLost link s
  | .linkTrained link delay => Sys2Proof.Machine.execLinkTrained link delay s
  | .linkPark r => Sys2Proof.Machine.execLinkPark r s
  | .ethFrameReceived port f => Sys2Proof.Machine.execEthFrameReceived port f s
  | .txSubmit w => Sys2Proof.Machine.execTxSubmit w s
  | .rxSupply w => Sys2Proof.Machine.execRxSupply w s
  | .launchInstant port queue late => Sys2Proof.Machine.execLaunchInstant port queue late s
  | .txComplete port queue portDown => Sys2Proof.Machine.execTxComplete port queue portDown s
  | .ethLinkChange port up gig => Sys2Proof.Machine.execEthLinkChange port up gig s
  | .ptpMessage e => Sys2Proof.Machine.execPtpMessage e s
  | .ptpHoldover quietIntervals => Sys2Proof.Machine.execPtpHoldover quietIntervals s
  | .holdoverLimitExpiry => Sys2Proof.Machine.execHoldoverLimitExpiry s
  | .wallSet r => Sys2Proof.Machine.execWallSet r s
  | .wallTimeStore => Sys2Proof.Machine.execWallTimeStore s
  | .ptpSettingWrite r => Sys2Proof.Machine.execPtpSettingWrite r s
  | .prpSupervisionTimer => Sys2Proof.Machine.execPrpSupervisionTimer s
  | .canFrameReceived channel f => Sys2Proof.Machine.execCanFrameReceived channel f s
  | .moTransmitRequest w => Sys2Proof.Machine.execMoTransmitRequest w s
  | .moAbort w => Sys2Proof.Machine.execMoAbort w s
  | .canTransmitEnd channel ok => Sys2Proof.Machine.execCanTransmitEnd channel ok s
  | .canBusOff channel tec => Sys2Proof.Machine.execCanBusOff channel tec s
  | .canRecover r => Sys2Proof.Machine.execCanRecover r s
  | .busOffRecoveryComplete channel occurrences => Sys2Proof.Machine.execBusOffRecoveryComplete channel occurrences s
  | .canErrorStateChange channel tec rec => Sys2Proof.Machine.execCanErrorStateChange channel tec rec s
  | .channelMode r => Sys2Proof.Machine.execChannelMode r s
  | .abrCandidateTimeout channel => Sys2Proof.Machine.execAbrCandidateTimeout channel s
  | .abrResult channel ok nominal dataRate => Sys2Proof.Machine.execAbrResult channel ok nominal dataRate s
  | .outputUpdate group => Sys2Proof.Machine.execOutputUpdate group s
  | .fbWatchdogExpiry group => Sys2Proof.Machine.execFbWatchdogExpiry group s
  | .digitalInputEdge channel on tag => Sys2Proof.Machine.execDigitalInputEdge channel on tag s
  | .analogConversion group microamps => Sys2Proof.Machine.execAnalogConversion group microamps s
  | .supplySample group millivolts => Sys2Proof.Machine.execSupplySample group millivolts s
  | .groupSwitchOff group => Sys2Proof.Machine.execGroupSwitchOff group s
  | .restoreReady group => Sys2Proof.Machine.execRestoreReady group s
  | .groupRestore r => Sys2Proof.Machine.execGroupRestore r s
  | .outputOverload channel milliamps lasted => Sys2Proof.Machine.execOutputOverload channel milliamps lasted s
  | .overloadRetry channel ok => Sys2Proof.Machine.execOverloadRetry channel ok s
  | .readbackCompare channel state => Sys2Proof.Machine.execReadbackCompare channel state s
  | .loopCompliance channel microamps => Sys2Proof.Machine.execLoopCompliance channel microamps s
  | .hartRequest r => Sys2Proof.Machine.execHartRequest r s
  | .hartTransactionDone hart result => Sys2Proof.Machine.execHartTransactionDone hart result s
  | .hartBurstFrame hart bytes => Sys2Proof.Machine.execHartBurstFrame hart bytes s
  | .trimSelect r => Sys2Proof.Machine.execTrimSelect r s
  | .trimAdjust r => Sys2Proof.Machine.execTrimAdjust r s
  | .trimKeyPress plus => Sys2Proof.Machine.execTrimKeyPress plus s
  | .trimKeyRepeat plus heldFor => Sys2Proof.Machine.execTrimKeyRepeat plus heldFor s
  | .trimStore by_ => Sys2Proof.Machine.execTrimStore by_ s
  | .trimCancel r => Sys2Proof.Machine.execTrimCancel r s
  | .trimIdleTimeout => Sys2Proof.Machine.execTrimIdleTimeout s
  | .sensorSample readings failed => Sys2Proof.Machine.execSensorSample readings failed s
  | .cover isOpen => Sys2Proof.Machine.execCover isOpen s
  | .sedgeStoreRetry ok => Sys2Proof.Machine.execSedgeStoreRetry ok s
  | .fwStage r => Sys2Proof.Machine.execFwStage r s
  | .fwVerify r => Sys2Proof.Machine.execFwVerify r s
  | .fwDiscard r => Sys2Proof.Machine.execFwDiscard r s
  | .fwVerifyComplete sedgeRelease salt ok1 ok2 => Sys2Proof.Machine.execFwVerifyComplete sedgeRelease salt ok1 ok2 s
  | .fwActivate => Sys2Proof.Machine.execFwActivate s
  | .firmwareReboot => Sys2Proof.Machine.execFirmwareReboot s
  | .floorRaise => Sys2Proof.Machine.execFloorRaise s
  | .trialConfirmed => Sys2Proof.Machine.execTrialConfirmed s
  | .extest => Sys2Proof.Machine.execExtest s
  | .samplePreload => Sys2Proof.Machine.execSamplePreload s
  | .idcode => Sys2Proof.Machine.execIdcode s
  | .bypass => Sys2Proof.Machine.execBypass s
  | .attach => Sys2Proof.Machine.execAttach s
  | .halt task => Sys2Proof.Machine.execHalt task s
  | .step task acts blockNs last => Sys2Proof.Machine.execStep task acts blockNs last s
  | .resume task => Sys2Proof.Machine.execResume task s
  | .detach => Sys2Proof.Machine.execDetach s
  | .dbgAccessRead address => Sys2Proof.Machine.execDbgAccessRead address s
  | .dbgAccessWrite address data => Sys2Proof.Machine.execDbgAccessWrite address data s
  | .tapReset => Sys2Proof.Machine.execTapReset s
  | .taintRebuildEnd task => Sys2Proof.Machine.execTaintRebuildEnd task s
  | .debugPermit r => Sys2Proof.Machine.execDebugPermit r s
  | .debugPermitExpiry => Sys2Proof.Machine.execDebugPermitExpiry s
  | .statsReset r => Sys2Proof.Machine.execStatsReset r s
  | .driftStatsReset r => Sys2Proof.Machine.execDriftStatsReset r s
  | .firnStatsReset r => Sys2Proof.Machine.execFirnStatsReset r s
  | .objectWrite w => Sys2Proof.Machine.execObjectWrite w s
  | .eccCorrectedError rank => Sys2Proof.Machine.execEccCorrectedError rank s
  | .energyStoreCharged group => Sys2Proof.Machine.execEnergyStoreCharged group s
  | .wireBreakChange channel broken => Sys2Proof.Machine.execWireBreakChange channel broken s
  | .loopComplianceCleared channel microamps => Sys2Proof.Machine.execLoopComplianceCleared channel microamps s
  | .aliveToggle => Sys2Proof.Machine.execAliveToggle s
  | .canTransmitStart channel => Sys2Proof.Machine.execCanTransmitStart channel s

end Sys2Proof.Machine
end

