-- ==== Sys2Proof/Safety.lean ====
section
/-! DEFINITION. The terms that claims use: a command that runs, a request that is granted, its final reply, and what every step keeps. -/
namespace Sys2Proof.Machine

/-- The command answers a next state, which has a property. -/
def Runs (c : Instr) (s : State) (p : State → Prop) : Prop := ∃ t, exec c s = .next t ∧ p t

/-- A request has passed checks 1 to 13 of Table 3.7, leaving a state; nothing bars the session or the recovery mode (R81, R124, R561). -/
structure Admitted (s : State) (r : Req) (op : Nat) (t : State) (x : ReplyTo) : Prop where
  port : r.port ≠ 0
  passed : s.judge r op = .passed t x
  session : State.blankBarred x = false
  mode : t.recoveryBarred x = false

/-- A request is admitted, and the runtime takes it at once: none waits before it (R88, R90). -/
structure Granted (s : State) (r : Req) (op : Nat) (t : State) (x : ReplyTo) : Prop extends Admitted s r op t x where
  free : t.xan.queue = []
  up : t.runtimeUp = true

/-- A verified signed command of an object is the oldest forwarded request, and the runtime takes it (R90, R118). -/
structure Signed (s : State) (object : Nat) (f : Fwd) (t : State) : Prop where
  port : f.req.port ≠ 0
  taken : s.takeSigned object = some (f, t)
  session : State.blankBarred (State.replyOf f) = false
  mode : t.recoveryBarred (State.replyOf f) = false

/-- A reply without the UDP port and the port pair it leaves from. -/
def Reply.body (y : Reply) : Reply := { y with fromPort := 0, onPair := false }
/-- The last reply sent is a given one (R76). -/
def Sent (t : State) (y : Reply) : Prop := t.xan.out.head?.map Reply.body = some y
/-- The last reply sent is the final reply to a request, with a status and data (R76, R88). -/
def Replied (t : State) (x : ReplyTo) (status : Nat) (data : List Byte := []) : Prop := Sent t (x.frame false status x.req.sub data)

/-- The parts of the state. -/
inductive Part where
  | mode | time | xan | sess | sig | disp | drift | firn | prog | pair | hub | guard | moraine | capture | link | eth | can | field | sedge | mem | draws | pending
  deriving DecidableEq, Repr

/-- A part is the same in two states. -/
def Part.same (p : Part) (s t : State) : Prop :=
  match p with
  | .mode => t.mode = s.mode | .time => t.time = s.time | .xan => t.xan = s.xan | .sess => t.sess = s.sess | .sig => t.sig = s.sig
  | .disp => t.disp = s.disp | .drift => t.drift = s.drift | .firn => t.firn = s.firn | .prog => t.prog = s.prog | .pair => t.pair = s.pair
  | .hub => t.hub = s.hub | .guard => t.guard = s.guard | .moraine => t.moraine = s.moraine | .capture => t.capture = s.capture
  | .link => t.link = s.link | .eth => t.eth = s.eth | .can => t.can = s.can | .field => t.field = s.field | .sedge => t.sedge = s.sedge
  | .mem => t.mem = s.mem | .draws => t.draws = s.draws | .pending => t.pending = s.pending

/-- Every part of the state is as before but those of a list. -/
def Keeps (changed : List Part) (s t : State) : Prop := ∀ p, p ∉ changed → p.same s t

/-- From every state the command changes no part but those of a list. -/
def ChangesOnly (c : Instr) (changed : List Part) : Prop := ∀ s t, exec c s = .next t → Keeps changed s t

/-- What the hardware reaction to a detector may reach (R348 to R351): everything but time, Ethernet, Sedge, memory and the waiting commands. -/
def reaction : List Part :=
  [.mode, .xan, .sess, .sig, .disp, .drift, .firn, .prog, .pair, .hub, .guard, .moraine, .capture, .link, .can, .field, .draws]

/-- The parts of the state that a command can change. -/
def touched (c : Instr) : List Part :=
  match c with
  | .guardSync .. | .extest | .samplePreload | .idcode | .bypass => [.guard]
  | .claimTimerExpiry | .helloTimer | .goodbye .. | .syncRetransmitTimeout .. | .laneRetrain .. => [.pair]
  | .coreIdle .. | .interruptMessageSend .. | .coalesceTimeExpiry .. | .consumerWrite .. => [.disp]
  | .nonresidentPrivilegedAccess .. | .moraineTrigger .. | .post .. => [.moraine]
  | .monotonicClockStartTimeout | .wallTimeStore => [.time]
  | .feedOvervoltageDisconnect .. | .feedReconnect .. => [.sedge]
  | .prefetchRequest .. | .checkpointTick => [.drift]
  | .detectorLiveFall .. | .aliveToggle => [.hub]
  | .abrCandidateTimeout .. | .canTransmitStart .. => [.can]
  | .presencePermitExpiry => [.sess]
  | .bulkCopyEnd => [.prog]
  | .configureRetry .. => [.link]
  | .energyStoreCharged .. => [.field]
  | .powerFail .. | .trialConfirmed => [.moraine, .sedge]
  | .fwVerifyComplete .. => [.drift, .hub, .disp, .moraine, .sedge]
  | .queueEntryProduced .. | .moraineAccept => [.disp, .moraine]
  | .hubStartupTestComplete => [.mode, .hub]
  | .prepareTimeout => [.mode, .moraine]
  | .allocMsg => [.drift, .draws]
  | .freeMsg .. => [.drift, .moraine]
  | .quoteComplete => [.sess, .draws]
  | .abrResult .. => [.moraine, .can]
  | .hartTransactionDone .. => [.moraine, .field]
  | .hartBurstFrame .. => [.xan, .field]
  | .trimKeyRepeat .. => [.sig, .field]
  | .sessionIdleTimeout .. | .sessionValidityExpiry .. => [.sess, .moraine, .capture]
  | .trimKeyPress .. | .trimIdleTimeout => [.sig, .moraine, .field]
  | .workingSetResident .. => [.disp, .drift, .firn]
  | .helloDefer => [.drift, .pair, .moraine]
  | .laneUp .. => [.pair, .hub, .moraine]
  | .outputUpdate .. => [.sig, .capture, .field]
  | .attach => [.guard, .moraine, .draws]
  | .resume .. => [.disp, .firn, .guard]
  | .staleTimeout => [.sig, .pair, .moraine, .capture]
  | .stateCopyEnd => [.drift, .firn, .pair, .moraine]
  | .canTransmitEnd .. => [.disp, .moraine, .can, .draws]
  | .read .. | .readRange .. | .sessionClose .. | .signatureVerified .. | .presencePermit | .replaceAuthority .. | .installDeviceCert ..
    | .removeDeviceCert | .moraineClear => [.xan, .sess, .moraine, .capture, .can]
  | .transferEnd .. | .mappingEnd | .standbyReady .. | .prepareLimitExpiry => [.xan, .drift, .prog, .pair, .moraine]
  | .newLayoutInStep | .swapInstant => [.disp, .drift, .firn, .prog, .pair]
  | .writeBackComplete .. => [.disp, .drift, .prog, .moraine, .draws]
  | .resyncRestartWaitExpiry => [.disp, .drift, .firn, .pair, .moraine]
  | .linkTrained .. => [.sig, .hub, .moraine, .capture, .link]
  | .txComplete .. => [.disp, .drift, .moraine, .eth, .draws]
  | .restoreReady .. => [.sig, .hub, .moraine, .capture, .field]
  | .detach | .tapReset | .debugPermitExpiry => [.disp, .drift, .firn, .guard, .moraine, .draws]
  | .sessionOpen .. | .sessionOpenReply .. => [.xan, .sess, .moraine, .capture, .can, .draws]
  | .busOffRecoveryComplete .. => [.sig, .disp, .hub, .moraine, .capture, .can]
  | .floorRaise => [.xan, .sess, .moraine, .capture, .can, .sedge]
  | .halt .. => [.sig, .disp, .firn, .guard, .moraine, .capture]
  | .windowRead .. | .signedWrite .. | .sessionKill .. | .revokedNonces .. | .attestQuoteNonce .. | .moraineCursor .. | .rateLimit .. | .snapList ..
    | .captureCursor .. | .moTransmitRequest .. | .moAbort .. | .canRecover .. | .channelMode ..
    | .statsReset .. => [.xan, .sess, .disp, .moraine, .capture, .can, .draws]
  | .signalValueWrite .. | .forceValueWrite .. | .forceSet .. | .forceRelease .. => [.xan, .sess, .sig, .pair, .moraine, .capture, .can]
  | .exchangeStart | .exchangeRevert => [.xan, .sess, .prog, .pair, .moraine, .capture, .can]
  | .epochReceived .. => [.mode, .sig, .disp, .drift, .firn, .pair, .capture]
  | .constantChangeComplete => [.xan, .sess, .drift, .prog, .moraine, .capture, .can]
  | .clockOffsetExcess => [.xan, .disp, .drift, .firn, .prog, .pair, .moraine]
  | .causeLatch .. => [.xan, .sess, .sig, .hub, .moraine, .capture, .can]
  | .handoverRequest .. | .groupArm .. | .groupDisarm .. | .captureRelease .. => [.xan, .sess, .disp, .pair, .moraine, .capture, .can, .draws]
  | .stageVerify .. | .stageDiscard .. | .instanceParamsWrite .. => [.xan, .sess, .disp, .prog, .moraine, .capture, .can, .draws]
  | .fwStage .. | .fwVerify .. | .fwDiscard .. => [.xan, .sess, .disp, .moraine, .capture, .can, .sedge, .draws]
  | .modeRequestRun .. | .modeRequestHold .. => [.mode, .xan, .sess, .disp, .moraine, .capture, .can, .draws]
  | .linkPark .. => [.xan, .sess, .disp, .moraine, .capture, .link, .can, .draws]
  | .rxSupply .. => [.xan, .sess, .disp, .moraine, .capture, .eth, .can, .draws]
  | .hartRequest .. => [.xan, .sess, .disp, .moraine, .capture, .can, .field, .draws]
  | .debugPermit .. => [.xan, .sess, .disp, .guard, .moraine, .capture, .can, .draws]
  | .driftStatsReset .. => [.xan, .sess, .disp, .drift, .moraine, .capture, .can, .draws]
  | .firnStatsReset .. => [.xan, .sess, .disp, .firn, .moraine, .capture, .can, .draws]
  | .trimSelect .. | .trimAdjust .. | .trimStore .. | .trimCancel .. => [.xan, .sess, .sig, .disp, .moraine, .capture, .can, .field, .draws]
  | .commitComplete .. => [.sig, .disp, .drift, .firn, .pair, .hub, .moraine, .capture, .draws]
  | .forceReleaseAll .. => [.xan, .sess, .sig, .disp, .pair, .moraine, .capture, .can, .draws]
  | .imageStage .. => [.xan, .sess, .disp, .prog, .moraine, .capture, .can, .mem, .draws]
  | .constantPoolWrite .. => [.xan, .sess, .disp, .drift, .prog, .moraine, .capture, .can, .draws]
  | .streamInputChange .. => [.xan, .sig, .disp, .drift, .firn, .prog, .pair, .moraine, .capture]
  | .checkpointWaive .. => [.xan, .sess, .disp, .drift, .pair, .moraine, .capture, .can, .draws]
  | .fenceRestore .. => [.xan, .sess, .disp, .hub, .moraine, .capture, .link, .can, .draws]
  | .txSubmit .. => [.xan, .sess, .disp, .drift, .moraine, .capture, .eth, .can, .draws]
  | .exchangeAbort .. => [.xan, .sess, .disp, .drift, .prog, .pair, .moraine, .capture, .can, .draws]
  | .groupRestore .. => [.xan, .sess, .sig, .disp, .hub, .moraine, .capture, .can, .field, .draws]
  | .taintRebuildEnd .. => [.xan, .sess, .disp, .drift, .firn, .prog, .pair, .moraine, .capture, .can]
  | .revertWindowExpiry | .exchangeMessage .. => [.xan, .sig, .disp, .drift, .firn, .prog, .pair, .moraine, .capture, .sedge, .draws]
  | .imageVerifyComplete .. => [.xan, .sig, .disp, .drift, .firn, .prog, .pair, .hub, .moraine, .capture, .sedge, .draws]
  | .wallSet .. => [.time, .xan, .sess, .sig, .disp, .hub, .moraine, .capture, .eth, .can, .draws]
  | .exchangeConfirm .. => [.xan, .sess, .sig, .disp, .drift, .firn, .prog, .pair, .moraine, .capture, .can, .sedge, .draws]
  | .loneExchangeExecute
    | .loneRevertExecute => [.xan, .sess, .sig, .disp, .drift, .firn, .prog, .pair, .moraine, .capture, .can, .field, .sedge, .draws]
  | .pageFetchComplete .. | .passEnd .. | .blockBoundary .. | .stashOverflow .. | .lastDeltaAcknowledged | .interlockOpenTimeout | .handoverMessage ..
    | .laneDown .. | .resyncBufferFull | .persistTick | .persistComplete ..
    | .eccCorrectedError .. => [.mode, .xan, .sess, .sig, .disp, .drift, .firn, .prog, .pair, .hub, .guard, .moraine, .link, .can, .field, .draws]
  | .prepareComplete => [.mode, .xan, .sess, .sig, .disp, .drift, .firn, .prog, .pair, .hub, .guard, .moraine, .capture, .can, .field, .draws]
  | .swapReclaimTimeout => [.mode, .sess, .sig, .disp, .drift, .firn, .prog, .pair, .hub, .guard, .moraine, .capture, .link, .can, .field, .draws]
  | .logicSupplyLost | .serviceRequestService .. | .serviceRequestHold .. | .serviceRequestTrack .. | .taskReleaseInstant .. | .deadlineCheck ..
    | .voteEnd .. | .resyncEnd .. | .bgCompareEnd .. | .undeclaredAccess .. | .guardViolation .. | .ownershipConflict | .gateCheck ..
    | .outputPathCheck .. | .commitDelta .. | .syncLinkUp | .resyncBufferDrained | .checkpointComplete .. | .detectorOccurrence .. | .shadowEnd ..
    | .restoreShadowEnd | .detRaise .. | .detRaiseLevelOff .. | .leafKick .. | .leafWatchdogStop .. | .captureRecordArrival .. | .reorderDelayExpiry
    | .captureEnd .. | .linkCycleInstant .. | .linkReply .. | .replyWindowExpiry .. | .linkCycleEnd .. | .configureReply .. | .linkSyncLost ..
    | .canFrameReceived .. | .canBusOff .. | .canErrorStateChange .. | .fbWatchdogExpiry .. | .digitalInputEdge .. | .analogConversion ..
    | .supplySample .. | .groupSwitchOff .. | .outputOverload .. | .overloadRetry .. | .readbackCompare .. | .loopCompliance .. | .firmwareReboot
    | .step .. | .dbgAccessRead .. | .wireBreakChange .. | .loopComplianceCleared .. => reaction
  | .wipeVerifyFailed => [.mode, .xan, .sess, .sig, .disp, .drift, .firn, .prog, .pair, .moraine, .capture, .link, .eth, .can, .field, .sedge, .mem]
  | .endOfBoot | .presentNHigh .. | .ownPeerChange .. | .claim | .bulk .. | .sensorSample .. | .cover .. | .sedgeStoreRetry ..
    | .fwActivate => reaction ++ [.sedge]
  | .launchInstant .. | .prpSupervisionTimer => reaction ++ [.eth]
  | .holdoverLimitExpiry => reaction ++ [.time]
  | .dbgAccessWrite .. => reaction ++ [.mem]
  | .heartbeat .. | .syncLinkFailure .. | .ethLinkChange .. | .ptpMessage .. | .ptpHoldover .. | .ptpSettingWrite .. => reaction ++ [.time, .eth]
  | .hello .. => reaction ++ [.time, .sedge]
  | .ethFrameReceived .. => reaction ++ [.eth, .mem]
  | .lifecycleRequest .. => reaction ++ [.eth, .sedge, .mem]
  | .write .. | .windowWrite .. | .forwardedRequestComplete | .objectWrite .. => reaction ++ [.time, .eth, .sedge, .mem]
  | .powerOnResetRelease .. | .bootMeasurementComplete .. | .wipeComplete => reaction ++ [.time, .eth, .sedge, .mem, .pending]

/-- A detector has one more occurrence: its count, time, information and live state, and its latch unless a shadow masks it (R347, R357, R359). -/
def OccurredIn (s t : State) (d : Nat) (a : DetAttr) (info : Word) : Prop :=
  (t.det d).count = BitVec.ofNat 32 (sat32 ((s.det d).count.toNat + 1)) ∧ (t.det d).lastTime = s.time.mono ∧ (t.det d).lastInfo = info
    ∧ (t.det d).live = !a.event ∧ (s.masked d (detDomain d info) = false → (t.det d).latched = true)

/-- The slot that a boot loads and its image (Table 19.5, stage 5). -/
def State.bootImage (s : State) : Option (Nat × Image) :=
  s.bootSlot.bind (fun k => ((find s.prog.flash k).bind fileImage).map (fun i => (k, i)))

/-- The memory keeps its canonical form: addresses rise, no listed byte reads as an unwritten one. -/
def MemoryForm (s : State) : Prop := Memory.wf s.mem = true

/-- A pending life-cycle change is one of Table 2.10 (R51). -/
def LifeForm (s : State) : Prop := ∀ l, s.mode.lifePending = some l → State.mayBecome s.mode.life l = true

/-- Checks 1 to 7 of Table 3.7 pass for a request that needs a tag, with the session and what it authenticates (R81). -/
structure ReachesCheck8 (s : State) (r : Req) (op : Nat) (ses : Session) (a : Auth) : Prop where
  heard : s.hears r = true ∧ fits r = true ∧ frameOk r = true
  vendor : 0xF000 ≤ r.index.toNat → s.vendorAllowed = true
  object : lookup s r.index.toNat r.sub.toNat ≠ .noObject ∧ (subsOf op r).all (subOk s op r) = true
  access : (subsOf op r).filterMap (accessFault s op r.index.toNat) = []
  type : (subsOf op r).all (typeOk s op r) = true
  needed : authNeeded s op r = true
  tag : s.authOf r op = .ok (ses, a)

/-- Region r of a master matches an address (R383). -/
def Region (s : State) (m r a : Nat) : Prop :=
  r < 32 ∧ regionMatches (get 0 s.guard.live (64 * m + 2 * r)) (get 0 s.guard.live (64 * m + 2 * r + 1)) a = true
/-- RANK of a region of a master (Table 12.2). -/
def regionRank (s : State) (m r : Nat) : Nat := field (get (0 : Word) s.guard.live (64 * m + 2 * r + 1)).toNat 15 12
/-- The permission bit of a region for an access's privilege and kind (Table 12.2). -/
def regionAllows (s : State) (x : Access) (r : Nat) : Bool :=
  tb (get (0 : Word) s.guard.live (64 * x.master + 2 * r + 1)).toNat (x.kind + if x.privileged then 0 else 4)

end Sys2Proof.Machine
end

