-- ==== Sys2Proof/Certificates/Slice0/Obligations.lean ====
section
/-! DEFINITION. The statements for the provers: what each family of commands does, what each kind of state keeps, and the invariants of a step. -/
open Sys2Proof Sys2Proof.Machine

/-- For these commands, under the conditions of each clause, a next state exists and holds what the clause says (R65, R66, R68, R76, R78, R81, R87, R92, R182). (1) READ: the value at its wire size; (2) READ_RANGE with a COUNT inside its limits: the values in order of subindex; (3) READ_RANGE with another COUNT: RANGE; (4) WINDOW_READ of SIGNAL_IMAGE: TOTAL, GENERATION 0 and the bytes asked for; (5) a granted Xanfil OBJECT_WRITE: its PENDING reply, its entry in interrupt queue 60, and the object's operation; (6) of LEAF_TIMEOUT from 10 to 500: stored; (7) of LEAF_TIMEOUT outside: RANGE; (8) at LEAF_TIMEOUT's home address: stored without a reply, as having passed check 14; (9) at the home address of a read-only object or a string: nothing; (10) at an interrupt queue's ROUTE: the documented bits. -/
def Obligations.ObjectsAreReadAndStored : Prop :=
  (∀ (s : State) (r : Req) (t : State) (x : ReplyTo), r.port ≠ 0 → s.judge r 1 = .passed t x
    → Runs (.read r) s (fun u => Replied u x 0 (be (wireSize r.index.toNat (objOf t r.index.toNat r.sub.toNat)) (readObj t x.session r.index.toNat r.sub.toNat))
    ∧ u.xan.queue = s.xan.queue ∧ Keeps [.xan, .sess, .moraine, .capture, .can] s u)) ∧
  (∀ (s : State) (r : Req) (t : State) (x : ReplyTo), r.port ≠ 0 → s.judge r 3 = .passed t x → State.rangeFault t r = false
    → Runs (.readRange r) s (fun u => Replied u x 0 ((rangeSubs r).flatMap (fun k => be (wireSize r.index.toNat (objOf t r.index.toNat k)) (readObj t x.session r.index.toNat k)))
    ∧ u.xan.queue = s.xan.queue ∧ Keeps [.xan, .sess, .moraine, .capture, .can] s u)) ∧
  (∀ (s : State) (r : Req) (t : State) (x : ReplyTo), r.port ≠ 0 → s.judge r 3 = .passed t x → State.rangeFault t r = true
    → Runs (.readRange r) s (fun u => Replied u x 6 ∧ Keeps [.xan, .sess, .moraine, .capture, .can] s u)) ∧
  (∀ (s : State) (r : Req) (t : State) (x : ReplyTo), r.port ≠ 0 → s.judge r 4 = .passed t x → r.index = 0x6400 → r.select = 0 → r.offset ≤ 2097152
    → r.len ≤ (if r.overCan then 16 else 1024)
    → Runs (.windowRead r) s (fun u => Replied u x 0 (be 4 2097152 ++ be 4 0 ++ (entryWindow 0 65536 32 (sigBytes t)).piece r.offset r.len)
    ∧ Keeps [.xan, .sess, .moraine, .capture, .can] s u)) ∧
  (∀ (s : State) (r : Req) (t : State) (x : ReplyTo), Granted s r 2 t x → State.ownWrite r.index.toNat = false
    → Runs (.objectWrite (.xanfil r)) s (fun u => u = State.writeOp r.index.toNat r.sub.toNat ((t.send (x.frame true 0 x.req.sub [])).produceOpen 60) x)) ∧
  (∀ (s : State) (r : Req) (t : State) (x : ReplyTo), Granted s r 2 t x → r.index = 0x7004 → r.sub = 0 → 10 ≤ r.value → r.value ≤ 500
    → Runs (.objectWrite (.xanfil r)) s (fun u => u.hub = { s.hub with leafTimeout := BitVec.ofNat 16 r.value } ∧ Replied u x 0)) ∧
  (∀ (s : State) (r : Req) (t : State) (x : ReplyTo), Granted s r 2 t x → r.index = 0x7004 → r.sub = 0 → r.value < 10 ∨ 500 < r.value
    → Runs (.objectWrite (.xanfil r)) s (fun u => u.hub = s.hub ∧ Replied u x 6)) ∧
  (∀ (s : State) (m : Nat) (v : Word), homeMaster m = true
    → Runs (.objectWrite (.home m (homeAddress 0x7004 0) v)) s (fun u => u = { s with hub.leafTimeout := BitVec.ofNat 16 v.toNat })) ∧
  (∀ (s : State) (m i sub : Nat) (o : Obj) (v : Word), i < 0x10000 → sub < 256 → lookup s i sub = .found o → o.acc = .r ∨ o.acc = .rs ∨ o.ty = .bytes
    → Runs (.objectWrite (.home m (homeAddress i sub) v)) s (fun u => u = s)) ∧
  (∀ (s : State) (m q : Nat) (v : Word), homeMaster m = true → q < 256
    → Runs (.objectWrite (.home m (0x48000000 + 16 * q) v)) s (fun u => (get ({} : IntQ) u.disp.queues q).route = v &&& 0x8FFFFF77))

/-- For these commands, under the conditions of each clause, a next state exists and holds what the clause says (R87 to R90). (1) WRITE of a forwarded object joins the queue, with a PENDING reply; (2) with 256 waiting: BUSY, and it does not join; (3) WRITE of an object that the Responder completes itself: that object's operation at once; (4) WINDOW_WRITE joins the queue, with a PENDING reply; (5) WINDOW_READ of another window than SIGNAL_IMAGE joins the queue without a reply; (6) FORWARDED_REQUEST_COMPLETE takes the oldest request, other than a SIGNED_WRITE, and carries it out; (7) of a write of XANFIL_UDP_PORT: the port from 1024 on, the reply still from the old one; (8) below 1024: RANGE; (9) with none waiting, or no runtime: nothing. What it says beyond the rules is the model's choice (log entry 12). -/
def Obligations.ForwardedRequestsQueueInOrder : Prop :=
  (∀ (s : State) (r : Req) (t : State) (x : ReplyTo), r.port ≠ 0 → s.judge r 2 = .passed t x → State.ownWrite r.index.toNat = false
    → t.xan.queue.length < 256 → Runs (.write r) s (fun u => u.xan.queue = s.xan.queue ++ [{ req := r, opcode := 2, auth := x.auth }]
    ∧ Sent u (x.frame true 0 r.sub []))) ∧
  (∀ (s : State) (r : Req) (t : State) (x : ReplyTo), r.port ≠ 0 → s.judge r 2 = .passed t x → State.ownWrite r.index.toNat = false
    → 256 ≤ t.xan.queue.length → Runs (.write r) s (fun u => u.xan.queue = s.xan.queue ∧ Replied u x 0x0A)) ∧
  (∀ (s : State) (r : Req) (t : State) (x : ReplyTo), r.port ≠ 0 → s.judge r 2 = .passed t x → State.ownWrite r.index.toNat = true
    → Runs (.write r) s (fun u => u = State.writeOp r.index.toNat r.sub.toNat t x)) ∧
  (∀ (s : State) (r : Req) (t : State) (x : ReplyTo), r.port ≠ 0 → s.judge r 5 = .passed t x → State.ownWrite r.index.toNat = false
    → t.xan.queue.length < 256 → Runs (.windowWrite r) s (fun u => u.xan.queue = s.xan.queue ++ [{ req := r, opcode := 5, auth := x.auth }]
    ∧ Sent u (x.frame true 0 r.sub []))) ∧
  (∀ (s : State) (r : Req) (t : State) (x : ReplyTo), r.port ≠ 0 → s.judge r 4 = .passed t x → r.index ≠ 0x6400 → t.xan.queue.length < 256
    → Runs (.windowRead r) s (fun u => u.xan.queue = s.xan.queue ++ [{ req := r, opcode := 4, auth := x.auth }] ∧ u.xan.out = s.xan.out)) ∧
  (∀ (s : State) (f : Fwd) (rest : List Fwd), s.xan.queue = f :: rest → s.runtimeUp = true → f.opcode ≠ 0x12
    → Runs (.forwardedRequestComplete) s (fun u => u = ({ s with xan.queue := rest }).carryOut (State.replyOf f))) ∧
  (∀ (s : State) (f : Fwd) (rest : List Fwd), s.xan.queue = f :: rest → s.runtimeUp = true → f.opcode = 2 → f.req.index = 0x1010 → f.req.sub = 1
    → f.req.port ≠ 0 → 1024 ≤ f.req.value → State.blankBarred (State.replyOf f) = false → s.recoveryBarred (State.replyOf f) = false
    → Runs (.forwardedRequestComplete) s (fun u => u.xan.queue = rest ∧ u.xan.udpPort = BitVec.ofNat 16 f.req.value ∧ Replied u (State.replyOf f) 0
    ∧ (f.req.port < 6 → (u.xan.out.head?.map (·.fromPort)) = some s.xan.udpPort))) ∧
  (∀ (s : State) (f : Fwd) (rest : List Fwd), s.xan.queue = f :: rest → s.runtimeUp = true → f.opcode = 2 → f.req.index = 0x1010 → f.req.sub = 1
    → f.req.port ≠ 0 → f.req.value < 1024 → Runs (.forwardedRequestComplete) s (fun u => u.xan.queue = rest ∧ u.xan.udpPort = s.xan.udpPort
    ∧ Replied u (State.replyOf f) 6)) ∧
  (∀ (s : State), s.xan.queue = [] ∨ s.runtimeUp = false → Runs (.forwardedRequestComplete) s (fun u => u = s))

/-- For these commands, under the conditions of each clause, a next state exists and holds what the clause says (R101, R103, R109, R110, R112). (1) SESSION_OPEN that passes the checks of Table 4.3: the private-key work begins, with the token's role, scope, key and nonce; (2) SESSION_OPEN that fails one: OPEN_REFUSALS and a reply with its status; (3) SESSION_OPEN_REPLY with a fresh number: the session is open and the reply of Table 4.4 leaves; (4) without an opening: nothing; (5) SESSION_CLOSE with a right tag and a counter not used before: its session is gone, status 0; (6) SESSION_CLOSE without one: TAG_FAILURES and status 7; (7) SESSION_IDLE_TIMEOUT when the limit in force has passed: that session alone is gone; (8) before that: nothing; (9) SESSION_VALIDITY_EXPIRY when the validity has run out: that session is gone, with its cursors; (10) SESSION_KILL of an open session: it is gone; (11) of none: RANGE; (12) REVOKED_NONCES of one entry: stored, and no session of that nonce stays. What it says beyond the rules is the model's choice (log entries 13, 15, 80). -/
def Obligations.SessionsOpenAndEnd : Prop :=
  (∀ (s : State) (r : Req) (k : BitVec 512), s.hears r = true → fits r = true → frameOk r = true → r.overCan = false → r.port ≠ 0 → r.index = 0x1200
    → r.sub = 0 → s.openFault r k = none → Runs (.sessionOpen r k) s (fun u => ∃ o : Opening, u = { s with sess.opening := some o } ∧ o.req = r
    ∧ o.role = at_ r.data 2 1 ∧ o.scope = at_ r.data 4 2 ∧ o.clientKey = State.tokenKey r.data ∧ o.clientNonce = slice r.data 1096 32)) ∧
  (∀ (s : State) (r : Req) (k : BitVec 512) (f : Nat × Nat), s.hears r = true → fits r = true → frameOk r = true → r.overCan = false → r.port ≠ 0
    → r.index = 0x1200 → r.sub = 0 → s.openFault r k = some f
    → Runs (.sessionOpen r k) s (fun u => u.sess = { s.sess with refusals := s.sess.refusals + 1 } ∧ Keeps [.sess, .moraine, .xan, .can, .draws] s u
    ∧ (u.xan.out.head?.map (·.status)) = some (BitVec.ofNat 8 f.2))) ∧
  (∀ (s : State) (o : Opening) (key : BitVec 256) (n : Word), s.sess.opening = some o → n ≠ 0 → s.sessionOf n = none → o.req.port ≠ 0
    → o.blank = false ∨ s.sedge.coverOpen = true → Runs (.sessionOpenReply key n) s (fun u => ∃ y : Session, u.sess.table = s.sess.table ++ [y]
    ∧ y.number = n ∧ y.role = o.role ∧ y.scope = o.scope ∧ y.key = key ∧ y.counter = 0 ∧ u.sess.opening = none ∧ u.sess.opens = s.sess.opens + 1
    ∧ Replied u (⟨o.req, 0x10, none⟩ : ReplyTo) 0 (s.openReply o key n))) ∧
  (∀ (s : State) (key : BitVec 256) (n : Word), s.sess.opening = none → Runs (.sessionOpenReply key n) s (fun u => u = s)) ∧
  (∀ (s : State) (r : Req) (ses : Session) (a : Auth), s.hears r = true → fits r = true → frameOk r = true → r.overCan = false → r.port ≠ 0
    → r.index = 0x1200 → r.sub = 0 → s.authOf r 0x11 = .ok (ses, a) → ses.counter < a.counter → r.length = 0
    → Runs (.sessionClose r) s (fun u => (∀ y ∈ u.sess.table, y.number ≠ a.session) ∧ (u.xan.out.head?.map (fun y => (y.opcode,
    y.status))) = some (0x91, 0))) ∧
  (∀ (s : State) (r : Req) (k : Nat), s.hears r = true → fits r = true → frameOk r = true → r.overCan = false → r.port ≠ 0 → r.index = 0x1200
    → r.sub = 0 → s.authOf r 0x11 = .error k → Runs (.sessionClose r) s (fun u => u.sess = { s.sess with tagFailures := s.sess.tagFailures + 1 }
    ∧ (u.xan.out.head?.map (fun y => (y.opcode, y.status))) = some (0x91, 7))) ∧
  (∀ (s : State) (n : Word) (y : Session), s.sessionOf n = some y → y.lastReq + s.idleInForce.toNat * 1000000000 ≤ s.time.mono
    → Runs (.sessionIdleTimeout n) s (fun u => u.sess.table = s.sess.table.filter (fun z => z.number ≠ n) ∧ Keeps [.sess, .moraine, .capture] s u)) ∧
  (∀ (s : State) (n : Word) (y : Session), s.sessionOf n = some y → s.time.mono < y.lastReq + s.idleInForce.toNat * 1000000000
    → Runs (.sessionIdleTimeout n) s (fun u => u = s)) ∧
  (∀ (s : State) (n : Word) (y : Session), s.sessionOf n = some y → y.openedAt + y.validFor ≤ s.time.mono
    → Runs (.sessionValidityExpiry n) s (fun u => u.sess.table = s.sess.table.filter (fun z => z.number ≠ n) ∧ (∀ c ∈ u.moraine.cursors, c.1 ≠ n)
    ∧ (∀ c ∈ u.capture.cursors, c.1 ≠ n) ∧ Keeps [.sess, .moraine, .capture] s u)) ∧
  (∀ (s : State) (r : Req) (t : State) (x : ReplyTo), Granted s r 2 t x → r.index = 0x1203 → r.sub = 0
    → (t.sessionOf (BitVec.ofNat 32 r.value)).isSome = true → Runs (.sessionKill r) s (fun u => (∀ y ∈ u.sess.table,
    y.number ≠ BitVec.ofNat 32 r.value) ∧ Replied u x 0)) ∧
  (∀ (s : State) (r : Req) (t : State) (x : ReplyTo), Granted s r 2 t x → r.index = 0x1203 → r.sub = 0
    → (t.sessionOf (BitVec.ofNat 32 r.value)).isSome = false → Runs (.sessionKill r) s (fun u => Replied u x 6)) ∧
  (∀ (s : State) (r : Req) (t : State) (x : ReplyTo), Granted s r 5 t x → r.index = 0x1210 → r.sub = 0 → r.select = 0 → r.bytes.length = 32
    → r.offset ≤ 2016 → at_ r.bytes 0 32 ≠ 0 → r.overCan = false
    → Runs (.revokedNonces r) s (fun u => get 0 u.sess.revoked (r.offset / 32) = BitVec.ofNat 256 (at_ r.bytes 0 32) ∧ (∀ y ∈ u.sess.table,
    y.nonce ≠ BitVec.ofNat 256 (at_ r.bytes 0 32)) ∧ u.sess.revokedGen = s.sess.revokedGen + 1 ∧ Replied u x 0))

/-- For these commands, under the conditions of each clause, a next state exists and holds what the clause says (R115, R117, R118, R122, R126, R127). (1) SIGNED_WRITE that passes checks 1 to 13 joins the queue, with a PENDING reply; (2) SIGNATURE_VERIFIED of the oldest unverified command whose signature is wrong: it leaves the queue, status 7; (3) of one whose signature is right: it stays, verified, and E-0x043 is triggered where its rate limit passes it; (4) PRESENCE_PERMIT of 60 to 3,600 s in SERVICE: the permit runs; (5) of another value: RANGE; (6) PRESENCE_PERMIT_EXPIRY at its end: no permit; (7) before it: nothing; (8) REPLACE_AUTHORITY with a well-formed argument: the staged certificate becomes the authority's, one version more, where Table 4.10 admits it, else RANGE; (9) INSTALL_DEVICE_CERT: the same for the device certificate; (10) REMOVE_DEVICE_CERT: none, one version more, nothing staged; (11) ATTEST_QUOTE_NONCE with the security engine free: the work begins with that nonce; (12) with it busy: BUSY; (13) QUOTE_COMPLETE: the quote of Table 4.11 with its signature; (14) without one under way: nothing. What it says beyond the rules is the model's choice (log entries 7, 16, 80, 81, 102). -/
def Obligations.SignedCommandsKeyStoreAndQuote : Prop :=
  (∀ (s : State) (r : Req) (t : State) (x : ReplyTo), r.port ≠ 0 → s.judge r 0x12 = .passed t x → t.xan.queue.length < 256
    → Runs (.signedWrite r) s (fun u => u.xan.queue = s.xan.queue ++ [{ req := r, opcode := 0x12, auth := x.auth }]
    ∧ Sent u (x.frame true 0 r.sub []))) ∧
  (∀ (s : State) (f : Fwd) (rest : List Fwd) (k : BitVec 512), takeOut (fun g : Fwd => g.opcode = 0x12 && !g.signedOk) s.xan.queue = some (f, rest)
    → State.commandSigned f k = false → f.req.port ≠ 0 → Runs (.signatureVerified k) s (fun u => u.xan.queue = rest
    ∧ Replied u (State.replyOf f) 7)) ∧
  (∀ (s : State) (f : Fwd) (rest : List Fwd) (k : BitVec 512), takeOut (fun g : Fwd => g.opcode = 0x12 && !g.signedOk) s.xan.queue = some (f, rest)
    → State.commandSigned f k = true
    → Runs (.signatureVerified k) s (fun u => u.xan.queue = s.xan.queue.map (fun g => if g = f then { g with signedOk := true } else g)
    ∧ u.xan.out = s.xan.out ∧ (((codeOf s 0x043).refill s.time.mono).relimit.passes = true → (u.moraine.queue.getLast?.map (·.code)) = some 0x043))) ∧
  (∀ (s : State) (f : Fwd) (t : State), Signed s 0x1220 f t → f.req.arg.length = 4 → 60 ≤ fromBe f.req.arg → fromBe f.req.arg ≤ 3600
    → s.inService = true → Runs (.presencePermit) s (fun u => u.sess.presenceUntil = some (s.time.mono + fromBe f.req.arg * 1000000000)
    ∧ u.xan.queue = t.xan.queue ∧ Replied u (State.replyOf f) 0)) ∧
  (∀ (s : State) (f : Fwd) (t : State), Signed s 0x1220 f t → f.req.arg.length ≠ 4 ∨ fromBe f.req.arg < 60 ∨ 3600 < fromBe f.req.arg
    → Runs (.presencePermit) s (fun u => u.sess.presenceUntil = s.sess.presenceUntil ∧ Replied u (State.replyOf f) 6)) ∧
  (∀ (s : State) (e : Ns), s.sess.presenceUntil = some e → e ≤ s.time.mono
    → Runs (.presencePermitExpiry) s (fun u => u = { s with sess.presenceUntil := none })) ∧
  (∀ (s : State) (e : Ns), s.sess.presenceUntil = some e → s.time.mono < e → Runs (.presencePermitExpiry) s (fun u => u = s)) ∧
  (∀ (s : State) (f : Fwd) (t : State) (salt : BitVec 512), Signed s 0x1130 f t → s.keyArgument f.req.arg 1 = true → s.mode.life = .provisioned
    ∨ s.mode.life = .inService ∨ s.mode.life = .develop
    → Runs (.replaceAuthority salt) s (fun u => u.sess.ks.authority = (if s.mayReplaceAuthority salt then s.keyStage else s.sess.ks.authority)
    ∧ u.sess.ks.deviceCert = s.sess.ks.deviceCert
    ∧ u.sess.ks.version = (if s.mayReplaceAuthority salt then s.sess.ks.version + 1 else s.sess.ks.version)
    ∧ Replied u (State.replyOf f) (if s.mayReplaceAuthority salt then 0 else 6))) ∧
  (∀ (s : State) (f : Fwd) (t : State) (salt : BitVec 512), Signed s 0x1130 f t → s.keyArgument f.req.arg 2 = true → s.mode.life = .provisioned
    ∨ s.mode.life = .inService ∨ s.mode.life = .develop
    → Runs (.installDeviceCert salt) s (fun u => u.sess.ks.deviceCert = (if s.mayInstallCert salt then s.keyStage else s.sess.ks.deviceCert)
    ∧ u.sess.ks.authority = s.sess.ks.authority ∧ u.sess.ks.version = (if s.mayInstallCert salt then s.sess.ks.version + 1 else s.sess.ks.version)
    ∧ Replied u (State.replyOf f) (if s.mayInstallCert salt then 0 else 6))) ∧
  (∀ (s : State) (f : Fwd) (t : State), Signed s 0x1130 f t → s.keyArgument f.req.arg 3 = true → s.mode.life = .provisioned ∨ s.mode.life = .inService
    ∨ s.mode.life = .develop → Runs (.removeDeviceCert) s (fun u => u.sess.ks.deviceCert = [] ∧ u.sess.ks.authority = s.sess.ks.authority
    ∧ u.sess.ks.version = s.sess.ks.version + 1 ∧ u.sess.stageTotal = 0 ∧ Replied u (State.replyOf f) 0)) ∧
  (∀ (s : State) (r : Req) (t : State) (x : ReplyTo), Granted s r 5 t x → r.index = 0x1111 → r.sub = 0 → s.engineBusy = false
    → Runs (.attestQuoteNonce r) s (fun u => u.sess.quoteBusy = true ∧ u.sess.quoteNonce = r.bytes ∧ u.sess.quote = [] ∧ Replied u x 0)) ∧
  (∀ (s : State) (r : Req) (t : State) (x : ReplyTo), Granted s r 5 t x → r.index = 0x1111 → r.sub = 0 → s.engineBusy = true
    → Runs (.attestQuoteNonce r) s (fun u => u.sess.quoteNonce = s.sess.quoteNonce ∧ Replied u x 0x0A)) ∧
  (∀ (s : State), s.sess.quoteBusy = true → Runs (.quoteComplete) s (fun u => u.sess.quoteBusy = false ∧ u.sess.quoteGen = s.sess.quoteGen + 1
    ∧ u.sess.quote = s.quoteBody ++ be 512 (s.identitySignature s.quoteBody).toNat ∧ Keeps [.sess, .draws] s u)) ∧
  (∀ (s : State), s.sess.quoteBusy = false → Runs (.quoteComplete) s (fun u => u = s))

/-- For these commands, under the conditions of each clause, a next state exists and holds what the clause says (R25, R56, R57, R120, R314, R372, R554, R578). (1) POWER_ON_RESET_RELEASE with a feed above 19,200 mV: mode COLD, not booted, no session, memory as after a wipe, the clock stopped; life-cycle state, firmware floor, XANFIL_UDP_PORT and LEAF_TIMEOUT kept, one boot more; (2) neither in reset nor before the first boot, or without such a feed, it changes nothing; (3) HUB_STARTUP_TEST_COMPLETE starts ALIVE unless a SAFE-class latch or the stopped leaf watchdog holds it; (4) MONOTONIC_CLOCK_START_TIMEOUT, 200 ms after reset, starts the clock at 0; (5) BOOT_MEASUREMENT_COMPLETE with a readable configuration: measured, the key store as R120 loads it, two boot log entries more where there is room; (6) with a configuration that neither device gives back: measured, LEAF_TIMEOUT 50, XANFIL_UDP_PORT 52140, IDLE_TIMEOUT 600; (7) END_OF_BOOT: booted; the image of the slot that boots is loaded from there, and NO_IMAGE is set where no slot boots. What it says beyond the rules is the model's choice (log entries 3, 19, 21, 102). -/
def Obligations.PowerOnResetAndBoot : Prop :=
  (∀ (s : State) (p : PowerUp), s.mode.inReset = true ∨ s.moraine.boot = 0 → State.supplied p = true
    → Runs (.powerOnResetRelease p) s (fun u => u.mode.current = .cold ∧ u.mode.inReset = false ∧ u.mode.booted = false ∧ u.mem = []
    ∧ u.sess.table = [] ∧ u.mode.life = s.mode.life ∧ u.sedge.floor = s.sedge.floor ∧ u.xan.udpPort = s.xan.udpPort
    ∧ u.hub.leafTimeout = s.hub.leafTimeout ∧ u.moraine.boot = s.moraine.boot + 1 ∧ u.time.monoRun = false ∧ u.pending = s.pending)) ∧
  (∀ (s : State) (p : PowerUp), (s.mode.inReset = false ∧ s.moraine.boot ≠ 0) ∨ State.supplied p = false
    → Runs (.powerOnResetRelease p) s (fun u => u = s)) ∧
  (∀ (s : State), s.mode.inReset = false → s.mode.hubTested = false → Runs (.hubStartupTestComplete) s (fun u => u = { s with mode.hubTested := true, hub.aliveFrozen := s.safeCause || s.hub.leafStopped, hub.aliveAt := s.time.now })) ∧
  (∀ (s : State), s.mode.inReset = false → s.time.monoRun = false → s.mode.resetAt + 200000000 ≤ s.time.now
    → Runs (.monotonicClockStartTimeout) s (fun u => u = { s with time.mono := 0, time.monoRun := true })) ∧
  (∀ (s : State) (m : BootMeasure), s.mode.inReset = false → s.mode.measured = false → s.sedge.recovery = false → s.mode.lifePending = none
    → State.readable m 4 = true → Runs (.bootMeasurementComplete m) s (fun u => u.mode = { s.mode with measured := true }
    ∧ u.sess.ks = (s.loadKeyStore m.copy1 m.copy2).sess.ks ∧ u.sess.table = s.sess.table ∧ (s.sedge.bootLog.length < 799
    → u.sedge.bootLog.length = s.sedge.bootLog.length + 2))) ∧
  (∀ (s : State) (m : BootMeasure), s.mode.inReset = false → s.mode.measured = false → s.sedge.recovery = false → s.mode.lifePending = none
    → State.readable m 4 = false → Runs (.bootMeasurementComplete m) s (fun u => u.mode.measured = true ∧ u.hub.leafTimeout = 50
    ∧ u.xan.udpPort = 52140 ∧ u.sess.idleTimeout = 600)) ∧
  (∀ (s : State), s.mode.inReset = false → s.mode.measured = true → s.mode.booted = false → Runs (.endOfBoot) s (fun u => u.mode.booted = true
    ∧ u.mode.noImage = (s.mode.noImage || s.bootSlot.isNone) ∧ u.image.map (·.hash) = s.bootImage.elim (s.image.map (·.hash)) (fun e => some e.2.hash)
    ∧ u.drift.area = s.bootImage.elim s.drift.area (·.1) ∧ u.mem = s.mem))

/-- For these commands, under the conditions of each clause, a next state exists and holds what the clause says (R548, R549, R550, R551, R573, R574, R577). (1) POWER_FAIL, both feeds below 16,000 mV for the first time: the instant, the readings and the cover state are kept, and one POWER_FAIL log entry is added; (2) POWER_FAIL otherwise changes nothing; (3) LOGIC_SUPPLY_LOST, both feeds low for 200 µs: power-on reset asserted, mode COLD, no ownership, no session; an owner drops with reason 6; (4) LOGIC_SUPPLY_LOST before that changes nothing; (5) PRESENT_N_HIGH held for 4 µs on an inserted module: power-on reset asserted, mode COLD, no ownership, no session; an owner drops with reason 8; (6) PRESENT_N_HIGH for less changes nothing; (7) FEED_OVERVOLTAGE_DISCONNECT of a feed above 33,000 mV cuts off that feed and no other; (8) at 33,000 mV or below it changes nothing; (9) FEED_RECONNECT after 10 ms below 31,000 mV takes that feed back and no other; (10) FEED_RECONNECT at 31,000 mV or above, or before 10 ms, changes nothing; (11) SENSOR_SAMPLE, the first or 10 ms after the last one: each of the 24 sensors takes its reading with its band; (12) SENSOR_SAMPLE before that changes nothing; (13) COVER open: noted, one log entry, one occurrence of D335; (14) COVER closed: noted, one log entry, and no session opened in BLANK stays; (15) COVER as it stands changes nothing; (16) SEDGE_STORE_RETRY that succeeds ends the failure; (17) one that fails keeps it, with an occurrence of D337. What it says beyond the rules is the model's choice (log entries 21, 22). -/
def Obligations.SuppliesSeatSensorsAndCover : Prop :=
  (∀ (s : State) (a b : Nat), a < 16000 → b < 16000 → s.sedge.lowSince = none → Runs (.powerFail a b) s (fun u => u.sedge.lowSince = some s.time.now
    ∧ u.sedge.feedA.millivolts = a ∧ u.sedge.feedB.millivolts = b ∧ u.sedge.coverSaved = some s.sedge.coverOpen
    ∧ (u.sedge.log.head?.map (fun e => (e.kind, e.subject, e.seq))) = some (2, bit s.sedge.coverOpen 0, s.sedge.logNewest + 1) ∧ Keeps [.moraine,
    .sedge] s u)) ∧
  (∀ (s : State) (a b : Nat), 16000 ≤ a ∨ 16000 ≤ b ∨ s.sedge.lowSince.isSome = true → Runs (.powerFail a b) s (fun u => u = s)) ∧
  (∀ (s : State) (k : Ns), s.sedge.lowSince = some k → k + 200000 ≤ s.time.now → s.mode.inReset = false
    → Runs (.logicSupplyLost) s (fun u => u.pair.ownSelf = false ∧ u.mode.inReset = true ∧ u.mode.resetAt = s.time.now ∧ u.mode.current = .cold
    ∧ u.sess.table = [] ∧ u.mem = s.mem ∧ (s.pair.ownSelf = true → u.pair.lastDrop = 6))) ∧
  (∀ (s : State), s.sedge.lowSince.elim true (fun k => decide (s.time.now < k + 200000)) = true → Runs (.logicSupplyLost) s (fun u => u = s)) ∧
  (∀ (s : State) (h : Ns), 4000 ≤ h → s.sedge.inserted = true → Runs (.presentNHigh h) s (fun u => u.pair.ownSelf = false ∧ u.mode.inReset = true
    ∧ u.mode.current = .cold ∧ u.sedge.inserted = false ∧ u.sess.table = [] ∧ u.mem = s.mem ∧ (s.pair.ownSelf = true → u.pair.lastDrop = 8))) ∧
  (∀ (s : State) (h : Ns), h < 4000 → Runs (.presentNHigh h) s (fun u => u = s)) ∧
  (∀ (s : State) (f mv : Nat), f < 2 → 33000 < mv → (s.feed f).disconnected = false
    → Runs (.feedOvervoltageDisconnect f mv) s (fun u => (u.feed f).disconnected = true ∧ (u.feed f).millivolts = mv ∧ u.feed (1 - f) = s.feed (1 - f)
    ∧ Keeps [.sedge] s u)) ∧
  (∀ (s : State) (f mv : Nat), mv ≤ 33000 → Runs (.feedOvervoltageDisconnect f mv) s (fun u => u = s)) ∧
  (∀ (s : State) (f mv : Nat) (b : Ns), f < 2 → mv < 31000 → 10000000 ≤ b → (s.feed f).disconnected = true
    → Runs (.feedReconnect f mv b) s (fun u => (u.feed f).disconnected = false ∧ (u.feed f).millivolts = mv ∧ u.feed (1 - f) = s.feed (1 - f)
    ∧ Keeps [.sedge] s u)) ∧
  (∀ (s : State) (f mv : Nat) (b : Ns), 31000 ≤ mv ∨ b < 10000000 → Runs (.feedReconnect f mv b) s (fun u => u = s)) ∧
  (∀ (s : State) (l : List Int) (failed : List Nat), l.length = 24 → s.sedge.sampledAt.elim true (fun k => decide (k + 10000000 ≤ s.time.now)) = true
    → Runs (.sensorSample l failed) s (fun u => u.sedge.sampledAt = some s.time.now ∧ (∀ n ∈ List.range 24,
    u.sensor n = (s.sensor n).sample n (l.getD n 0) (failed.contains n)) ∧ u.sedge.feedA.millivolts = (l.getD 6 0).toNat
    ∧ u.sedge.feedB.millivolts = (l.getD 7 0).toNat)) ∧
  (∀ (s : State) (l : List Int) (failed : List Nat) (k : Ns), s.sedge.sampledAt = some k → s.time.now < k + 10000000
    → Runs (.sensorSample l failed) s (fun u => u = s)) ∧
  (∀ (s : State), s.sedge.coverOpen = false → Runs (.cover true) s (fun u => u.sedge.coverOpen = true
    ∧ (u.det 335).count = BitVec.ofNat 32 (sat32 ((s.det 335).count.toNat + 1)) ∧ u.sedge.logNewest = s.sedge.logNewest + 1)) ∧
  (∀ (s : State), s.sedge.coverOpen = true → Runs (.cover false) s (fun u => u.sedge.coverOpen = false ∧ (∀ y ∈ u.sess.table, y.blank = false)
    ∧ u.sedge.logNewest = s.sedge.logNewest + 1 ∧ u.hub = s.hub)) ∧
  (∀ (s : State) (b : Bool), b = s.sedge.coverOpen → Runs (.cover b) s (fun u => u = s)) ∧
  (∀ (s : State), Runs (.sedgeStoreRetry true) s (fun u => u = { s with sedge.storeFailed := false })) ∧
  (∀ (s : State), Runs (.sedgeStoreRetry false) s (fun u => u.sedge.storeFailed = true
    ∧ (u.det 337).count = BitVec.ofNat 32 (sat32 ((s.det 337).count.toNat + 1))))

/-- For these commands, under the conditions of each clause, a next state exists and holds what the clause says (R558 to R563). (1) FW_STAGE stores its bytes, STAGE_STATE 1, and empties the slot that does not run; (2) FW_COMMAND 1: STAGE_STATE 2; (3) FW_COMMAND 2: nothing is staged; a package that was staged leaves its slot; (4) FW_VERIFY_COMPLETE: STAGE_STATE 3 and the package in its slot, or 4 with the first check of Table 19.7 that it fails; one log entry; (5) FW_VERIFY_COMPLETE without a verification changes nothing; (6) FW_ACTIVATE OP 1 on a module without ownership or partner: the staged slot on trial with two attempts, a reboot due; (7) FW_ACTIVATE OP 1 with nothing verified: RANGE; (8) FIRMWARE_REBOOT: COLD, power-on reset asserted; (9) FLOOR_RAISE: the floor takes the running package's SECURITY_VERSION; (10) TRIAL_CONFIRMED ends a trial that R562 finds good; (11) TRIAL_CONFIRMED otherwise changes nothing. What it says beyond the rules is the model's choice (log entries 19, 23, 105, 116). -/
def Obligations.FirmwareIsStagedAndActivated : Prop :=
  (∀ (s : State) (r : Req) (t : State) (x : ReplyTo), Granted s r 5 t x → r.index = 0x7A21 → r.sub = 0 → r.select = 0 → r.offset ≤ s.sedge.stageTotal
    → 1 ≤ r.bytes.length → r.bytes.length ≤ (if r.overCan then 16 else 1024) → r.offset + r.bytes.length ≤ 2 ^ 28 → s.sedge.trial = false
    → s.mayStageFw = true → Runs (.fwStage r) s (fun u => u.sedge.stageState = 1
    ∧ u.sedge.stageTotal = max s.sedge.stageTotal (r.offset + r.bytes.length) ∧ u.sedge.stage = writeBytes s.sedge.stage r.offset r.bytes
    ∧ u.other = none ∧ u.running = s.running ∧ Replied u x 0)) ∧
  (∀ (s : State) (r : Req) (t : State) (x : ReplyTo), Granted s r 2 t x → r.index = 0x7A22 → r.sub = 0 → r.value = 1
    → Runs (.fwVerify r) s (fun u => u.sedge = { s.sedge with stageState := 2, stageError := 0 } ∧ Replied u x 0)) ∧
  (∀ (s : State) (r : Req) (t : State) (x : ReplyTo), Granted s r 2 t x → r.index = 0x7A22 → r.sub = 0 → r.value = 2
    → Runs (.fwDiscard r) s (fun u => u.sedge.stageState = 0 ∧ u.sedge.stageTotal = 0 ∧ u.sedge.stage = [] ∧ u.other = (if s.sedge.stageState = 0
    ∨ s.sedge.stageState = 5 then s.other else none) ∧ u.running = s.running ∧ Replied u x 0)) ∧
  (∀ (s : State) (c : Word) (k : BitVec 512) (a b : Bool), s.sedge.stageState = 2
    → Runs (.fwVerifyComplete c k a b) s (fun u => u.sedge.stageState = (if s.packageFault (s.stagedPackage c k) = 0 then 3 else 4)
    ∧ u.sedge.stageError = s.packageFault (s.stagedPackage c k)
    ∧ u.other = (if s.packageFault (s.stagedPackage c k) = 0 then some (s.stagedPackage c k) else s.other) ∧ u.running = s.running
    ∧ u.sedge.logNewest = s.sedge.logNewest + 1 ∧ Keeps [.moraine, .sedge, .drift, .hub, .disp] s u)) ∧
  (∀ (s : State) (c : Word) (k : BitVec 512) (a b : Bool), s.sedge.stageState ≠ 2 → Runs (.fwVerifyComplete c k a b) s (fun u => u = s)) ∧
  (∀ (s : State) (f : Fwd) (t : State), Signed s 0x7A20 f t → s.sedge.stageState = 3 → State.fwArgument f.req.arg 1 s.other = true → s.fwBusy = false
    → s.mode.life = .provisioned ∨ s.mode.life = .inService ∨ s.mode.life = .develop → s.pair.ownSelf = false → s.partnerAnswers = false
    → Runs (.fwActivate) s (fun u => u.sedge.recordB = (!s.sedge.runningB) ∧ u.sedge.trial = true ∧ u.sedge.attempts = 2 ∧ u.mode.rebootDue = true
    ∧ u.running = s.running ∧ u.xan.queue = t.xan.queue ∧ Replied u (State.replyOf f) 0)) ∧
  (∀ (s : State) (f : Fwd) (t : State), Signed s 0x7A20 f t → s.sedge.stageState ≠ 3 → at_ f.req.arg 0 1 = 1
    → Runs (.fwActivate) s (fun u => u.sedge = s.sedge ∧ u.mode = s.mode ∧ Replied u (State.replyOf f) 6)) ∧
  (∀ (s : State), s.mode.rebootDue = true → Runs (.firmwareReboot) s (fun u => u.mode.rebootDue = false ∧ u.mode.current = .cold
    ∧ u.mode.inReset = true ∧ u.sedge.trial = s.sedge.trial ∧ u.mem = s.mem)) ∧
  (∀ (s : State) (f : Fwd) (t : State) (p : FwPackage), Signed s 0x7A20 f t → s.running = some p → State.fwArgument f.req.arg 2 (some p) = true
    → s.sedge.floor < p.securityVersion → s.fwBusy = false → s.mode.life = .provisioned ∨ s.mode.life = .inService ∨ s.mode.life = .develop
    → Runs (.floorRaise) s (fun u => u.sedge.floor = p.securityVersion ∧ u.running = s.running ∧ u.xan.queue = t.xan.queue
    ∧ Replied u (State.replyOf f) 0)) ∧
  (∀ (s : State), s.sedge.trial = true → s.mode.rebootDue = false → s.trialGood = true → Runs (.trialConfirmed) s (fun u => u.sedge.trial = false
    ∧ u.sedge.attempts = 0 ∧ u.running = s.running ∧ Keeps [.moraine, .sedge] s u)) ∧
  (∀ (s : State), s.sedge.trial = false ∨ s.trialGood = false → Runs (.trialConfirmed) s (fun u => u = s))

/-- For these commands, under the conditions of each clause, a next state exists and holds what the clause says (R347, R357, R359, R375, R376). (1) DETECTOR_OCCURRENCE of an event, or of a level that is not live: one count more, its time, information and live state, and its latch unless a shadow masks it; (2) DETECTOR_LIVE_FALL ends the live state of that detector alone; latch and count stay; (3) DETECTOR_LIVE_FALL of one that is not live changes nothing; (4) DET_RAISE at its home address, of a detector that the runtime may raise or in DEVELOP: that occurrence; (5) of another detector outside DEVELOP: nothing; (6) DET_RAISE over Xanfil in DEVELOP: that occurrence, and the final reply; (7) DET_RAISE with LEVEL_OFF of a level detector at its home address ends its live state, with no occurrence; (8) the same over Xanfil in DEVELOP, with the final reply. What it says beyond the rules is the model's choice (log entries 49, 52). -/
def Obligations.DetectorsCountAndLatch : Prop :=
  (∀ (s : State) (d : Nat) (a : DetAttr) (info : Word), detAttr d = some a → a.event = true ∨ (s.det d).live = false
    → Runs (.detectorOccurrence d info) s (fun u => OccurredIn s u d a info)) ∧
  (∀ (s : State) (d : Nat), (s.det d).live = true → Runs (.detectorLiveFall d) s (fun u => (u.det d).live = false
    ∧ (u.det d).clearedSince = (s.det d).latched ∧ (u.det d).latched = (s.det d).latched ∧ (u.det d).count = (s.det d).count ∧ (∀ e, e ≠ d
    → u.det e = s.det e) ∧ Keeps [.hub] s u)) ∧
  (∀ (s : State) (d : Nat), (s.det d).live = false → Runs (.detectorLiveFall d) s (fun u => u = s)) ∧
  (∀ (s : State) (m : Nat) (v : Word) (a : DetAttr), homeMaster m = true → State.raiseOk v.toNat = true → detAttr (State.raiseDet v.toNat) = some a
    → tb v.toNat 15 = false → a.event = true ∨ (s.det (State.raiseDet v.toNat)).live = false → s.mode.life = .develop ∨ a.runtime = true
    → Runs (.detRaise (.home m (homeAddress 0x7006 0) v)) s (fun u => OccurredIn s u (State.raiseDet v.toNat) a (BitVec.ofNat 32 (v.toNat / 65536)))) ∧
  (∀ (s : State) (m : Nat) (v : Word) (a : DetAttr), detAttr (State.raiseDet v.toNat) = some a → s.mode.life ≠ .develop → a.runtime = false
    → Runs (.detRaise (.home m (homeAddress 0x7006 0) v)) s (fun u => u = s)) ∧
  (∀ (s : State) (r : Req) (t : State) (x : ReplyTo) (a : DetAttr), Granted s r 2 t x → r.index = 0x7006 → r.sub = 0 → State.raiseOk r.value = true
    → detAttr (State.raiseDet r.value) = some a → tb r.value 15 = false → a.event = true ∨ (s.det (State.raiseDet r.value)).live = false
    → s.mode.life = .develop → Runs (.detRaise (.xanfil r)) s (fun u => OccurredIn s u (State.raiseDet r.value) a (BitVec.ofNat 32 (r.value / 65536))
    ∧ Replied u x 0)) ∧
  (∀ (s : State) (m : Nat) (v : Word) (a : DetAttr), homeMaster m = true → State.raiseOk v.toNat = true → detAttr (State.raiseDet v.toNat) = some a
    → tb v.toNat 15 = true → a.event = false → s.mode.life = .develop ∨ a.runtime = true
    → Runs (.detRaiseLevelOff (.home m (homeAddress 0x7006 0) v)) s (fun u => (u.det (State.raiseDet v.toNat)).live = false
    ∧ (u.det (State.raiseDet v.toNat)).count = (s.det (State.raiseDet v.toNat)).count)) ∧
  (∀ (s : State) (r : Req) (t : State) (x : ReplyTo) (a : DetAttr), Granted s r 2 t x → r.index = 0x7006 → r.sub = 0 → State.raiseOk r.value = true
    → detAttr (State.raiseDet r.value) = some a → tb r.value 15 = true → a.event = false → s.mode.life = .develop
    → Runs (.detRaiseLevelOff (.xanfil r)) s (fun u => (u.det (State.raiseDet r.value)).live = false
    ∧ (u.det (State.raiseDet r.value)).count = (s.det (State.raiseDet r.value)).count ∧ Replied u x 0))

/-- For these commands, under the conditions of each clause, a next state exists and holds what the clause says (R352, R356, R362, R365, R366, R370 to R372). (1) CAUSE_LATCH whose written detectors are not live clears their latches and no other; counts and first times stay; (2) CAUSE_LATCH that names a live detector is BUSY and clears none; (3) FENCE_RESTORE of a fenced domain without a latch: the restore and its shadow begin, the domain stays fenced; (4) FENCE_RESTORE of a domain not fenced, or during a restore, is BUSY; (5) RESTORE_SHADOW_END without an occurrence in the shadow or a live detector: the domain is fenced no more, and the final reply is 0; (6) with an occurrence of D254 in the shadow, for one: it is latched, the domain stays fenced, and the final reply is 0x0F; (7) SHADOW_END with no live detector and no waiting release: that shadow ends and nothing else of the Hub changes; (8) SHADOW_END before any shadow ends changes nothing; (9) LEAF_KICK at its home address with the value due: noted, the other value is due next; (10) with another value: the watchdog stops, ALIVE freezes, OWN_SELF falls; (11) LEAF_KICK over Xanfil: STATE_CONFLICT; (12) LEAF_WATCHDOG_STOP without the hardware kick: the same stop; (13) LEAF_WATCHDOG_STOP when the runtime kick's limit has run out: the same stop; (14) before that: nothing; (15) ALIVE_TOGGLE changes the level every 1 ms; (16) ALIVE_TOGGLE of a frozen ALIVE changes nothing. What it says beyond the rules is the model's choice (log entry 51). -/
def Obligations.CausesAreClearedAndTheLeafIsWatched : Prop :=
  (∀ (s : State) (r : Req) (t : State) (x : ReplyTo), Admitted s r 2 t x → r.index = 0x7010 → ∀ d ∈ State.writtenDets r.sub.toNat r.value,
    (s.det d).live = false → Runs (.causeLatch r) s (fun u => (∀ d ∈ State.writtenDets r.sub.toNat r.value, (u.det d).latched = false
    ∧ (u.det d).firstTime = (s.det d).firstTime ∧ (u.det d).count = (s.det d).count) ∧ (∀ d, d ∉ State.writtenDets r.sub.toNat r.value
    → u.det d = s.det d) ∧ Replied u x 0)) ∧
  (∀ (s : State) (r : Req) (t : State) (x : ReplyTo) (d : Nat), Admitted s r 2 t x → r.index = 0x7010 → d ∈ State.writtenDets r.sub.toNat r.value
    → (s.det d).live = true → Runs (.causeLatch r) s (fun u => u.hub = s.hub ∧ Replied u x 0x0A)) ∧
  (∀ (s : State) (r : Req) (t : State) (x : ReplyTo) (n : Nat), Granted s r 2 t x → r.index = 0x7003 → r.sub = 0 → resetTime r.value = some n
    → s.fenced r.value = true → s.hub.restore = none → s.latchedIn r.value = false
    → Runs (.fenceRestore r) s (fun u => (u.hub.restore.map (·.domain)) = some r.value ∧ u.hub.shadows = s.hub.shadows ++ [⟨r.value, 511, s.time.mono,
    s.time.mono + n + 200000⟩] ∧ u.hub.fenced = s.hub.fenced)) ∧
  (∀ (s : State) (r : Req) (t : State) (x : ReplyTo), Granted s r 2 t x → r.index = 0x7003 → r.sub = 0 → (resetTime r.value).isSome = true
    → s.fenced r.value = false ∨ s.hub.restore.isSome = true → Runs (.fenceRestore r) s (fun u => u.hub.fenced = s.hub.fenced
    ∧ u.hub.restore = s.hub.restore ∧ u.hub.shadows = s.hub.shadows ∧ Replied u x 0x0A)) ∧
  (∀ (s : State) (r : Restore) (h : Shadow), s.hub.restore = some r → h ∈ s.hub.shadows → h.domain = r.domain → h.parent = 511 → h.stop ≤ s.time.mono
    → r.hits = [] → ∀ e ∈ s.hub.dets, e.2.live = false → r.fwd.req.port ≠ 0 → Runs (.restoreShadowEnd) s (fun u => u.hub.restore = none
    ∧ u.hub.fenced = s.hub.fenced.filter (· ≠ r.domain) ∧ Replied u (State.replyOf r.fwd) 0)) ∧
  (∀ (s : State) (r : Restore) (h : Shadow), s.hub.restore = some r → h ∈ s.hub.shadows → h.domain = r.domain → h.parent = 511 → h.stop ≤ s.time.mono
    → r.hits = [(254, 7)] → ∀ e ∈ s.hub.dets, e.2.live = false → r.fwd.req.port ≠ 0 → Runs (.restoreShadowEnd) s (fun u => u.hub.restore = none
    ∧ u.hub.fenced = s.hub.fenced ∧ (u.det 254).latched = true ∧ Replied u (State.replyOf r.fwd) 0x0F)) ∧
  (∀ (s : State) (c : Nat) (h : Shadow), h ∈ s.hub.shadows → h.domain = c → h.parent ≠ 511 → h.stop ≤ s.time.mono → ∀ e ∈ s.hub.dets, e.2.live = false
    → ∀ e ∈ s.releases, e.2.waiting = false
    → Runs (.shadowEnd c) s (fun u => u.hub = { s.hub with shadows := s.hub.shadows.filter (fun h => !(h.domain = c && h.parent ≠ 511 && h.stop ≤ s.time.mono)) }
    ∧ Keeps [.hub, .sig, .capture] s u)) ∧
  (∀ (s : State) (c : Nat), ∀ h ∈ s.hub.shadows, s.time.mono < h.stop → Runs (.shadowEnd c) s (fun u => u = s)) ∧
  (∀ (s : State) (m : Nat), homeMaster m = true → s.hub.leafStopped = false
    → Runs (.leafKick (.home m (homeAddress 0x7005 0) s.hub.nextKick)) s (fun u => u = { s with hub.rtKick := some s.time.now, hub.leafLimit := s.hub.leafTimeout, hub.nextKick := if s.hub.nextKick = 0x5A5A then 0xA5A5 else 0x5A5A })) ∧
  (∀ (s : State) (m : Nat) (v : Word), homeMaster m = true → s.hub.leafStopped = false → v ≠ s.hub.nextKick
    → Runs (.leafKick (.home m (homeAddress 0x7005 0) v)) s (fun u => u.hub.leafStopped = true ∧ u.hub.aliveFrozen = true ∧ u.pair.ownSelf = false)) ∧
  (∀ (s : State) (r : Req) (t : State) (x : ReplyTo), Granted s r 2 t x → r.index = 0x7005 → r.sub = 0
    → Runs (.leafKick (.xanfil r)) s (fun u => Replied u x 9 (be 4 t.deviceMode.toNat ++ be 1 s.mode.life.code) ∧ u.hub = s.hub)) ∧
  (∀ (s : State), s.hub.leafStopped = false → Runs (.leafWatchdogStop 0) s (fun u => u.hub.leafStopped = true ∧ u.hub.aliveFrozen = true
    ∧ u.pair.ownSelf = false)) ∧
  (∀ (s : State) (k : Ns), s.hub.leafStopped = false → s.hub.rtKick = some k → k + s.hub.leafLimit.toNat * 1000000 ≤ s.time.now
    → Runs (.leafWatchdogStop 1) s (fun u => u.hub.leafStopped = true ∧ u.hub.aliveFrozen = true ∧ u.pair.ownSelf = false)) ∧
  (∀ (s : State) (k : Ns), s.hub.rtKick = some k → s.time.now < k + s.hub.leafLimit.toNat * 1000000 → Runs (.leafWatchdogStop 1) s (fun u => u = s)) ∧
  (∀ (s : State), s.hub.aliveFrozen = false → s.hub.aliveAt + 1000000 ≤ s.time.now
    → Runs (.aliveToggle) s (fun u => u = { s with hub.alive := !s.hub.alive, hub.aliveAt := s.time.now })) ∧
  (∀ (s : State), s.hub.aliveFrozen = true → Runs (.aliveToggle) s (fun u => u = s))

/-- For these commands, under the conditions of each clause, a next state exists and holds what the clause says (R24, R26, R28, R32, R33, R36, R336). (1) MODE_REQUEST_RUN on an owner that may go to RUN: PREPARE begins, RESULT 1; (2) MODE_REQUEST_HOLD: the same for HOLD; (3) SERVICE_REQUEST_SERVICE without release, where SERVICE is open: the same; (4) SERVICE_REQUEST_HOLD on an owner in SERVICE: the same; (5) MODE_REQUEST_HOLD in SERVICE: STATE_CONFLICT; (6) MODE_REQUEST_RUN elsewhere: STATE_CONFLICT; (7) during another change: BUSY; (8) with a reserved bit: RANGE; (9) SERVICE_REQUEST_TRACK where TRACK is open and the link has stood: TRACK at once, one epoch on; (10) where it has not: power-on reset, COLD; (11) where TRACK is not open: STATE_CONFLICT; (12) PREPARE_COMPLETE with a refusing unit: RESULT 4, that unit and its reason; (13) without one, with tasks: COMMIT, the epoch one on, the target taken, every task pending, RESULT 2; (14) without tasks: complete at once, RESULT 3; (15) outside PREPARE: nothing; (16) PREPARE_TIMEOUT when it has run out: RESULT 5; (17) before that: nothing. What it says beyond the rules is the model's choice (log entries 17, 78). -/
def Obligations.ModesArePreparedAndCommitted : Prop :=
  (∀ (s : State) (r : Req) (t : State) (x : ReplyTo), Granted s r 2 t x → r.index = 0x2001 → r.sub = 0 → targetOf r = 2 → r.value < 512
    → s.modeBusy = false → s.pair.ownSelf = true → s.mayGo .run false = true
    → Runs (.modeRequestRun r) s (fun u => u.mode = { s.mode with prep := some { target := .run, exclude := tb r.value 8, release := false, session := x.session, since := s.time.mono }, reqResult := 1, reqUnit := 0, reqReason := 0, reqSeq := s.mode.reqSeq + 1, reqSession := x.session }
    ∧ Keeps [.mode, .xan, .moraine, .can, .sess, .disp, .capture, .draws] s u ∧ Replied u x 0)) ∧
  (∀ (s : State) (r : Req) (t : State) (x : ReplyTo), Granted s r 2 t x → r.index = 0x2001 → r.sub = 0 → targetOf r = 3 → r.value < 512
    → s.modeBusy = false → s.pair.ownSelf = true → s.mayGo .hold false = true
    → Runs (.modeRequestHold r) s (fun u => u.mode = { s.mode with prep := some { target := .hold, exclude := tb r.value 8, release := false, session := x.session, since := s.time.mono }, reqResult := 1, reqUnit := 0, reqReason := 0, reqSeq := s.mode.reqSeq + 1, reqSession := x.session }
    ∧ Keeps [.mode, .xan, .moraine, .can, .sess, .disp, .capture, .draws] s u ∧ Replied u x 0)) ∧
  (∀ (s : State) (r : Req) (t : State) (x : ReplyTo), Granted s r 2 t x → r.index = 0x2003 → r.sub = 0 → targetOf r = 4 → r.value < 512
    → s.modeBusy = false → s.mayGo .service false = true
    → Runs (.serviceRequestService r) s (fun u => u.mode = { s.mode with prep := some { target := .service, exclude := tb r.value 8, release := false, session := x.session, since := s.time.mono }, reqResult := 1, reqUnit := 0, reqReason := 0, reqSeq := s.mode.reqSeq + 1, reqSession := x.session }
    ∧ Keeps [.mode, .xan, .moraine, .can, .sess, .disp, .capture, .draws] s u ∧ Replied u x 0)) ∧
  (∀ (s : State) (r : Req) (t : State) (x : ReplyTo), Granted s r 2 t x → r.index = 0x2003 → r.sub = 0 → targetOf r = 3 → r.value < 512
    → s.modeBusy = false → s.mode.current = .service → s.pair.ownSelf = true
    → Runs (.serviceRequestHold r) s (fun u => u.mode = { s.mode with prep := some { target := .hold, exclude := tb r.value 8, release := false, session := x.session, since := s.time.mono }, reqResult := 1, reqUnit := 0, reqReason := 0, reqSeq := s.mode.reqSeq + 1, reqSession := x.session }
    ∧ Keeps [.mode, .xan, .moraine, .can, .sess, .disp, .capture, .draws] s u ∧ Replied u x 0)) ∧
  (∀ (s : State) (r : Req) (t : State) (x : ReplyTo), Granted s r 2 t x → r.index = 0x2001 → r.sub = 0 → targetOf r = 3 → r.value < 512
    → s.modeBusy = false → s.mode.current = .service → Runs (.modeRequestHold r) s (fun u => u.mode = s.mode
    ∧ Replied u x 9 (be 4 s.deviceMode.toNat ++ be 1 s.mode.life.code))) ∧
  (∀ (s : State) (r : Req) (t : State) (x : ReplyTo), Granted s r 2 t x → r.index = 0x2001 → r.sub = 0 → targetOf r = 2 → r.value < 512
    → s.modeBusy = false → (s.pair.ownSelf && s.mayGo .run false) = false → Runs (.modeRequestRun r) s (fun u => u.mode = s.mode
    ∧ Replied u x 9 (be 4 s.deviceMode.toNat ++ be 1 s.mode.life.code))) ∧
  (∀ (s : State) (r : Req) (t : State) (x : ReplyTo), Granted s r 2 t x → r.index = 0x2001 → r.sub = 0 → targetOf r = 2 → r.value < 512
    → s.modeBusy = true → Runs (.modeRequestRun r) s (fun u => u.mode = s.mode ∧ Replied u x 0x0A)) ∧
  (∀ (s : State) (r : Req) (t : State) (x : ReplyTo), Granted s r 2 t x → r.index = 0x2001 → r.sub = 0 → targetOf r = 2 → 512 ≤ r.value
    → Runs (.modeRequestRun r) s (fun u => u.mode = s.mode ∧ Replied u x 6)) ∧
  (∀ (s : State) (r : Req) (t : State) (x : ReplyTo), Granted s r 2 t x → r.index = 0x2003 → r.sub = 0 → targetOf r = 1 → r.value < 512
    → s.modeBusy = false → s.mayTrack = true → s.pair.linkKept = true → s.pair.syncUp = true
    → Runs (.serviceRequestTrack r) s (fun u => u.mode.current = .track ∧ u.mode.epoch = s.mode.epoch + 1 ∧ u.mode.reqResult = 3 ∧ Replied u x 0)) ∧
  (∀ (s : State) (r : Req) (t : State) (x : ReplyTo), Granted s r 2 t x → r.index = 0x2003 → r.sub = 0 → targetOf r = 1 → r.value < 512
    → s.modeBusy = false → s.mayTrack = true → s.pair.linkKept = false → Runs (.serviceRequestTrack r) s (fun u => u.mode.current = .cold
    ∧ u.mode.inReset = true ∧ u.mode.reqResult = 3 ∧ (u.xan.out.head?.map (·.status)) = some 0)) ∧
  (∀ (s : State) (r : Req) (t : State) (x : ReplyTo), Granted s r 2 t x → r.index = 0x2003 → r.sub = 0 → targetOf r = 1 → r.value < 512
    → s.modeBusy = false → s.mayTrack = false → Runs (.serviceRequestTrack r) s (fun u => u.mode = s.mode
    ∧ Replied u x 9 (be 4 s.deviceMode.toNat ++ be 1 s.mode.life.code))) ∧
  (∀ (s : State) (p : Prep) (k n : Nat), s.mode.prep = some p → s.refusal p = some (k, n)
    → Runs (.prepareComplete) s (fun u => u.mode = { s.mode with prep := none, reqResult := 4, reqUnit := BitVec.ofNat 12 k, reqReason := BitVec.ofNat 8 n }
    ∧ Keeps [.mode, .moraine] s u)) ∧
  (∀ (s : State) (p : Prep), s.mode.prep = some p → s.refusal p = none → s.exchangeOpen = false → s.pair.handover ≠ 1 → s.taskMask ≠ 0
    → Runs (.prepareComplete) s (fun u => u.mode.prep = none ∧ u.mode.epoch = s.mode.epoch + 1 ∧ u.mode.target = p.target ∧ u.mode.inTransition = true
    ∧ u.mode.current = s.mode.current ∧ u.mode.pending = s.taskMask ∧ u.mode.commitAt = some s.time.mono ∧ u.mode.reqResult = 2)) ∧
  (∀ (s : State) (p : Prep), s.mode.prep = some p → s.refusal p = none → s.exchangeOpen = false → s.pair.handover ≠ 1 → s.taskMask = 0
    → Runs (.prepareComplete) s (fun u => u.mode.prep = none ∧ u.mode.epoch = s.mode.epoch + 1 ∧ u.mode.current = p.target
    ∧ u.mode.inTransition = false ∧ u.mode.reqResult = 3)) ∧
  (∀ (s : State), s.mode.prep = none → Runs (.prepareComplete) s (fun u => u = s)) ∧
  (∀ (s : State) (p : Prep), s.mode.prep = some p → p.since + s.mode.prepareTimeout.toNat * 1000000 ≤ s.time.mono
    → Runs (.prepareTimeout) s (fun u => u.mode = { s.mode with prep := none, reqResult := 5 } ∧ Keeps [.mode, .moraine] s u)) ∧
  (∀ (s : State), s.mode.prep.elim true (fun p => decide (s.time.mono < p.since + s.mode.prepareTimeout.toNat * 1000000)) = true
    → Runs (.prepareTimeout) s (fun u => u = s))

/-- For these commands, under the conditions of each clause, a next state exists and holds what the clause says (R167 to R169, R188, R190 to R192). (1) TASK_RELEASE_INSTANT of a due task that dispatches, with every working set resident, no release or delta pending, no swap and no adoption: counted, LAST_RELEASE, and a release on a core of its affinity that is not fenced; (2) of a halted one: counted, missed, and none placed; (3) DEADLINE_CHECK in RUN of a release past its deadline: an overrun, and an occurrence of the task's detector; (4) before it: no overrun, and the detector as it stands; (5) without a release: the same; (6) PREFETCH_REQUEST, PREFETCH_LEAD before a release instant of a task without RESIDENT: its working set is asked for; (7) of a RESIDENT task: nothing; (8) WORKING_SET_RESIDENT of a release that waits for it: it waits no more, and the request is over; (9) before its release instant: kept for it. What it says beyond the rules is the model's choice (log entries 26, 84). -/
def Obligations.ReleaseInstantsPlaceReleases : Prop :=
  (∀ (s : State) (t : Nat) (d : TaskDecl), s.taskDecl t = some d → (s.tasks.map (·.task)).Nodup → s.mode.current ≠ .cold → s.time.monoRun = true
    → s.releaseDue d = true → ∀ k : Nat, (s.task k).release = none → s.pair.received = [] → s.prog.exch.swapAt = none → s.pair.handoverAt = none
    → s.mode.pending = 0 → s.prog.exch.stopped = false → s.dispatches t = true → (s.task t).resumeDue = false → (s.task t).halted = false
    → (State.coresOf d.affinity).any (fun c => !s.fenced c) = true → ∀ e ∈ s.tasks, s.setResident e.task = true
    → Runs (.taskReleaseInstant t) s (fun u => (u.task t).releaseCount = (s.task t).releaseCount + 1 ∧ (u.task t).lastRelease = s.time.mono
    ∧ (∃ q : Release, (u.task t).release = some q ∧ q.instant = s.time.mono ∧ q.core ∈ State.coresOf d.affinity ∧ s.fenced q.core = false))) ∧
  (∀ (s : State) (t : Nat) (d : TaskDecl), s.taskDecl t = some d → (s.tasks.map (·.task)).Nodup → s.mode.current ≠ .cold → s.time.monoRun = true
    → s.releaseDue d = true → ∀ k : Nat, (s.task k).release = none → s.pair.received = [] → s.prog.exch.swapAt = none → s.pair.handoverAt = none
    → s.mode.pending = 0 → s.prog.exch.stopped = false → s.dispatches t = true → (s.task t).resumeDue = false → (s.task t).halted = true
    → Runs (.taskReleaseInstant t) s (fun u => (u.task t).releaseCount = (s.task t).releaseCount + 1 ∧ (u.task t).missed = (s.task t).missed + 1
    ∧ (u.task t).release = none)) ∧
  (∀ (s : State) (t : Nat) (d : TaskDecl) (r : Release), t < 16 → (s.task t).release = some r → s.taskDecl t = some d
    → r.instant + d.deadline * 1000 ≤ s.time.mono → (s.task t).halted = false → (s.task t).undispatchable = false → r.excused = false
    → (s.task t).adopted = .run → s.mode.current = .run → Runs (.deadlineCheck t) s (fun u => (u.task t).overruns = (s.task t).overruns + 1
    ∧ (u.det (32 + t)).count = BitVec.ofNat 32 (sat32 ((s.det (32 + t)).count.toNat + 1)))) ∧
  (∀ (s : State) (t : Nat) (d : TaskDecl) (r : Release), t < 16 → (s.task t).release = some r → s.taskDecl t = some d
    → s.time.mono < r.instant + d.deadline * 1000 → Runs (.deadlineCheck t) s (fun u => (u.task t).overruns = (s.task t).overruns
    ∧ u.det (32 + t) = s.det (32 + t))) ∧
  (∀ (s : State) (t : Nat), t < 16 → (s.task t).release = none → Runs (.deadlineCheck t) s (fun u => (u.task t).overruns = (s.task t).overruns
    ∧ u.det (32 + t) = s.det (32 + t))) ∧
  (∀ (s : State) (t : Nat) (d : TaskDecl), s.taskDecl t = some d → d.resident = false → s.mode.current ≠ .cold
    → s.dueAt d (s.time.mono + d.prefetchLead * 1000) = true → s.drift.requests = []
    → Runs (.prefetchRequest t) s (fun u => (u.drift.requests.map (fun q => (q.task, q.since))) = [(t, s.time.mono)] ∧ Keeps [.drift] s u)) ∧
  (∀ (s : State) (t : Nat) (d : TaskDecl), s.taskDecl t = some d → d.resident = true → Runs (.prefetchRequest t) s (fun u => u = s)) ∧
  (∀ (s : State) (t : Nat) (r : Release), s.setResident t = true → s.drift.requests.any (fun q => q.task = t) = true → (s.task t).release = some r
    → r.waiting = true → Runs (.workingSetResident t) s (fun u => (∀ q ∈ u.drift.requests, q.task ≠ t)
    ∧ ((u.task t).release.map (·.waiting)) = some false ∧ Keeps [.disp, .drift, .firn] s u)) ∧
  (∀ (s : State) (t : Nat), s.setResident t = true → s.drift.requests.any (fun q => q.task = t) = true → (s.task t).release = none
    → Runs (.workingSetResident t) s (fun u => (∀ q ∈ u.drift.requests, q.task ≠ t) ∧ t ∈ u.drift.prefetched ∧ Keeps [.drift] s u))

/-- For these commands, under the conditions of each clause, a next state exists and holds what the clause says (R172, R176, R179, R187, R201, R230, R231). (1) PASS_END of pass A or B, without stash overflow: the area as the pass's actions leave it, the pass time, and the next pass; (2) of pass C: the area, and the vote; (3) BLOCK_BOUNDARY with no eligible entry of higher priority: the pass goes on, its area as its actions leave it; (4) with one: a preemption; (5) STASH_OVERFLOW by a write that finds the area full: the area is faulted, an occurrence of D098; (6) by another: nothing; (7) UNDECLARED_ACCESS outside the working set, which no Guard region refuses, through a sound page table entry: the area is faulted, the access recorded, an occurrence of D064; (8) NONRESIDENT_PRIVILEGED_ACCESS: E-0x071; (9) CORE_IDLE of a core without a running pass: idle, and clock-gated when it has no eligible entry and no message; (10) of a resident page: nothing; (11) otherwise: nothing. What it says beyond the rules is the model's choice (log entries 26, 30, 117). -/
def Obligations.PassesRunInOrder : Prop :=
  (∀ (s : State) (c t : Nat) (r : Release) (acts : List PassAct) (b e : Ns), s.runningOn c = some (t, r) → (s.task t).release = some r
    → r.stopping = false → (s.passActs t r (s.area t (r.pass - 1)) acts).2 = false → r.tainted = false → 1 ≤ r.pass → r.pass < 3
    → Runs (.passEnd c acts b e) s (fun u => ((u.task t).release.map (·.pass)) = some (r.pass + 1)
    ∧ u.area t (r.pass - 1) = (s.passActs t r (s.area t (r.pass - 1)) acts).1
    ∧ get 0 (u.task t).passTime (r.pass - 1) = r.coreTime + (s.time.mono - r.since) - e ∧ Keeps [.disp, .firn] s u)) ∧
  (∀ (s : State) (c t : Nat) (r : Release) (acts : List PassAct) (b e : Ns), s.runningOn c = some (t, r) → (s.task t).release = some r
    → r.stopping = false → (s.passActs t r (s.area t (r.pass - 1)) acts).2 = false → r.pass = 3
    → Runs (.passEnd c acts b e) s (fun u => ((u.task t).release.map (fun q => (q.voting, q.running))) = some (true, false)
    ∧ u.area t (r.pass - 1) = (s.passActs t r (s.area t (r.pass - 1)) acts).1 ∧ Keeps [.disp, .firn] s u)) ∧
  (∀ (s : State) (c t : Nat) (r : Release) (acts : List PassAct) (b : Ns), s.runningOn c = some (t, r) → (s.task t).release = some r
    → r.stopping = false → (s.passActs t r (s.area t (r.pass - 1)) acts).2 = false → (s.task t).halted = false
    → (s.eligibleOn c).any (fun e => s.priority e.1 < s.priority t) = false → Runs (.blockBoundary c acts b) s (fun u => (u.task t).release = some r
    ∧ u.area t (r.pass - 1) = (s.passActs t r (s.area t (r.pass - 1)) acts).1 ∧ (u.task t).longestBlock = max (s.task t).longestBlock b
    ∧ Keeps [.disp, .firn] s u)) ∧
  (∀ (s : State) (c t : Nat) (r : Release) (acts : List PassAct) (b : Ns), s.runningOn c = some (t, r) → (s.task t).release = some r
    → r.stopping = false → (s.passActs t r (s.area t (r.pass - 1)) acts).2 = false → (s.task t).halted = false
    → (s.eligibleOn c).any (fun e => s.priority e.1 < s.priority t) = true
    → Runs (.blockBoundary c acts b) s (fun u => (u.task t).preemptions = (s.task t).preemptions + 1 ∧ Keeps [.disp, .firn] s u)) ∧
  (∀ (s : State) (c t : Nat) (r : Release) (w : PassAct), s.runningOn c = some (t, r) → (s.task t).release = some r → r.stopping = false
    → (s.passActs t r (s.area t (r.pass - 1)) [w]).2 = true → Runs (.stashOverflow c w) s (fun u => (u.area t (r.pass - 1)).faulted = true
    ∧ (u.det 98).count = BitVec.ofNat 32 (sat32 ((s.det 98).count.toNat + 1)))) ∧
  (∀ (s : State) (c t : Nat) (r : Release) (w : PassAct), s.runningOn c = some (t, r) → (s.task t).release = some r → r.stopping = false
    → (s.passActs t r (s.area t (r.pass - 1)) [w]).2 = false → Runs (.stashOverflow c w) s (fun u => u = s)) ∧
  (∀ (s : State) (c t : Nat) (r : Release) (a : Word) (k : Nat), s.runningOn c = some (t, r) → (s.task t).release = some r → r.stopping = false
    → k ≤ 2 → a.toNat < 0x40000000 → s.refuses { master := c, address := a.toNat, kind := k, privileged := false } = false
    → s.inWorkingSet t (a.toNat / 4096) = false → Runs (.undeclaredAccess c ⟨a, k⟩ false) s (fun u => (u.area t (r.pass - 1)).faulted = true
    ∧ u.drift.lastUndeclared = a ∧ u.drift.lastUndeclaredInfo = BitVec.ofNat 32 (t * 4096 + r.pass * 256 + c * 16 + k)
    ∧ (u.det 64).count = BitVec.ofNat 32 (sat32 ((s.det 64).count.toNat + 1)))) ∧
  (∀ (s : State) (c : Nat) (a : Word) (k : Nat), c < 8 → k ≤ 2 → a.toNat < 0x40000000 → s.resident (a.toNat / 4096) = false → s.refuses { master := c, address := a.toNat, kind := k, privileged := true } = false
    → Runs (.nonresidentPrivilegedAccess c ⟨a, k⟩) s (fun u => u = s.trigger 0x071 [a.toNat, c])) ∧
  (∀ (s : State) (c : Nat), c < 8 → s.fenced c = false → s.runningOn c = none
    → Runs (.coreIdle c) s (fun u => (get ({} : CoreSt) u.disp.cores c).idle = true
    ∧ (get ({} : CoreSt) u.disp.cores c).messages = (get ({} : CoreSt) s.disp.cores c).messages
    ∧ u.gated c = ((s.eligibleOn c).isEmpty && (get ({} : CoreSt) s.disp.cores c).messages.isEmpty) ∧ u.disp.tasks = s.disp.tasks
    ∧ Keeps [.disp] s u)) ∧
  (∀ (s : State) (c : Nat) (a : Word) (k : Nat), s.resident (a.toNat / 4096) = true → Runs (.nonresidentPrivilegedAccess c ⟨a,
    k⟩) s (fun u => u = s)) ∧
  (∀ (s : State) (c : Nat), 8 ≤ c ∨ s.fenced c = true ∨ (s.runningOn c).isSome = true → Runs (.coreIdle c) s (fun u => u = s))

/-- For these commands, under the conditions of each clause, a next state exists and holds what the clause says (R188, R233 to R236, R240 to R242, R248). (1) VOTE_END outside TRACK with a majority on every target, no self-test due: the voted writes are kept, the commit begins, State A not yet written; (2) with a skew: nothing is committed, the release is over; (3) of a tainted release: pass A's writes are kept, outcome 6; (4) COMMIT_COMPLETE: the kept writes stand in State A, the release is over with its span; (5) of a task without taint: and in the Signal Image; (6) RESYNC_END of a task without taint: the background share follows; (7) BG_COMPARE_END of one: the next of 256 shares, no repair left; (8) TAINT_REBUILD_END: TAINT_REMAINING 256. What it says beyond the rules is the model's choice (log entries 30, 87). -/
def Obligations.VotesAndCommits : Prop :=
  (∀ (s : State) (t : Nat) (r : Release), (s.task t).release = some r → r.voting = true → r.tainted = false → r.core < 8 → s.mode.current ≠ .track
    → (State.outcomeOf (s.area t 0) (s.area t 1) (s.area t 2)).1 ≤ 3 → ((s.firnTask t).commits + 1) % 16 ≠ 0
    → Runs (.voteEnd t) s (fun u => ((u.task t).release.map (fun q => (q.committing, q.voting))) = some (true, false)
    ∧ ((u.firnTask t).vote.map (fun v => (v.outcome, v.writes))) = some ((State.outcomeOf (s.area t 0) (s.area t 1) (s.area t 2)).1,
    State.votedWrites (State.voteAll (s.area t 0) (s.area t 1) (s.area t 2)))
    ∧ (u.firnTask t).lastOutcome = (State.outcomeOf (s.area t 0) (s.area t 1) (s.area t 2)).1 ∧ u.firn.stateA = s.firn.stateA)) ∧
  (∀ (s : State) (t : Nat) (r : Release), (s.task t).release = some r → r.voting = true → r.tainted = false → r.core < 8 → s.mode.current ≠ .track
    → (State.outcomeOf (s.area t 0) (s.area t 1) (s.area t 2)).1 = 4 → Runs (.voteEnd t) s (fun u => (u.task t).release = none
    ∧ (u.firnTask t).lastOutcome = 4 ∧ u.firn.stateA = s.firn.stateA)) ∧
  (∀ (s : State) (t : Nat) (r : Release), (s.task t).release = some r → r.voting = true → r.tainted = true → s.pair.received = []
    → Runs (.voteEnd t) s (fun u => ((u.task t).release.map (fun q => (q.committing, q.voting))) = some (true, false) ∧ (u.firnTask t).lastOutcome = 6
    ∧ ((u.firnTask t).vote.map (·.writes)) = some (s.taintedWrites t (s.area t 0)) ∧ u.firn.stateA = s.firn.stateA ∧ Keeps [.disp, .firn, .sig,
    .moraine, .capture] s u)) ∧
  (∀ (s : State) (t : Nat) (r : Release) (v : Vote), (s.task t).release = some r → r.committing = true → (s.firnTask t).vote = some v
    → s.drift.ckptBusy = none → Runs (.commitComplete t) s (fun u => (u.task t).release = none ∧ (u.task t).lastSpan = s.time.mono - r.instant
    ∧ (u.firnTask t).vote = none ∧ (u.firnTask t).lastCommit = v.instant ∧ u.firn.stateA = (s.commit t v.writes).firn.stateA)) ∧
  (∀ (s : State) (t : Nat) (r : Release) (v : Vote), (s.task t).release = some r → r.committing = true → (s.firnTask t).vote = some v
    → (s.task t).tainted = false → s.drift.ckptBusy = none
    → Runs (.commitComplete t) s (fun u => u.sig.entries = (s.commit t v.writes).settle.sig.entries)) ∧
  (∀ (s : State) (t : Nat), (s.firnTask t).repair = 1 → (s.firnTask t).rebuildDue = false → (s.task t).tainted = false
    → Runs (.resyncEnd t) s (fun u => (u.firnTask t).repair = 2 ∧ u.disp.tasks = s.disp.tasks)) ∧
  (∀ (s : State) (t : Nat), (s.firnTask t).repair = 2 → (s.task t).tainted = false → Runs (.bgCompareEnd t) s (fun u => (u.firnTask t).repair = 0
    ∧ (u.firnTask t).bgShare = ((s.firnTask t).bgShare + 1) % 256)) ∧
  (∀ (s : State) (t : Nat), (s.firnTask t).repair = 3 → Runs (.taintRebuildEnd t) s (fun u => (u.firnTask t).repair = 0
    ∧ (u.firnTask t).taintRemaining = 256 ∧ u.mode = s.mode))

/-- For these commands, under the conditions of each clause, a next state exists and holds what the clause says (R183 to R185). (1) QUEUE_ENTRY_PRODUCED with a free slot: the entry of at most four words, and PRODUCER one on; (2) without: OVERFLOW, and the entry is lost; (3) INTERRUPT_MESSAGE_SEND when the entry count asks for it: the message to the delivery core, whose clocks run; (4) when it does not: nothing; (5) COALESCE_TIME_EXPIRY when COALESCE_TIME has passed: the same message; (6) when it has not: nothing; (7) CONSUMER_WRITE of PRODUCER: the queue is empty, no message outstanding. What it says beyond the rules is the model's choice (log entries 28, 29, 86). -/
def Obligations.InterruptQueues : Prop :=
  (∀ (s : State) (n : Nat) (entry : List Word), n < 256 → entry.length ≤ 4
    → ((get ({} : IntQ) s.disp.queues n).producer + 1) % 128 ≠ (get ({} : IntQ) s.disp.queues n).consumer % 128
    → Runs (.queueEntryProduced n entry) s (fun u => (get ({} : IntQ) u.disp.queues n).producer = ((get ({} : IntQ) s.disp.queues n).producer + 1) % 128
    ∧ get [] (get ({} : IntQ) u.disp.queues n).ring ((get ({} : IntQ) s.disp.queues n).producer % 128) = entry
    ∧ (get ({} : IntQ) u.disp.queues n).consumer = (get ({} : IntQ) s.disp.queues n).consumer
    ∧ (get ({} : IntQ) u.disp.queues n).overflow = (get ({} : IntQ) s.disp.queues n).overflow ∧ (∀ m, m ≠ n
    → get ({} : IntQ) u.disp.queues m = get ({} : IntQ) s.disp.queues m) ∧ Keeps [.disp] s u)) ∧
  (∀ (s : State) (n : Nat) (entry : List Word), n < 256 → entry.length ≤ 4
    → ((get ({} : IntQ) s.disp.queues n).producer + 1) % 128 = (get ({} : IntQ) s.disp.queues n).consumer % 128
    → Runs (.queueEntryProduced n entry) s (fun u => (get ({} : IntQ) u.disp.queues n) = { (get ({} : IntQ) s.disp.queues n) with overflow := true }
    ∧ Keeps [.disp, .moraine] s u)) ∧
  (∀ (s : State) (n : Nat), State.mayNotify (get ({} : IntQ) s.disp.queues n) = true → State.countReached (get ({} : IntQ) s.disp.queues n) = true
    → Runs (.interruptMessageSend n) s (fun u => (get ({} : IntQ) u.disp.queues n).outstanding = true
    ∧ (get ({} : IntQ) u.disp.queues n).lastCore = some (s.deliveryCore (get ({} : IntQ) s.disp.queues n))
    ∧ n ∈ (get ({} : CoreSt) u.disp.cores (s.deliveryCore (get ({} : IntQ) s.disp.queues n))).messages
    ∧ u.gated (s.deliveryCore (get ({} : IntQ) s.disp.queues n)) = false ∧ Keeps [.disp] s u)) ∧
  (∀ (s : State) (n : Nat), (State.mayNotify (get ({} : IntQ) s.disp.queues n) && State.countReached (get ({} : IntQ) s.disp.queues n)) = false
    → Runs (.interruptMessageSend n) s (fun u => u = s)) ∧
  (∀ (s : State) (n : Nat), State.mayNotify (get ({} : IntQ) s.disp.queues n) = true → s.timeReached (get ({} : IntQ) s.disp.queues n) = true
    → Runs (.coalesceTimeExpiry n) s (fun u => (get ({} : IntQ) u.disp.queues n).outstanding = true
    ∧ n ∈ (get ({} : CoreSt) u.disp.cores (s.deliveryCore (get ({} : IntQ) s.disp.queues n))).messages ∧ Keeps [.disp] s u)) ∧
  (∀ (s : State) (n : Nat), (State.mayNotify (get ({} : IntQ) s.disp.queues n) && s.timeReached (get ({} : IntQ) s.disp.queues n)) = false
    → Runs (.coalesceTimeExpiry n) s (fun u => u = s)) ∧
  (∀ (s : State) (n k : Nat), n < 256 → k < 128 → (get ({} : IntQ) s.disp.queues n).producer = k
    → Runs (.consumerWrite n k) s (fun u => (get ({} : IntQ) u.disp.queues n) = { (get ({} : IntQ) s.disp.queues n) with consumer := k, outstanding := false }
    ∧ (∀ c, n ∉ (get ({} : CoreSt) u.disp.cores c).messages) ∧ u.disp.tasks = s.disp.tasks ∧ Keeps [.disp] s u))

/-- For these commands, under the conditions of each clause, a next state exists and holds what the clause says (R198, R200, R212, Table 7.3). (1) PAGE_FETCH_COMPLETE of a sound page, with no request, page change or ARMED phase waiting: its frame is resident, the others as before, FETCH_COUNT one on; (2) of a constant page with a wrong CRC: fetched once more; (3) twice: an occurrence of D066 with its rank; (4) of a page that no frame fetches: nothing; (5) WRITE_BACK_COMPLETE of a frame in write-back, nothing waiting: the frame is free, WRITEBACK_COUNT one on; (6) of another: nothing; (7) ALLOC_MSG: the address of a free message object, which is free no more; (8) with none free: 0; (9) FREE_MSG of an allocated object's address: it is free again; (10) of another address: E-0x072 alone; (11) ECC_CORRECTED_ERROR past ECC_THRESHOLD in this second: counted for its rank, and an occurrence of D068 or D069; (12) below it: counted alone. What it says beyond the rules is the model's choice (log entries 31, 91, 97). -/
def Obligations.MemoryIsManaged : Prop :=
  (∀ (s : State) (p f : Nat) (y : Frame) (n : Ns) (b : Bool), s.drift.frames.find? (fun e => e.2.state = 1 && e.2.page = p) = some (f, y) → (b = true
    ∨ p < 0x10000 ∨ 0x18000 ≤ p) → s.drift.requests = [] → s.prog.change = none → s.prog.exch.phase ≠ 4
    → Runs (.pageFetchComplete p n b) s (fun u => (get ({} : Frame) u.drift.frames f).state = 2 ∧ (∀ g, g ≠ f
    → get ({} : Frame) u.drift.frames g = get ({} : Frame) s.drift.frames g) ∧ u.drift.fetchCount = s.drift.fetchCount + 1 ∧ Keeps [.drift, .disp,
    .moraine, .draws] s u)) ∧
  (∀ (s : State) (p f : Nat) (y : Frame) (n : Ns), s.drift.frames.find? (fun e => e.2.state = 1 && e.2.page = p) = some (f, y) → 0x10000 ≤ p
    → p < 0x18000 → y.refetched = false
    → Runs (.pageFetchComplete p n false) s (fun u => u = { s with drift.frames := put s.drift.frames f { y with refetched := true } })) ∧
  (∀ (s : State) (p f : Nat) (y : Frame) (n : Ns), s.drift.frames.find? (fun e => e.2.state = 1 && e.2.page = p) = some (f, y) → 0x10000 ≤ p
    → p < 0x18000 → y.refetched = true
    → Runs (.pageFetchComplete p n false) s (fun u => (u.det 66).count = BitVec.ofNat 32 (sat32 ((s.det 66).count.toNat + 1))
    ∧ (u.det 66).lastInfo = BitVec.ofNat 32 (0x50 + y.area))) ∧
  (∀ (s : State) (p : Nat) (n : Ns) (b : Bool), s.drift.frames.find? (fun e => e.2.state = 1 && e.2.page = p) = none
    → Runs (.pageFetchComplete p n b) s (fun u => u = s)) ∧
  (∀ (s : State) (f : Nat), s.drift.writeBacks.any (fun w => w.1 = f) = true → s.drift.requests = [] → s.prog.change = none → s.prog.exch.phase ≠ 4
    → Runs (.writeBackComplete f) s (fun u => get ({} : Frame) u.drift.frames f = {} ∧ (∀ w ∈ u.drift.writeBacks, w.1 ≠ f)
    ∧ u.drift.writebackCount = s.drift.writebackCount + 1 ∧ Keeps [.drift, .disp, .moraine, .draws] s u)) ∧
  (∀ (s : State) (f : Nat), s.drift.writeBacks.any (fun w => w.1 = f) = false → Runs (.writeBackComplete f) s (fun u => u = s)) ∧
  (∀ (s : State), s.freeMsgs ≠ [] → Runs (.allocMsg) s (fun u => ∃ m : Nat, m ∈ s.freeMsgs ∧ u.drift.msgRead = BitVec.ofNat 32 (0x44880000 + m * 256)
    ∧ u.drift.messages = insertBy id m s.drift.messages ∧ Keeps [.drift, .draws] s u)) ∧
  (∀ (s : State), s.freeMsgs = [] → Runs (.allocMsg) s (fun u => u = { s with drift.msgRead := 0 })) ∧
  (∀ (s : State) (m : Nat), s.drift.messages.contains m = true
    → Runs (.freeMsg (0x44880000 + m * 256)) s (fun u => u = { s with drift.messages := s.drift.messages.filter (· ≠ m) })) ∧
  (∀ (s : State) (a : Nat), ∀ m ∈ s.drift.messages, a ≠ 0x44880000 + m * 256 → Runs (.freeMsg a) s (fun u => u = s.trigger 0x072 [])) ∧
  (∀ (s : State) (k : Nat), k < 2 → get (0, 0) s.drift.eccSec k = (s.time.mono / 1000000000, s.drift.eccThreshold.toNat)
    → Runs (.eccCorrectedError k) s (fun u => (u.det (68 + k)).count = BitVec.ofNat 32 (sat32 ((s.det (68 + k)).count.toNat + 1))
    ∧ u.drift.ecc0 = (if k = 0 then s.drift.ecc0 + 1 else s.drift.ecc0) ∧ u.drift.ecc1 = (if k = 1 then s.drift.ecc1 + 1 else s.drift.ecc1))) ∧
  (∀ (s : State) (k : Nat), k < 2 → (get (0, 0) s.drift.eccSec k).2 < s.drift.eccThreshold.toNat → 0 < s.drift.eccThreshold.toNat
    → Runs (.eccCorrectedError k) s (fun u => u.drift.ecc0 = (if k = 0 then s.drift.ecc0 + 1 else s.drift.ecc0)
    ∧ u.drift.ecc1 = (if k = 1 then s.drift.ecc1 + 1 else s.drift.ecc1) ∧ Keeps [.drift] s u))

/-- For these commands, under the conditions of each clause, a next state exists and holds what the clause says (R186, R215 to R218, R253, Table 7.7). (1) CHECKPOINT_TICK of an owner, 10 s on: a checkpoint of the executing image begins; (2) before that: nothing; (3) CHECKPOINT_COMPLETE that both devices took: valid, the newest, in the other one's place; (4) that none took: not valid, an occurrence of D076; (5) without one being written: nothing; (6) CHECKPOINT_WAIVE of 1 while NO_CHECKPOINT stands: waived; (7) while it does not: STATE_CONFLICT; (8) STATS_RESET of 1: that task's spans, longest block and preemptions are zero, the other tasks as before; (9) DRIFT_STATS_RESET of 1: Drift's statistics are zero; (10) FIRN_STATS_RESET of 1: Firn's statistics are zero. What it says beyond the rules is the model's choice (log entries 31, 95). -/
def Obligations.StatisticsAndCheckpoints : Prop :=
  (∀ (s : State) (i : Image), s.drift.ckptLast / 10000000000 < s.time.mono / 10000000000 → s.pair.ownSelf = true → s.drift.ckptBusy = none
    → s.image = some i → Runs (.checkpointTick) s (fun u => (u.drift.ckptBusy.map (fun c => (c.sequence,
    c.hash))) = some (s.drift.ckptSequence.toNat + 1, i.hash) ∧ u.drift.ckptLast = s.time.mono ∧ Keeps [.drift] s u)) ∧
  (∀ (s : State), s.time.mono / 10000000000 ≤ s.drift.ckptLast / 10000000000 → Runs (.checkpointTick) s (fun u => u = s)) ∧
  (∀ (s : State) (c : Ckpt), s.drift.ckptBusy = some c → Runs (.checkpointComplete true true) s (fun u => u.drift.ckptBusy = none
    ∧ u.drift.ckptSequence = BitVec.ofNat 64 c.sequence ∧ u.drift.ckptTime = s.time.mono ∧ (u.drift.checkpoints.head?.map (fun y => (y.sequence,
    y.hash, y.area, y.on1, y.on2))) = some (c.sequence, c.hash, c.area, true, true)
    ∧ u.drift.checkpoints.tail = s.drift.checkpoints.filter (fun y => y.area ≠ c.area))) ∧
  (∀ (s : State) (c : Ckpt), s.drift.ckptBusy = some c → Runs (.checkpointComplete false false) s (fun u => u.drift.ckptBusy = none
    ∧ u.drift.checkpoints = s.drift.checkpoints ∧ u.drift.ckptSequence = s.drift.ckptSequence ∧ u.drift.flashFailed = 3
    ∧ (u.det 76).count = BitVec.ofNat 32 (sat32 ((s.det 76).count.toNat + 1)))) ∧
  (∀ (s : State) (a b : Bool), s.drift.ckptBusy = none → Runs (.checkpointComplete a b) s (fun u => u = s)) ∧
  (∀ (s : State) (r : Req) (t : State) (x : ReplyTo), Granted s r 2 t x → r.index = 0x7440 → r.sub = 4 → r.value = 1 → s.drift.noCheckpoint = true
    → Runs (.checkpointWaive r) s (fun u => u.drift = { s.drift with noCheckpoint := false, waived := true } ∧ u.time = s.time ∧ u.hub = s.hub
    ∧ Replied u x 0)) ∧
  (∀ (s : State) (r : Req) (t : State) (x : ReplyTo), Granted s r 2 t x → r.index = 0x7440 → r.sub = 4 → r.value = 1 → s.drift.noCheckpoint = false
    → Runs (.checkpointWaive r) s (fun u => (u.xan.out.head?.map (·.status)) = some 9 ∧ u.drift.waived = s.drift.waived ∧ u.mode = s.mode)) ∧
  (∀ (s : State) (r : Req) (t : State) (x : ReplyTo), Granted s r 2 t x → r.sub = 0x16 → 0x2400 ≤ r.index.toNat → r.index.toNat ≤ 0x240F → r.value = 1
    → Runs (.statsReset r) s (fun u => u.task (r.index.toNat - 0x2400) = { s.task (r.index.toNat - 0x2400) with maxSpan := 0, spans := [], longestBlock := 0, preemptions := 0 }
    ∧ (∀ t, t ≠ r.index.toNat - 0x2400 → u.task t = s.task t) ∧ Keeps [.xan, .can, .sess, .disp, .moraine, .capture, .draws] s u ∧ Replied u x 0)) ∧
  (∀ (s : State) (r : Req) (t : State) (x : ReplyTo), Granted s r 2 t x → r.index = 0x7401 → r.sub = 0 → r.value = 1
    → Runs (.driftStatsReset r) s (fun u => u.drift = { s.drift with fetchTimes := [], lateReleases := 0, steals := 0 } ∧ Keeps [.xan, .can, .sess,
    .disp, .moraine, .capture, .draws, .drift] s u ∧ Replied u x 0)) ∧
  (∀ (s : State) (r : Req) (t : State) (x : ReplyTo), Granted s r 2 t x → r.index = 0x7501 → r.sub = 0 → r.value = 1
    → Runs (.firnStatsReset r) s (fun u => u.firn.selftestCount = 0 ∧ u.firn.selftestFails = 0 ∧ (∀ t, (u.firnTask t).outcomes = []
    ∧ (u.firnTask t).bgCycles = 0 ∧ (u.firnTask t).bgDivergences = 0 ∧ (u.firnTask t).repair = (s.firnTask t).repair) ∧ u.firn.stateA = s.firn.stateA
    ∧ Keeps [.xan, .can, .sess, .disp, .moraine, .capture, .draws, .firn] s u ∧ Replied u x 0))

/-- For these commands, under the conditions of each clause, a next state exists and holds what the clause says (R47, R51 to R54, R59, R125). (1) LIFECYCLE_REQUEST of a transition of Table 2.10, in COLD, TRACK or SERVICE without ownership, from BLANK with the staged certificate of the session's client: answered, then COLD, no session, the stores wiped, and for RETIRED the key store too; (2) of another, or on an owner: STATE_CONFLICT; (3) from BLANK without that certificate: RANGE; (4) WIPE_COMPLETE of a wipe that has run: the new life-cycle state, default settings, a power-on reset; (5) otherwise: nothing; (6) WIPE_VERIFY_FAILED: VERIFY_FAILED, and the stores wiped again, the life-cycle state as before; (7) otherwise: nothing. What it says beyond the rules is the model's choice (log entry 18). -/
def Obligations.LifeCycleChanges : Prop :=
  (∀ (s : State) (f : Fwd) (t : State) (secret : BitVec 4096), Signed s 0x1101 f t → f.req.arg.length = 4 → fromBe f.req.arg ≤ 4
    → s.mode.life ≠ .blank ∨ (t.stagedCert (fun c => f.auth.elim false (fun a => c.key = a.clientKey)) = true)
    → State.mayBecome s.mode.life (lifeOf (fromBe f.req.arg)) = true → s.mode.lifePending = none → s.mode.rebootDue = false → s.pair.ownSelf = false
    → (s.mode.current = .cold ∨ s.mode.current = .track ∨ s.mode.current = .service)
    → Runs (.lifecycleRequest secret) s (fun u => u.mode.lifePending = some (lifeOf (fromBe f.req.arg)) ∧ u.mode.life = s.mode.life
    ∧ u.mode.current = .cold ∧ u.mode.wipeStep = 5 ∧ u.mem = [] ∧ u.sess.table = [] ∧ u.prog.image = none ∧ u.prog.flash = [] ∧ u.moraine.ring = []
    ∧ u.moraine.store = [] ∧ u.pair.buffer = [] ∧ (lifeOf (fromBe f.req.arg) = .retired → u.sess.ks = {}) ∧ Replied u (State.replyOf f) 0)) ∧
  (∀ (s : State) (f : Fwd) (t : State) (secret : BitVec 4096), Signed s 0x1101 f t → f.req.arg.length = 4 → fromBe f.req.arg ≤ 4
    → s.mode.life ≠ .blank → s.mode.lifePending = none → s.mode.rebootDue = false → State.mayBecome s.mode.life (lifeOf (fromBe f.req.arg)) = false
    ∨ s.pair.ownSelf = true → Runs (.lifecycleRequest secret) s (fun u => u.mode = s.mode ∧ u.mem = s.mem
    ∧ Replied u (State.replyOf f) 9 (be 4 t.deviceMode.toNat ++ be 1 t.mode.life.code))) ∧
  (∀ (s : State) (f : Fwd) (t : State) (secret : BitVec 4096), Signed s 0x1101 f t → s.mode.life = .blank → fromBe f.req.arg = 1
    → ¬ (t.stagedCert (fun c => f.auth.elim false (fun a => c.key = a.clientKey)) = true)
    → Runs (.lifecycleRequest secret) s (fun u => u.mode = s.mode ∧ u.mem = s.mem ∧ Replied u (State.replyOf f) 6)) ∧
  (∀ (s : State) (l : Life), s.mode.lifePending = some l → s.mode.wipeStep = 5 → s.mode.inReset = false
    → Runs (.wipeComplete) s (fun u => u.mode.life = l ∧ u.mode.lifePending = none ∧ u.mode.wipeStep = 0 ∧ u.mode.verifyFailed = false
    ∧ u.mode.wipeCount = s.mode.wipeCount + 1 ∧ u.mode.inReset = true ∧ u.mem = [] ∧ u.hub.leafTimeout = 50 ∧ u.xan.udpPort = 52140
    ∧ u.sedge.floor = s.sedge.floor)) ∧
  (∀ (s : State), s.mode.lifePending = none ∨ s.mode.wipeStep ≠ 5 ∨ s.mode.inReset = true → Runs (.wipeComplete) s (fun u => u = s)) ∧
  (∀ (s : State) (l : Life), s.mode.lifePending = some l → s.mode.wipeStep = 5 → s.mode.inReset = false
    → Runs (.wipeVerifyFailed) s (fun u => u.mode.life = s.mode.life ∧ u.mode.lifePending = some l ∧ u.mode.verifyFailed = true ∧ u.mode.wipeStep = 5
    ∧ u.mem = [] ∧ u.firn.stateA = [] ∧ u.moraine.ring = [] ∧ u.sess.ks = s.sess.ks)) ∧
  (∀ (s : State), s.mode.lifePending = none ∨ s.mode.wipeStep ≠ 5 ∨ s.mode.inReset = true → Runs (.wipeVerifyFailed) s (fun u => u = s))

/-- For these commands, under the conditions of each clause, a next state exists and holds what the clause says (R150, R151, R154, R155, R158). (1) SIGNAL_VALUE_WRITE of a value that suits the TYPE: VALUE, SOURCE 3, GOOD, the other signals as before; (2) of another value: RANGE; (3) FORCE_VALUE_WRITE of one that suits, no force on in SAFE: FORCE_VALUE; (4) of another: RANGE; (5) FORCE_SET in RUN, HOLD or SERVICE: forced, the other signals as before; (6) elsewhere: STATE_CONFLICT; (7) FORCE_RELEASE: not forced; (8) FORCE_RELEASE_ALL of 1: no signal of the unit's subtree is forced, the signals outside it as before. What it says beyond the rules is the model's choice (log entries 24, 103). -/
def Obligations.SignalsAreWrittenAndForced : Prop :=
  (∀ (s : State) (r : Req) (t : State) (x : ReplyTo), Admitted s r 2 t x → 0x6000 ≤ r.index.toNat → r.index.toNat ≤ 0x60FF
    → suits (s.sigOf (sigNo r.index.toNat r.sub.toNat)).type r.value = true
    → Runs (.signalValueWrite r) s (fun u => (u.sigOf (sigNo r.index.toNat r.sub.toNat)).value = BitVec.ofNat 32 r.value
    ∧ (u.sigOf (sigNo r.index.toNat r.sub.toNat)).source = 3 ∧ (u.sigOf (sigNo r.index.toNat r.sub.toNat)).quality = 0
    ∧ (u.sigOf (sigNo r.index.toNat r.sub.toNat)).forced = (s.sigOf (sigNo r.index.toNat r.sub.toNat)).forced ∧ (∀ n,
    n ≠ sigNo r.index.toNat r.sub.toNat → u.sigOf n = s.sigOf n) ∧ Replied u x 0)) ∧
  (∀ (s : State) (r : Req) (t : State) (x : ReplyTo), Admitted s r 2 t x → 0x6000 ≤ r.index.toNat → r.index.toNat ≤ 0x60FF
    → suits (s.sigOf (sigNo r.index.toNat r.sub.toNat)).type r.value = false → Runs (.signalValueWrite r) s (fun u => u.sig = s.sig
    ∧ Replied u x 6)) ∧
  (∀ (s : State) (r : Req) (t : State) (x : ReplyTo), Admitted s r 2 t x → 0x6200 ≤ r.index.toNat → r.index.toNat ≤ 0x62FF
    → suits (s.sigOf (sigNo r.index.toNat r.sub.toNat)).type r.value = true
    → ((s.sigOf (sigNo r.index.toNat r.sub.toNat)).forced && s.mode.current = .safe) = false
    → Runs (.forceValueWrite r) s (fun u => (u.sigOf (sigNo r.index.toNat r.sub.toNat)).forceValue = BitVec.ofNat 32 r.value
    ∧ (u.sigOf (sigNo r.index.toNat r.sub.toNat)).forced = (s.sigOf (sigNo r.index.toNat r.sub.toNat)).forced
    ∧ (u.sigOf (sigNo r.index.toNat r.sub.toNat)).value = (s.sigOf (sigNo r.index.toNat r.sub.toNat)).value ∧ (∀ n,
    n ≠ sigNo r.index.toNat r.sub.toNat → u.sigOf n = s.sigOf n) ∧ Replied u x 0)) ∧
  (∀ (s : State) (r : Req) (t : State) (x : ReplyTo), Admitted s r 2 t x → 0x6200 ≤ r.index.toNat → r.index.toNat ≤ 0x62FF
    → suits (s.sigOf (sigNo r.index.toNat r.sub.toNat)).type r.value = false → Runs (.forceValueWrite r) s (fun u => u.sig = s.sig ∧ Replied u x 6)) ∧
  (∀ (s : State) (r : Req) (t : State) (x : ReplyTo), Admitted s r 2 t x → 0x6300 ≤ r.index.toNat → r.index.toNat ≤ 0x63FF → r.value = 1
    → (s.mode.current = .run ∨ s.mode.current = .hold ∨ s.mode.current = .service)
    → Runs (.forceSet r) s (fun u => (u.sigOf (sigNo r.index.toNat r.sub.toNat)).forced = true
    ∧ (u.sigOf (sigNo r.index.toNat r.sub.toNat)).forceValue = (s.sigOf (sigNo r.index.toNat r.sub.toNat)).forceValue
    ∧ (u.sigOf (sigNo r.index.toNat r.sub.toNat)).value = (s.sigOf (sigNo r.index.toNat r.sub.toNat)).value ∧ (∀ n,
    n ≠ sigNo r.index.toNat r.sub.toNat → u.sigOf n = s.sigOf n) ∧ Keeps [.sig, .pair, .moraine, .capture, .xan, .sess, .can] s u ∧ Replied u x 0)) ∧
  (∀ (s : State) (r : Req) (t : State) (x : ReplyTo), Admitted s r 2 t x → 0x6300 ≤ r.index.toNat → r.index.toNat ≤ 0x63FF → r.value = 1
    → (s.mode.current = .cold ∨ s.mode.current = .track ∨ s.mode.current = .safe) → Runs (.forceSet r) s (fun u => u.sig = s.sig
    ∧ Replied u x 9 (be 4 s.deviceMode.toNat ++ be 1 s.mode.life.code))) ∧
  (∀ (s : State) (r : Req) (t : State) (x : ReplyTo), Admitted s r 2 t x → 0x6300 ≤ r.index.toNat → r.index.toNat ≤ 0x63FF → r.value = 0
    → Runs (.forceRelease r) s (fun u => (u.sigOf (sigNo r.index.toNat r.sub.toNat)).forced = false
    ∧ (u.sigOf (sigNo r.index.toNat r.sub.toNat)).value = (s.sigOf (sigNo r.index.toNat r.sub.toNat)).value ∧ (∀ n,
    n ≠ sigNo r.index.toNat r.sub.toNat → u.sigOf n = s.sigOf n) ∧ Keeps [.sig, .pair, .moraine, .capture, .xan, .sess, .can] s u ∧ Replied u x 0)) ∧
  (∀ (s : State) (r : Req) (t : State) (x : ReplyTo), Granted s r 2 t x → r.sub = 0x12 → 0x3000 ≤ r.index.toNat → r.index.toNat ≤ 0x3FFF → r.value = 1
    → Runs (.forceReleaseAll r) s (fun u => (∀ n, s.sigDecl n = true → s.within (r.index.toNat - 0x3000) (s.sigOf n).unit = true
    → (u.sigOf n).forced = false) ∧ (∀ n, (∀ e ∈ s.sig.entries, e.1 = n → s.within (r.index.toNat - 0x3000) e.2.unit = false) → u.sigOf n = s.sigOf n)
    ∧ Replied u x 0))

/-- For these commands, under the conditions of each clause, a next state exists and holds what the clause says (R259 to R262). (1) IMAGE_STAGE where staging is accepted: the bytes stand in the flash slot and the image area that do not execute, and nothing there counts as verified; (2) during an exchange: BUSY; (3) STAGE_VERIFY: STAGE_STATE 2; (4) during an exchange: BUSY; (5) STAGE_DISCARD: the slot is empty, STAGE_STATE 0; (6) IMAGE_VERIFY_COMPLETE on a module with an image: STAGE_STATE 3 with the image staged, or 4 with the first check of Table 9.3 that fails; (7) on a module in COLD without one: with every check passed that image executes from area 0, else STAGE_STATE 4 with the first check that fails; (8) without a verification: nothing. What it says beyond the rules is the model's choice (log entries 32, 70, 92, 94, 99, 116). -/
def Obligations.ImagesAreStagedAndVerified : Prop :=
  (∀ (s : State) (r : Req) (t : State) (x : ReplyTo), Granted s r 5 t x → r.index = 0x2301 → r.sub = 0 → r.select = 0 → r.offset ≤ s.stageFile.total
    → State.writeLength r = true → r.offset + r.bytes.length ≤ 2 ^ 30 → s.exchanging = false → s.mayStage = true
    → Runs (.imageStage r) s (fun u => u.stageFile.bytes = writeBytes s.stageFile.bytes r.offset r.bytes
    ∧ u.stageFile.total = max s.stageFile.total (r.offset + r.bytes.length) ∧ u.stageFile.image = none
    ∧ u.mem = wrBytes s.mem (0x100000000 + s.stageSlot * 0x80000000 + r.offset) r.bytes ∧ u.prog.stageState = 1 ∧ u.prog.staged = none
    ∧ u.image = s.image ∧ Replied u x 0)) ∧
  (∀ (s : State) (r : Req) (t : State) (x : ReplyTo), Granted s r 5 t x → r.index = 0x2301 → r.sub = 0 → r.select = 0 → r.offset ≤ s.stageFile.total
    → State.writeLength r = true → r.offset + r.bytes.length ≤ 2 ^ 30 → s.exchanging = true → Runs (.imageStage r) s (fun u => u.prog = s.prog
    ∧ u.mem = s.mem ∧ Replied u x 0x0A)) ∧
  (∀ (s : State) (r : Req) (t : State) (x : ReplyTo), Granted s r 2 t x → r.index = 0x2302 → r.sub = 0 → r.value = 1 → s.exchanging = false
    → Runs (.stageVerify r) s (fun u => u.prog = { s.prog with stageState := 2, stageGen := s.prog.stageGen + 1 } ∧ Replied u x 0)) ∧
  (∀ (s : State) (r : Req) (t : State) (x : ReplyTo), Granted s r 2 t x → r.index = 0x2302 → r.sub = 0 → r.value = 1 → s.exchanging = true
    → Runs (.stageVerify r) s (fun u => u.prog = s.prog ∧ Replied u x 0x0A)) ∧
  (∀ (s : State) (r : Req) (t : State) (x : ReplyTo), Granted s r 2 t x → r.index = 0x2302 → r.sub = 0 → r.value = 2 → s.exchanging = false
    → Runs (.stageDiscard r) s (fun u => u.prog.stageState = 0 ∧ u.prog.staged = none ∧ u.prog.image = s.prog.image
    ∧ u.prog.flash = del s.prog.flash s.stageSlot ∧ Replied u x 0)) ∧
  (∀ (s : State) (i : Image) (k : ImageSalts) (a b : Bool), s.prog.stageState = 2 → s.image.isSome = true
    → Runs (.imageVerifyComplete i k a b) s (fun u => u.prog.stageState = (if s.imageFault (s.readFile i k) true = 0 then 3 else 4)
    ∧ u.prog.stageError = s.imageFault (s.readFile i k) true
    ∧ u.prog.staged = (if s.imageFault (s.readFile i k) true = 0 then fileImage (s.readFile i k) else s.prog.staged) ∧ u.image = s.image
    ∧ Keeps [.prog, .moraine, .xan, .drift, .hub, .disp] s u)) ∧
  (∀ (s : State) (i : Image) (k : ImageSalts) (a b : Bool), s.prog.stageState = 2 → s.image = none → s.mode.current = .cold
    → Runs (.imageVerifyComplete i k a b) s (fun u => (s.imageFault (s.readFile i k) true = 0
    → u.image.map (·.hash) = (fileImage (s.readFile i k)).map (·.hash) ∧ u.prog.stageState = 0 ∧ u.prog.staged = none ∧ u.drift.area = 0)
    ∧ (s.imageFault (s.readFile i k) true ≠ 0 → u.image = none ∧ u.prog.stageState = 4 ∧ u.prog.stageError = s.imageFault (s.readFile i k) true))) ∧
  (∀ (s : State) (i : Image) (k : ImageSalts) (a b : Bool), s.prog.stageState ≠ 2 → Runs (.imageVerifyComplete i k a b) s (fun u => u = s))

/-- For these commands, under the conditions of each clause, a next state exists and holds what the clause says (R94, R263, R265 to R267). (1) INSTANCE_PARAMS_WRITE of values in their declared ranges: they wait for the owning task, and no copy of the state changes yet; (2) of one outside: RANGE, and none is written; (3) CONSTANT_POOL_WRITE of a constant page that a task declares, with a frame to be had and no other change: a change of those words waits for every declaring task, the change record and the image as before; (4) during another: BUSY; (5) CONSTANT_CHANGE_COMPLETE once every task has switched, no fence on Drift or the rank: the words are in the change record and, with the page's CRC, in the image, and the write is answered; (6) before that: nothing; (7) without a change: nothing. What it says beyond the rules is the model's choice (log entries 12, 32, 100, 106). -/
def Obligations.ParametersAndConstantsChange : Prop :=
  (∀ (s : State) (r : Req) (t : State) (x : ReplyTo) (y : InstDecl), Granted s r 5 t x → r.index = 0x2310 → r.sub = 0
    → (s.image.elim none (fun i => i.insts.find? (fun z => z.id = r.select))) = some y → State.writeLength r = true
    → r.offset + r.bytes.length ≤ 4 * (instFields y).length
    → (paramsWritten y r.offset r.bytes).all (fun e => paramOk ((y.types.getD e.1.word 2).toNat) e.1 e.2) = true
    → Runs (.instanceParamsWrite r) s (fun u => u.prog = { s.prog with params := s.prog.params ++ [{ inst := y.id, words := (paramsWritten y r.offset r.bytes).flatMap (fun e => valueWords e.1 e.2), fwd := State.fwdOf x }] }
    ∧ u.firn = s.firn)) ∧
  (∀ (s : State) (r : Req) (t : State) (x : ReplyTo) (y : InstDecl), Granted s r 5 t x → r.index = 0x2310 → r.sub = 0
    → (s.image.elim none (fun i => i.insts.find? (fun z => z.id = r.select))) = some y
    → (paramsWritten y r.offset r.bytes).all (fun e => paramOk ((y.types.getD e.1.word 2).toNat) e.1 e.2) = false
    → Runs (.instanceParamsWrite r) s (fun u => u.prog = s.prog ∧ u.firn = s.firn ∧ Replied u x 6)) ∧
  (∀ (s : State) (r : Req) (t : State) (x : ReplyTo), Granted s r 5 t x → r.index = 0x2311 → r.sub = 0
    → (s.image.elim false (fun i => i.constants.any (fun c => c.page = r.select))) = true → State.writeLength r = true
    → r.offset + r.bytes.length ≤ 4096 → s.prog.changeRecord.length < 256 → s.prog.change = none → s.abortable = false → s.copyFrame.isSome = true
    → s.tasks.any (fun d => (pagesOf d.ranges).contains r.select) = true
    → Runs (.constantPoolWrite r) s (fun u => (u.prog.change.map (fun c => (c.page, c.words, c.waiting))) = some (r.select,
    State.wordsWritten r.offset r.bytes, (s.tasks.filter (fun d => (pagesOf d.ranges).contains r.select)).map (·.task))
    ∧ u.prog.changeRecord = s.prog.changeRecord ∧ u.image = s.image)) ∧
  (∀ (s : State) (r : Req) (t : State) (x : ReplyTo), Granted s r 5 t x → r.index = 0x2311 → r.sub = 0
    → (s.image.elim false (fun i => i.constants.any (fun c => c.page = r.select))) = true → State.writeLength r = true
    → r.offset + r.bytes.length ≤ 4096 → s.prog.changeRecord.length < 256 → s.prog.change.isSome = true
    → Runs (.constantPoolWrite r) s (fun u => u.prog = s.prog ∧ Replied u x 0x0A)) ∧
  (∀ (s : State) (c : ConstQ), s.prog.change = some c → c.waiting = [] → c.frame.isSome = true → s.fenced s.imageRank = false → s.fenced 0x52 = false
    → c.fwd.req.port ≠ 0 → Runs (.constantChangeComplete) s (fun u => u.prog.change = none
    ∧ get [] u.prog.changeRecord c.page = c.words.foldl (fun (p : Tab Word) w => put p w.1 w.2) (get [] s.prog.changeRecord c.page)
    ∧ u.image = s.image.map (fun i => State.withPage i c.page c.words) ∧ Replied u (State.replyOf c.fwd) 0)) ∧
  (∀ (s : State) (c : ConstQ), s.prog.change = some c → c.waiting ≠ [] → Runs (.constantChangeComplete) s (fun u => u = s)) ∧
  (∀ (s : State), s.prog.change = none → Runs (.constantChangeComplete) s (fun u => u = s))

/-- For these commands, under the conditions of each clause, a next state exists and holds what the clause says (R269 to R275, R271, R272, R280, R295, Table 9.5). (1) EXCHANGE_START of the staged image on a module in RUN or HOLD whose standby is in step: phase 1, PREPARE_LIMIT running, the standby told; (2) on a lone module in HOLD: phase 2; (3) TRANSFER_END without error on the active module: phase 2; (4) on the standby: by its own checks of Table 9.3 the image is staged, phase 2, or the exchange aborts with cause 9 for MIN_FW and 1 for another; (5) MAPPING_END with a map: phase 3, the new layout and its counts; (6) BULK_COPY_END on the standby or a lone module: the new layout holds the carried state; (7) NEW_LAYOUT_IN_STEP on the active module: phase 4; (8) on the standby, two mapped releases after the copy: phase 4, no old request left; (9) STANDBY_READY on the active module in phase 4 or 8: S is the slowest task's first release instant at least 50 ms on; (10) on the standby in phase 4 with its RESIDENT sets there: ready; (11) TRANSFER_END with the standby's error: cause 9 for MIN_FW, 1 for another; (12) MAPPING_END without a map: cause 2; (13) STANDBY_READY that says no: cause 8; (14) EXCHANGE_ABORT of 1: cause 6; (15) with nothing to abort: STATE_CONFLICT; (16) PREPARE_LIMIT_EXPIRY at its end: cause 7; in each the executing and the staged image stay; (17) before it: nothing. What it says beyond the rules is the model's choice (log entries 32, 33, 107). -/
def Obligations.ExchangesPrepareAndAbort : Prop :=
  (∀ (s : State) (f : Fwd) (t : State) (i : Image), Signed s 0x2320 f t → f.req.arg.length = 68 → s.prog.stageState = 3 → s.prog.staged = some i
    → i.hash.toNat = at_ f.req.arg 0 64 → 60 ≤ at_ f.req.arg 64 4 → at_ f.req.arg 64 4 ≤ 3600 → s.exchanging = false → s.mode.prep = none
    → s.mode.inTransition = false → s.mode.rebootDue = false → s.pair.split = false → s.partnerAnswers = true → s.partnerInStep = true
    → (s.mode.current = .run ∨ s.mode.current = .hold) → s.pair.partnerFw = s.fwRelease → Runs (.exchangeStart) s (fun u => u.prog.exch.phase = 1
    ∧ u.prog.exch.outcome = 1 ∧ u.prog.exch.lone = false ∧ u.prog.exch.other = some i
    ∧ u.prog.exch.prepareEnd = some (s.time.mono + at_ f.req.arg 64 4 * 1000000000) ∧ u.image = s.image
    ∧ u.pair.out = s.pair.out ++ [.exchange (.start s.stageFile (at_ f.req.arg 64 4))] ∧ Replied u (State.replyOf f) 0)) ∧
  (∀ (s : State) (f : Fwd) (t : State) (i : Image), Signed s 0x2320 f t → f.req.arg.length = 68 → s.prog.stageState = 3 → s.prog.staged = some i
    → i.hash.toNat = at_ f.req.arg 0 64 → 60 ≤ at_ f.req.arg 64 4 → at_ f.req.arg 64 4 ≤ 3600 → s.exchanging = false → s.mode.prep = none
    → s.mode.inTransition = false → s.mode.rebootDue = false → s.pair.split = false → s.partnerAnswers = false → s.mode.current = .hold
    → Runs (.exchangeStart) s (fun u => u.prog.exch.phase = 2 ∧ u.prog.exch.outcome = 1 ∧ u.prog.exch.lone = true ∧ u.prog.exch.other = some i
    ∧ u.image = s.image ∧ Replied u (State.replyOf f) 0)) ∧
  (∀ (s : State), s.exchangeOpen = true → s.prog.exch.phase = 1 → s.pair.ownSelf = true
    → Runs (.transferEnd 0) s (fun u => u = { s with prog.exch.phase := 2 })) ∧
  (∀ (s : State) (e : Nat), s.exchangeOpen = true → s.prog.exch.phase = 1 → s.pair.ownSelf = false
    → Runs (.transferEnd e) s (fun u => (s.imageFault s.stageFile true = 0 → u.prog.exch.phase = 2 ∧ u.prog.staged = fileImage s.stageFile
    ∧ u.prog.stageState = 3 ∧ u.prog.flash = s.prog.flash) ∧ (s.imageFault s.stageFile true ≠ 0 → u.prog.exch.outcome = 3 ∧ u.prog.staged = none
    ∧ u.prog.exch.abortCause = (if s.imageFault s.stageFile true = 4 then 9 else 1)) ∧ u.image = s.image)) ∧
  (∀ (s : State) (old new : Image) (m : Tab Nat), s.image = some old → s.prog.exch.other = some new → s.exchangeOpen = true → s.prog.exch.phase = 2
    → exchangeMap new old s.prog.slots = some m → Runs (.mappingEnd) s (fun u => u.prog.exch.phase = 3 ∧ u.prog.exch.layout = m
    ∧ u.prog.exch.carried = BitVec.ofNat 32 (withFate new old 1).length ∧ u.prog.exch.fresh = BitVec.ofNat 32 (withFate new old 0).length
    ∧ u.prog.exch.retyped = BitVec.ofNat 32 (withFate new old 2).length ∧ u.prog.exch.removed = BitVec.ofNat 32 (withFate old new 0).length
    ∧ u.prog.slots = s.prog.slots ∧ Keeps [.prog, .pair] s u)) ∧
  (∀ (s : State), s.exchangeOpen = true → s.prog.exch.phase = 3 → (s.pair.ownSelf = false ∨ s.prog.exch.lone = true)
    → Runs (.bulkCopyEnd) s (fun u => u = { s with prog.exch := { s.prog.exch with copied := true, mapped := 0, layoutState := s.mappedWords } })) ∧
  (∀ (s : State), s.exchangeOpen = true → s.prog.exch.phase = 3 → s.prog.exch.lone = false → s.pair.ownSelf = true
    → Runs (.newLayoutInStep) s (fun u => u = { s with prog.exch.phase := 4 })) ∧
  (∀ (s : State), s.exchangeOpen = true → s.prog.exch.phase = 3 → s.prog.exch.lone = false → s.pair.ownSelf = false → s.prog.exch.copied = true
    → 2 ≤ s.prog.exch.mapped → Runs (.newLayoutInStep) s (fun u => u.prog.exch.phase = 4 ∧ u.image = s.image ∧ u.mode = s.mode
    ∧ u.drift.requests = [])) ∧
  (∀ (s : State) (d : TaskDecl), s.exchangeOpen = true → (s.prog.exch.phase = 4 ∨ s.prog.exch.phase = 8) → s.prog.exch.lone = false
    → s.pair.ownSelf = true → s.prog.exch.swapAt = none → s.slowest = some d
    → Runs (.standbyReady true) s (fun u => u.prog.exch.swapAt = some (s.firstInstant d (s.time.mono + 50000000))
    ∧ u.prog.exch.lastSwap = s.firstInstant d (s.time.mono + 50000000) ∧ Keeps [.prog, .pair] s u)) ∧
  (∀ (s : State), s.exchangeOpen = true → s.prog.exch.phase = 4 → s.prog.exch.lone = false → s.pair.ownSelf = false → s.prog.exch.ready = false
    → s.newResident = true → Runs (.standbyReady true) s (fun u => u.prog.exch = { s.prog.exch with ready := true } ∧ Keeps [.prog, .pair] s u)) ∧
  (∀ (s : State) (e : Nat), e ≠ 0 → s.exchangeOpen = true → s.prog.exch.phase = 1 → s.pair.ownSelf = true
    → Runs (.transferEnd e) s (fun u => u.prog.exch.outcome = 3 ∧ u.prog.exch.phase = 0 ∧ u.prog.exch.abortCause = (if e = 4 then 9 else 1)
    ∧ u.image = s.image ∧ u.prog.staged = s.prog.staged)) ∧
  (∀ (s : State) (old new : Image), s.image = some old → s.prog.exch.other = some new → s.exchangeOpen = true → s.prog.exch.phase = 2
    → s.pair.ownSelf = true → exchangeMap new old s.prog.slots = none → Runs (.mappingEnd) s (fun u => u.prog.exch.outcome = 3 ∧ u.prog.exch.phase = 0
    ∧ u.prog.exch.abortCause = 2 ∧ u.image = s.image ∧ u.prog.staged = s.prog.staged)) ∧
  (∀ (s : State), s.exchangeOpen = true → s.prog.exch.phase = 4 → s.prog.exch.lone = false → s.pair.ownSelf = true
    → Runs (.standbyReady false) s (fun u => u.prog.exch.outcome = 3 ∧ u.prog.exch.phase = 0 ∧ u.prog.exch.abortCause = 8 ∧ u.image = s.image
    ∧ u.prog.staged = s.prog.staged)) ∧
  (∀ (s : State) (r : Req) (t : State) (x : ReplyTo), Granted s r 2 t x → r.index = 0x2325 → r.sub = 0 → r.value = 1 → s.abortable = true
    → s.pair.ownSelf = true → Runs (.exchangeAbort r) s (fun u => u.prog.exch.outcome = 3 ∧ u.prog.exch.phase = 0 ∧ u.prog.exch.abortCause = 6
    ∧ u.image = s.image ∧ u.prog.staged = s.prog.staged ∧ Replied u x 0)) ∧
  (∀ (s : State) (r : Req) (t : State) (x : ReplyTo), Granted s r 2 t x → r.index = 0x2325 → r.sub = 0 → r.value = 1 → s.abortable = false
    → (s.pair.handover = 1 && s.pair.ownSelf) = false → Runs (.exchangeAbort r) s (fun u => u.prog = s.prog
    ∧ Replied u x 9 (be 4 s.deviceMode.toNat ++ be 1 s.mode.life.code))) ∧
  (∀ (s : State) (e : Ns), s.prog.exch.prepareEnd = some e → e ≤ s.time.mono → s.abortable = true → s.pair.ownSelf = true
    → Runs (.prepareLimitExpiry) s (fun u => u.prog.exch.outcome = 3 ∧ u.prog.exch.phase = 0 ∧ u.prog.exch.abortCause = 7 ∧ u.image = s.image
    ∧ u.prog.staged = s.prog.staged)) ∧
  (∀ (s : State), s.prog.exch.prepareEnd.elim true (fun e => decide (s.time.mono < e)) = true → Runs (.prepareLimitExpiry) s (fun u => u = s))

/-- For these commands, under the conditions of each clause, a next state exists and holds what the clause says (R276, R279, R282 to R284, R295, R296). (1) SWAP_INSTANT at S on the active module: dispatching stops, phase 5 after 4; (2) otherwise: nothing; (3) LAST_DELTA_ACKNOWLEDGED with no release left: OWN_SELF drops with reason 1, TRACK, 6 ms for the partner's claim; (4) SWAP_RECLAIM_TIMEOUT after them, in TRACK, OWN_PEER low: OWN_SELF again, in the mode before the swap; (5) before: nothing; (6) EXCHANGE_REVERT in the window on a lone module in HOLD: phase 8; (7) in RUN or HOLD with a partner that answers and has no failed self-check: phase 8, the partner told; (8) EXCHANGE_CONFIRM of 1 in the window: phase 7, no revert point; (9) REVERT_WINDOW_EXPIRY at its end on a lone module: the exchange is complete; (10) before it: nothing; (11) LONE_EXCHANGE_EXECUTE at the slowest task's instant: the new image executes, the old one is the revert point; (12) LONE_REVERT_EXECUTE there in phase 8: the old image executes again. What it says beyond the rules is the model's choice (log entries 32, 58, 90, 101). -/
def Obligations.ExchangesSwapAndRevert : Prop :=
  (∀ (s : State), s.swapDue = true → s.prog.exch.stopped = false → s.pair.ownSelf = true
    → Runs (.swapInstant) s (fun u => u.prog.exch = { s.prog.exch with stopped := true, phase := if s.exchangeOpen = true ∧ s.prog.exch.phase = 4 then 5 else s.prog.exch.phase }
    ∧ u.pair.ownSelf = true ∧ u.image = s.image ∧ u.mode = s.mode)) ∧
  (∀ (s : State), s.swapDue = false ∨ s.prog.exch.stopped = true → Runs (.swapInstant) s (fun u => u = s)) ∧
  (∀ (s : State), s.pair.ownSelf = true → s.prog.exch.stopped = true → s.swapDue = true → s.releases = [] → (s.mode.current = .run
    ∨ s.mode.current = .hold) → Runs (.lastDeltaAcknowledged) s (fun u => u.pair.ownSelf = false ∧ u.pair.lastDrop = 1 ∧ u.mode.current = .track
    ∧ u.pair.waitUntil = some (s.time.now + 6000000) ∧ u.image = s.image)) ∧
  (∀ (s : State) (e : Ns), s.pair.waitUntil = some e → e ≤ s.time.now → s.pair.ownPeer = false → s.pair.ownSelf = false → s.mode.current = .track
    → s.mode.inReset = false → s.prog.exch.swapMode = .run ∨ s.prog.exch.swapMode = .hold
    → Runs (.swapReclaimTimeout) s (fun u => u.pair.ownSelf = true ∧ u.mode.current = s.prog.exch.swapMode ∧ u.pair.claims = s.pair.claims + 1
    ∧ u.pair.waitUntil = none ∧ u.image = s.image)) ∧
  (∀ (s : State), s.pair.waitUntil.elim true (fun e => decide (s.time.now < e)) = true → Runs (.swapReclaimTimeout) s (fun u => u = s)) ∧
  (∀ (s : State) (f : Fwd) (t : State) (i : Image), Signed s 0x2321 f t → f.req.arg.length = 64 → s.prog.stageState = 5 → s.prog.staged = some i
    → i.hash.toNat = at_ f.req.arg 0 64 → s.modeBusy = false → s.prog.exch.phase = 6 → s.prog.exch.lone = true → s.mode.current = .hold
    → Runs (.exchangeRevert) s (fun u => u.prog.exch.phase = 8 ∧ u.prog.exch.stopped = false ∧ u.image = s.image ∧ Replied u (State.replyOf f) 0)) ∧
  (∀ (s : State) (f : Fwd) (t : State) (i : Image), Signed s 0x2321 f t → f.req.arg.length = 64 → s.prog.stageState = 5 → s.prog.staged = some i
    → i.hash.toNat = at_ f.req.arg 0 64 → s.modeBusy = false → s.prog.exch.phase = 6 → s.prog.exch.lone = false → (s.mode.current = .run
    ∨ s.mode.current = .hold) → s.partnerAnswers = true → tb s.pair.partnerMode.toNat 18 = false
    → Runs (.exchangeRevert) s (fun u => u.prog.exch.phase = 8 ∧ u.image = s.image ∧ u.pair.out = s.pair.out ++ [.exchange (.phase 8)]
    ∧ Replied u (State.replyOf f) 0)) ∧
  (∀ (s : State) (r : Req) (t : State) (x : ReplyTo), Granted s r 2 t x → r.index = 0x2326 → r.sub = 0 → r.value = 1 → s.prog.exch.outcome = 1
    → s.prog.exch.phase = 6 → s.pair.ownSelf = true → s.prog.exch.lone = false → Runs (.exchangeConfirm r) s (fun u => u.prog.exch.phase = 7
    ∧ u.prog.exch.held = false ∧ u.prog.staged = none ∧ u.image = s.image ∧ Replied u x 0)) ∧
  (∀ (s : State) (e : Ns), s.prog.exch.phase = 6 → s.prog.exch.windowEnd = some e → e ≤ s.time.mono → s.prog.exch.lone = true
    → Runs (.revertWindowExpiry) s (fun u => u.prog.exch.phase = 0 ∧ u.prog.exch.outcome = 2 ∧ u.prog.exch.held = false ∧ u.prog.staged = none
    ∧ u.image = s.image)) ∧
  (∀ (s : State) (e : Ns), s.prog.exch.phase = 6 → s.prog.exch.windowEnd = some e → s.time.mono < e → Runs (.revertWindowExpiry) s (fun u => u = s)) ∧
  (∀ (s : State) (old new : Image), s.image = some old → s.prog.exch.other = some new → s.exchangeOpen = true → s.prog.exch.lone = true
    → s.prog.exch.phase = 3 → s.prog.exch.copied = true → s.slowestInstant = true → Runs (.loneExchangeExecute) s (fun u => u.image = some new
    ∧ u.prog.staged = some old ∧ u.prog.stageState = 5 ∧ u.prog.exch.phase = 6 ∧ u.prog.exch.held = true ∧ u.prog.exch.lastSwap = s.time.mono
    ∧ u.drift.area = 1 - s.drift.area ∧ u.mode = s.mode)) ∧
  (∀ (s : State) (old new : Image), s.image = some new → s.prog.exch.other = some old → s.exchangeOpen = true → s.prog.exch.lone = true
    → s.prog.exch.phase = 8 → s.slowestInstant = true → Runs (.loneRevertExecute) s (fun u => u.image.map (·.hash) = some old.hash
    ∧ u.prog.staged = some new ∧ u.prog.exch.phase = 0 ∧ u.prog.exch.outcome = 4 ∧ u.prog.exch.held = false ∧ u.mode = s.mode))

/-- For these commands, under the conditions of each clause, a next state exists and holds what the clause says (R303, R315, R316, R323, R324, R334). (1) HANDOVER_REQUEST of 1 in RUN or HOLD with a standby in step, nothing else under way: S is the slowest task's first release instant at least 50 ms on; (2) without such a standby, or with PAIR_SPLIT: STATE_CONFLICT; (3) CLAIM_TIMER_EXPIRY on a module that may claim, OWN_PEER low for 2 ms: at most 3 ms more; (4) before: nothing; (5) CLAIM of an eligible standby in TRACK once its deltas are applied or that time has passed: OWN_SELF, the OWNERSHIP record, the mode of Table 10.6 with no open transition; (6) CLAIM from COLD: OWN_SELF, in HOLD after a waive, else by POWER_UP_POLICY; (7) with OWN_PEER high or no claim waiting: nothing. What it says beyond the rules is the model's choice (log entries 58, 89, 90). -/
def Obligations.InterlockClaims : Prop :=
  (∀ (s : State) (r : Req) (t : State) (x : ReplyTo) (d : TaskDecl), Granted s r 2 t x → r.index = 0x2205 → r.sub = 0 → r.value = 1
    → s.modeBusy = false → s.pair.handover ≠ 1 → s.exchanging = false → s.mode.rebootDue = false → (s.mode.current = .run ∨ s.mode.current = .hold)
    → s.partnerInStep = true → s.pair.split = false → s.slowest = some d → Runs (.handoverRequest r) s (fun u => u.pair.handover = 1
    ∧ u.pair.handoverAt = some (s.firstInstant d (s.time.mono + 50000000)) ∧ u.pair.ownSelf = s.pair.ownSelf ∧ u.mode = s.mode ∧ Replied u x 0)) ∧
  (∀ (s : State) (r : Req) (t : State) (x : ReplyTo), Granted s r 2 t x → r.index = 0x2205 → r.sub = 0 → r.value = 1 → s.modeBusy = false
    → s.pair.handover ≠ 1 → s.exchanging = false → s.mode.rebootDue = false → (s.partnerInStep = false ∨ s.pair.split = true)
    → Runs (.handoverRequest r) s (fun u => u.pair = s.pair ∧ Replied u x 9 (be 4 s.deviceMode.toNat ++ be 1 s.mode.life.code))) ∧
  (∀ (s : State) (t : Ns), s.pair.ownSelf = false → s.pair.ownPeer = false → s.mayClaim = true → s.pair.claimWait = none → s.pair.lowSince = some t
    → t + 2000000 ≤ s.time.now → Runs (.claimTimerExpiry) s (fun u => u = { s with pair.claimWait := some (s.time.now + 3000000) })) ∧
  (∀ (s : State) (t : Ns), s.pair.lowSince = some t → s.time.now < t + 2000000 → Runs (.claimTimerExpiry) s (fun u => u = s)) ∧
  (∀ (s : State) (e : Ns), s.pair.claimWait = some e → s.pair.ownSelf = false → s.pair.ownPeer = false → s.mayClaim = true → (s.pair.received = []
    ∨ e ≤ s.time.now) → s.mode.current = .track → s.mode.pending = 0 → Runs (.claim) s (fun u => u.pair.ownSelf = true
    ∧ u.mode.current = s.takeoverMode.1 ∧ u.mode.epoch = s.mode.epoch + 1 ∧ u.pair.claims = s.pair.claims + 1 ∧ u.pair.lastClaim = s.time.mono
    ∧ u.pair.ownerSlot = s.pair.slotPos ∧ u.pair.claimWait = none ∧ u.pair.stale = false)) ∧
  (∀ (s : State) (e : Ns), s.pair.claimWait = some e → s.pair.ownSelf = false → s.pair.ownPeer = false → s.coldReady = true → (s.pair.received = []
    ∨ e ≤ s.time.now) → Runs (.claim) s (fun u => u.pair.ownSelf = true
    ∧ u.mode.current = (if s.drift.waived = true then .hold else if s.mode.powerUpPolicy = 1 then .run else .hold)
    ∧ u.mode.leftColdAt = some s.time.now ∧ u.drift.waived = false ∧ u.image = s.image)) ∧
  (∀ (s : State), s.pair.ownPeer = true ∨ s.pair.claimWait = none → Runs (.claim) s (fun u => u = s))

/-- For these commands, under the conditions of each clause, a next state exists and holds what the clause says (R304, R305, R307, R326, R327, R332). (1) OWN_PEER_CHANGE to high on a module that does not own, outside an exchange and COLD: the gates closed, a waiting claim abandoned; (2) to high within 50 µs of a claim, in the lower slot: OWN_SELF stays, the gates closed; (3) in the upper slot: OWN_SELF drops with reason 4, and a claim from TRACK goes back there; (4) to low: the gates open on an owner, the time of a claim runs on another, D115 ends; (5) OWNERSHIP_CONFLICT after 50 µs with both signals high: an occurrence of D115; (6) INTERLOCK_OPEN_TIMEOUT after 10 ms with OWN_PEER high and the partner reporting OWN_SELF low: INTERLOCK_OPEN, an occurrence of D114; (7) GATE_CHECK that finds the gates open, no path left to compare: the self-check is done, D116 ends; (8) that finds one closed: the self-check has failed, an occurrence of D116; (9) OUTPUT_PATH_CHECK of a path that is due and agrees: no longer due; (10) that does not: an occurrence of D120 with the path, and its mark in TAKEOVER_CHECK. What it says beyond the rules is the model's choice (log entries 58, 90). -/
def Obligations.InterlockTiesConflictsAndChecks : Prop :=
  (∀ (s : State), s.pair.ownPeer = false → s.pair.ownSelf = false → s.pair.waitUntil = none → s.prog.exch.outcome ≠ 1 → s.mode.current ≠ .cold
    → Runs (.ownPeerChange true) s (fun u => u.pair.ownPeer = true ∧ u.gateOpen = false ∧ u.pair.ownSelf = false ∧ u.pair.highSince = some s.time.now
    ∧ u.pair.claimWait = none ∧ u.mode = s.mode)) ∧
  (∀ (s : State) (c : Ns), s.pair.ownPeer = false → s.pair.ownSelf = true → s.pair.claimedAt = some c → s.time.now ≤ c + 50000
    → s.pair.slotPos = false → Runs (.ownPeerChange true) s (fun u => u.pair.ownSelf = true ∧ u.pair.ownPeer = true ∧ u.gateOpen = false
    ∧ u.mode = s.mode)) ∧
  (∀ (s : State) (c : Ns), s.pair.ownPeer = false → s.pair.ownSelf = true → s.pair.claimedAt = some c → s.time.now ≤ c + 50000 → s.pair.slotPos = true
    → s.pair.claimFrom = .track → s.mode.current ≠ .safe → Runs (.ownPeerChange true) s (fun u => u.pair.ownSelf = false ∧ u.pair.lastDrop = 4
    ∧ u.mode.current = .track ∧ u.pair.phase = 3)) ∧
  (∀ (s : State), s.pair.ownPeer = true → Runs (.ownPeerChange false) s (fun u => u.pair.ownPeer = false ∧ u.pair.ownSelf = s.pair.ownSelf
    ∧ u.gateOpen = s.pair.ownSelf ∧ u.pair.lowSince = (if s.pair.ownSelf = true then none else some s.time.now) ∧ (u.det 115).live = false
    ∧ u.mode = s.mode)) ∧
  (∀ (s : State) (h : Ns), s.pair.ownSelf = true → s.pair.ownPeer = true → s.pair.highSince = some h → h + 50000 < s.time.now
    → s.pair.claimedAt = none → (s.det 115).live = false
    → Runs (.ownershipConflict) s (fun u => (u.det 115).count = BitVec.ofNat 32 (sat32 ((s.det 115).count.toNat + 1)) ∧ u.gateOpen = false
    ∧ (s.masked 115 0x66 = false → u.hub.aliveFrozen = true))) ∧
  (∀ (s : State) (t : Ns), s.pair.syncUp = true → s.pair.ownPeer = true → s.pair.ownSelf = false → s.pair.interlockOpen = false
    → s.pair.openSince = some t → t + 10000000 ≤ s.time.now → (s.det 114).live = false
    → Runs (.interlockOpenTimeout) s (fun u => u.pair.interlockOpen = true ∧ (u.det 114).live = true
    ∧ (u.det 114).count = BitVec.ofNat 32 (sat32 ((s.det 114).count.toNat + 1)) ∧ u.mode = s.mode ∧ u.pair.ownSelf = false)) ∧
  (∀ (s : State), s.pair.ownSelf = true → s.pair.claimedAt.isSome = true → s.pair.gateChecked = false → s.pair.gateFailed = false
    → s.pair.toCheck = [] → Runs (.gateCheck true) s (fun u => u.pair.gateChecked = true ∧ u.pair.checkDone = true ∧ (u.det 116).live = false
    ∧ u.pair.ownSelf = true ∧ u.mode = s.mode)) ∧
  (∀ (s : State), s.pair.ownSelf = true → s.pair.claimedAt.isSome = true → s.pair.gateChecked = false → s.pair.gateFailed = false
    → (s.det 116).live = false → Runs (.gateCheck false) s (fun u => u.pair.gateFailed = true ∧ u.pair.checkDone = false
    ∧ (u.det 116).count = BitVec.ofNat 32 (sat32 ((s.det 116).count.toNat + 1)))) ∧
  (∀ (s : State) (d : Nat), s.pair.ownSelf = true → s.pair.gateFailed = false → s.outputPaths.contains d = true → s.fenced d = false → (d < 0x4C
    ∨ (s.grp (d - 0x4B)).switchedOff = false) → s.pair.toCheck.contains d = true
    → Runs (.outputPathCheck d true) s (fun u => u.pair.toCheck.contains d = false ∧ u.hub = s.hub ∧ Keeps [.pair, .moraine] s u)) ∧
  (∀ (s : State) (d : Nat), s.pair.ownSelf = true → s.pair.gateFailed = false → s.outputPaths.contains d = true → s.fenced d = false → (d < 0x4C
    ∨ (s.grp (d - 0x4B)).switchedOff = false) → s.pair.toCheck.contains d = true
    → Runs (.outputPathCheck d false) s (fun u => (u.det 120).count = BitVec.ofNat 32 (sat32 ((s.det 120).count.toNat + 1))
    ∧ (u.det 120).lastInfo = BitVec.ofNat 32 d ∧ (d = 0x4C → u.pair.group1Failed = true) ∧ (d = 0x4D → u.pair.group2Failed = true)))

/-- For these commands, under the conditions of each clause, a next state exists and holds what the clause says (R33, R43, R306, R312, R313, R315). (1) HELLO of a partner that passes Table 10.5, outside COLD: paired, and what it says of itself; (2) of another: not paired, SYNC_PHASE 7, an occurrence of D119; (3) HELLO_TIMER every 10 s until then: HELLO is sent; (4) HELLO_DEFER in COLD: no partner counts as answering; (5) HEARTBEAT outside COLD: the partner's mode, epoch, phase and ownership, and CLOCK_OFFSET on a module that does not own; (6) GOODBYE with a reason of 1 to 8: noted; (7) EPOCH_RECEIVED of an immediate change in TRACK: the epoch, with nothing pending; (8) of a COMMIT: every task is pending from that instant on. What it says beyond the rules is the model's choice (log entries 58, 59). -/
def Obligations.PartnersPair : Prop :=
  (∀ (s : State) (m : HelloMsg), s.mode.inReset = false → s.pair.syncUp = true → s.pair.stale = false → s.mode.current ≠ .cold → s.time.monoRun = true
    → s.pairingOk m = true → Runs (.hello m) s (fun u => u.pair.paired = true ∧ u.pair.fwMismatch = decide (m.firmware ≠ s.fwRelease)
    ∧ u.pair.partnerSerial = m.serial ∧ u.pair.partnerFw = m.firmware ∧ u.pair.peerPresent = true ∧ u.mode = s.mode)) ∧
  (∀ (s : State) (m : HelloMsg), s.mode.inReset = false → s.pair.syncUp = true → s.pair.stale = false → s.time.monoRun = true → s.pairingOk m = false
    → Runs (.hello m) s (fun u => u.pair.paired = false ∧ u.pair.phase = 7
    ∧ (u.det 119).count = BitVec.ofNat 32 (sat32 ((s.det 119).count.toNat + 1)))) ∧
  (∀ (s : State), s.pair.paired = false → s.pair.lastHello + 10000000000 ≤ s.time.now → (s.pair.lane0 || s.pair.lane1) = true
    → Runs (.helloTimer) s (fun u => u = { s with pair.out := s.pair.out ++ [.hello], pair.lastHello := s.time.now })) ∧
  (∀ (s : State), s.mode.current = .cold → s.pair.syncUp = true → Runs (.helloDefer) s (fun u => u.pair.deferred = true ∧ u.pair.deferring = false
    ∧ u.partnerAnswers = false ∧ u.mode = s.mode)) ∧
  (∀ (s : State) (m : HeartbeatMsg), s.mode.inReset = false → s.pair.syncUp = true → s.pair.stale = false → s.mode.current ≠ .cold
    → Runs (.heartbeat m) s (fun u => u.pair.partnerMode = m.mode ∧ u.pair.partnerEpoch = m.epoch ∧ u.pair.partnerPhase = m.syncPhase
    ∧ u.pair.partnerOwns = m.ownSelf ∧ u.pair.partnerArmed = m.claimArmed ∧ u.pair.lastFrame = s.time.now
    ∧ u.pair.clockOffset = (if s.pair.ownSelf = true then 0 else m.offset) ∧ u.mode = s.mode)) ∧
  (∀ (s : State) (k : Nat), s.pair.syncUp = true → 1 ≤ k → k ≤ 8 → Runs (.goodbye k) s (fun u => u = { s with pair.goodbye := k })) ∧
  (∀ (s : State) (e : Word) (k : Nat) (c : Ns), s.mode.current = .track → s.pair.ownSelf = false → s.pair.syncUp = true → k ≤ 5
    → Runs (.epochReceived e k c true) s (fun u => u.mode.epoch = e ∧ u.mode.pending = 0 ∧ u.mode.current = .track
    ∧ u.pair.lastEpoch = some (modeOf k, false))) ∧
  (∀ (s : State) (e : Word) (k : Nat) (c : Ns), s.mode.current = .track → s.pair.ownSelf = false → s.pair.syncUp = true → k ≤ 5 → s.taskMask ≠ 0
    → Runs (.epochReceived e k c false) s (fun u => u.mode = { s.mode with epoch := e, pending := s.taskMask, commitAt := some c }
    ∧ u.pair.lastEpoch = some (modeOf k, true) ∧ u.disp = s.disp))

/-- For these commands, under the conditions of each clause, a next state exists and holds what the clause says (R270, R275, R276, R317, R320, R322, R336). (1) STREAM_INPUT_CHANGE in order: VALUE, SOURCE and QUALITY, which stays BAD-FENCED for a FENCED unit, the other signals as before; (2) while the standby buffers: it waits; (3) out of order: STATE_COPY anew; (4) COMMIT_DELTA while the standby buffers: it waits; (5) in order, outcome UNANIMOUS, no own release in its way: its writes stand in State A and the Signal Image; (6) out of order: STATE_COPY anew; (7) HANDOVER_MESSAGE with S on the standby: S of the exchange; (8) outside an exchange: S of the handover; (9) ready: STANDBY_READY of the active module; (10) the acknowledgement of the last delta: LAST_DELTA_ACKNOWLEDGED; (11) of another: nothing; (12) EXCHANGE_MESSAGE start in TRACK: the exchange begins with the image transferred into the other slot; (13) aborted: the exchange of the active module is aborted with that cause; (14) verified: TRANSFER_END without error of the active module; (15) map built: MAPPING_END; (16) in step: NEW_LAYOUT_IN_STEP; (17) not ready: STANDBY_READY that says no. What it says beyond the rules is the model's choice (log entry 59). -/
def Obligations.TheStreamIsApplied : Prop :=
  (∀ (s : State) (c : StreamChange), s.streams = true → s.inOrder c.sequence = true → s.buffers = false → s.sigDecl c.signal = true
    → Runs (.streamInputChange c) s (fun u => (u.sigOf c.signal).value = c.value
    ∧ (u.sigOf c.signal).quality = (if s.unitFenced (s.sigOf c.signal).unit then 3 else c.quality) ∧ (u.sigOf c.signal).source = c.source
    ∧ (u.sigOf c.signal).stale = false ∧ (∀ g, g ≠ c.signal → u.sigOf g = s.sigOf g) ∧ u.pair.streamSeq = c.sequence ∧ Keeps [.sig, .pair,
    .capture] s u)) ∧
  (∀ (s : State) (c : StreamChange), s.streams = true → s.inOrder c.sequence = true → s.buffers = true
    → Runs (.streamInputChange c) s (fun u => u = { s with pair.streamSeq := c.sequence, pair.bufferInputs := s.pair.bufferInputs ++ [c] })) ∧
  (∀ (s : State) (c : StreamChange), s.streams = true → s.inOrder c.sequence = false → Runs (.streamInputChange c) s (fun u => u.pair.phase = 3
    ∧ u.pair.buffer = [] ∧ u.pair.streamSeq = 0 ∧ (∀ g, (u.sigOf g).value = (s.sigOf g).value))) ∧
  (∀ (s : State) (d : Delta), s.streams = true → s.inOrder d.sequence = true → s.buffers = true
    → Runs (.commitDelta d) s (fun u => u.pair.streamSeq = d.sequence ∧ u.pair.buffer = s.pair.buffer ++ [d] ∧ (∀ g,
    (u.sigOf g).value = (s.sigOf g).value) ∧ u.firn = s.firn)) ∧
  (∀ (s : State) (d : Delta), s.streams = true → s.inOrder d.sequence = true → s.buffers = false → s.pair.received = []
    → (s.task d.task).release = none → d.instant ≤ s.time.mono → (s.firnTask d.task).vote = none → d.outcome = 1 → d.forces = [] → d.params = []
    → d.constPages = [] → d.arms = [] → s.prog.exch.heldHere = false → s.exchangeOpen = false
    → Runs (.commitDelta d) s (fun u => u.pair.streamSeq = d.sequence ∧ u.pair.received = [] ∧ (∀ g,
    (u.sigOf g).value = ((s.commit d.task d.writes).sigOf g).value) ∧ u.firn.stateA = (s.commit d.task d.writes).firn.stateA
    ∧ (u.firnTask d.task).lastCommit = d.instant)) ∧
  (∀ (s : State) (d : Delta), s.streams = true → s.inOrder d.sequence = false → Runs (.commitDelta d) s (fun u => u.pair.phase = 3
    ∧ u.pair.buffer = [] ∧ u.pair.streamSeq = 0 ∧ (∀ g, (u.sigOf g).value = (s.sigOf g).value) ∧ u.firn.stateA = s.firn.stateA)) ∧
  (∀ (s : State) (i : Ns), s.pair.syncUp = true → s.pair.ownSelf = false → s.exchangeOpen = true
    → Runs (.handoverMessage (.swapAt i)) s (fun u => u = { s with prog.exch := { s.prog.exch with swapAt := some i, lastSwap := i } })) ∧
  (∀ (s : State) (i : Ns), s.pair.syncUp = true → s.pair.ownSelf = false → s.exchangeOpen = false
    → Runs (.handoverMessage (.swapAt i)) s (fun u => u = { s with pair.handoverAt := some i })) ∧
  (∀ (s : State), s.pair.syncUp = true → s.pair.ownSelf = true → Runs (.handoverMessage .ready) s (fun u => exec (.standbyReady true) s = .next u)) ∧
  (∀ (s : State), s.pair.syncUp = true → Runs (.handoverMessage (.deltaAck s.pair.streamSeq)) s (fun u => exec .lastDeltaAcknowledged s = .next u)) ∧
  (∀ (s : State) (n : Nat), n ≠ s.pair.streamSeq → Runs (.handoverMessage (.deltaAck n)) s (fun u => u = s)) ∧
  (∀ (s : State) (i : ImageFile) (n : Nat), s.pair.syncUp = true → s.pair.ownSelf = false → s.mode.current = .track
    → Runs (.exchangeMessage (.start i n)) s (fun u => u.prog.exch.phase = 1 ∧ u.prog.exch.outcome = 1 ∧ u.prog.exch.other = fileImage i
    ∧ u.stageFile = i ∧ u.prog.exch.prepareEnd = some (s.time.mono + n * 1000000000) ∧ u.prog.image = s.prog.image ∧ Keeps [.prog, .xan] s u)) ∧
  (∀ (s : State) (c : Nat), s.pair.syncUp = true → s.abortable = true → s.pair.ownSelf = true
    → Runs (.exchangeMessage (.aborted c)) s (fun u => u.prog.exch.outcome = 3 ∧ u.prog.exch.abortCause = c ∧ u.image = s.image
    ∧ u.prog.staged = s.prog.staged)) ∧
  (∀ (s : State), s.pair.syncUp = true → s.pair.ownSelf = true → Runs (.exchangeMessage .verified) s (fun u => exec (.transferEnd 0) s = .next u)) ∧
  (∀ (s : State), s.pair.syncUp = true → s.pair.ownSelf = true → Runs (.exchangeMessage .mapBuilt) s (fun u => exec .mappingEnd s = .next u)) ∧
  (∀ (s : State), s.pair.syncUp = true → s.pair.ownSelf = true → Runs (.exchangeMessage .inStep) s (fun u => exec .newLayoutInStep s = .next u)) ∧
  (∀ (s : State), s.pair.syncUp = true → s.pair.ownSelf = true
    → Runs (.exchangeMessage .notReady) s (fun u => exec (.standbyReady false) s = .next u))

/-- For these commands, under the conditions of each clause, a next state exists and holds what the clause says (R309, R310, R322, R328, R329). (1) LANE_DOWN of a lane that is up: down, LANE_FAILURES one on, D113 live; (2) LANE_RETRAIN 1 s on: retraining begins; (3) LANE_UP after 100 ms without error: up, and D113 ends with both; (4) SYNC_LINK_FAILURE: down, not paired, D112 live, PAIR_SPLIT on an owner that had a partner; (5) SYNC_LINK_UP with a lane up, not stale: up, D112 ends, HELLO is sent; (6) SYNC_RETRANSMIT_TIMEOUT: counted; (7) STALE_TIMEOUT in TRACK, OWN_PEER high for 3 ms since the failure: SYNC_PHASE 6, every declared signal STALE with its VALUE; (8) CLOCK_OFFSET_EXCESS after 1 s in TRACK in step: STATE_COPY anew, no claim armed. What it says beyond the rules is the model's choice (log entries 59, 60). -/
def Obligations.LanesAndTheSyncLink : Prop :=
  (∀ (s : State) (k : Nat), k < 2 → s.laneUp k = true → Runs (.laneDown k) s (fun u => u.laneUp k = false ∧ u.laneUp (1 - k) = s.laneUp (1 - k)
    ∧ u.pair.laneFailures = s.pair.laneFailures + 1 ∧ (u.det 113).live = true ∧ u.pair.syncUp = s.pair.syncUp)) ∧
  (∀ (s : State) (k : Nat), k < 2 → s.laneUp k = false → get 0 s.pair.laneSince k + 1000000000 ≤ s.time.now
    → Runs (.laneRetrain k) s (fun u => u = { s with pair.laneSince := put s.pair.laneSince k s.time.now })) ∧
  (∀ (s : State) (k : Nat), k < 2 → s.laneUp k = false → get 0 s.pair.laneSince k + 100000000 ≤ s.time.now
    → Runs (.laneUp k) s (fun u => u.laneUp k = true ∧ u.laneUp (1 - k) = s.laneUp (1 - k) ∧ (s.laneUp (1 - k) = true → (u.det 113).live = false))) ∧
  (∀ (s : State) (c : Nat), s.pair.syncUp = true → Runs (.syncLinkFailure c) s (fun u => u.pair.syncUp = false ∧ u.pair.paired = false
    ∧ u.pair.syncFailures = s.pair.syncFailures + 1 ∧ u.pair.failedAt = some s.time.now ∧ (u.det 112).live = true ∧ u.pair.ownSelf = s.pair.ownSelf
    ∧ (s.pair.ownSelf = true → u.pair.split = s.pair.peerPresent) ∧ u.mode = s.mode)) ∧
  (∀ (s : State), s.pair.syncUp = false → s.mode.inReset = false → (s.pair.lane0 || s.pair.lane1) = true → s.pair.stale = false
    → Runs (.syncLinkUp) s (fun u => u.pair.syncUp = true ∧ u.pair.failedAt = none ∧ (u.det 112).live = false ∧ u.pair.out = s.pair.out ++ [.hello]
    ∧ u.mode = s.mode)) ∧
  (∀ (s : State) (n : Nat), s.pair.syncUp = true
    → Runs (.syncRetransmitTimeout n) s (fun u => u = { s with pair.retransmits := s.pair.retransmits + 1 })) ∧
  (∀ (s : State) (f : Ns), s.mode.current = .track → s.pair.syncUp = false → s.pair.ownSelf = false → s.pair.stale = false → s.pair.ownPeer = true
    → s.pair.failedAt = some f → f + 3000000 ≤ s.time.now → s.pair.highSince.elim true (fun h => decide (h ≤ f)) = true
    → Runs (.staleTimeout) s (fun u => u.pair.stale = true ∧ u.pair.phase = 6 ∧ u.pair.staleFromStep = decide (s.pair.phase = 5) ∧ (∀ g,
    s.sigDecl g = true → (u.sigOf g).stale = true ∧ (u.sigOf g).value = (s.sigOf g).value) ∧ u.mode = s.mode)) ∧
  (∀ (s : State) (f : Ns), s.mode.current = .track → s.pair.offsetSince = some f → f + 1000000000 ≤ s.time.now → s.pair.phase = 5
    → s.pair.ownSelf = false → Runs (.clockOffsetExcess) s (fun u => u.pair.phase = 3 ∧ u.claimArmed = false ∧ u.mode = s.mode))

/-- For these commands, under the conditions of each clause, a next state exists and holds what the clause says (R336, R337, Table 10.8). (1) BULK of the mode and epoch state in STATE_COPY: taken; (2) of a signal: VALUE, QUALITY unless its unit is FENCED, the force and SOURCE 5, the other signals as before; (3) of a task's hold run: taken; (4) of an instance's words: in its slot; (5) of the progress: at most 100; (6) of the image in phase IMAGE: with the checks of Table 9.3 passed it executes with that change record, STATE_COPY next, else SYNC_PHASE 7 and an occurrence of D119; (7) STATE_COPY_END: STREAMING, State A as copied; (8) RESYNC_BUFFER_DRAINED: nothing buffered, every task may dispatch; (9) RESYNC_BUFFER_FULL the first and second time in a row: STATE_COPY anew; (10) the third: a wait of 60 s, D118 live; (11) RESYNC_RESTART_WAIT_EXPIRY at its end in TRACK: STATE_COPY. What it says beyond the rules is the model's choice (log entry 59). -/
def Obligations.Resynchronisation : Prop :=
  (∀ (s : State) (e : Word) (k : Nat) (p : Half), s.mode.current = .track → s.pair.ownSelf = false → s.pair.syncUp = true → s.pair.phase = 3
    → Runs (.bulk (.modes e k p)) s (fun u => u.mode = { s.mode with epoch := e, pending := p, commitAt := if p = 0 then none else some s.time.mono }
    ∧ u.pair.lastEpoch = some (modeOf k, decide (p ≠ 0)) ∧ Keeps [.mode, .pair, .disp] s u)) ∧
  (∀ (s : State) (g : Nat) (v : Word) (q : BitVec 2) (f : ForceMsg), s.mode.current = .track → s.pair.ownSelf = false → s.pair.syncUp = true
    → s.pair.phase = 3 → s.sigDecl g = true → Runs (.bulk (.signal g v q f)) s (fun u => (u.sigOf g).value = v
    ∧ (s.unitFenced (s.sigOf g).unit = false → (u.sigOf g).quality = q) ∧ (u.sigOf g).forced = f.forced ∧ (u.sigOf g).forceValue = f.value
    ∧ (u.sigOf g).source = 5 ∧ (∀ n, n ≠ g → u.sigOf n = s.sigOf n) ∧ Keeps [.sig, .capture] s u)) ∧
  (∀ (s : State) (t n : Nat), s.mode.current = .track → s.pair.ownSelf = false → s.pair.syncUp = true → s.pair.phase = 3
    → Runs (.bulk (.holdRun t n)) s (fun u => (u.firnTask t).skewRun = n ∧ Keeps [.firn] s u)) ∧
  (∀ (s : State) (i : Nat) (ws : List (Nat × Word)), s.mode.current = .track → s.pair.ownSelf = false → s.pair.syncUp = true → s.pair.phase = 3
    → Runs (.bulk (.stateWords i ws)) s (fun u => u = { s with firn.stateA := placeWords s.firn.stateA (get 0 s.prog.slots i) ws })) ∧
  (∀ (s : State) (n : Nat), s.mode.current = .track → s.pair.ownSelf = false → s.pair.syncUp = true → s.pair.phase = 3
    → Runs (.bulk (.percent n)) s (fun u => u = { s with pair.percent := min 100 n })) ∧
  (∀ (s : State) (i : ImageFile) (l : List (Nat × List (Nat × Word))), s.mode.current = .track → s.pair.ownSelf = false → s.pair.syncUp = true
    → s.pair.phase = 2 → Runs (.bulk (.image i l)) s (fun u => (s.imageFault i false = 0 → u.image.map (·.hash) = (fileImage i).map (·.hash)
    ∧ u.prog.changeRecord = l ∧ u.pair.phase = 3) ∧ (s.imageFault i false ≠ 0 → u.prog = s.prog ∧ u.pair.phase = 7
    ∧ (u.det 119).count = BitVec.ofNat 32 (sat32 ((s.det 119).count.toNat + 1))) ∧ u.mode.current = .track)) ∧
  (∀ (s : State), s.mode.current = .track → s.pair.phase = 3 → s.pair.syncUp = true → s.pair.resyncWait = none
    → Runs (.stateCopyEnd) s (fun u => u.pair.phase = 4 ∧ u.pair.percent = 100 ∧ u.firn.stateA = s.firn.stateA ∧ u.mode = s.mode)) ∧
  (∀ (s : State), s.streams = true → s.pair.phase = 4 → s.pair.drained = false → Runs (.resyncBufferDrained) s (fun u => u.pair.drained = true
    ∧ u.pair.cleanRun = 0 ∧ u.pair.buffer = [] ∧ u.pair.bufferInputs = [] ∧ (∀ e ∈ u.disp.tasks, e.2.ready = true))) ∧
  (∀ (s : State), s.streams = true → s.buffers = true → s.pair.restartRun < 2 → Runs (.resyncBufferFull) s (fun u => u.pair.phase = 3
    ∧ u.pair.restarts = min 255 (s.pair.restarts + 1) ∧ u.pair.restartRun = s.pair.restartRun + 1 ∧ u.pair.resyncWait = none ∧ u.pair.buffer = [])) ∧
  (∀ (s : State), s.streams = true → s.buffers = true → 2 ≤ s.pair.restartRun
    → Runs (.resyncBufferFull) s (fun u => u.pair.restarts = min 255 (s.pair.restarts + 1) ∧ u.pair.restartRun = 0
    ∧ u.pair.resyncWait = some (s.time.now + 60000000000) ∧ (u.det 118).live = true ∧ u.pair.buffer = [])) ∧
  (∀ (s : State) (e : Ns), s.pair.resyncWait = some e → e ≤ s.time.now → s.mode.current = .track → s.pair.syncUp = true
    → Runs (.resyncRestartWaitExpiry) s (fun u => u.pair.resyncWait = none ∧ u.pair.phase = 3 ∧ u.mode = s.mode))

/-- For these commands, under the conditions of each clause, a next state exists and holds what the clause says (R251, R383 to R388, R390, R395, R398 to R400). (1) GUARD_VIOLATION of an access that the rules refuse: the report of its master, the violation counter, the master's detector unless it is a debug access to a locked range, and no byte of memory; (2) of an access that the rules allow, or in a gap: nothing; (3) GUARD_SYNC by a master that may give it, every pending region of the named masters in order: their pending rules become live together, the others' stay; (4) with a pending region that is not: SYNC_ERROR and the lowest failing master, no rule changes; (5) by a core for Sedge, the debug master or the key store: nothing; (6) DBG_ACCESS read that the rules of master 14 allow: STATUS 0 and the word on the bus; (7) misaligned or in a gap: STATUS 1, DATA as before; (8) refused: STATUS 1 and a violation; (9) without a session: BYPASS, G set, STATUS 2; (10) DBG_ACCESS write outside the debug write path that the rules allow, not to code, constants, State B or State C: the word in memory; (11) refused: STATUS 1, a violation, memory as before; (12) misaligned: STATUS 1, memory, state and signals as before; (13) without a session: as a read; (14) write of a State A word while no pass is dispatched: into all three copies; (15) in RUN or HOLD: into State A, and every task whose slots hold it is tainted; (16) write of VALUE of a declared signal: VALUE with SOURCE 3, QUALITY and the other signals as before. What it says beyond the rules is the model's choice (log entries 61, 62, 64, 83, 98). -/
def Obligations.RegionGuardAndDebuggerAccesses : Prop :=
  (∀ (s : State) (a : Access) (i : Nat), a.master < 16 → a.kind < 3 → a.size < 7 → a.address < 2 ^ 36 → s.verdict a = .refused i
    → Runs (.guardViolation a) s (fun u => get ({} : Viol) u.guard.reports a.master = { address := BitVec.ofNat 64 a.address, info := State.violInfo a i, time := s.time.mono, count := (get ({} : Viol) s.guard.reports a.master).count + 1 }
    ∧ u.guard.violations = s.guard.violations + 1 ∧ u.mem = s.mem ∧ (¬(a.master = 14 ∧ tb i 6 = true)
    → (u.det (8 + a.master)).count = BitVec.ofNat 32 (sat32 ((s.det (8 + a.master)).count.toNat + 1))))) ∧
  (∀ (s : State) (a : Access), s.verdict a = .allowed ∨ s.verdict a = .gap → Runs (.guardViolation a) s (fun u => u = s)) ∧
  (∀ (s : State) (m : Nat) (k : Half), m < 8 ∨ m = 13 → m = 13 ∨ k.toNat < 8192 → ∀ j ∈ State.maskMasters k, s.rulesOk j = true
    → Runs (.guardSync m k) s (fun u => (∀ w v, k.getLsbD (w / 64) = true → (∀ e ∈ s.guard.pending, e.1 = w → e.2 = v)
    → get 0 u.guard.live w = get 0 s.guard.pending w) ∧ (∀ w, k.getLsbD (w / 64) = false → get 0 u.guard.live w = get 0 s.guard.live w)
    ∧ u.guard.syncError = false ∧ u.guard.pending = s.guard.pending ∧ Keeps [.guard] s u)) ∧
  (∀ (s : State) (m j : Nat) (k : Half), m < 8 ∨ m = 13 → m = 13 ∨ k.toNat < 8192 → (State.maskMasters k).find? (fun j => !s.rulesOk j) = some j
    → Runs (.guardSync m k) s (fun u => u = { s with guard.syncError := true, guard.failing := BitVec.ofNat 4 j })) ∧
  (∀ (s : State) (m : Nat) (k : Half), m < 8 → 8192 ≤ k.toNat → Runs (.guardSync m k) s (fun u => u = s)) ∧
  (∀ (s : State) (a : BitVec 36), s.guard.attached = true → a.toNat % 4 = 0 → s.verdict (State.dbgAccess a.toNat 0) = .allowed
    → Runs (.dbgAccessRead a) s (fun u => u.guard.dbgStatus = 0 ∧ u.guard.dbgData = (s.busWord a.toNat).1 ∧ Keeps [.guard, .draws, .xan] s u)) ∧
  (∀ (s : State) (a : BitVec 36), s.guard.attached = true → (a.toNat % 4 ≠ 0 ∨ s.verdict (State.dbgAccess a.toNat 0) = .gap)
    → Runs (.dbgAccessRead a) s (fun u => u.guard.dbgStatus = 1 ∧ u.guard.dbgData = s.guard.dbgData ∧ u.guard.violations = s.guard.violations
    ∧ Keeps [.guard] s u)) ∧
  (∀ (s : State) (a : BitVec 36) (i : Nat), s.guard.attached = true → a.toNat % 4 = 0 → s.verdict (State.dbgAccess a.toNat 0) = .refused i
    → Runs (.dbgAccessRead a) s (fun u => u.guard.dbgStatus = 1 ∧ u.guard.dbgData = s.guard.dbgData ∧ u.guard.violations = s.guard.violations + 1
    ∧ u.mem = s.mem)) ∧
  (∀ (s : State) (a : BitVec 36), s.guard.attached = false → Runs (.dbgAccessRead a) s (fun u => u = { s with guard := { s.guard with tap := 0xFF, refused := true, boundary := false, dbgStatus := 2 } })) ∧
  (∀ (s : State) (a : BitVec 36) (v : Word), s.guard.attached = true → a.toNat % 4 = 0 → s.stateWordAt a.toNat = none
    → mapEntry a.toNat ≠ some 0x44000000 → s.verdict (State.dbgAccess a.toNat 1) = .allowed → s.barsDebug a.toNat = false
    → Runs (.dbgAccessWrite a v) s (fun u => u.guard.dbgStatus = 0 ∧ u.mem = wr32 s.mem a.toNat v ∧ Keeps [.guard, .draws, .mem, .moraine,
    .xan] s u)) ∧
  (∀ (s : State) (a : BitVec 36) (v : Word) (i : Nat), s.guard.attached = true → a.toNat % 4 = 0 → s.stateWordAt a.toNat = none
    → mapEntry a.toNat ≠ some 0x44000000 → s.verdict (State.dbgAccess a.toNat 1) = .refused i
    → Runs (.dbgAccessWrite a v) s (fun u => u.guard.dbgStatus = 1 ∧ u.mem = s.mem ∧ u.guard.violations = s.guard.violations + 1)) ∧
  (∀ (s : State) (a : BitVec 36) (v : Word), s.guard.attached = true → a.toNat % 4 ≠ 0 → Runs (.dbgAccessWrite a v) s (fun u => u.guard.dbgStatus = 1
    ∧ u.mem = s.mem ∧ u.firn = s.firn ∧ u.sig = s.sig)) ∧
  (∀ (s : State) (a : BitVec 36) (v : Word), s.guard.attached = false
    → Runs (.dbgAccessWrite a v) s (fun u => u = { s with guard := { s.guard with tap := 0xFF, refused := true, boundary := false, dbgStatus := 2 } })) ∧
  (∀ (s : State) (a : BitVec 36) (v : Word) (w : Nat), s.guard.attached = true → a.toNat % 4 = 0 → s.stateWordAt a.toNat = some w → s.quiet = true
    → Runs (.dbgAccessWrite a v) s (fun u => u.firn = (s.setWord w (s.wordType w) v).firn ∧ u.guard.dbgStatus = 0 ∧ Keeps [.firn, .guard, .drift,
    .moraine] s u)) ∧
  (∀ (s : State) (a : BitVec 36) (v : Word) (w : Nat), s.guard.attached = true → a.toNat % 4 = 0 → s.stateWordAt a.toNat = some w
    → (s.mode.current = .run ∨ s.mode.current = .hold)
    → Runs (.dbgAccessWrite a v) s (fun u => get 0 u.firn.stateA w = get 0 (s.setCopy 0 w (s.wordType w) v).firn.stateA w ∧ (∀ t ∈ s.tasksOfWord w,
    (u.task t).tainted = true) ∧ u.guard.dbgStatus = 0 ∧ u.mode = s.mode)) ∧
  (∀ (s : State) (g : Nat) (a : BitVec 36) (v : Word), s.guard.attached = true → g < 65536 → a.toNat = 0x44000000 + 32 * g → s.sigDecl g = true
    → Runs (.dbgAccessWrite a v) s (fun u => (u.sigOf g).value = v ∧ (u.sigOf g).source = 3 ∧ (u.sigOf g).quality = (s.sigOf g).quality ∧ (∀ n, n ≠ g
    → u.sigOf n = s.sigOf n) ∧ u.guard.dbgStatus = 0))

/-- For these commands, under the conditions of each clause, a next state exists and holds what the clause says (R245 to R250, R394 to R397). (1) EXTEST with the scan gate open: boundary scan; (2) EXTEST with it closed: BYPASS with G set; (3) SAMPLE_PRELOAD with the gate open; (4) IDCODE; (5) BYPASS; (6) ATTACH inside Table 12.5, no session attached: attached, and whether the session rests on a permit; (7) outside it: G alone; (8) HALT of a task in RUN: halted, tainted, no other task halted or tainted by it; (9) HALT in HOLD: halted, not tainted by it; (10) HALT outside its conditions: G alone; (11) STEP in RUN of a halted task whose release waits for pass A, with acts that read state alone and not the last block: the release runs pass A alone, tainted, and stays suspended; (12) STEP of any block of a halted task in RUN: tainted, still halted; (13) RESUME of a halted task: no longer halted, the taint as it was; (14) RESUME of another: G alone; (15) DETACH: no session, a halted task waits for its next release instant, the taint as it was; (16) DETACH without a session: G alone; (17) TAP_RESET: IDCODE, no session; (18) DEBUG_PERMIT of 60 to 3600 s in SERVICE of an IN-SERVICE module: the permit until then; (19) of another span: RANGE; (20) DEBUG_PERMIT_EXPIRY at its end: no permit, and a session that rested on it ends; (21) before: nothing. What it says beyond the rules is the model's choice (log entries 4, 62, 63, 72, 87). -/
def Obligations.TheTapAndDebugSessions : Prop :=
  (∀ (s : State), s.scanGate = true → Runs (.extest) s (fun u => u = { s with guard.tap := 0x00, guard.refused := false, guard.boundary := true })) ∧
  (∀ (s : State), s.scanGate = false → Runs (.extest) s (fun u => u = { s with guard.tap := 0xFF, guard.refused := true, guard.boundary := false })) ∧
  (∀ (s : State), s.scanGate = true → Runs (.samplePreload) s (fun u => u = { s with guard.tap := 0x01, guard.refused := false, guard.boundary := true })) ∧
  (∀ (s : State), Runs (.idcode) s (fun u => u = { s with guard.tap := 0x02, guard.refused := false, guard.boundary := false })) ∧
  (∀ (s : State), Runs (.bypass) s (fun u => u = { s with guard.tap := 0xFF, guard.refused := false, guard.boundary := false })) ∧
  (∀ (s : State), s.mayAttach = true → s.guard.attached = false → Runs (.attach) s (fun u => u.guard = { s.guard with attached := true, onPermit := decide (s.mode.life = .inService), tap := 0x10, refused := false, boundary := false }
    ∧ Keeps [.guard, .moraine, .draws] s u)) ∧
  (∀ (s : State), s.mayAttach = false → Runs (.attach) s (fun u => u = { s with guard.tap := 0x10, guard.refused := true, guard.boundary := false })) ∧
  (∀ (s : State) (t : Nat), s.mayHalt t = true → s.mode.current = .run → Runs (.halt t) s (fun u => (u.task t).halted = true
    ∧ (u.task t).tainted = true ∧ (u.firnTask t).taintRemaining = 0 ∧ (∀ k : Nat, k ≠ t → (u.task k).halted = (s.task k).halted
    ∧ (u.task k).tainted = (s.task k).tainted) ∧ u.guard.refused = false ∧ u.mode = s.mode)) ∧
  (∀ (s : State) (t : Nat), s.mayHalt t = true → s.mode.current = .hold → Runs (.halt t) s (fun u => (u.task t).halted = true
    ∧ (u.task t).tainted = (s.task t).tainted ∧ u.sig.entries = s.sig.entries ∧ u.guard.refused = false)) ∧
  (∀ (s : State) (t : Nat), s.mayHalt t = false → Runs (.halt t) s (fun u => u = { s with guard.tap := 0x10, guard.refused := true, guard.boundary := false })) ∧
  (∀ (s : State) (t : Nat) (r : Release) (a : List PassAct) (b : Ns), ∀ y ∈ a, ∃ g, y = .readState g → s.mayHalt t = true → (s.task t).halted = true
    → s.mode.current = .run → (s.task t).release = some r → r.pass ≤ 1 → r.running = false → r.voting = false → r.committing = false
    → r.waiting = false → r.stopping = false → r.tainted = false → (r.pass = 0 → (s.firnTask t).repair = 0)
    → Runs (.step t a b false) s (fun u => (u.task t).tainted = true ∧ (u.task t).halted = true ∧ ((u.task t).release.map (fun x => (x.pass,
    x.suspended, x.tainted))) = some (1, true, true) ∧ (u.task t).longestBlock = max (s.task t).longestBlock b ∧ u.mode = s.mode)) ∧
  (∀ (s : State) (t : Nat) (a : List PassAct) (b : Ns) (l : Bool), s.mayHalt t = true → (s.task t).halted = true → s.mode.current = .run
    → Runs (.step t a b l) s (fun u => (u.task t).tainted = true ∧ (u.task t).halted = true ∧ u.guard.refused = false ∧ u.mode = s.mode)) ∧
  (∀ (s : State) (t : Nat), s.guard.attached = true → (s.task t).halted = true → t < 16 → Runs (.resume t) s (fun u => (u.task t).halted = false
    ∧ (u.task t).tainted = (s.task t).tainted ∧ u.guard.refused = false ∧ u.guard.attached = true ∧ Keeps [.disp, .guard] s u)) ∧
  (∀ (s : State) (t : Nat), (s.task t).halted = false → Runs (.resume t) s (fun u => u = { s with guard.tap := 0x10, guard.refused := true, guard.boundary := false })) ∧
  (∀ (s : State), s.guard.attached = true → Runs (.detach) s (fun u => u.guard.attached = false ∧ u.guard.refused = false ∧ (∀ t : Nat,
    (u.task t).resumeDue = (s.task t).halted ∧ (u.task t).halted = (s.task t).halted ∧ (u.task t).tainted = (s.task t).tainted) ∧ u.mode = s.mode
    ∧ Keeps [.guard, .disp, .firn, .drift, .moraine, .draws] s u)) ∧
  (∀ (s : State), s.guard.attached = false → Runs (.detach) s (fun u => u = { s with guard.tap := 0x10, guard.refused := true, guard.boundary := false })) ∧
  (∀ (s : State), Runs (.tapReset) s (fun u => u.guard.attached = false ∧ u.guard.tap = 0x02 ∧ u.guard.refused = false ∧ u.guard.boundary = false
    ∧ u.mode = s.mode)) ∧
  (∀ (s : State) (r : Req) (t : State) (x : ReplyTo), Granted s r 2 t x → r.index = 0x7340 → r.sub = 0 → 60 ≤ r.value → r.value ≤ 3600
    → s.mode.life = .inService → s.inService = true
    → Runs (.debugPermit r) s (fun u => u.guard = { s.guard with permitUntil := some (s.time.mono + r.value * 1000000000) } ∧ Replied u x 0)) ∧
  (∀ (s : State) (r : Req) (t : State) (x : ReplyTo), Granted s r 2 t x → r.index = 0x7340 → r.sub = 0 → r.value < 60 ∨ 3600 < r.value
    → Runs (.debugPermit r) s (fun u => u.guard = s.guard ∧ Replied u x 6)) ∧
  (∀ (s : State) (e : Ns), s.guard.permitUntil = some e → e ≤ s.time.mono → Runs (.debugPermitExpiry) s (fun u => u.guard.permitUntil = none
    ∧ u.guard.attached = (s.guard.attached && !s.guard.onPermit) ∧ u.mode = s.mode)) ∧
  (∀ (s : State) (e : Ns), s.guard.permitUntil = some e → s.time.mono < e → Runs (.debugPermitExpiry) s (fun u => u = s))

/-- For these commands, under the conditions of each clause, a next state exists and holds what the clause says (R408, R410, R411, R413 to R415, R426). (1) MORAINE_TRIGGER of an assigned code with its payload that its limit lets through: the record waits, with the instant and the words; (2) of one that it does not: counted as suppressed, no record; (3) MORAINE_ACCEPT at most once each microsecond, of a record of up to four words: it enters the ring under the next SEQUENCE; (4) sooner: nothing; (5) POST: the port's fields, RESULT 1 queued, 2 suppressed, 3 no postable code, and the record that it queues; (6) RATE_LIMIT of a code that may be limited, with a burst: it holds from the code's next refill; (7) of another, or without a burst: RANGE; (8) SNAP_LIST with an object of one slot that a snapshot may hold, past the payload: the slot holds it. What it says beyond the rules is the model's choice (log entry 37). -/
def Obligations.MoraineTriggersAndPosts : Prop :=
  (∀ (s : State) (c k : Nat) (w : List Word), codeAssigned c = true → w.length = payloadOf c → k < 4096 → s.passesNow c = true
    → Runs (.moraineTrigger c k w) s (fun u => u.moraine.queue.length = s.moraine.queue.length + 1
    ∧ u.moraine.queue.take s.moraine.queue.length = s.moraine.queue ∧ (u.moraine.queue.getLast?.map (fun q => (q.code, q.unit, q.trigAt,
    q.words.take (payloadOf c)))) = some (c, k, s.time.mono, w.take 8) ∧ Keeps [.moraine] s u)) ∧
  (∀ (s : State) (c k : Nat) (w : List Word), codeAssigned c = true → w.length = payloadOf c → k < 4096 → s.passesNow c = false
    → Runs (.moraineTrigger c k w) s (fun u => u.moraine.queue = s.moraine.queue ∧ u.moraine.ring = s.moraine.ring
    ∧ (codeOf u c).waiting = BitVec.ofNat 32 (sat32 ((codeOf s c).waiting.toNat + 1))
    ∧ (codeOf u c).total = BitVec.ofNat 32 (sat32 ((codeOf s c).total.toNat + 1)) ∧ Keeps [.moraine] s u)) ∧
  (∀ (s : State) (q : Trig) (rest : List Trig), s.moraine.queue = q :: rest
    → (s.moraine.lastAccept.elim true (fun a => decide (a + 1000 ≤ s.time.mono))) = true → (acceptedWords q s.time.mono).length ≤ 4
    → Runs (.moraineAccept) s (fun u => u.moraine.queue.take rest.length = rest ∧ (u.moraine.ring.head?.map (fun y => (y.seq, y.mono,
    y.code))) = some (s.nextSeq, s.time.mono, q.code) ∧ (u.moraine.ring.head?.map (fun y => (y.severity, y.unit, y.words))) = some (q.severity,
    q.unit, acceptedWords q s.time.mono) ∧ u.moraine.newest = s.nextSeq ∧ u.moraine.lastAccept = some s.time.mono ∧ Keeps [.moraine, .disp] s u)) ∧
  (∀ (s : State) (a : Ns), s.moraine.lastAccept = some a → s.time.mono < a + 1000 → Runs (.moraineAccept) s (fun u => u = s)) ∧
  (∀ (s : State) (p c k : Nat) (w : List Word), p ≤ 8 → c < 1024 → k < 4096 → w.length ≤ 8
    → Runs (.post p c k w) s (fun u => (get ({} : PostPort) u.moraine.posts p).code = c ∧ (get ({} : PostPort) u.moraine.posts p).unit = k
    ∧ (get ({} : PostPort) u.moraine.posts p).payload = w ∧ (get ({} : PostPort) u.moraine.posts p).result = (if codeAssigned c = true
    ∧ Config.postable c = true then (if s.passesNow c = true then 1 else 2) else 3) ∧ (codeAssigned c = true → Config.postable c = true
    → s.passesNow c = true → (u.moraine.queue.getLast?.map (fun y => (y.code, y.unit, y.post))) = some (c, k, some p)) ∧ Keeps [.moraine] s u)) ∧
  (∀ (s : State) (r : Req) (t : State) (x : ReplyTo), Granted s r 2 t x → 0x7130 ≤ r.index.toNat → r.index.toNat ≤ 0x7133
    → neverSuppressed ((r.index.toNat - 0x7130) * 256 + r.sub.toNat) = false → 65536 ≤ r.value
    → Runs (.rateLimit r) s (fun u => (codeOf u ((r.index.toNat - 0x7130) * 256 + r.sub.toNat)).newLimit = some (BitVec.ofNat 32 r.value)
    ∧ Replied u x 0)) ∧
  (∀ (s : State) (r : Req) (t : State) (x : ReplyTo), Granted s r 2 t x → 0x7130 ≤ r.index.toNat → r.index.toNat ≤ 0x7133
    → (neverSuppressed ((r.index.toNat - 0x7130) * 256 + r.sub.toNat) = true ∨ r.value < 65536) → Runs (.rateLimit r) s (fun u => (∀ c : Nat,
    c ≠ 0x067 → (codeOf u c).newLimit = (codeOf s c).newLimit) ∧ Replied u x 6)) ∧
  (∀ (s : State) (r : Req) (t : State) (x : ReplyTo), Granted s r 2 t x → 0x7140 ≤ r.index.toNat → r.index.toNat ≤ 0x715F
    → payloadOf ((r.index.toNat - 0x7140) * 32 + r.sub.toNat / 8) ≤ r.sub.toNat % 8 → tb r.value 31 = true → s.snapOk r.value = true
    → s.snapWide r.value = false → (r.sub.toNat % 8 = 0
    ∨ s.snapWide (get (0 : Word) (codeOf s ((r.index.toNat - 0x7140) * 32 + r.sub.toNat / 8)).snaps (r.sub.toNat % 8 - 1)).toNat = false)
    → Runs (.snapList r) s (fun u => get 0 (codeOf u ((r.index.toNat - 0x7140) * 32 + r.sub.toNat / 8)).snaps (r.sub.toNat % 8) = BitVec.ofNat 32 (r.value % 2 ^ 24 + 2 ^ 31)
    ∧ Replied u x 0))

/-- For these commands, under the conditions of each clause, a next state exists and holds what the clause says (R417, R418, R421 to R423, R425). (1) PERSIST_TICK in a new second, no persist running: one starts with the records since the last, and records lost since are an occurrence of D289; (2) PERSIST_COMPLETE that a device took: its records are in the store, PERSIST_TIME; (3) that none took: an occurrence of D288, the store as before; (4) MORAINE_CLEAR, signed, up to a SEQUENCE older than its signature's record: no record up to it is left, every later one of the ring but a continuation of the last erased is; (5) MORAINE_CURSOR with a cursor to give: the session's cursor, from the oldest for 0, past the newest for all ones; (6) with all eight held: BUSY. What it says beyond the rules is the model's choice (log entry 38). -/
def Obligations.MoraineKeepsAndClears : Prop :=
  (∀ (s : State), s.moraine.persistAt / 1000000000 < s.time.mono / 1000000000 → s.moraine.persistBusy = false
    → Runs (.persistTick) s (fun u => u.moraine.persistBusy = true ∧ u.moraine.persisting = s.unpersisted ∧ u.moraine.persistAt = s.time.mono
    ∧ u.moraine.ring = s.moraine.ring ∧ (s.moraine.lost ≠ s.moraine.lostSeen
    → (u.det 289).count = BitVec.ofNat 32 (sat32 ((s.det 289).count.toNat + 1))))) ∧
  (∀ (s : State) (a b : Bool), s.moraine.persistBusy = true → (a || b) = true → Runs (.persistComplete a b) s (fun u => u.moraine.persistBusy = false
    ∧ u.moraine.persisting = [] ∧ u.moraine.store = (s.moraine.persisting.reverse ++ s.moraine.store).take 262144
    ∧ u.moraine.persistTime = s.time.mono ∧ u.moraine.degraded = !(a && b)
    ∧ u.moraine.persisted = (s.moraine.persisting.getLast?).elim s.moraine.persisted (·.seq))) ∧
  (∀ (s : State), s.moraine.persistBusy = true → Runs (.persistComplete false false) s (fun u => u.moraine.persistBusy = false
    ∧ u.moraine.store = s.moraine.store ∧ u.moraine.persisted = s.moraine.persisted
    ∧ (u.det 288).count = BitVec.ofNat 32 (sat32 ((s.det 288).count.toNat + 1)))) ∧
  (∀ (s : State) (f : Fwd) (t : State), Signed s 0x7110 f t → f.req.arg.length = 8 → s.signatureWaits f = false
    → BitVec.ofNat 64 (fromBe f.req.arg) < (s.signatureSeq f).getD (oldestRec s) → Runs (.moraineClear) s (fun u => (∀ y ∈ u.moraine.ring,
    BitVec.ofNat 64 (fromBe f.req.arg) < y.seq) ∧ (∀ y ∈ u.moraine.store, BitVec.ofNat 64 (fromBe f.req.arg) < y.seq) ∧ (∀ y ∈ s.moraine.ring,
    BitVec.ofNat 64 (fromBe f.req.arg) + 1 < y.seq → y ∈ u.moraine.ring) ∧ u.moraine.clears = s.moraine.clears + 1 ∧ Replied u (State.replyOf f) 0)) ∧
  (∀ (s : State) (r : Req) (t : State) (x : ReplyTo), Granted s r 2 t x → r.index = 0x7121 → r.sub = 0
    → State.cursorsFull t.moraine.cursors x.session = false
    → Runs (.moraineCursor r) s (fun u => u.moraine.cursors = State.setCursor t.moraine.cursors x.session (State.cursorOf (oldestRec t) t.moraine.newest (BitVec.ofNat 64 r.value))
    ∧ Replied u x 0)) ∧
  (∀ (s : State) (r : Req) (t : State) (x : ReplyTo), Granted s r 2 t x → r.index = 0x7121 → r.sub = 0
    → State.cursorsFull t.moraine.cursors x.session = true → Runs (.moraineCursor r) s (fun u => u.moraine.cursors = t.moraine.cursors
    ∧ Replied u x 0x0A))

/-- For these commands, under the conditions of each clause, a next state exists and holds what the clause says (R433, R435, R436, R438, R440, R444, R447). (1) CAPTURE_RECORD_ARRIVAL in time, of a bound capture channel outside COLD and of an unfenced source: the record waits; (2) later than REORDER_DELAY: LATE, an occurrence of D275; (3) REORDER_DELAY_EXPIRY of a record that finds 4,096 before it in the writer's queue: dropped and counted, an occurrence of D272; (4) of one that finds the writer free, no marker due, its group not armed, no capture firing: it enters the buffer under the next sequence number; (5) with nothing held long enough: nothing; (6) CAPTURE_END after T + POST_WINDOW + REORDER_DELAY: the group no longer fires, its capture has ended; (7) GROUP_ARM by command: armed, the other groups as before; (8) while it fires: no change; (9) by a rising ARM_SIGNAL: armed; (10) by one that was high: nothing; (11) GROUP_DISARM: not armed; (12) while it fires: its re-arm is cancelled, it fires on; (13) CAPTURE_RELEASE of a held capture: no longer held; (14) of another: RANGE; (15) CAPTURE_CURSOR with a cursor to give: the session's cursor. What it says beyond the rules is the model's choice (log entries 39, 108, 109, 110). -/
def Obligations.CapturesRecord : Prop :=
  (∀ (s : State) (c : CaptureRec), s.mode.current ≠ .cold → s.capFenced c.channel = false → (s.binding c.channel).elim false (·.capture) = true
    → s.nowUs ≤ c.time + s.capture.reorderDelay.toNat
    → Runs (.captureRecordArrival c) s (fun u => u = { s with capture.waiting := s.capture.waiting ++ [{ time := c.time, channel := c.channel, value := c.value, cause := c.cause, kind := BitVec.ofNat 8 (bit c.bad 3) }] })) ∧
  (∀ (s : State) (c : CaptureRec), s.mode.current ≠ .cold → s.capFenced c.channel = false → (s.binding c.channel).elim false (·.capture) = true
    → c.time + s.capture.reorderDelay.toNat < s.nowUs → s.capture.waiting.filter s.ripe = []
    → Runs (.captureRecordArrival c) s (fun u => u.capture.late = s.capture.late + 1
    ∧ u.capture.waiting.take s.capture.waiting.length = s.capture.waiting
    ∧ (u.det 275).count = BitVec.ofNat 32 (sat32 ((s.det 275).count.toNat + 1)))) ∧
  (∀ (s : State) (x : CapItem), s.capture.waiting = [x] → s.capture.queue = [] → s.ripe x = true
    → x.time + s.capture.reorderDelay.toNat + 4096 ≤ s.capture.writerFree
    → Runs (.reorderDelayExpiry) s (fun u => u.capture.dropped = s.capture.dropped + 1 ∧ u.capture.droppedRun = s.capture.droppedRun + 1
    ∧ u.capture.waiting = [] ∧ u.capture.buffer = s.capture.buffer ∧ (u.det 272).count = BitVec.ofNat 32 (sat32 ((s.det 272).count.toNat + 1)))) ∧
  (∀ (s : State) (x : CapItem), s.capture.waiting = [x] → s.capture.queue = [] → s.ripe x = true
    → s.capture.writerFree ≤ x.time + s.capture.reorderDelay.toNat
    → (s.binding x.channel).elim true (fun b => b.group.elim true (fun g => !(s.cap g).armed)) = true → s.capture.droppedRun = 0
    → s.capture.count % 65536 ≠ 0 → s.capture.buffer.head?.elim true (fun y => decide (y.time / 2 ^ 48 = x.time / 2 ^ 48)) = true
    → s.capture.held.all (·.ended) = true → Runs (.reorderDelayExpiry) s (fun u => u.capture.buffer = { x with seq := s.capSeq } :: s.roomy
    ∧ u.capture.waiting = [] ∧ u.capture.stored = s.capture.stored + 1 ∧ Keeps [.capture] s u)) ∧
  (∀ (s : State), s.capture.waiting.filter s.ripe = [] → s.capture.queue = [] → Runs (.reorderDelayExpiry) s (fun u => u = s)) ∧
  (∀ (s : State) (g n : Nat) (c : Capture), (s.cap g).firing = some n → s.capture.held.find? (fun d => d.number = n) = some c → c.ended = false
    → c.group = g → c.trigTime + (s.cap g).post.toNat + s.capture.reorderDelay.toNat ≤ s.nowUs → s.capture.waiting.filter s.ripe = []
    → s.capture.queue = [] → Runs (.captureEnd g) s (fun u => (u.cap g).firing = none ∧ (∀ h ∈ u.capture.held, h.number = n → h.ended = true))) ∧
  (∀ (s : State) (r : Req) (t : State) (x : ReplyTo), Granted s r 2 t x → r.sub = 1 → 0x7240 ≤ r.index.toNat → r.index.toNat ≤ 0x725F → r.value = 1
    → (s.cap (r.index.toNat - 0x7240)).firing = none → Runs (.groupArm (.command r)) s (fun u => (u.cap (r.index.toNat - 0x7240)).armed = true ∧ (∀ g,
    g ≠ (r.index.toNat - 0x7240) → u.cap g = s.cap g) ∧ Replied u x 0)) ∧
  (∀ (s : State) (r : Req) (t : State) (x : ReplyTo), Granted s r 2 t x → r.sub = 1 → 0x7240 ≤ r.index.toNat → r.index.toNat ≤ 0x725F → r.value = 1
    → (s.cap (r.index.toNat - 0x7240)).firing.isSome = true → Runs (.groupArm (.command r)) s (fun u => u.capture.groups = s.capture.groups
    ∧ Replied u x 0)) ∧
  (∀ (s : State) (g n : Nat), (s.groupDecl g).bind (·.armSignal) = some n → (s.cap g).armLevel = false → (s.sigOf n).effective ≠ 0
    → (s.cap g).firing = none → Runs (.groupArm (.signal g)) s (fun u => (u.cap g).armed = true ∧ (u.cap g).armLevel = true ∧ (∀ k, k ≠ g
    → u.cap k = s.cap k))) ∧
  (∀ (s : State) (g n : Nat), (s.groupDecl g).bind (·.armSignal) = some n → (s.cap g).armLevel = true
    → Runs (.groupArm (.signal g)) s (fun u => u = s)) ∧
  (∀ (s : State) (r : Req) (t : State) (x : ReplyTo), Granted s r 2 t x → r.sub = 1 → 0x7240 ≤ r.index.toNat → r.index.toNat ≤ 0x725F → r.value = 0
    → (s.cap (r.index.toNat - 0x7240)).firing = none → Runs (.groupDisarm r) s (fun u => (u.cap (r.index.toNat - 0x7240)).armed = false
    ∧ Replied u x 0)) ∧
  (∀ (s : State) (r : Req) (t : State) (x : ReplyTo), Granted s r 2 t x → r.sub = 1 → 0x7240 ≤ r.index.toNat → r.index.toNat ≤ 0x725F → r.value = 0
    → (s.cap (r.index.toNat - 0x7240)).firing.isSome = true → Runs (.groupDisarm r) s (fun u => (u.cap (r.index.toNat - 0x7240)).rearmCancelled = true
    ∧ (u.cap (r.index.toNat - 0x7240)).firing = (s.cap (r.index.toNat - 0x7240)).firing ∧ Replied u x 0)) ∧
  (∀ (s : State) (r : Req) (t : State) (x : ReplyTo), Granted s r 2 t x → r.index = 0x7202 → r.sub = 0
    → s.capture.held.any (fun c => c.number = r.value) = true
    → Runs (.captureRelease r) s (fun u => u.capture.held = s.capture.held.filter (fun c => c.number ≠ r.value) ∧ Replied u x 0)) ∧
  (∀ (s : State) (r : Req) (t : State) (x : ReplyTo), Granted s r 2 t x → r.index = 0x7202 → r.sub = 0
    → s.capture.held.any (fun c => c.number = r.value) = false → Runs (.captureRelease r) s (fun u => u.capture.held = s.capture.held
    ∧ Replied u x 6)) ∧
  (∀ (s : State) (r : Req) (t : State) (x : ReplyTo), Granted s r 2 t x → r.index = 0x7221 → r.sub = 0
    → State.cursorsFull t.capture.cursors x.session = false
    → Runs (.captureCursor r) s (fun u => u.capture.cursors = State.setCursor t.capture.cursors x.session (State.cursorOf (oldestCap t) (newestCap t) (BitVec.ofNat 64 r.value))
    ∧ Replied u x 0))

/-- For these commands, under the conditions of each clause, a next state exists and holds what the clause says (R453, R454, R457, R461, R463, R465, R466). (1) LINK_CYCLE_INSTANT at an instant of a declared link, not fenced, no transaction or CONFIGURE open, not about to park, outside COLD: CYCLES one on, SEQ its low byte, exchanging, the other links as before; (2) to a configured or missing position with pool slots enough: one cyclic request with OWNER, SEQ, SAFE_MASK and OUTPUT as they stand; (3) a link about to park: parked, no cycle; (4) in COLD: nothing is sent or counted; (5) a fenced link: nothing; (6) LINK_PARK of 1 outside COLD, the link not fenced: it parks at its next instant, SAFE is sent; (7) of another value: RANGE; (8) CONFIGURE_REPLY with result 0 to a position that awaits it: configured; (9) with another result: refused, an occurrence of D129 + 2k on an unfenced link; (10) CONFIGURE_RETRY of a refused position 1 s later, the link not fenced, outside COLD: CONFIGURE is sent; (11) sooner: nothing; (12) LINK_SYNC_LOST of a declared trained link: D128 + 2k live, and its fence where it is not masked; (13) of one that the image does not use: no detector; (14) LINK_TRAINED: trained, LINK_DELAY, D128 + 2k not live, the other links as before. What it says beyond the rules is the model's choice (log entries 47, 48, 91, 112). -/
def Obligations.LinkCyclesAndConfiguration : Prop :=
  (∀ (s : State) (k : Nat) (d : LinkDecl), s.linkDecl k = some d → s.mode.inReset = false → s.time.monoRun = true → d.phase * 1000 ≤ s.time.mono
    → (s.time.mono - d.phase * 1000) % (d.period * 1000) = 0 → s.fenced (0x10 + k) = false → (s.lnk k).cycleOpen = false
    → (s.positionsOf k).all (fun j => !(s.pos k j).configWait) = true → (s.lnk k).parkDue = false → s.mode.current ≠ .cold
    → Runs (.linkCycleInstant k) s (fun u => (u.lnk k).cycles = (s.lnk k).cycles + 1 ∧ (u.lnk k).seq = BitVec.ofNat 8 ((s.lnk k).cycles.toNat + 1)
    ∧ (u.lnk k).cycleOpen = true ∧ (u.lnk k).exchanging = true ∧ (u.lnk k).cycleAt = s.time.mono ∧ (∀ j, j ≠ k → u.lnk j = s.lnk j) ∧ Keeps [.link,
    .moraine, .hub, .pair, .sig, .capture] s u)) ∧
  (∀ (s : State) (k m : Nat) (d : LinkDecl), s.linkDecl k = some d → s.mode.inReset = false → s.time.monoRun = true → d.phase * 1000 ≤ s.time.mono
    → (s.time.mono - d.phase * 1000) % (d.period * 1000) = 0 → s.fenced (0x10 + k) = false → (s.lnk k).cycleOpen = false
    → (s.positionsOf k).all (fun j => !(s.pos k j).configWait) = true → (s.lnk k).parkDue = false → s.mode.current ≠ .cold → m ∈ s.positionsOf k
    → (s.pos k m).configure = false → ((s.pos k m).state = 1 ∨ (s.pos k m).state = 3) → s.link.slots + (s.positionsOf k).length ≤ 256
    → Runs (.linkCycleInstant k) s (fun u => (u.pos k m).inFlight = true ∧ ∃ f ∈ u.link.out, f.link = k ∧ f.type = 1 ∧ f.position = m
    ∧ f.owner = s.gateOpen ∧ f.seq = BitVec.ofNat 8 ((s.lnk k).cycles.toNat + 1) ∧ f.mask = s.safeMask k m ∧ f.output = s.outputWords k m)) ∧
  (∀ (s : State) (k : Nat) (d : LinkDecl), s.linkDecl k = some d → s.mode.inReset = false → s.time.monoRun = true → d.phase * 1000 ≤ s.time.mono
    → (s.time.mono - d.phase * 1000) % (d.period * 1000) = 0 → s.fenced (0x10 + k) = false → (s.lnk k).cycleOpen = false → (s.lnk k).parkDue = true
    → Runs (.linkCycleInstant k) s (fun u => (u.lnk k).parked = true ∧ (u.lnk k).parkDue = false ∧ (u.lnk k).cycles = (s.lnk k).cycles)) ∧
  (∀ (s : State) (k : Nat) (d : LinkDecl), s.linkDecl k = some d → s.mode.inReset = false → s.time.monoRun = true → d.phase * 1000 ≤ s.time.mono
    → (s.time.mono - d.phase * 1000) % (d.period * 1000) = 0 → s.fenced (0x10 + k) = false → (s.lnk k).cycleOpen = false
    → (s.positionsOf k).all (fun j => !(s.pos k j).configWait) = true → (s.lnk k).parkDue = false → s.mode.current = .cold
    → Runs (.linkCycleInstant k) s (fun u => u.link = s.link)) ∧
  (∀ (s : State) (k : Nat) (d : LinkDecl), s.linkDecl k = some d → s.mode.inReset = false → s.time.monoRun = true → d.phase * 1000 ≤ s.time.mono
    → (s.time.mono - d.phase * 1000) % (d.period * 1000) = 0 → s.fenced (0x10 + k) = true → Runs (.linkCycleInstant k) s (fun u => u.link = s.link)) ∧
  (∀ (s : State) (r : Req) (t : State) (x : ReplyTo), Granted s r 2 t x → r.sub = 0x10 → 0x7610 ≤ r.index.toNat → r.index.toNat ≤ 0x763F → r.value = 1
    → s.fenced (0x10 + (r.index.toNat - 0x7610)) = false → s.mode.current ≠ .cold
    → Runs (.linkPark r) s (fun u => (u.lnk (r.index.toNat - 0x7610)).parkDue = true
    ∧ (u.lnk (r.index.toNat - 0x7610)).parked = (s.lnk (r.index.toNat - 0x7610)).parked ∧ (u.link.out.getLast?.map (fun f => (f.link,
    f.type))) = some ((r.index.toNat - 0x7610), 2) ∧ Replied u x 0)) ∧
  (∀ (s : State) (r : Req) (t : State) (x : ReplyTo), Granted s r 2 t x → r.sub = 0x10 → 0x7610 ≤ r.index.toNat → r.index.toNat ≤ 0x763F → r.value ≠ 1
    → Runs (.linkPark r) s (fun u => u.link = s.link ∧ Replied u x 6)) ∧
  (∀ (s : State) (k : Nat) (p : ConfigReply), k < 48 → (s.linkDecl k).isSome = true → s.mode.inReset = false → p.crcOk = true
    → (s.pos k p.position).configWait = true → p.result = 0 → Runs (.configureReply k p) s (fun u => (u.pos k p.position).state = 1
    ∧ (u.pos k p.position).everConfigured = true ∧ (u.pos k p.position).configWait = false ∧ (u.pos k p.position).missed = 0
    ∧ (u.pos k p.position).moduleType = p.moduleType ∧ Keeps [.link, .moraine] s u)) ∧
  (∀ (s : State) (k : Nat) (p : ConfigReply), k < 48 → (s.linkDecl k).isSome = true → s.mode.inReset = false → p.crcOk = true
    → (s.pos k p.position).configWait = true → p.result ≠ 0 → Runs (.configureReply k p) s (fun u => (u.pos k p.position).state = 2
    ∧ (u.pos k p.position).refusedAt = s.time.mono ∧ (u.pos k p.position).configWait = false ∧ (u.pos k p.position).moduleType = p.moduleType
    ∧ (s.fenced (0x10 + k) = false → (u.det (129 + 2 * k)).count = BitVec.ofNat 32 (sat32 ((s.det (129 + 2 * k)).count.toNat + 1))))) ∧
  (∀ (s : State) (k m : Nat), (s.pos k m).state = 2 → (s.pos k m).refusedAt + 1000000000 ≤ s.time.mono → s.fenced (0x10 + k) = false
    → s.mode.current ≠ .cold → m ∈ s.positionsOf k → Runs (.configureRetry k m) s (fun u => (u.pos k m).refusedAt = s.time.mono
    ∧ (u.pos k m).configWait = true ∧ (u.link.out.getLast?.map (fun f => (f.link, f.type, f.position))) = some (k, 3, m) ∧ Keeps [.link] s u)) ∧
  (∀ (s : State) (k m : Nat), s.time.mono < (s.pos k m).refusedAt + 1000000000 → Runs (.configureRetry k m) s (fun u => u = s)) ∧
  (∀ (s : State) (k : Nat), k < 48 → (s.lnk k).trained = true → (s.linkDecl k).isSome = true
    → Runs (.linkSyncLost k) s (fun u => (u.lnk k).trained = false ∧ (u.det (128 + 2 * k)).live = true ∧ ((s.det (128 + 2 * k)).live = false
    → s.masked (128 + 2 * k) (0x10 + k) = false → u.fenced (0x10 + k) = true))) ∧
  (∀ (s : State) (k : Nat), k < 48 → (s.lnk k).trained = true → s.linkDecl k = none → Runs (.linkSyncLost k) s (fun u => (u.lnk k).trained = false
    ∧ u.hub = s.hub ∧ Keeps [.link, .moraine, .sig, .capture] s u)) ∧
  (∀ (s : State) (k : Nat) (d : Word), k < 48 → (s.lnk k).trained = false → Runs (.linkTrained k d) s (fun u => (u.lnk k).trained = true
    ∧ (u.lnk k).delay = d ∧ (u.det (128 + 2 * k)).live = false ∧ (∀ j, j ≠ k → u.lnk j = s.lnk j) ∧ Keeps [.link, .moraine, .hub, .pair, .sig,
    .capture] s u))

/-- For these commands, under the conditions of each clause, a next state exists and holds what the clause says (R452, R455, R458, R459, R461). (1) LINK_REPLY, valid and within its window: its position has answered, MISSED 0, type and MSTATUS; one that was missing or reports itself not configured is configured anew; (2) its inputs where the module takes link inputs: VALUE, QUALITY, SOURCE and WIRE_BREAK, the other signals as before; (3) a frame that fails its check with no transaction open: CRC_ERRORS one on; (4) a wrong SEQ, not yet retried, with time for a retry and no first request waiting: the retry is sent; (5) REPLY_WINDOW_EXPIRY with the same conditions: the retry is sent; (6) retried before, or no time for it: missed, and missing at MISS_LIMIT; (7) no transaction open, or its window not over: nothing; (8) LINK_CYCLE_END with every transaction ended and every counting position answered: no cycle open, SILENT_RUN 0, one entry in interrupt queue k. What it says beyond the rules is the model's choice (log entries 47, 48). -/
def Obligations.LinkRepliesAreTaken : Prop :=
  (∀ (s : State) (k : Nat) (p : LinkReply), k < 48 → (s.linkDecl k).isSome = true → s.fenced (0x10 + k) = false → s.mode.inReset = false
    → p.crcOk = true → p.seq = (s.lnk k).seq → (s.pos k p.position).inFlight = true → (s.pos k p.position).retryDue = false
    → (s.pos k p.position).requestEnd + 2912 ≤ s.time.mono → s.time.mono ≤ (s.pos k p.position).windowEnd + 2912
    → Runs (.linkReply k p) s (fun u => (u.pos k p.position).answered = true ∧ (u.pos k p.position).missed = 0
    ∧ (u.pos k p.position).moduleType = p.moduleType ∧ (u.pos k p.position).mstatus = p.mstatus ∧ (u.lnk k).lastReplyAt = s.time.mono
    ∧ ((s.pos k p.position).state ≠ 3 → p.mstatus.getLsbD 0 = true → (u.pos k p.position).state = (s.pos k p.position).state)
    ∧ ((s.pos k p.position).state = 3 ∨ p.mstatus.getLsbD 0 = false → (u.pos k p.position).state = 0 ∧ (u.pos k p.position).configure = true))) ∧
  (∀ (s : State) (k c g : Nat) (p : LinkReply), k < 48 → (s.linkDecl k).isSome = true → s.fenced (0x10 + k) = false → s.mode.inReset = false
    → p.crcOk = true → p.seq = (s.lnk k).seq → (s.pos k p.position).inFlight = true → (s.pos k p.position).retryDue = false
    → (s.pos k p.position).requestEnd + 2912 ≤ s.time.mono → s.time.mono ≤ (s.pos k p.position).windowEnd + 2912 → s.linkWrites = true
    → s.linkInputs k p.position = [(c, g)] → s.sigDecl g = true → Runs (.linkReply k p) s (fun u => (u.sigOf g).value = p.input.getD c 0
    ∧ (u.sigOf g).quality = s.linkQuality (s.sigOf g).unit (p.chStatus.getD c 0) ∧ (u.sigOf g).source = 1
    ∧ (u.sigOf g).wireBreak = (p.chStatus.getD c 0).getLsbD 2 ∧ (∀ n, n ≠ g → u.sigOf n = s.sigOf n))) ∧
  (∀ (s : State) (k : Nat) (p : LinkReply), k < 48 → (s.linkDecl k).isSome = true → s.fenced (0x10 + k) = false → s.mode.inReset = false
    → p.crcOk = false → (s.pos k p.position).inFlight = false
    → Runs (.linkReply k p) s (fun u => u.link = (s.setLnk k (fun x => { x with crcErrors := x.crcErrors + 1 })).link ∧ Keeps [.link, .sig,
    .capture] s u)) ∧
  (∀ (s : State) (k m : Nat) (p : LinkReply), k < 48 → (s.linkDecl k).isSome = true → s.fenced (0x10 + k) = false → s.mode.inReset = false
    → p.crcOk = true → p.position = m → p.seq ≠ (s.lnk k).seq → (s.pos k m).inFlight = true → (s.pos k m).retryDue = false
    → (s.pos k m).retried = false → s.retryFits k m = true → m ∈ s.positionsOf k → s.firstWaits k = false
    → (s.positionsOf k).all (fun n => decide (n = m) || !(s.pos k n).retryDue) = true
    → Runs (.linkReply k p) s (fun u => (u.lnk k).retries = (s.lnk k).retries + 1 ∧ (u.pos k m).retried = true ∧ (u.pos k m).inFlight = true
    ∧ (u.pos k m).missed = (s.pos k m).missed ∧ (u.link.out.getLast?.map (fun f => (f.link, f.type, f.position, f.seq))) = some (k, 1, m,
    (s.lnk k).seq) ∧ u.link.slots = s.link.slots)) ∧
  (∀ (s : State) (k m : Nat), k < 48 → (s.pos k m).windowEnd ≤ s.time.mono → (s.pos k m).inFlight = true → (s.pos k m).retryDue = false
    → (s.pos k m).retried = false → s.retryFits k m = true → m ∈ s.positionsOf k → s.firstWaits k = false
    → (s.positionsOf k).all (fun n => decide (n = m) || !(s.pos k n).retryDue) = true
    → Runs (.replyWindowExpiry k m) s (fun u => (u.lnk k).retries = (s.lnk k).retries + 1 ∧ (u.pos k m).retried = true ∧ (u.pos k m).inFlight = true
    ∧ (u.pos k m).missed = (s.pos k m).missed ∧ (u.link.out.getLast?.map (fun f => (f.link, f.type, f.position, f.seq))) = some (k, 1, m,
    (s.lnk k).seq) ∧ u.link.slots = s.link.slots)) ∧
  (∀ (s : State) (k m : Nat), k < 48 → (s.pos k m).windowEnd ≤ s.time.mono → (s.pos k m).inFlight = true → (s.pos k m).retryDue = false
    → ((s.pos k m).retried = true ∨ s.retryFits k m = false)
    → Runs (.replyWindowExpiry k m) s (fun u => (u.lnk k).missedReplies = (s.lnk k).missedReplies + 1
    ∧ (u.pos k m).missed = min 65535 ((s.pos k m).missed + 1) ∧ (u.pos k m).answered = false
    ∧ (u.pos k m).state = (if (s.lnk k).missInUse.toNat ≤ min 65535 ((s.pos k m).missed + 1) then 3 else (s.pos k m).state) ∧ (∀ i, i ≠ m
    → (u.pos k i).missed = (s.pos k i).missed))) ∧
  (∀ (s : State) (k m : Nat), (s.pos k m).inFlight = false ∨ s.time.mono < (s.pos k m).windowEnd → Runs (.replyWindowExpiry k m) s (fun u => u = s)) ∧
  (∀ (s : State) (k : Nat), k < 48 → (s.lnk k).cycleOpen = true
    → (s.positionsOf k).all (fun m => !(s.pos k m).inFlight && !(s.pos k m).configWait) = true → s.link.waiting.any (fun w => w.2.1 = k) = false
    → (s.positionsOf k).all (fun m => !State.counts (s.pos k m) || (s.pos k m).answered) = true → (s.lnk k).missInUse ≠ 0
    → ((get ({} : IntQ) s.disp.queues k).producer + 1) % 128 ≠ (get ({} : IntQ) s.disp.queues k).consumer % 128
    → Runs (.linkCycleEnd k) s (fun u => (u.lnk k).cycleOpen = false ∧ (u.lnk k).overrun = false ∧ (u.lnk k).silentRun = 0
    ∧ (u.lnk k).cycles = (s.lnk k).cycles ∧ (get ({} : IntQ) u.disp.queues k).producer = ((get ({} : IntQ) s.disp.queues k).producer + 1) % 65536
    ∧ Keeps [.link, .disp, .sig, .capture] s u))

/-- For these commands, under the conditions of each clause, a next state exists and holds what the clause says (R471, R472, R474, R475, R477, R480). (1) ETH_FRAME_RECEIVED of a frame in error on a usable port: RX_ERRORS alone; (2) of a Xanfil request to its own address and port: counted, its effect is that of its own command; (3) of a frame for platform code that one object of the pool holds: the object with the frame's bytes and LENGTH, one receive entry; (4) with too few objects: RX_DROPPED; (5) of a second copy on a PRP pair: PRP_DISCARDS; (6) RX_SUPPLY at its home address: the pool one longer; (7) with 1,024 in it: ignored; (8) RX_SUPPLY over Xanfil: STATE_CONFLICT. What it says beyond the rules is the model's choice (log entries 44, 45). -/
def Obligations.EthernetFramesAreReceived : Prop :=
  (∀ (s : State) (p : Nat) (f : EthFrame), p < 5 → s.mode.inReset = false → s.usable p = true → (f.fcsOk = false ∨ f.bytes.length < 60
    ∨ 1518 < f.bytes.length) → Runs (.ethFrameReceived p f) s (fun u => (u.port p).rxErrors = (s.port p).rxErrors + 1 ∧ (u.port p).rx = (s.port p).rx
    ∧ u.eth.pool = s.eth.pool ∧ Keeps [.eth] s u)) ∧
  (∀ (s : State) (p : Nat) (f : EthFrame), p < 5 → s.mode.inReset = false → s.usable p = true → f.fcsOk = true → 60 ≤ f.bytes.length
    → f.bytes.length ≤ 1518 → (s.prpMember p = false ∨ f.prp = none) → f.kind = .xanfil → (s.port (s.nodePort p)).ip ≠ 0
    → f.ipDest = (s.port (s.nodePort p)).ip → f.udpPort = s.xan.udpPort
    → Runs (.ethFrameReceived p f) s (fun u => u = s.setPort p (fun y => { y with rx := y.rx + 1 }))) ∧
  (∀ (s : State) (p a : Nat) (f : EthFrame) (rest : List Nat), p < 5 → s.mode.inReset = false → s.usable p = true → f.fcsOk = true
    → 60 ≤ f.bytes.length → f.bytes.length ≤ 1518 → (s.prpMember p = false ∨ f.prp = none) → f.kind = .other → s.forPort (s.nodePort p) f = true
    → s.eth.pool = a :: rest → f.bytes.length ≤ 224 → MemoryForm s
    → ((get ({} : IntQ) s.disp.queues (48 + s.nodePort p)).producer + 1) % 128 ≠ (get ({} : IntQ) s.disp.queues (48 + s.nodePort p)).consumer % 128
    → Runs (.ethFrameReceived p f) s (fun u => u.eth.pool = rest ∧ (u.port p).rx = (s.port p).rx + 1 ∧ rdBytes u.mem (a + 32) f.bytes.length = f.bytes
    ∧ objLength u.mem a = f.bytes.length
    ∧ (get ({} : IntQ) u.disp.queues (48 + s.nodePort p)).producer = ((get ({} : IntQ) s.disp.queues (48 + s.nodePort p)).producer + 1) % 65536
    ∧ Keeps [.eth, .disp, .mem, .draws] s u)) ∧
  (∀ (s : State) (p : Nat) (f : EthFrame), p < 5 → s.mode.inReset = false → s.usable p = true → f.fcsOk = true → 60 ≤ f.bytes.length
    → f.bytes.length ≤ 1518 → (s.prpMember p = false ∨ f.prp = none) → f.kind = .other → s.forPort (s.nodePort p) f = true
    → s.eth.pool.length < (f.bytes.length + 223) / 224
    → ((get ({} : IntQ) s.disp.queues (48 + s.nodePort p)).producer + 1) % 128 ≠ (get ({} : IntQ) s.disp.queues (48 + s.nodePort p)).consumer % 128
    → Runs (.ethFrameReceived p f) s (fun u => (u.port p).rxDropped = (s.port p).rxDropped + 1 ∧ u.eth.pool = s.eth.pool ∧ u.mem = s.mem)) ∧
  (∀ (s : State) (p : Nat) (f : EthFrame) (key : BitVec 48 × Half), p < 5 → s.mode.inReset = false → s.usable p = true → f.fcsOk = true
    → 60 ≤ f.bytes.length → f.bytes.length ≤ 1518 → s.prpMember p = true → f.prp = some key → f.kind ≠ .ptp → s.isDuplicate p key = true
    → Runs (.ethFrameReceived p f) s (fun u => (u.port p).prpDiscards = (s.port p).prpDiscards + 1 ∧ (u.port p).rx = (s.port p).rx + 1
    ∧ u.eth.pool = s.eth.pool ∧ Keeps [.eth] s u)) ∧
  (∀ (s : State) (m : Nat) (v : Word), homeMaster m = true → s.eth.pool.length < 1024
    → Runs (.rxSupply (.home m (homeAddress 0x7730 1) v)) s (fun u => u = { s with eth.pool := s.eth.pool ++ [v.toNat] })) ∧
  (∀ (s : State) (m : Nat) (v : Word), homeMaster m = true → 1024 ≤ s.eth.pool.length
    → Runs (.rxSupply (.home m (homeAddress 0x7730 1) v)) s (fun u => u.eth = s.eth ∧ Keeps [.moraine] s u)) ∧
  (∀ (s : State) (r : Req) (t : State) (x : ReplyTo), Granted s r 2 t x → r.index = 0x7730 → r.sub = 1
    → Runs (.rxSupply (.xanfil r)) s (fun u => u.eth = s.eth ∧ Replied u x 9 (be 4 s.deviceMode.toNat ++ be 1 s.mode.life.code)))

/-- For these commands, under the conditions of each clause, a next state exists and holds what the clause says (R475, R476, R478, R479, R481 to R483, R492). (1) TX_SUBMIT of a frame that the DMA takes: it waits at its port; (2) of one that it refuses: completed with an entry, no port changes; (3) TX_SUBMIT over Xanfil: STATE_CONFLICT; (4) LAUNCH_INSTANT within 20 µs of the launch time: the head frame may compete; (5) later, LAUNCH_POLICY 0: LAUNCH_LATE, it may leave late; (6) later, LAUNCH_POLICY 1: LAUNCH_LATE, discarded; (7) sooner: nothing; (8) TX_COMPLETE of the queue that is sending, outside PRP, no one-step Sync: the frame has left, counted, one entry; (9) at a port that is down: not sent, one entry; (10) ETH_LINK_CHANGE of a port other than to its present state: up or down, its speed, the other ports as before; (11) PRP_SUPERVISION_TIMER 2 s on: supervision frames on usable ports of active pairs, nodes unseen for 60 s forgotten; (12) sooner: nothing. What it says beyond the rules is the model's choice (log entries 44, 46, 74). -/
def Obligations.EthernetFramesAreSent : Prop :=
  (∀ (s : State) (m p : Nat) (v : Word), homeMaster m = true → p < 5 → rdLe s.mem (v.toNat + 6) 1 = p + 1
    → s.txRefused p (s.txFrameAt v.toNat) = false
    → Runs (.txSubmit (.home m (homeAddress 0x7730 0) v)) s (fun u => (u.port p).waiting = (s.port p).waiting ++ [s.txFrameAt v.toNat] ∧ (∀ j, j ≠ p
    → u.port j = s.port j) ∧ Keeps [.eth] s u)) ∧
  (∀ (s : State) (m p : Nat) (v : Word), homeMaster m = true → p < 5 → rdLe s.mem (v.toNat + 6) 1 = p + 1 → s.txRefused p (s.txFrameAt v.toNat) = true
    → ((get ({} : IntQ) s.disp.queues (53 + p)).producer + 1) % 128 ≠ (get ({} : IntQ) s.disp.queues (53 + p)).consumer % 128
    → Runs (.txSubmit (.home m (homeAddress 0x7730 0) v)) s (fun u => u.eth = s.eth
    ∧ (get ({} : IntQ) u.disp.queues (53 + p)).producer = ((get ({} : IntQ) s.disp.queues (53 + p)).producer + 1) % 65536 ∧ Keeps [.disp, .drift,
    .moraine] s u)) ∧
  (∀ (s : State) (r : Req) (t : State) (x : ReplyTo), Granted s r 2 t x → r.index = 0x7730 → r.sub = 0
    → Runs (.txSubmit (.xanfil r)) s (fun u => u.eth = s.eth ∧ Replied u x 9 (be 4 s.deviceMode.toNat ++ be 1 s.mode.life.code))) ∧
  (∀ (s : State) (p q l : Nat) (f : TxFrame), s.headFrame p q = some f → f.launch = some l → s.time.everValid = true → f.due = 0 → f.passed = false
    → (s.port p).sending ≠ some q → 0 ≤ ((s.time.mono : Int) - ((l : Int) - s.time.align))
    → ((s.time.mono : Int) - ((l : Int) - s.time.align)) ≤ 20000
    → Runs (.launchInstant p q false) s (fun u => u.headFrame p q = some { f with due := 1 } ∧ Keeps [.eth] s u)) ∧
  (∀ (s : State) (p q l : Nat) (f : TxFrame), s.headFrame p q = some f → f.launch = some l → s.time.everValid = true → f.due ≠ 2
    → (s.port p).sending ≠ some q → 20000 < ((s.time.mono : Int) - ((l : Int) - s.time.align)) → (s.port p).launchPolicy.getLsbD q = false
    → Runs (.launchInstant p q true) s (fun u => (u.port p).launchLate = (s.port p).launchLate + 1 ∧ u.headFrame p q = some { f with due := 2 }
    ∧ u.eth.out = s.eth.out)) ∧
  (∀ (s : State) (p q l : Nat) (f : TxFrame) (rest : List TxFrame), (s.port p).waiting = f :: rest → f.queue = q → f.launch = some l
    → s.time.everValid = true → f.due ≠ 2 → (s.port p).sending ≠ some q → 20000 < ((s.time.mono : Int) - ((l : Int) - s.time.align))
    → (s.port p).launchPolicy.getLsbD q = true → Runs (.launchInstant p q true) s (fun u => (u.port p).launchLate = (s.port p).launchLate + 1
    ∧ (u.port p).waiting = rest ∧ u.eth.out = s.eth.out ∧ (u.port p).tx = (s.port p).tx)) ∧
  (∀ (s : State) (p q l : Nat) (f : TxFrame) (b : Bool), s.headFrame p q = some f → f.launch = some l
    → ((s.time.mono : Int) - ((l : Int) - s.time.align)) < 0 → Runs (.launchInstant p q b) s (fun u => u = s)) ∧
  (∀ (s : State) (p q : Nat) (f : TxFrame) (rest : List TxFrame), (s.port p).waiting = f :: rest → f.queue = q → f.oneStep = false
    → s.prpMember p = false → s.usable p = true → (s.port p).sending = some q
    → ((get ({} : IntQ) s.disp.queues (53 + p)).producer + 1) % 128 ≠ (get ({} : IntQ) s.disp.queues (53 + p)).consumer % 128
    → Runs (.txComplete p q false) s (fun u => (u.port p).waiting = rest ∧ (u.port p).tx = (s.port p).tx + 1
    ∧ u.eth.out = s.eth.out ++ [.frame p f.bytes false]
    ∧ (get ({} : IntQ) u.disp.queues (53 + p)).producer = ((get ({} : IntQ) s.disp.queues (53 + p)).producer + 1) % 65536)) ∧
  (∀ (s : State) (p q : Nat) (f : TxFrame) (rest : List TxFrame), (s.port p).waiting = f :: rest → f.queue = q → (s.nodePorts p).any s.usable = false
    → ((get ({} : IntQ) s.disp.queues (53 + p)).producer + 1) % 128 ≠ (get ({} : IntQ) s.disp.queues (53 + p)).consumer % 128
    → Runs (.txComplete p q true) s (fun u => (u.port p).waiting = rest ∧ (u.port p).tx = (s.port p).tx ∧ u.eth.out = s.eth.out
    ∧ (get ({} : IntQ) u.disp.queues (53 + p)).producer = ((get ({} : IntQ) s.disp.queues (53 + p)).producer + 1) % 65536)) ∧
  (∀ (s : State) (p : Nat) (a g : Bool), p < 5 → s.mode.inReset = false → (s.port p).up ≠ a → (a = false ∨ p = 4 ∨ g = true)
    → Runs (.ethLinkChange p a g) s (fun u => (u.port p).up = a ∧ (u.port p).gig = (a && g) ∧ (∀ j, j ≠ p → u.port j = s.port j) ∧ (a = true → p < 4
    → (u.det (224 + 3 * p)).live = false))) ∧
  (∀ (s : State) (k p : Nat), s.mode.inReset = false → s.eth.lastSupervision + 2000000000 ≤ s.time.now → k < 2 → s.eth.prpActive.getLsbD k = true
    → (p = 2 * k ∨ p = 2 * k + 1) → s.usable p = true → Runs (.prpSupervisionTimer) s (fun u => EthOut.supervision p ∈ u.eth.out
    ∧ u.eth.lastSupervision = s.time.now ∧ (∀ n ∈ u.eth.nodes,
    (n.lastA.elim false (fun t => decide (s.time.mono < t + 60000000000)) || n.lastB.elim false (fun t => decide (s.time.mono < t + 60000000000))) = true))) ∧
  (∀ (s : State), s.time.now < s.eth.lastSupervision + 2000000000 → Runs (.prpSupervisionTimer) s (fun u => u = s))

/-- For these commands, under the conditions of each clause, a next state exists and holds what the clause says (R102, R485, R487, R488, R489, R491 to R493, R495). (1) PTP_MESSAGE, a Sync while LOCKED within STEP_THRESHOLD: the wall clock slews by it; (2) the sixteenth good one while ACQUIRING: LOCKED, PTP the source; (3) a large one while ACQUIRING: a step; (4) a good one before the sixteenth: counted on; (5) an Announce, the module not grandmaster: its fields; (6) a port state of an enabled PTP port that may change it: taken, the other ports' as before; (7) grandmaster: that state; (8) with PROFILE 0: nothing; (9) PTP_HOLDOVER after three Announce intervals, LOCKED, no SLAVE port: HOLDOVER; (10) sooner: nothing; (11) HOLDOVER_LIMIT_EXPIRY at its end with no other source: not valid, D051 live; (12) sooner: nothing; (13) WALL_SET while the servo is not LOCKED: a step to it, source 3, valid; (14) while LOCKED: STATE_CONFLICT; (15) WALL_TIME_STORE once a second while valid: stored; (16) while not valid: nothing; (17) PTP_SETTING_WRITE in range: that setting alone of the eight; (18) out of range: RANGE. What it says beyond the rules is the model's choice (log entries 42, 43, 113). -/
def Obligations.TheWallClock : Prop :=
  (∀ (s : State) (o : Int) (n : Nat), s.mode.inReset = false → s.time.profile ≠ 0 → s.time.monoRun = true → s.time.servo = 2 → s.time.wallValid = true
    → o.natAbs ≤ s.time.stepThreshold.toNat → Runs (.ptpMessage (.sync o n)) s (fun u => u.time.servo = 2 ∧ u.time.source = 1
    ∧ u.time.align = s.time.align ∧ u.time.slewTo = (if o = 0 then none else some (s.time.align - o)) ∧ u.time.offsetFromMaster = o
    ∧ u.time.stepCount = s.time.stepCount)) ∧
  (∀ (s : State) (o : Int) (n : Nat), s.mode.inReset = false → s.time.profile ≠ 0 → s.time.monoRun = true → s.time.servo = 1 → s.time.goodSyncs = 15
    → o.natAbs ≤ 1000 → Runs (.ptpMessage (.sync o n)) s (fun u => u.time.servo = 2 ∧ u.time.source = 1 ∧ u.time.wallValid = true
    ∧ u.time.offsetFromMaster = o)) ∧
  (∀ (s : State) (o : Int) (n : Nat), s.mode.inReset = false → s.time.profile ≠ 0 → s.time.monoRun = true → s.time.servo = 1 → 1000 < o.natAbs
    → s.time.stepThreshold.toNat < o.natAbs → Runs (.ptpMessage (.sync o n)) s (fun u => u.time.servo = 1 ∧ u.time.goodSyncs = 0
    ∧ u.time.align = s.time.align - o ∧ u.time.slewTo = none ∧ u.time.stepCount = s.time.stepCount + 1 ∧ u.time.source = s.time.source)) ∧
  (∀ (s : State) (o : Int) (n : Nat), s.mode.inReset = false → s.time.profile ≠ 0 → s.time.monoRun = true → s.time.servo = 1 → s.time.goodSyncs < 15
    → o.natAbs ≤ 1000 → 1000 ≤ s.time.stepThreshold.toNat → Runs (.ptpMessage (.sync o n)) s (fun u => u.time.servo = 1
    ∧ u.time.goodSyncs = s.time.goodSyncs + 1 ∧ u.time.align = s.time.align ∧ u.time.stepCount = s.time.stepCount)) ∧
  (∀ (s : State) (g : DWord) (o : Int) (b : Bool), s.mode.inReset = false → s.time.profile ≠ 0 → s.time.monoRun = true → s.time.servo ≠ 4
    → Runs (.ptpMessage (.announce g o b)) s (fun u => u.time = { s.time with grandmaster := g, utcOffset := o, utcValid := b } ∧ Keeps [.time,
    .moraine] s u)) ∧
  (∀ (s : State) (p c : Nat), s.mode.inReset = false → s.time.profile ≠ 0 → s.time.monoRun = true → p < 4 → s.time.ptpPorts.getLsbD p = true → 1 ≤ c
    → c ≤ 9 → (s.time.clockType ≠ 0 ∨ s.time.activePort = some p) → Runs (.ptpMessage (.portState p c)) s (fun u => get 0 u.time.portStates p = c
    ∧ (∀ j, j ≠ p → get 0 u.time.portStates j = get 0 s.time.portStates j) ∧ Keeps [.time, .moraine] s u)) ∧
  (∀ (s : State), s.mode.inReset = false → s.time.profile ≠ 0 → s.time.monoRun = true → s.time.servo ≠ 4
    → Runs (.ptpMessage .grandmaster) s (fun u => u.time.servo = 4 ∧ u.time.goodSyncs = 0)) ∧
  (∀ (s : State) (e : PtpEvent), s.time.profile = 0 → Runs (.ptpMessage e) s (fun u => u = s)) ∧
  (∀ (s : State) (q : Nat), s.time.servo = 2 → 3 ≤ q → s.time.portStates.any (fun e => e.2 = 9) = false
    → Runs (.ptpHoldover q) s (fun u => u.time.servo = 3 ∧ (s.pair.syncUp = false → s.time.wallSet = none → u.time.source = 0
    ∧ u.time.align = s.time.align ∧ u.time.wallValid = s.time.wallValid))) ∧
  (∀ (s : State) (q : Nat), q < 3 → Runs (.ptpHoldover q) s (fun u => u = s)) ∧
  (∀ (s : State) (h : Ns), s.time.wallValid = true → s.time.source = 0 → s.time.holdSince = some h
    → h + s.time.holdoverLimit.toNat * 1000000000 ≤ s.time.mono → Runs (.holdoverLimitExpiry) s (fun u => u.time.wallValid = false ∧ u.time.source = 0
    ∧ u.time.slewTo = none ∧ u.time.align = s.time.align ∧ (u.det 51).live = true)) ∧
  (∀ (s : State) (h : Ns), s.time.holdSince = some h → s.time.mono < h + s.time.holdoverLimit.toNat * 1000000000
    → Runs (.holdoverLimitExpiry) s (fun u => u = s)) ∧
  (∀ (s : State) (r : Req) (t : State) (x : ReplyTo), Granted s r 2 t x → r.index = 0x2101 → r.sub = 0 → s.time.servo ≠ 2
    → Runs (.wallSet r) s (fun u => u.time.align = (r.value : Int) - s.time.mono ∧ u.time.wallSet = some ((r.value : Int) - s.time.mono)
    ∧ u.time.source = 3 ∧ u.time.wallValid = true ∧ u.time.slewTo = none ∧ u.time.stepCount = s.time.stepCount + 1 ∧ u.time.mono = s.time.mono
    ∧ Replied u x 0)) ∧
  (∀ (s : State) (r : Req) (t : State) (x : ReplyTo), Granted s r 2 t x → r.index = 0x2101 → r.sub = 0 → s.time.servo = 2
    → Runs (.wallSet r) s (fun u => u.time = s.time ∧ Replied u x 9 (be 4 s.deviceMode.toNat ++ be 1 s.mode.life.code))) ∧
  (∀ (s : State), s.time.wallValid = true → (s.time.stored = none ∨ s.time.storedAt + 1000000000 ≤ s.time.now)
    → Runs (.wallTimeStore) s (fun u => u = { s with time.stored := some s.wall, time.storedAt := s.time.now })) ∧
  (∀ (s : State), s.time.wallValid = false → Runs (.wallTimeStore) s (fun u => u = s)) ∧
  (∀ (s : State) (r : Req) (t : State) (x : ReplyTo), Granted s r 2 t x → r.index = 0x7720 → [0, 1, 2, 3, 4, 5, 7, 8].contains r.sub.toNat = true
    → s.ptpRange r.sub.toNat r.value = false
    → Runs (.ptpSettingWrite r) s (fun u => u.time.profile = (if r.sub = 0 then BitVec.ofNat 8 r.value else s.time.profile)
    ∧ u.time.clockType = (if r.sub = 1 then BitVec.ofNat 8 r.value else s.time.clockType)
    ∧ u.time.ptpPorts = (if r.sub = 2 then BitVec.ofNat 8 r.value else s.time.ptpPorts)
    ∧ u.time.domain = (if r.sub = 3 then BitVec.ofNat 8 r.value else s.time.domain)
    ∧ u.time.priority1 = (if r.sub = 4 then BitVec.ofNat 8 r.value else s.time.priority1)
    ∧ u.time.priority2 = (if r.sub = 5 then BitVec.ofNat 8 r.value else s.time.priority2)
    ∧ u.time.oneStep = (if r.sub = 7 then BitVec.ofNat 8 r.value else s.time.oneStep)
    ∧ u.time.logSync = (if r.sub = 8 then BitVec.ofNat 32 r.value else s.time.logSync) ∧ u.time.mono = s.time.mono ∧ Replied u x 0)) ∧
  (∀ (s : State) (r : Req) (t : State) (x : ReplyTo), Granted s r 2 t x → r.index = 0x7720 → [0, 1, 2, 3, 4, 5, 7, 8].contains r.sub.toNat = true
    → s.ptpRange r.sub.toNat r.value = true → Runs (.ptpSettingWrite r) s (fun u => u.time = s.time ∧ Replied u x 6))

/-- For these commands, under the conditions of each clause, a next state exists and holds what the clause says (R502, R504, R505). (1) CAN_FRAME_RECEIVED that a receive object takes, the channel on the bus and neither a Xanfil request nor a remote frame: its data and flags, NEW_DATA, OVERRUN where it was set, the counters; (2) that no object takes: RX_DISCARDED, no object changes; (3) while a detection listens: the second good frame in a row takes the candidate; (4) ABR_CANDIDATE_TIMEOUT after 200 ms: the next candidate; (5) sooner: nothing; (6) ABR_RESULT with the rates it found: mode 2 with them; (7) without, at its end: mode 0, ABR_FAILED. What it says beyond the rules is the model's choice (log entries 34, 35, 36, 114). -/
def Obligations.CanFramesAreReceived : Prop :=
  (∀ (s : State) (c m : Nat) (f : CanFrame), s.mode.inReset = false → (c = 1 ∨ c = 2) → s.canOnBus c = true → s.abrRuns c = false → (f.fdf = false
    ∨ (s.canCh c).fdOptions.getLsbD 0 = true) → f.remote = false → s.xanfilFrame c f = false → s.matchObj c f = some m
    → f.data.length = dlcBytes f.fdf f.dlc.toNat → Runs (.canFrameReceived c f) s (fun u => (u.msgObj c m).newData = true
    ∧ (u.msgObj c m).overrun = ((s.msgObj c m).overrun || (s.msgObj c m).newData)
    ∧ (u.msgObj c m).rxFlags = BitVec.ofNat 7 (f.dlc.toNat + bit f.fdf 4 + bit f.brs 5 + bit f.esi 6) ∧ (∀ k, 4 * k + 4 ≤ f.data.length
    → get 0 (u.msgObj c m).data k = BitVec.ofNat 32 (at_ f.data (4 * k) 4)) ∧ (u.canCh c).rxFrames = (s.canCh c).rxFrames + 1
    ∧ (u.canCh c).frameSeq = (s.canCh c).frameSeq + 1
    ∧ (u.canCh c).rxOverruns = (s.canCh c).rxOverruns + (if (s.msgObj c m).newData = true then 1 else 0))) ∧
  (∀ (s : State) (c : Nat) (f : CanFrame), s.mode.inReset = false → (c = 1 ∨ c = 2) → s.canOnBus c = true → s.abrRuns c = false → (f.fdf = false
    ∨ (s.canCh c).fdOptions.getLsbD 0 = true) → f.remote = false → s.xanfilFrame c f = false → s.matchObj c f = none
    → Runs (.canFrameReceived c f) s (fun u => (u.canCh c).rxDiscarded = (s.canCh c).rxDiscarded + 1 ∧ (u.canCh c).frameSeq = (s.canCh c).frameSeq + 1
    ∧ (u.canCh c).objects = (s.canCh c).objects ∧ Keeps [.can, .draws] s u)) ∧
  (∀ (s : State) (c : Nat) (f : CanFrame), s.mode.inReset = false → (c = 1 ∨ c = 2) → s.abrRuns c = true → (s.canCh c).abrTaken = none
    → Runs (.canFrameReceived c f) s (fun u => (u.canCh c).abrGood = (if 1 ≤ (s.canCh c).abrGood then 2 else 1)
    ∧ (u.canCh c).abrTaken = (if 1 ≤ (s.canCh c).abrGood then some s.time.now else none) ∧ Keeps [.can] s u)) ∧
  (∀ (s : State) (c : Nat), (c = 1 ∨ c = 2) → s.abrRuns c = true → (s.canCh c).abrTaken = none → (s.canCh c).abrSince + 200000000 ≤ s.time.now
    → Runs (.abrCandidateTimeout c) s (fun u => (u.canCh c).abrCandidate = ((s.canCh c).abrCandidate + 1) % 4 ∧ (u.canCh c).abrGood = 0
    ∧ (u.canCh c).abrSince = s.time.now ∧ Keeps [.can] s u)) ∧
  (∀ (s : State) (c : Nat), s.time.now < (s.canCh c).abrSince + 200000000 → Runs (.abrCandidateTimeout c) s (fun u => u = s)) ∧
  (∀ (s : State) (c : Nat) (n d : Word), (c = 1 ∨ c = 2) → s.abrRuns c = true → s.abrFound c n d = true
    → Runs (.abrResult c true n d) s (fun u => (u.canCh c).mode = 2 ∧ (u.canCh c).nominalRate = n ∧ (u.canCh c).dataRate = d
    ∧ (u.canCh c).abrFailed = false ∧ Keeps [.can, .moraine] s u)) ∧
  (∀ (s : State) (c : Nat) (n d : Word), (c = 1 ∨ c = 2) → s.abrRuns c = true
    → (s.canCh c).abrStart + (s.canCh c).abrTimeout.toNat * 1000000000 ≤ s.time.now → Runs (.abrResult c false n d) s (fun u => (u.canCh c).mode = 0
    ∧ (u.canCh c).abrFailed = true ∧ (u.canCh c).nominalRate = (s.canCh c).nominalRate ∧ Keeps [.can, .moraine] s u))

/-- For these commands, under the conditions of each clause, a next state exists and holds what the clause says (R506, R507, R509). (1) MO_COMMAND 1 of a transmit object that may send: pending, its data latched; (2) of an OWNER_ONLY object while the module may not send: NOT_OWNER; (3) of neither 1 nor 2: RANGE; (4) at its home address: as over Xanfil, no reply; (5) MO_ABORT of a pending object not on the bus: ended, aborted; (6) of one on the bus: asked for, still pending; (7) at its home address: ended, aborted; (8) CAN_TRANSMIT_START, no attempt under way: the object that ranks first is on the bus, the others as before; (9) with one under way: nothing; (10) CAN_TRANSMIT_END of an object that succeeded: sent, counted, LAST_RESULT 1; (11) that failed, neither aborted nor ONE_SHOT: pending still; (12) that failed, aborted or ONE_SHOT: ended with 2 or 4. What it says beyond the rules is the model's choice (log entries 34, 35, 114). -/
def Obligations.CanObjectsTransmit : Prop :=
  (∀ (s : State) (r : Req) (t : State) (x : ReplyTo), Granted s r 2 t x → isMo r.index.toNat = true → r.sub.toNat % 0x20 = 3 → r.sub.toNat < 0x40
    → r.value = 1 → (s.msgObj (moOf r.index.toNat r.sub.toNat).1 (moOf r.index.toNat r.sub.toNat).2).transmits = true
    → (s.msgObj (moOf r.index.toNat r.sub.toNat).1 (moOf r.index.toNat r.sub.toNat).2).pending = false
    → ((s.msgObj (moOf r.index.toNat r.sub.toNat).1 (moOf r.index.toNat r.sub.toNat).2).config.getLsbD 26 = false ∨ s.ownerCan = true)
    → Runs (.moTransmitRequest (.xanfil r)) s (fun u => (u.msgObj (moOf r.index.toNat r.sub.toNat).1 (moOf r.index.toNat r.sub.toNat).2).pending = true
    ∧ (u.msgObj (moOf r.index.toNat r.sub.toNat).1 (moOf r.index.toNat r.sub.toNat).2).latched = (s.msgObj (moOf r.index.toNat r.sub.toNat).1 (moOf r.index.toNat r.sub.toNat).2).data
    ∧ (u.msgObj (moOf r.index.toNat r.sub.toNat).1 (moOf r.index.toNat r.sub.toNat).2).transmitting = false ∧ Replied u x 0)) ∧
  (∀ (s : State) (r : Req) (t : State) (x : ReplyTo), Granted s r 2 t x → isMo r.index.toNat = true → r.sub.toNat % 0x20 = 3 → r.sub.toNat < 0x40
    → r.value = 1 → (s.msgObj (moOf r.index.toNat r.sub.toNat).1 (moOf r.index.toNat r.sub.toNat).2).transmits = true
    → (s.msgObj (moOf r.index.toNat r.sub.toNat).1 (moOf r.index.toNat r.sub.toNat).2).pending = false
    → (s.msgObj (moOf r.index.toNat r.sub.toNat).1 (moOf r.index.toNat r.sub.toNat).2).config.getLsbD 26 = true → s.ownerCan = false
    → Runs (.moTransmitRequest (.xanfil r)) s (fun u => (u.msgObj (moOf r.index.toNat r.sub.toNat).1 (moOf r.index.toNat r.sub.toNat).2).pending = false
    ∧ (u.msgObj (moOf r.index.toNat r.sub.toNat).1 (moOf r.index.toNat r.sub.toNat).2).lastResult = 3 ∧ Replied u x 0)) ∧
  (∀ (s : State) (r : Req) (t : State) (x : ReplyTo), Granted s r 2 t x → isMo r.index.toNat = true → r.sub.toNat % 0x20 = 3 → r.sub.toNat < 0x40
    → r.value ≠ 1 → r.value ≠ 2 → Runs (.moTransmitRequest (.xanfil r)) s (fun u => (u.canCh 1).objects = (s.canCh 1).objects
    ∧ (u.canCh 2).objects = (s.canCh 2).objects ∧ Replied u x 6)) ∧
  (∀ (s : State) (j i b : Nat), homeMaster j = true → isMo i = true → b < 0x40 → b % 0x20 = 3 → (s.msgObj (moOf i b).1 (moOf i b).2).transmits = true
    → (s.msgObj (moOf i b).1 (moOf i b).2).pending = false → ((s.msgObj (moOf i b).1 (moOf i b).2).config.getLsbD 26 = false ∨ s.ownerCan = true)
    → Runs (.moTransmitRequest (.home j (homeAddress i b) 1)) s (fun u => (u.msgObj (moOf i b).1 (moOf i b).2).pending = true
    ∧ (u.msgObj (moOf i b).1 (moOf i b).2).latched = (s.msgObj (moOf i b).1 (moOf i b).2).data ∧ Keeps [.can] s u)) ∧
  (∀ (s : State) (r : Req) (t : State) (x : ReplyTo), Granted s r 2 t x → isMo r.index.toNat = true → r.sub.toNat % 0x20 = 3 → r.sub.toNat < 0x40
    → r.value = 2 → (s.msgObj (moOf r.index.toNat r.sub.toNat).1 (moOf r.index.toNat r.sub.toNat).2).pending = true
    → (s.msgObj (moOf r.index.toNat r.sub.toNat).1 (moOf r.index.toNat r.sub.toNat).2).transmitting = false
    → Runs (.moAbort (.xanfil r)) s (fun u => (u.msgObj (moOf r.index.toNat r.sub.toNat).1 (moOf r.index.toNat r.sub.toNat).2).pending = false
    ∧ (u.msgObj (moOf r.index.toNat r.sub.toNat).1 (moOf r.index.toNat r.sub.toNat).2).lastResult = 2 ∧ Replied u x 0)) ∧
  (∀ (s : State) (r : Req) (t : State) (x : ReplyTo), Granted s r 2 t x → isMo r.index.toNat = true → r.sub.toNat % 0x20 = 3 → r.sub.toNat < 0x40
    → r.value = 2 → (s.msgObj (moOf r.index.toNat r.sub.toNat).1 (moOf r.index.toNat r.sub.toNat).2).pending = true
    → (s.msgObj (moOf r.index.toNat r.sub.toNat).1 (moOf r.index.toNat r.sub.toNat).2).transmitting = true
    → Runs (.moAbort (.xanfil r)) s (fun u => (u.msgObj (moOf r.index.toNat r.sub.toNat).1 (moOf r.index.toNat r.sub.toNat).2).pending = true
    ∧ (u.msgObj (moOf r.index.toNat r.sub.toNat).1 (moOf r.index.toNat r.sub.toNat).2).abortAsked = true
    ∧ (u.msgObj (moOf r.index.toNat r.sub.toNat).1 (moOf r.index.toNat r.sub.toNat).2).lastResult = (s.msgObj (moOf r.index.toNat r.sub.toNat).1 (moOf r.index.toNat r.sub.toNat).2).lastResult
    ∧ Replied u x 0)) ∧
  (∀ (s : State) (j i b : Nat), homeMaster j = true → isMo i = true → b < 0x40 → b % 0x20 = 3 → (s.msgObj (moOf i b).1 (moOf i b).2).pending = true
    → (s.msgObj (moOf i b).1 (moOf i b).2).transmitting = false
    → Runs (.moAbort (.home j (homeAddress i b) 2)) s (fun u => (u.msgObj (moOf i b).1 (moOf i b).2).pending = false
    ∧ (u.msgObj (moOf i b).1 (moOf i b).2).lastResult = 2)) ∧
  (∀ (s : State) (c m : Nat), (c = 1 ∨ c = 2) → s.canOnBus c = true → (s.canCh c).mode = 1 → s.attempting c = false → s.firstRanking c = some m
    → m ≠ 128 → Runs (.canTransmitStart c) s (fun u => (u.msgObj c m).transmitting = true ∧ (∀ j, j ≠ m → u.msgObj c j = s.msgObj c j)
    ∧ (u.canCh c).sendingReply = false ∧ Keeps [.can] s u)) ∧
  (∀ (s : State) (c : Nat), s.attempting c = true → Runs (.canTransmitStart c) s (fun u => u = s)) ∧
  (∀ (s : State) (c m : Nat) (x : MsgObj), (c = 1 ∨ c = 2) → s.canOnBus c = true → (s.canCh c).mode = 1 → (s.canCh c).sendingReply = false
    → (s.canCh c).objects.find? (fun e => e.2.transmitting) = some (m, x) → Runs (.canTransmitEnd c true) s (fun u => (u.msgObj c m).pending = false
    ∧ (u.msgObj c m).transmitting = false ∧ (u.msgObj c m).lastResult = 1 ∧ (u.canCh c).txFrames = (s.canCh c).txFrames + 1
    ∧ (u.canCh c).frameSeq = (s.canCh c).frameSeq + 1 ∧ (u.canCh c).sent.dropLast = (s.canCh c).sent
    ∧ ((u.canCh c).sent.getLast?.map (·.ident)) = some (BitVec.ofNat 29 (s.msgObj c m).frameInfo.1))) ∧
  (∀ (s : State) (c m : Nat) (x : MsgObj), (c = 1 ∨ c = 2) → s.canOnBus c = true → (s.canCh c).mode = 1 → (s.canCh c).sendingReply = false
    → (s.canCh c).objects.find? (fun e => e.2.transmitting) = some (m, x) → (s.msgObj c m).abortAsked = false
    → (s.msgObj c m).config.getLsbD 25 = false → s.ownerCan = true
    → Runs (.canTransmitEnd c false) s (fun u => (u.msgObj c m).pending = (s.msgObj c m).pending ∧ (u.msgObj c m).transmitting = false
    ∧ (u.msgObj c m).lastResult = (s.msgObj c m).lastResult ∧ (u.canCh c).txFrames = (s.canCh c).txFrames)) ∧
  (∀ (s : State) (c m : Nat) (x : MsgObj), (c = 1 ∨ c = 2) → s.canOnBus c = true → (s.canCh c).mode = 1 → (s.canCh c).sendingReply = false
    → (s.canCh c).objects.find? (fun e => e.2.transmitting) = some (m, x) → ((s.msgObj c m).abortAsked = true
    ∨ (s.msgObj c m).config.getLsbD 25 = true) → Runs (.canTransmitEnd c false) s (fun u => (u.msgObj c m).pending = false
    ∧ (u.msgObj c m).transmitting = false ∧ (u.msgObj c m).lastResult = (if (s.msgObj c m).abortAsked = true then 2 else 4)))

/-- For these commands, under the conditions of each clause, a next state exists and holds what the clause says (R500, R511, R512). (1) CAN_BUS_OFF with TEC over 255: bus-off, its detector live, pending objects marked; (2) with less: nothing; (3) CAN_RECOVER of a channel that waits for it: recovering; (4) of one that is not bus-off: STATE_CONFLICT; (5) BUS_OFF_RECOVERY_COMPLETE after 128 occurrences: error active, the objects as before; (6) after fewer: nothing; (7) CAN_ERROR_STATE_CHANGE past 127: error passive; (8) back: error active; (9) CHANNEL_MODE up to 3: that mode, NOMINAL_RATE and the error state as before; (10) of more: RANGE. What it says beyond the rules is the model's choice (log entries 34, 35, 115). -/
def Obligations.CanErrorsAndModes : Prop :=
  (∀ (s : State) (c : Nat) (v : Half), (c = 1 ∨ c = 2) → s.canOnBus c = true → (s.canCh c).mode = 1 → 255 < v.toNat
    → Runs (.canBusOff c v) s (fun u => (u.canCh c).error = 2 ∧ (u.canCh c).tec = v ∧ (u.canCh c).busOffs = (s.canCh c).busOffs + 1
    ∧ (u.canCh c).recovering = decide ((s.canCh c).policy = 0) ∧ (u.det (240 + 4 * (c - 1))).live = true ∧ (u.det (241 + 4 * (c - 1))).live = false
    ∧ u.canOnBus c = false ∧ (∀ e ∈ (u.canCh c).objects, e.2.pending = true → e.2.byBusOff = true))) ∧
  (∀ (s : State) (c : Nat) (v : Half), v.toNat ≤ 255 → Runs (.canBusOff c v) s (fun u => u = s)) ∧
  (∀ (s : State) (r : Req) (t : State) (x : ReplyTo), Granted s r 2 t x → r.sub = 0x0A → (r.index = 0x7810 ∨ r.index = 0x7811) → r.value = 1
    → (s.canCh (r.index.toNat - 0x780F)).policy = 1 → (s.canCh (r.index.toNat - 0x780F)).error = 2
    → (s.canCh (r.index.toNat - 0x780F)).recovering = false → Runs (.canRecover r) s (fun u => (u.canCh (r.index.toNat - 0x780F)).recovering = true
    ∧ (u.canCh (r.index.toNat - 0x780F)).error = 2 ∧ Replied u x 0)) ∧
  (∀ (s : State) (r : Req) (t : State) (x : ReplyTo), Granted s r 2 t x → r.sub = 0x0A → (r.index = 0x7810 ∨ r.index = 0x7811) → r.value = 1
    → (s.canCh (r.index.toNat - 0x780F)).error ≠ 2
    → Runs (.canRecover r) s (fun u => (u.canCh (r.index.toNat - 0x780F)).recovering = (s.canCh (r.index.toNat - 0x780F)).recovering
    ∧ Replied u x 9 (be 4 s.deviceMode.toNat ++ be 1 s.mode.life.code))) ∧
  (∀ (s : State) (c n : Nat), (c = 1 ∨ c = 2) → (s.canCh c).error = 2 → (s.canCh c).recovering = true → s.fenced (0x47 + c) = false → 128 ≤ n
    → Runs (.busOffRecoveryComplete c n) s (fun u => (u.canCh c).error = 0 ∧ (u.canCh c).tec = 0 ∧ (u.canCh c).recErr = 0
    ∧ (u.canCh c).recovering = false ∧ (u.det (240 + 4 * (c - 1))).live = false ∧ (u.canCh c).objects = (s.canCh c).objects)) ∧
  (∀ (s : State) (c n : Nat), n < 128 → Runs (.busOffRecoveryComplete c n) s (fun u => u = s)) ∧
  (∀ (s : State) (c : Nat) (v w : Half), (c = 1 ∨ c = 2) → s.canOnBus c = true → (s.canCh c).mode = 1 → (s.canCh c).error = 0 → v.toNat ≤ 255
    → (127 < v.toNat ∨ 127 < w.toNat) → Runs (.canErrorStateChange c v w) s (fun u => (u.canCh c).error = 1 ∧ (u.canCh c).tec = v
    ∧ (u.canCh c).recErr = w ∧ (u.det (241 + 4 * (c - 1))).live = true ∧ u.canOnBus c = true)) ∧
  (∀ (s : State) (c : Nat) (v w : Half), (c = 1 ∨ c = 2) → s.canOnBus c = true → (s.canCh c).mode = 1 → (s.canCh c).error = 1 → v.toNat ≤ 127
    → w.toNat ≤ 127 → Runs (.canErrorStateChange c v w) s (fun u => (u.canCh c).error = 0 ∧ (u.canCh c).tec = v ∧ (u.canCh c).recErr = w
    ∧ (u.det (241 + 4 * (c - 1))).live = false)) ∧
  (∀ (s : State) (r : Req) (t : State) (x : ReplyTo), Granted s r 2 t x → r.sub = 1 → (r.index = 0x7810 ∨ r.index = 0x7811) → r.value ≤ 3
    → Runs (.channelMode r) s (fun u => (u.canCh (r.index.toNat - 0x780F)).mode = BitVec.ofNat 8 r.value
    ∧ (u.canCh (r.index.toNat - 0x780F)).nominalRate = (s.canCh (r.index.toNat - 0x780F)).nominalRate
    ∧ (u.canCh (r.index.toNat - 0x780F)).error = (s.canCh (r.index.toNat - 0x780F)).error ∧ Replied u x 0)) ∧
  (∀ (s : State) (r : Req) (t : State) (x : ReplyTo), Granted s r 2 t x → r.sub = 1 → (r.index = 0x7810 ∨ r.index = 0x7811) → 3 < r.value
    → Runs (.channelMode r) s (fun u => (u.canCh (r.index.toNat - 0x780F)).mode = (s.canCh (r.index.toNat - 0x780F)).mode ∧ Replied u x 6))

/-- For these commands, under the conditions of each clause, a next state exists and holds what the clause says (R520, R521, R523, R524, R531, R532). (1) OUTPUT_UPDATE at a multiple of 100 µs with the gates closed: no digital output of the group is on, FB_WATCHDOG runs on; (2) with them open, of a group with one digital output, none of whose other rows of Table 18.2 applies: it follows its signal, FB_WATCHDOG starts anew; (3) at another instant: nothing; (4) FB_WATCHDOG_EXPIRY after FB_WATCHDOG without an update with OWNER: expired, an occurrence of its detector; (5) sooner: nothing; (6) OUTPUT_OVERLOAD beyond 2.0 A, or 0.6 A for 10 ms: off at once, OVERLOAD, a fault, an occurrence of its detector; (7) within: nothing; (8) OVERLOAD_RETRY 1 s later, commanded on, within limits: OVERLOAD clears; (9) beyond them: it stays, a fault, an occurrence; (10) READBACK_COMPARE 1 ms after a change: READBACK_FAIL as the two differ, a fault and an occurrence when it is set. What it says beyond the rules is the model's choice (log entries 54, 55, 88, 104). -/
def Obligations.OutputsAreDrivenAndGuarded : Prop :=
  (∀ (s : State) (g : Nat), (g = 1 ∨ g = 2) → s.mode.inReset = false → s.time.monoRun = true → s.time.mono % 100000 = 0 → s.gateOpen = false
    → Runs (.outputUpdate g) s (fun u => (u.grp g).gateOpen = false ∧ (u.grp g).lastOwner = (s.grp g).lastOwner ∧ (u.grp g).limit = s.field.watchdog
    ∧ ((s.image.elim [] (fun i => i.channels.filter (fun (b : ChannelDecl) => b.kind = 3 && b.channel < 0x30 && groupOf b.channel = g))).all (fun b => !(u.chan b.channel).drivenOn) = true))) ∧
  (∀ (s : State) (g : Nat) (b : ChannelDecl) (e : Sig), (g = 1 ∨ g = 2) → s.mode.inReset = false → s.time.monoRun = true → s.time.mono % 100000 = 0
    → s.gateOpen = true
    → (s.image.elim [] (fun i => i.channels.filter (fun b => (b.kind = 3 || b.kind = 5) && b.channel < 0x30 && groupOf b.channel = g))) = [b]
    → b.kind = 3 → (s.grp g).switchedOff = false → (s.chan b.channel).overload = false → (s.grp g).watchdogExpired = false
    → s.fenced (0x4B + g) = false → s.unitFenced b.unit = false → s.mode.current ≠ .safe → s.field.trim = none → s.outputSignal b = some e
    → Runs (.outputUpdate g) s (fun u => (u.chan b.channel).drivenOn = e.effective.getLsbD 0 ∧ (u.chan b.channel).atSafe = false
    ∧ (u.chan b.channel).notDriven = false ∧ (u.grp g).gateOpen = true ∧ (u.grp g).lastOwner = s.time.now ∧ Keeps [.field, .sig, .capture] s u)) ∧
  (∀ (s : State) (g : Nat), s.time.mono % 100000 ≠ 0 → Runs (.outputUpdate g) s (fun u => u = s)) ∧
  (∀ (s : State) (g : Nat), (g = 1 ∨ g = 2) → (s.grp g).gateOpen = true → (s.grp g).watchdogExpired = false
    → (s.grp g).lastOwner + (s.grp g).limit.toNat * 1000000 ≤ s.time.now → Runs (.fbWatchdogExpiry g) s (fun u => (u.grp g).watchdogExpired = true
    ∧ (u.det (251 + g)).count = BitVec.ofNat 32 (sat32 ((s.det (251 + g)).count.toNat + 1)))) ∧
  (∀ (s : State) (g : Nat), s.time.now < (s.grp g).lastOwner + (s.grp g).limit.toNat * 1000000 → Runs (.fbWatchdogExpiry g) s (fun u => u = s)) ∧
  (∀ (s : State) (c n : Nat) (l : Ns) (b : ChannelDecl), s.bound c [3] = some b → (s.chan c).drivenOn = true → (2000 < n ∨ (600 < n ∧ 10000000 < l))
    → Runs (.outputOverload c n l) s (fun u => (u.chan c).overload = true ∧ (u.chan c).drivenOn = false ∧ (u.chan c).overloadAt = s.time.now
    ∧ (u.chan c).faults = (s.chan c).faults + 1 ∧ (u.grp (groupOf c)).storeReady = false
    ∧ (u.det (255 + groupOf c)).count = BitVec.ofNat 32 (sat32 ((s.det (255 + groupOf c)).count.toNat + 1)))) ∧
  (∀ (s : State) (c n : Nat) (l : Ns), n ≤ 2000 → (n ≤ 600 ∨ l ≤ 10000000) → Runs (.outputOverload c n l) s (fun u => u = s)) ∧
  (∀ (s : State) (c : Nat) (b : ChannelDecl), s.bound c [3] = some b → (s.chan c).overload = true → s.wantsOn b = true
    → (s.grp (groupOf c)).switchedOff = false → (s.chan c).overloadAt + 1000000000 ≤ s.time.now
    → Runs (.overloadRetry c true) s (fun u => (u.chan c).overload = false ∧ (u.chan c).faults = (s.chan c).faults ∧ u.hub = s.hub)) ∧
  (∀ (s : State) (c : Nat) (b : ChannelDecl), s.bound c [3] = some b → (s.chan c).overload = true → s.wantsOn b = true
    → (s.grp (groupOf c)).switchedOff = false → (s.chan c).overloadAt + 1000000000 ≤ s.time.now
    → Runs (.overloadRetry c false) s (fun u => (u.chan c).overload = true ∧ (u.chan c).overloadAt = s.time.now
    ∧ (u.chan c).faults = (s.chan c).faults + 1
    ∧ (u.det (255 + groupOf c)).count = BitVec.ofNat 32 (sat32 ((s.det (255 + groupOf c)).count.toNat + 1)))) ∧
  (∀ (s : State) (c : Nat) (a : Bool) (b : ChannelDecl), s.bound c [3] = some b → s.samples = true → (s.grp (groupOf c)).switchedOff = false
    → (s.chan c).drivenAt + 1000000 ≤ s.time.mono → Runs (.readbackCompare c a) s (fun u => (u.chan c).on = a
    ∧ (u.chan c).readbackFail = (a != (s.chan c).drivenOn) ∧ (u.chan c).faults = (s.chan c).faults + (if a ≠ (s.chan c).drivenOn
    ∧ (s.chan c).readbackFail = false then 1 else 0) ∧ (a ≠ (s.chan c).drivenOn → (s.chan c).readbackFail = false
    → (u.det (255 + groupOf c)).count = BitVec.ofNat 32 (sat32 ((s.det (255 + groupOf c)).count.toNat + 1)))))

/-- For these commands, under the conditions of each clause, a next state exists and holds what the clause says (R525 to R527, R531). (1) SUPPLY_SAMPLE from 19.2 V on, no UNDERVOLT: VOLTAGE, its detector as before; (2) below 19.2 V: UNDERVOLT, its detector live; (3) from 19.2 V on for 100 ms with UNDERVOLT: it clears; (4) for less: it stays; (5) GROUP_SWITCH_OFF after 2 ms below 16.0 V: off, no digital output is on, its detector live; (6) sooner: nothing; (7) RESTORE_READY after 100 ms from 19.2 V on, manual policy: told; (8) automatic policy: the outputs resume; (9) GROUP_RESTORE of a group that is ready: they resume; (10) of another: BUSY; (11) ENERGY_STORE_CHARGED: noted. What it says beyond the rules is the model's choice (log entry 54). -/
def Obligations.FieldSuppliesSag : Prop :=
  (∀ (s : State) (g n : Nat), (g = 1 ∨ g = 2) → s.mode.inReset = false → (s.grp g).undervolt = false → 19200 ≤ n
    → Runs (.supplySample g n) s (fun u => u.field = (s.setGrp g (fun y => { y with supply := n, below16 := none, above19 := some (y.above19.getD s.time.now) })).field
    ∧ u.det (247 + g) = s.det (247 + g) ∧ u.mode = s.mode)) ∧
  (∀ (s : State) (g n : Nat), (g = 1 ∨ g = 2) → s.mode.inReset = false → (s.grp g).undervolt = false → n < 19200
    → Runs (.supplySample g n) s (fun u => (u.grp g).undervolt = true ∧ (u.grp g).supply = n ∧ (u.grp g).above19 = none ∧ (u.grp g).deep = false
    ∧ (u.grp g).below16 = (if n < 16000 then some ((s.grp g).below16.getD s.time.now) else none) ∧ (u.det (247 + g)).live = true)) ∧
  (∀ (s : State) (g n : Nat) (t : Ns), (g = 1 ∨ g = 2) → s.mode.inReset = false → (s.grp g).undervolt = true → 19200 ≤ n → (s.grp g).above19 = some t
    → t + 100000000 ≤ s.time.now → Runs (.supplySample g n) s (fun u => (u.grp g).undervolt = false ∧ (u.grp g).supply = n
    ∧ (u.det (247 + g)).live = false)) ∧
  (∀ (s : State) (g n : Nat) (t : Ns), (g = 1 ∨ g = 2) → s.mode.inReset = false → (s.grp g).undervolt = true → 19200 ≤ n → (s.grp g).above19 = some t
    → s.time.now < t + 100000000 → Runs (.supplySample g n) s (fun u => (u.grp g).undervolt = true ∧ (u.grp g).supply = n ∧ u.hub = s.hub)) ∧
  (∀ (s : State) (g : Nat) (t : Ns), (g = 1 ∨ g = 2) → (s.grp g).below16 = some t → t + 2000000 ≤ s.time.now → (s.grp g).switchedOff = false
    → Runs (.groupSwitchOff g) s (fun u => (u.grp g).switchedOff = true ∧ (u.grp g).restoreReady = false ∧ (u.grp g).storeReady = false
    ∧ (u.grp g).switchOffs = (s.grp g).switchOffs + 1 ∧ (u.det (249 + g)).live = true
    ∧ ((s.image.elim [] (fun i => i.channels.filter (fun (b : ChannelDecl) => b.kind = 3 && b.channel < 0x30 && groupOf b.channel = g))).all (fun b => !(u.chan b.channel).drivenOn) = true))) ∧
  (∀ (s : State) (g : Nat) (t : Ns), (s.grp g).below16 = some t → s.time.now < t + 2000000 → Runs (.groupSwitchOff g) s (fun u => u = s)) ∧
  (∀ (s : State) (g : Nat) (t : Ns), (g = 1 ∨ g = 2) → (s.grp g).switchedOff = true → (s.grp g).restoreReady = false → (s.grp g).above19 = some t
    → t + 100000000 ≤ s.time.now → s.field.restorePolicy.getLsbD (g - 1) = false → Runs (.restoreReady g) s (fun u => (u.grp g).restoreReady = true
    ∧ (u.grp g).switchedOff = true ∧ Keeps [.field, .moraine] s u)) ∧
  (∀ (s : State) (g : Nat) (t : Ns), (g = 1 ∨ g = 2) → (s.grp g).switchedOff = true → (s.grp g).restoreReady = false → (s.grp g).above19 = some t
    → t + 100000000 ≤ s.time.now → s.field.restorePolicy.getLsbD (g - 1) = true → Runs (.restoreReady g) s (fun u => (u.grp g).restoreReady = false
    ∧ (u.grp g).switchedOff = false ∧ (u.det (249 + g)).live = false)) ∧
  (∀ (s : State) (r : Req) (t : State) (x : ReplyTo), Granted s r 2 t x → r.sub = 2 → (r.index = 0x7901 ∨ r.index = 0x7902) → r.value = 1
    → (s.grp (r.index.toNat - 0x7900)).restoreReady = true → Runs (.groupRestore r) s (fun u => (u.grp (r.index.toNat - 0x7900)).switchedOff = false
    ∧ (u.grp (r.index.toNat - 0x7900)).restoreReady = false ∧ (u.det (249 + (r.index.toNat - 0x7900))).live = false ∧ Replied u x 0)) ∧
  (∀ (s : State) (r : Req) (t : State) (x : ReplyTo), Granted s r 2 t x → r.sub = 2 → (r.index = 0x7901 ∨ r.index = 0x7902) → r.value = 1
    → (s.grp (r.index.toNat - 0x7900)).restoreReady = false → Runs (.groupRestore r) s (fun u => u.field = s.field ∧ Replied u x 0x0A)) ∧
  (∀ (s : State) (g : Nat), (g = 1 ∨ g = 2) → s.mode.inReset = false
    → Runs (.energyStoreCharged g) s (fun u => u = s.setGrp g (fun y => { y with storeReady := true })))

/-- For these commands, under the conditions of each clause, a next state exists and holds what the clause says (R490, R519, R525, R529, R530, R533, R534, R536, R537 to R539). (1) DIGITAL_INPUT_EDGE of a bound input without WIRE_BREAK where the module takes inputs: VALUE, SOURCE 0, its quality, the other signals as before; (2) of its present state: nothing; (3) WIRE_BREAK_CHANGE to broken: VALUE is kept, quality BAD, a fault, an occurrence of its detector; (4) to whole: cleared, no fault; (5) ANALOG_CONVERSION at a start of the group's converter, of an unfiltered untrimmed input: the measured current and its band flags, the next start; (6) at another instant, or without four results: nothing; (7) with CONVERT_BASE before its aligned start: nothing; (8) LOOP_COMPLIANCE off by more than 0.2 mA for 20 ms: set, a fault, an occurrence of its detector; (9) by less: nothing; (10) LOOP_COMPLIANCE_CLEARED: cleared; (11) HART_REQUEST for a channel with HART enabled, none under way: it runs with its bytes; (12) with one under way: BUSY; (13) HART_TRANSACTION_DONE with a reply, its group neither fenced nor off: the reply, one generation on; (14) without one: the result alone, the reply as before; (15) HART_BURST_FRAME: kept and counted. What it says beyond the rules is the model's choice (log entries 54, 55, 56, 57). -/
def Obligations.FieldInputsAndHart : Prop :=
  (∀ (s : State) (c g tag : Nat) (a : Bool) (b : ChannelDecl), s.bound c [1, 2] = some b → s.samples = true → s.linkWrites = true → (s.chan c).on ≠ a
    → (s.chan c).wireBreak = false → b.signal = some g → s.sigDecl g = true → Runs (.digitalInputEdge c a tag) s (fun u => (u.chan c).on = a
    ∧ (u.sigOf g).value = BitVec.ofNat 32 (bit a 0) ∧ (u.sigOf g).source = 0 ∧ (u.sigOf g).quality = s.fieldQuality c (s.sigOf g).unit 0 ∧ (∀ n, n ≠ g
    → u.sigOf n = s.sigOf n) ∧ u.mode = s.mode)) ∧
  (∀ (s : State) (c tag : Nat) (a : Bool), (s.chan c).on = a → Runs (.digitalInputEdge c a tag) s (fun u => u = s)) ∧
  (∀ (s : State) (c g : Nat) (b : ChannelDecl), s.bound c [1, 2] = some b → b.wireBreak = true → s.samples = true → s.linkWrites = true
    → (s.grp (groupOf c)).switchedOff = false → (s.chan c).wireBreak = false → b.signal = some g → s.sigDecl g = true
    → Runs (.wireBreakChange c true) s (fun u => (u.chan c).wireBreak = true ∧ (u.chan c).faults = (s.chan c).faults + 1
    ∧ (u.sigOf g).value = (s.sigOf g).value ∧ (u.sigOf g).wireBreak = true ∧ 2 ≤ (u.sigOf g).quality.toNat
    ∧ (u.det (259 + groupOf c)).count = BitVec.ofNat 32 (sat32 ((s.det (259 + groupOf c)).count.toNat + 1)))) ∧
  (∀ (s : State) (c : Nat) (b : ChannelDecl), s.bound c [1, 2] = some b → b.wireBreak = true → s.samples = true
    → (s.grp (groupOf c)).switchedOff = false → (s.chan c).wireBreak = true → Runs (.wireBreakChange c false) s (fun u => (u.chan c).wireBreak = false
    ∧ (u.chan c).faults = (s.chan c).faults ∧ u.hub = s.hub)) ∧
  (∀ (s : State) (g k : Nat) (l : List Int) (b : ChannelDecl), (g = 1 ∨ g = 2) → s.samples = true → l.length = 4 → s.convertDue g = true → k < 4
    → s.bound (0x1C + 4 * g + k) [4] = some b → b.filter = 0 → (s.chan (0x1C + 4 * g + k)).trimZero = 0 → (s.chan (0x1C + 4 * g + k)).trimSpan = 0
    → Runs (.analogConversion g l) s (fun u => (u.chan (0x1C + 4 * g + k)).measured = max 0 (min 24000 (l.getD k 0))
    ∧ (u.chan (0x1C + 4 * g + k)).overrange = (currentBand (max 0 (min 24000 (l.getD k 0)))).2.2.1
    ∧ (u.chan (0x1C + 4 * g + k)).underrange = (currentBand (max 0 (min 24000 (l.getD k 0)))).2.2.2
    ∧ (u.grp g).nextStart = State.alignedNext 100000 0 s.ownAlign s.time.mono ∧ (u.grp g).aligned = s.field.convertBase.getLsbD (g - 1)
    ∧ u.mode = s.mode)) ∧
  (∀ (s : State) (g : Nat) (l : List Int), (l.length ≠ 4 ∨ s.convertDue g = false) → Runs (.analogConversion g l) s (fun u => u = s)) ∧
  (∀ (s : State) (g : Nat), s.field.convertBase.getLsbD (g - 1) = true → (s.grp g).aligned = true → s.time.mono < (s.grp g).nextStart
    → Runs (.analogConversion g [0, 0, 0, 0]) s (fun u => u = s)) ∧
  (∀ (s : State) (c : Nat) (a : Int) (b : ChannelDecl), s.bound c [5] = some b → s.samples = true → (s.grp (groupOf c)).switchedOff = false
    → 200 < (a - (s.chan c).commanded).natAbs → (s.chan c).loopCompliance = false → (s.chan c).drivenAt + 20000000 ≤ s.time.mono
    → Runs (.loopCompliance c a) s (fun u => (u.chan c).loopCompliance = true ∧ (u.chan c).measured = a ∧ (u.chan c).faults = (s.chan c).faults + 1
    ∧ (u.det (257 + groupOf c)).count = BitVec.ofNat 32 (sat32 ((s.det (257 + groupOf c)).count.toNat + 1)))) ∧
  (∀ (s : State) (c : Nat) (a : Int), (a - (s.chan c).commanded).natAbs ≤ 200 → Runs (.loopCompliance c a) s (fun u => u = s)) ∧
  (∀ (s : State) (c : Nat) (a : Int) (b : ChannelDecl), s.bound c [5] = some b → s.samples = true → (s.grp (groupOf c)).switchedOff = false
    → (a - (s.chan c).commanded).natAbs ≤ 200 → (s.chan c).loopCompliance = true → (s.chan c).drivenAt + 20000000 ≤ s.time.mono
    → Runs (.loopComplianceCleared c a) s (fun u => (u.chan c).loopCompliance = false ∧ (u.chan c).measured = a
    ∧ (u.chan c).faults = (s.chan c).faults ∧ u.hub = s.hub)) ∧
  (∀ (s : State) (r : Req) (t : State) (x : ReplyTo), Granted s r 5 t x → r.sub = 1 → 0x7940 ≤ r.index.toNat → r.index.toNat ≤ 0x794F → r.select = 0
    → r.offset = 0 → State.writeLength r = true → at_ r.bytes 0 1 = 0 → at_ r.bytes 1 1 ≤ 63 → s.hartOn (r.index.toNat - 0x7940) = true
    → (s.hartOf (r.index.toNat - 0x7940)).result ≠ 1 → Runs (.hartRequest r) s (fun u => (u.hartOf (r.index.toNat - 0x7940)).result = 1
    ∧ (u.hartOf (r.index.toNat - 0x7940)).request = r.bytes ∧ (u.hartOf (r.index.toNat - 0x7940)).tries = 0
    ∧ (u.hartOf (r.index.toNat - 0x7940)).replyGen = (s.hartOf (r.index.toNat - 0x7940)).replyGen ∧ Replied u x 0)) ∧
  (∀ (s : State) (r : Req) (t : State) (x : ReplyTo), Granted s r 5 t x → r.sub = 1 → 0x7940 ≤ r.index.toNat → r.index.toNat ≤ 0x794F → r.select = 0
    → r.offset = 0 → State.writeLength r = true → at_ r.bytes 0 1 = 0 → at_ r.bytes 1 1 ≤ 63 → (s.hartOf (r.index.toNat - 0x7940)).result = 1
    → Runs (.hartRequest r) s (fun u => u.field = s.field ∧ Replied u x 0x0A)) ∧
  (∀ (s : State) (h : Nat) (r : HartResult), (s.hartOf h).result = 1 → r.result = 2 → s.fenced (0x4B + groupOf (h + 0x20)) = false
    → (s.grp (groupOf (h + 0x20))).switchedOff = false → 1 ≤ r.tries → r.tries ≤ 3
    → Runs (.hartTransactionDone h r) s (fun u => (u.hartOf h).result = 2 ∧ (u.hartOf h).tries = r.tries ∧ (u.hartOf h).response = r.response
    ∧ (u.hartOf h).status = r.deviceStatus ∧ (u.hartOf h).replyGen = (s.hartOf h).replyGen + 1 ∧ (u.hartOf h).reply.drop 4 = r.data
    ∧ Keeps [.field] s u)) ∧
  (∀ (s : State) (h : Nat) (r : HartResult), (s.hartOf h).result = 1 → r.result = 3 → 1 ≤ r.tries → r.tries ≤ 3
    → Runs (.hartTransactionDone h r) s (fun u => (u.hartOf h).result = 3 ∧ (u.hartOf h).tries = r.tries ∧ (u.hartOf h).reply = (s.hartOf h).reply
    ∧ (u.hartOf h).replyGen = (s.hartOf h).replyGen ∧ Keeps [.field, .moraine] s u)) ∧
  (∀ (s : State) (h : Nat) (l : List Byte), s.hartOn h = true → s.samples = true → Runs (.hartBurstFrame h l) s (fun u => (u.hartOf h).burst = l
    ∧ (u.hartOf h).burstCount = (s.hartOf h).burstCount + 1 ∧ Keeps [.field, .xan] s u))

/-- For these commands, under the conditions of each clause, a next state exists and holds what the clause says (R540 to R542). (1) TRIM_SELECT of an analog input, or of an output on an owner, in SERVICE with no trim: it begins, with the values to restore; (2) outside SERVICE: STATE_CONFLICT; (3) TRIM_ADJUST within 1,000 steps and the limits: that many steps; (4) beyond: RANGE; (5) TRIM_KEY_PRESS while the keys act: one step; (6) while they do not: ignored; (7) TRIM_KEY_REPEAT held beyond 1 s: one step; (8) shorter: nothing; (9) TRIM_STORE by command: stored; (10) by the keys: stored; (11) TRIM_CANCEL: the values it began with; (12) without a trim: STATE_CONFLICT; (13) TRIM_IDLE_TIMEOUT 15 min on: the values it began with; (14) sooner: nothing. What it says beyond the rules is the model's choice (log entry 56). -/
def Obligations.AnalogChannelsAreTrimmed : Prop :=
  (∀ (s : State) (r : Req) (t : State) (x : ReplyTo), Granted s r 2 t x → r.index = 0x7903 → r.sub = 0 → 0x20 ≤ r.value % 64 → (r.value % 64 < 0x28
    ∨ (r.value % 64 < 0x30 ∧ s.pair.ownSelf = true)) → (r.value = r.value % 64 ∨ r.value = r.value % 64 + 256) → s.field.trim = none
    → s.inService = true → Runs (.trimSelect r) s (fun u => (u.field.trim.map (fun m => (m.channel, m.span, m.steps))) = some (r.value % 64,
    decide (256 ≤ r.value), 0) ∧ (u.field.trim.map (fun m => (m.zero, m.spanBefore))) = some ((s.chan (r.value % 64)).trimZero,
    (s.chan (r.value % 64)).trimSpan) ∧ Replied u x 0)) ∧
  (∀ (s : State) (r : Req) (t : State) (x : ReplyTo), Granted s r 2 t x → r.index = 0x7903 → r.sub = 0 → 0x20 ≤ r.value → r.value < 0x30
    → s.field.trim = none → s.inService = false → Runs (.trimSelect r) s (fun u => u.field = s.field
    ∧ Replied u x 9 (be 4 s.deviceMode.toNat ++ be 1 s.mode.life.code))) ∧
  (∀ (s : State) (r : Req) (t : State) (x : ReplyTo) (m : Trim) (y : Chan), Granted s r 2 t x → r.index = 0x7903 → r.sub = 1 → s.field.trim = some m
    → (sgn (BitVec.ofNat 32 r.value)).natAbs ≤ 1000 → s.stepped m (sgn (BitVec.ofNat 32 r.value)) = some y
    → Runs (.trimAdjust r) s (fun u => u.field.trim = some { m with steps := m.steps + sgn (BitVec.ofNat 32 r.value), last := s.time.now }
    ∧ (u.chan m.channel).trimZero = y.trimZero ∧ (u.chan m.channel).trimSpan = y.trimSpan ∧ Replied u x 0)) ∧
  (∀ (s : State) (r : Req) (t : State) (x : ReplyTo) (m : Trim), Granted s r 2 t x → r.index = 0x7903 → r.sub = 1 → s.field.trim = some m
    → (1000 < (sgn (BitVec.ofNat 32 r.value)).natAbs ∨ s.stepped m (sgn (BitVec.ofNat 32 r.value)) = none)
    → Runs (.trimAdjust r) s (fun u => u.field = s.field ∧ Replied u x 6)) ∧
  (∀ (s : State) (t : Trim) (y : Chan) (p : Bool), s.keysAct = some t → s.stepped t (if p = true then 1 else -1) = some y
    → Runs (.trimKeyPress p) s (fun u => u.field.trim = some { t with steps := t.steps + (if p = true then 1 else -1), last := s.time.now }
    ∧ (u.chan t.channel).trimZero = y.trimZero ∧ (u.chan t.channel).trimSpan = y.trimSpan)) ∧
  (∀ (s : State) (p : Bool), s.keysAct = none → Runs (.trimKeyPress p) s (fun u => Keeps [.moraine] s u)) ∧
  (∀ (s : State) (t : Trim) (y : Chan) (p : Bool) (n : Ns), 1000000000 < n → s.keysAct = some t → s.stepped t (if p = true then 1 else -1) = some y
    → Runs (.trimKeyRepeat p n) s (fun u => u.field.trim = some { t with steps := t.steps + (if p = true then 1 else -1), last := s.time.now }
    ∧ (u.chan t.channel).trimZero = y.trimZero ∧ (u.chan t.channel).trimSpan = y.trimSpan)) ∧
  (∀ (s : State) (p : Bool) (n : Ns), n ≤ 1000000000 → Runs (.trimKeyRepeat p n) s (fun u => u = s)) ∧
  (∀ (s : State) (r : Req) (t : State) (x : ReplyTo) (m : Trim), Granted s r 2 t x → r.index = 0x7903 → r.sub = 2 → r.value = 1
    → s.field.trim = some m → Runs (.trimStore (.command r)) s (fun u => u.field.trim = none
    ∧ (u.chan m.channel).trimZero = (s.chan m.channel).trimZero ∧ (u.chan m.channel).trimSpan = (s.chan m.channel).trimSpan ∧ Replied u x 0)) ∧
  (∀ (s : State) (m : Trim), s.keysAct = some m → Runs (.trimStore .keys) s (fun u => u.field.trim = none
    ∧ (u.chan m.channel).trimZero = (s.chan m.channel).trimZero ∧ (u.chan m.channel).trimSpan = (s.chan m.channel).trimSpan)) ∧
  (∀ (s : State) (r : Req) (t : State) (x : ReplyTo) (m : Trim), Granted s r 2 t x → r.index = 0x7903 → r.sub = 2 → r.value = 2
    → s.field.trim = some m → Runs (.trimCancel r) s (fun u => u.field.trim = none ∧ (u.chan m.channel).trimZero = m.zero
    ∧ (u.chan m.channel).trimSpan = m.spanBefore ∧ Replied u x 0)) ∧
  (∀ (s : State) (r : Req) (t : State) (x : ReplyTo), Granted s r 2 t x → r.index = 0x7903 → r.sub = 2 → r.value = 2 → s.field.trim = none
    → Runs (.trimCancel r) s (fun u => u.field = s.field ∧ Replied u x 9 (be 4 s.deviceMode.toNat ++ be 1 s.mode.life.code))) ∧
  (∀ (s : State) (m : Trim), s.field.trim = some m → m.last + 900000000000 ≤ s.time.now → Runs (.trimIdleTimeout) s (fun u => u.field.trim = none
    ∧ (u.chan m.channel).trimZero = m.zero ∧ (u.chan m.channel).trimSpan = m.spanBefore)) ∧
  (∀ (s : State) (m : Trim), s.field.trim = some m → s.time.now < m.last + 900000000000 → Runs (.trimIdleTimeout) s (fun u => u = s))

/-- A step of a state with a command at the front of its queue is that command on the state with the rest of the queue, and every command answers a next state. What it says beyond the rules is the model's choice (log entry 67). -/
def Obligations.StepTakesTheFrontCommand : Prop :=
  (∀ (s : State) (c : Instr) (rest : List Instr), s.pending = c :: rest → step s = exec c { s with pending := rest }) ∧
  (∀ (c : Instr) (s : State), ∃ t, exec c s = .next t)

/-- A step takes exactly the front command out of the queue, whichever it is. -/
def Obligations.TheQueueIsFirstInFirstOut : Prop :=
  ∀ (s t : State) (c : Instr) (rest : List Instr), s.pending = c :: rest → step s = .next t → t.pending = rest

/-- A step on an empty queue moves physical time on by 1 ns and the monotonic clock, once it runs, by 1 ns; only a standby that tracks its partner may gain or lose one nanosecond more (the step on an empty queue is the model's choice, log entry 2; R312, R484). -/
def Obligations.AnEmptyQueueLetsTimePass : Prop :=
  ∀ s : State, s.pending = [] → ∃ t, step s = .next t ∧ t.time.now = s.time.now + 1 ∧ (s.time.monoRun = false → t.time.mono = s.time.mono)
    ∧ (s.time.monoRun = true → s.time.mono ≤ t.time.mono ∧ t.time.mono ≤ s.time.mono + 2 ∧ (s.tracks = false → t.time.mono = s.time.mono + 1))
    ∧ Keeps [.time, .pair, .draws] s t

/-- After power-on reset the module is in COLD and BLANK, owns nothing and drives nothing, has no session, image, detector latch, rule or record, no memory byte that is not zero and no command waiting; the invariants of the model hold (R11, R21, R56). What it says beyond the rules is the model's choice (log entries 3, 4). -/
def Obligations.TheStateAfterReset : Prop :=
  (State.reset.mode.current = .cold ∧ State.reset.mode.life = .blank ∧ State.reset.mode.epoch = 0 ∧ State.reset.pair.ownSelf = false
    ∧ State.reset.gateOpen = false ∧ State.reset.sess.table = [] ∧ State.reset.prog.image = none ∧ State.reset.hub.dets = []
    ∧ State.reset.hub.fenced = [] ∧ State.reset.guard.live = [] ∧ State.reset.sig.entries = [] ∧ State.reset.moraine.ring = []
    ∧ State.reset.time.wallValid = false ∧ State.reset.time.monoRun = false ∧ State.reset.xan.queue = [] ∧ State.reset.mem = []
    ∧ State.reset.pending = []) ∧
  (MemoryForm State.reset ∧ LifeForm State.reset)

/-- From every state whose memory lists rising addresses and no byte that an unwritten one reads as, every step leaves such a memory. What it says beyond the rules is the model's choice (log entry 66). -/
def Obligations.EveryStepKeepsTheMemoryForm : Prop :=
  ∀ s t : State, MemoryForm s → step s = .next t → MemoryForm t

/-- From every state in which a pending life-cycle change is one of Table 2.10, every step keeps the life-cycle state or makes exactly the pending change, a pending change is again one of Table 2.10, a retired module stays retired, and the anti-rollback floor never falls (R51, R563). -/
def Obligations.TheLifeCycleMovesOnlyForward : Prop :=
  ∀ s t : State, LifeForm s → step s = .next t → LifeForm t ∧ (t.mode.life = s.mode.life ∨ (s.mode.lifePending = some t.mode.life
    ∧ State.mayBecome s.mode.life t.mode.life = true)) ∧ (s.mode.life = .retired → t.mode.life = .retired) ∧ s.sedge.floor ≤ t.sedge.floor

/-- While the monotonic clock runs no command changes it: it moves by at most 2 ns forward on an empty queue, and only a power-on reset at the front of the queue sets it anew (R484; what an empty queue does is the model's choice, log entry 2). -/
def Obligations.TheMonotonicClockNeverStepsBack : Prop :=
  ∀ s t : State, s.time.monoRun = true → step s = .next t → t.time.mono = s.time.mono ∨ (s.pending = [] ∧ s.time.mono ≤ t.time.mono
    ∧ t.time.mono ≤ s.time.mono + 2) ∨ (∃ p rest, s.pending = .powerOnResetRelease p :: rest)

/-- When a request reaches check 8 with a counter above the session's, the counter is consumed whether a later check refuses the request or not, a refusal under the last counter ending the session; one whose counter is not above it is refused with REPLAYED, whatever its opcode (R82). -/
def Obligations.CountersAreConsumed : Prop :=
  (∀ (s : State) (r : Req) (op : Nat) (ses : Session) (a : Auth), ReachesCheck8 s r op ses a → ses.counter.toNat < a.counter.toNat → (∃ t x,
    s.judge r op = .passed t x ∧ (t.sessionOf a.session).map (·.counter) = some a.counter) ∨ (∃ t, s.judge r op = .over t
    ∧ (a.counter ≠ 0xFFFFFFFFFFFFFFFF → (t.sessionOf a.session).map (·.counter) = some a.counter) ∧ (a.counter = 0xFFFFFFFFFFFFFFFF
    → t.sessionOf a.session = none))) ∧
  (∀ (s : State) (r : Req) (op : Nat) (ses : Session) (a : Auth), ReachesCheck8 s r op ses a → a.counter.toNat ≤ ses.counter.toNat
    → s.judge r op = .over (s.answer (s.replyTo r op) 0x0B))

/-- A request that checks 1 to 13 refuse changes only the counters, sessions' counters, cursors of a session that its last counter ends, records and the reply; one that check 14 refuses changes only the counters of 1011, records and the reply (R85). -/
def Obligations.RefusedRequestsHaveNoEffect : Prop :=
  (∀ (s t : State) (r : Req) (op : Nat), s.judge r op = .over t → Keeps [.xan, .sess, .moraine, .capture, .can] s t ∧ t.xan.queue = s.xan.queue
    ∧ t.xan.udpPort = s.xan.udpPort ∧ t.sess.stage = s.sess.stage ∧ t.sess.ks = s.sess.ks ∧ t.moraine.ring = s.moraine.ring
    ∧ t.moraine.store = s.moraine.store ∧ t.capture.groups = s.capture.groups ∧ t.capture.held = s.capture.held ∧ (∀ c,
    (t.canCh c).mode = (s.canCh c).mode ∧ (t.canCh c).objects = (s.canCh c).objects)) ∧
  (∀ (s : State) (x : ReplyTo) (range busy conflict : Bool) (f : State → State), (range || busy || conflict) = true → Keeps [.xan, .moraine,
    .can] s (s.check14 x range busy conflict f) ∧ (s.check14 x range busy conflict f).xan.queue = s.xan.queue
    ∧ (s.check14 x range busy conflict f).xan.udpPort = s.xan.udpPort ∧ (s.check14 x range busy conflict f).moraine.ring = s.moraine.ring ∧ (∀ c,
    ((s.check14 x range busy conflict f).canCh c).mode = (s.canCh c).mode
    ∧ ((s.check14 x range busy conflict f).canCh c).objects = (s.canCh c).objects))

/-- For an address that is in no gap and not locked: the matching region of highest RANK, the lowest-numbered among equals, allows or refuses the access by its permission bit; without a matching region a user access is refused and a privileged one is judged by the default map (R383, R384). -/
def Obligations.TheDecidingRegionJudges : Prop :=
  (∀ (s : State) (x : Access) (r : Nat), (mapEntry x.address).isSome = true → lockedTo x.master x.address = false → Region s x.master r x.address
    → (∀ j, Region s x.master j x.address → j ≠ r → regionRank s x.master j < regionRank s x.master r
    ∨ (regionRank s x.master j = regionRank s x.master r ∧ r < j)) → s.verdict x = (if regionAllows s x r = true then .allowed else .refused r)) ∧
  (∀ (s : State) (x : Access), (mapEntry x.address).isSome = true → lockedTo x.master x.address = false → (∀ j, ¬Region s x.master j x.address)
    → (x.privileged = false → ∃ i, s.verdict x = .refused i) ∧ (x.privileged = true → tb (defaultBits x.master x.address) x.kind = true
    → s.verdict x = .allowed) ∧ (x.privileged = true → tb (defaultBits x.master x.address) x.kind = false → ∃ i, s.verdict x = .refused i))

/-- The effective value is FORCE_VALUE when FORCED is set, otherwise the fallback value when SUBSTITUTED is set, otherwise VALUE, and the value object of a signal reads it (R147). -/
def Obligations.TheEffectiveValue : Prop :=
  (∀ g : Sig, (g.forced = true → g.effective = g.forceValue) ∧ (g.forced = false → g.substituted = true → g.effective = g.fallback)
    ∧ (g.forced = false → g.substituted = false → g.effective = g.value)) ∧
  (∀ (s : State) (n : Word) (i k : Nat), i < 256 → k < 256 → readObj s n (0x6000 + i) k = (s.sigOf (i * 256 + k)).effective.toNat)

/-- Every value that pass A may hold decodes in each pass from that pass's representation to itself, and no single bit flipped in a coded integer of pass C decodes at all (R222 to R224). -/
def Obligations.PassRepresentationsDecode : Prop :=
  (∀ (p t : Nat) (v : Word), p < 3 → t < 4 → (t = 0 → v.toNat ≤ 1) → (t = 3 → normReal v = v) → decode p t (encode p t v) = some v) ∧
  (∀ (t k : Nat) (v : Word), (t = 1 ∨ t = 2) → k < 64 → decode 2 t (encode 2 t v ^^^ (1#64 <<< k)) = none)

/-- Of the parts time, xan, eth, sedge, mem, pending every command leaves alone those that touched does not list for it. -/
def Obligations.FramesOfTheServiceParts : Prop :=
  ∀ (c : Instr) (s t : State), exec c s = .next t → ∀ p ∈ ([.time, .xan, .eth, .sedge, .mem, .pending] : List Part), p ∉ touched c → p.same s t

/-- Of the parts mode, sess, disp, drift, firn, prog, pair every command leaves alone those that touched does not list for it. -/
def Obligations.FramesOfTheControlParts : Prop :=
  ∀ (c : Instr) (s t : State), exec c s = .next t → ∀ p ∈ ([.mode, .sess, .disp, .drift, .firn, .prog, .pair] : List Part), p ∉ touched c → p.same s t

/-- Of the parts sig, hub, guard, moraine, capture, link, can, field, draws every command leaves alone those that touched does not list for it. -/
def Obligations.FramesOfTheSignalParts : Prop :=
  ∀ (c : Instr) (s t : State), exec c s = .next t → ∀ p ∈ ([.sig, .hub, .guard, .moraine, .capture, .link, .can, .field, .draws] : List Part),
    p ∉ touched c → p.same s t
end

