-- ==== Sys2Proof/Laws/Bytes.lean ====
section
/-! SUPPORT. Laws of tables, byte strings and the byte memory: reading what was written, lengths, and the canonical form. -/
namespace Sys2Proof.Machine

/-! ## Tables -/

/-- An entry that was put reads back. -/
@[simp] theorem get_put_self {α : Type} (d : α) (t : Tab α) (k : Nat) (v : α) : get d (put t k v) k = v := by
  induction t with
  | nil => simp [put, get]
  | cons e t ih =>
    obtain ⟨j, w⟩ := e
    unfold put
    split
    · simp [get]
    · split
      · simp [get]
      · simp [get, ih]; intro h; omega
/-- Every other entry is as before. -/
theorem get_put_ne {α : Type} (d : α) (t : Tab α) (j k : Nat) (v : α) (h : j ≠ k) : get d (put t k v) j = get d t j := by
  induction t with
  | nil => simp [put, get]; omega
  | cons e t ih =>
    obtain ⟨i, w⟩ := e
    unfold put
    split
    · simp [get]; omega
    · split
      · rename_i h1 h2; subst h2; simp only [get]; rw [if_neg (by omega), if_neg (by omega)]
      · simp only [get, ih]
/-- Reading after a put. -/
theorem get_put {α : Type} (d : α) (t : Tab α) (j k : Nat) (v : α) : get d (put t k v) j = if j = k then v else get d t j := by
  by_cases h : j = k
  · subst h; simp
  · simp [h, get_put_ne d t j k v h]

/-! ## Byte strings -/

/-- A coded number has the length asked for. -/
@[simp] theorem be_length (n v : Nat) : (be n v).length = n := by
  induction n generalizing v with
  | zero => rfl
  | succ n ih => simp [be, ih]
/-- Decoding from a running value. -/
theorem fromBe_from (l : List Byte) (a : Nat) : l.foldl (fun a b => a * 256 + b.toNat) a = a * 256 ^ l.length + fromBe l := by
  induction l generalizing a with
  | nil => simp [fromBe]
  | cons b l ih =>
    simp only [List.foldl_cons, List.length_cons, fromBe]
    rw [ih, ih (0 * 256 + b.toNat)]
    ring
/-- The first byte is the most significant. -/
theorem fromBe_cons (b : Byte) (l : List Byte) : fromBe (b :: l) = b.toNat * 256 ^ l.length + fromBe l := by
  have h := fromBe_from l (0 * 256 + b.toNat)
  simpa [fromBe] using h
/-- A number that fits decodes to itself. -/
theorem fromBe_be (n v : Nat) : fromBe (be n v) = v % 256 ^ n := by
  induction n generalizing v with
  | zero => simp [be, fromBe, Nat.mod_one]
  | succ n ih =>
    rw [be, fromBe_cons, ih]
    simp only [be_length, BitVec.toNat_ofNat]
    have h : v % 256 ^ (n + 1) = v % 256 ^ n + 256 ^ n * (v / 256 ^ n % 256) := by rw [pow_succ]; exact Nat.mod_mul
    rw [h]; norm_num; ring
/-- A field at the front of a string. -/
theorem at_front (a b : List Byte) : at_ (a ++ b) 0 a.length = fromBe a := by simp [at_, slice]
/-- A field behind a prefix. -/
theorem at_behind (a b : List Byte) (k n : Nat) : at_ (a ++ b) (a.length + k) n = at_ b k n := by
  simp [at_, slice, List.drop_append, List.drop_eq_nil_of_le]

/-! ## The byte memory (R213) -/

/-- A byte that was written reads back. -/
theorem rd8_wr8_self (m : List Host.Cell) (a : Nat) (v : Byte) (low : Nat) (h : Memory.wfFrom low m = true) : rd8 (wr8 m a v) a = v := by
  induction m generalizing low with
  | nil =>
    unfold wr8
    split <;> simp_all [rd8]
  | cons c m ih =>
    obtain ⟨b, w⟩ := c
    simp only [Memory.wfFrom, Bool.and_eq_true, decide_eq_true_eq] at h
    have above : ∀ (m : List Host.Cell) (l : Nat), Memory.wfFrom l m = true → a < l → rd8 m a = unwritten := by
      intro m
      induction m with
      | nil => intros; rfl
      | cons c m ihm =>
        obtain ⟨e, x⟩ := c
        intro l hl ha
        simp only [Memory.wfFrom, Bool.and_eq_true, decide_eq_true_eq] at hl
        simp only [rd8]
        rw [if_neg (by omega)]
        exact ihm (e + 1) hl.2 (by omega)
    unfold wr8
    split
    · split
      · simp_all only [rd8]
        rw [if_neg (by omega)]
        exact above m (b + 1) h.2 (by omega)
      · simp [rd8]
    · split
      · split
        · rename_i h2 h3; subst h2; subst h3
          exact above m (b + 1) h.2 (by omega)
        · simp [rd8]
      · simp only [rd8]
        rw [if_neg (by omega)]
        exact ih (b + 1) h.2
/-- Every other byte is as before. -/
theorem rd8_wr8_ne (m : List Host.Cell) (a c : Nat) (v : Byte) (h : c ≠ a) (low : Nat) (hm : Memory.wfFrom low m = true) : rd8 (wr8 m a v) c = rd8 m c := by
  induction m generalizing low with
  | nil =>
    unfold wr8
    split
    · rfl
    · simp [rd8]; omega
  | cons e m ih =>
    obtain ⟨b, w⟩ := e
    simp only [Memory.wfFrom, Bool.and_eq_true, decide_eq_true_eq] at hm
    have above : ∀ (m : List Host.Cell) (l : Nat), Memory.wfFrom l m = true → c < l → rd8 m c = unwritten := by
      intro m
      induction m with
      | nil => intros; rfl
      | cons c' m ihm =>
        obtain ⟨e, x⟩ := c'
        intro l hl ha
        simp only [Memory.wfFrom, Bool.and_eq_true, decide_eq_true_eq] at hl
        simp only [rd8]
        rw [if_neg (by omega)]
        exact ihm (e + 1) hl.2 (by omega)
    unfold wr8
    split
    · split
      · rfl
      · simp only [rd8]; rw [if_neg (by omega)]
    · split
      · rename_i h2; subst h2
        split
        · simp only [rd8]; rw [if_neg (by omega)]
        · simp only [rd8]; rw [if_neg (by omega), if_neg (by omega)]
      · simp only [rd8, ih (b + 1) hm.2]
/-- A write keeps the canonical form above any bound that the address respects. -/
theorem wf_wr8_from (m : List Host.Cell) (a : Nat) (v : Byte) (low : Nat) (hl : low ≤ a) (h : Memory.wfFrom low m = true) : Memory.wfFrom low (wr8 m a v) = true := by
  induction m generalizing low with
  | nil =>
    unfold wr8
    split
    · rfl
    · simp_all [Memory.wfFrom]
  | cons e m ih =>
    obtain ⟨b, w⟩ := e
    simp only [Memory.wfFrom, Bool.and_eq_true, decide_eq_true_eq] at h
    unfold wr8
    split
    · split
      · simp [Memory.wfFrom, h]
      · rename_i h1 h2
        have : a + 1 ≤ b := by omega
        simp [Memory.wfFrom, h, hl, h2, this]
    · split
      · rename_i h1 h2; subst h2
        split
        · have mono : ∀ (m : List Host.Cell) (l k : Nat), k ≤ l → Memory.wfFrom l m = true → Memory.wfFrom k m = true := by
            intro m; cases m with
            | nil => intros; rfl
            | cons c m =>
              intro l k hk hc
              simp only [Memory.wfFrom, Bool.and_eq_true, decide_eq_true_eq] at hc ⊢
              exact ⟨⟨by omega, hc.1.2⟩, hc.2⟩
          exact mono m (b + 1) low (by omega) h.2
        · rename_i h3; simp [Memory.wfFrom, h, h3]
      · simp [Memory.wfFrom, h, ih (b + 1) (by omega) h.2]
/-- A byte write keeps the canonical form. -/
theorem wf_wr8 (m : List Host.Cell) (a : Nat) (v : Byte) (h : Memory.wf m = true) : Memory.wf (wr8 m a v) = true := wf_wr8_from m a v 0 (Nat.zero_le a) h
/-- A word write keeps the canonical form. -/
theorem wf_wr32 (m : List Host.Cell) (a : Nat) (v : Word) (h : Memory.wf m = true) : Memory.wf (wr32 m a v) = true := by
  unfold wr32; exact wf_wr8 _ _ _ (wf_wr8 _ _ _ (wf_wr8 _ _ _ (wf_wr8 _ _ _ h)))

end Sys2Proof.Machine
end

