-- ==== Sys2Proof/Laws/Frames.lean ====
section
/-! SUPPORT. Which parts of the state each shared operation leaves as they are; the provers cite these and unfold no operation for it. -/
set_option maxRecDepth 8000
namespace Sys2Proof.Machine
namespace Frame

/-! ## A part of a choice, of an optional step and of a fold -/

@[simp] theorem ite_mode (c : Prop) [Decidable c] (a b : State) : (if c then a else b).mode = if c then a.mode else b.mode := by split <;> rfl
@[simp] theorem elim_mode {α : Type} (o : Option α) (a : State) (f : α → State) : (o.elim a f).mode = o.elim a.mode (fun x => (f x).mode) := by cases o <;> rfl
@[simp] theorem foldl_mode {α : Type} (f : State → α → State) (l : List α) (s : State) (h : ∀ s a, (f s a).mode = s.mode) : (l.foldl f s).mode = s.mode := by
  induction l generalizing s with
  | nil => rfl
  | cons a l ih => rw [List.foldl_cons, ih, h]
@[simp] theorem ite_time (c : Prop) [Decidable c] (a b : State) : (if c then a else b).time = if c then a.time else b.time := by split <;> rfl
@[simp] theorem elim_time {α : Type} (o : Option α) (a : State) (f : α → State) : (o.elim a f).time = o.elim a.time (fun x => (f x).time) := by cases o <;> rfl
@[simp] theorem foldl_time {α : Type} (f : State → α → State) (l : List α) (s : State) (h : ∀ s a, (f s a).time = s.time) : (l.foldl f s).time = s.time := by
  induction l generalizing s with
  | nil => rfl
  | cons a l ih => rw [List.foldl_cons, ih, h]
@[simp] theorem ite_xan (c : Prop) [Decidable c] (a b : State) : (if c then a else b).xan = if c then a.xan else b.xan := by split <;> rfl
@[simp] theorem elim_xan {α : Type} (o : Option α) (a : State) (f : α → State) : (o.elim a f).xan = o.elim a.xan (fun x => (f x).xan) := by cases o <;> rfl
@[simp] theorem foldl_xan {α : Type} (f : State → α → State) (l : List α) (s : State) (h : ∀ s a, (f s a).xan = s.xan) : (l.foldl f s).xan = s.xan := by
  induction l generalizing s with
  | nil => rfl
  | cons a l ih => rw [List.foldl_cons, ih, h]
@[simp] theorem ite_sess (c : Prop) [Decidable c] (a b : State) : (if c then a else b).sess = if c then a.sess else b.sess := by split <;> rfl
@[simp] theorem elim_sess {α : Type} (o : Option α) (a : State) (f : α → State) : (o.elim a f).sess = o.elim a.sess (fun x => (f x).sess) := by cases o <;> rfl
@[simp] theorem foldl_sess {α : Type} (f : State → α → State) (l : List α) (s : State) (h : ∀ s a, (f s a).sess = s.sess) : (l.foldl f s).sess = s.sess := by
  induction l generalizing s with
  | nil => rfl
  | cons a l ih => rw [List.foldl_cons, ih, h]
@[simp] theorem ite_sig (c : Prop) [Decidable c] (a b : State) : (if c then a else b).sig = if c then a.sig else b.sig := by split <;> rfl
@[simp] theorem elim_sig {α : Type} (o : Option α) (a : State) (f : α → State) : (o.elim a f).sig = o.elim a.sig (fun x => (f x).sig) := by cases o <;> rfl
@[simp] theorem foldl_sig {α : Type} (f : State → α → State) (l : List α) (s : State) (h : ∀ s a, (f s a).sig = s.sig) : (l.foldl f s).sig = s.sig := by
  induction l generalizing s with
  | nil => rfl
  | cons a l ih => rw [List.foldl_cons, ih, h]
@[simp] theorem ite_disp (c : Prop) [Decidable c] (a b : State) : (if c then a else b).disp = if c then a.disp else b.disp := by split <;> rfl
@[simp] theorem elim_disp {α : Type} (o : Option α) (a : State) (f : α → State) : (o.elim a f).disp = o.elim a.disp (fun x => (f x).disp) := by cases o <;> rfl
@[simp] theorem foldl_disp {α : Type} (f : State → α → State) (l : List α) (s : State) (h : ∀ s a, (f s a).disp = s.disp) : (l.foldl f s).disp = s.disp := by
  induction l generalizing s with
  | nil => rfl
  | cons a l ih => rw [List.foldl_cons, ih, h]
@[simp] theorem ite_drift (c : Prop) [Decidable c] (a b : State) : (if c then a else b).drift = if c then a.drift else b.drift := by split <;> rfl
@[simp] theorem elim_drift {α : Type} (o : Option α) (a : State) (f : α → State) : (o.elim a f).drift = o.elim a.drift (fun x => (f x).drift) := by cases o <;> rfl
@[simp] theorem foldl_drift {α : Type} (f : State → α → State) (l : List α) (s : State) (h : ∀ s a, (f s a).drift = s.drift) : (l.foldl f s).drift = s.drift := by
  induction l generalizing s with
  | nil => rfl
  | cons a l ih => rw [List.foldl_cons, ih, h]
@[simp] theorem ite_firn (c : Prop) [Decidable c] (a b : State) : (if c then a else b).firn = if c then a.firn else b.firn := by split <;> rfl
@[simp] theorem elim_firn {α : Type} (o : Option α) (a : State) (f : α → State) : (o.elim a f).firn = o.elim a.firn (fun x => (f x).firn) := by cases o <;> rfl
@[simp] theorem foldl_firn {α : Type} (f : State → α → State) (l : List α) (s : State) (h : ∀ s a, (f s a).firn = s.firn) : (l.foldl f s).firn = s.firn := by
  induction l generalizing s with
  | nil => rfl
  | cons a l ih => rw [List.foldl_cons, ih, h]
@[simp] theorem ite_prog (c : Prop) [Decidable c] (a b : State) : (if c then a else b).prog = if c then a.prog else b.prog := by split <;> rfl
@[simp] theorem elim_prog {α : Type} (o : Option α) (a : State) (f : α → State) : (o.elim a f).prog = o.elim a.prog (fun x => (f x).prog) := by cases o <;> rfl
@[simp] theorem foldl_prog {α : Type} (f : State → α → State) (l : List α) (s : State) (h : ∀ s a, (f s a).prog = s.prog) : (l.foldl f s).prog = s.prog := by
  induction l generalizing s with
  | nil => rfl
  | cons a l ih => rw [List.foldl_cons, ih, h]
@[simp] theorem ite_pair (c : Prop) [Decidable c] (a b : State) : (if c then a else b).pair = if c then a.pair else b.pair := by split <;> rfl
@[simp] theorem elim_pair {α : Type} (o : Option α) (a : State) (f : α → State) : (o.elim a f).pair = o.elim a.pair (fun x => (f x).pair) := by cases o <;> rfl
@[simp] theorem foldl_pair {α : Type} (f : State → α → State) (l : List α) (s : State) (h : ∀ s a, (f s a).pair = s.pair) : (l.foldl f s).pair = s.pair := by
  induction l generalizing s with
  | nil => rfl
  | cons a l ih => rw [List.foldl_cons, ih, h]
@[simp] theorem ite_hub (c : Prop) [Decidable c] (a b : State) : (if c then a else b).hub = if c then a.hub else b.hub := by split <;> rfl
@[simp] theorem elim_hub {α : Type} (o : Option α) (a : State) (f : α → State) : (o.elim a f).hub = o.elim a.hub (fun x => (f x).hub) := by cases o <;> rfl
@[simp] theorem foldl_hub {α : Type} (f : State → α → State) (l : List α) (s : State) (h : ∀ s a, (f s a).hub = s.hub) : (l.foldl f s).hub = s.hub := by
  induction l generalizing s with
  | nil => rfl
  | cons a l ih => rw [List.foldl_cons, ih, h]
@[simp] theorem ite_guard (c : Prop) [Decidable c] (a b : State) : (if c then a else b).guard = if c then a.guard else b.guard := by split <;> rfl
@[simp] theorem elim_guard {α : Type} (o : Option α) (a : State) (f : α → State) : (o.elim a f).guard = o.elim a.guard (fun x => (f x).guard) := by cases o <;> rfl
@[simp] theorem foldl_guard {α : Type} (f : State → α → State) (l : List α) (s : State) (h : ∀ s a, (f s a).guard = s.guard) : (l.foldl f s).guard = s.guard := by
  induction l generalizing s with
  | nil => rfl
  | cons a l ih => rw [List.foldl_cons, ih, h]
@[simp] theorem ite_moraine (c : Prop) [Decidable c] (a b : State) : (if c then a else b).moraine = if c then a.moraine else b.moraine := by split <;> rfl
@[simp] theorem elim_moraine {α : Type} (o : Option α) (a : State) (f : α → State) : (o.elim a f).moraine = o.elim a.moraine (fun x => (f x).moraine) := by cases o <;> rfl
@[simp] theorem foldl_moraine {α : Type} (f : State → α → State) (l : List α) (s : State) (h : ∀ s a, (f s a).moraine = s.moraine) : (l.foldl f s).moraine = s.moraine := by
  induction l generalizing s with
  | nil => rfl
  | cons a l ih => rw [List.foldl_cons, ih, h]
@[simp] theorem ite_capture (c : Prop) [Decidable c] (a b : State) : (if c then a else b).capture = if c then a.capture else b.capture := by split <;> rfl
@[simp] theorem elim_capture {α : Type} (o : Option α) (a : State) (f : α → State) : (o.elim a f).capture = o.elim a.capture (fun x => (f x).capture) := by cases o <;> rfl
@[simp] theorem foldl_capture {α : Type} (f : State → α → State) (l : List α) (s : State) (h : ∀ s a, (f s a).capture = s.capture) : (l.foldl f s).capture = s.capture := by
  induction l generalizing s with
  | nil => rfl
  | cons a l ih => rw [List.foldl_cons, ih, h]
@[simp] theorem ite_link (c : Prop) [Decidable c] (a b : State) : (if c then a else b).link = if c then a.link else b.link := by split <;> rfl
@[simp] theorem elim_link {α : Type} (o : Option α) (a : State) (f : α → State) : (o.elim a f).link = o.elim a.link (fun x => (f x).link) := by cases o <;> rfl
@[simp] theorem foldl_link {α : Type} (f : State → α → State) (l : List α) (s : State) (h : ∀ s a, (f s a).link = s.link) : (l.foldl f s).link = s.link := by
  induction l generalizing s with
  | nil => rfl
  | cons a l ih => rw [List.foldl_cons, ih, h]
@[simp] theorem ite_eth (c : Prop) [Decidable c] (a b : State) : (if c then a else b).eth = if c then a.eth else b.eth := by split <;> rfl
@[simp] theorem elim_eth {α : Type} (o : Option α) (a : State) (f : α → State) : (o.elim a f).eth = o.elim a.eth (fun x => (f x).eth) := by cases o <;> rfl
@[simp] theorem foldl_eth {α : Type} (f : State → α → State) (l : List α) (s : State) (h : ∀ s a, (f s a).eth = s.eth) : (l.foldl f s).eth = s.eth := by
  induction l generalizing s with
  | nil => rfl
  | cons a l ih => rw [List.foldl_cons, ih, h]
@[simp] theorem ite_can (c : Prop) [Decidable c] (a b : State) : (if c then a else b).can = if c then a.can else b.can := by split <;> rfl
@[simp] theorem elim_can {α : Type} (o : Option α) (a : State) (f : α → State) : (o.elim a f).can = o.elim a.can (fun x => (f x).can) := by cases o <;> rfl
@[simp] theorem foldl_can {α : Type} (f : State → α → State) (l : List α) (s : State) (h : ∀ s a, (f s a).can = s.can) : (l.foldl f s).can = s.can := by
  induction l generalizing s with
  | nil => rfl
  | cons a l ih => rw [List.foldl_cons, ih, h]
@[simp] theorem ite_field (c : Prop) [Decidable c] (a b : State) : (if c then a else b).field = if c then a.field else b.field := by split <;> rfl
@[simp] theorem elim_field {α : Type} (o : Option α) (a : State) (f : α → State) : (o.elim a f).field = o.elim a.field (fun x => (f x).field) := by cases o <;> rfl
@[simp] theorem foldl_field {α : Type} (f : State → α → State) (l : List α) (s : State) (h : ∀ s a, (f s a).field = s.field) : (l.foldl f s).field = s.field := by
  induction l generalizing s with
  | nil => rfl
  | cons a l ih => rw [List.foldl_cons, ih, h]
@[simp] theorem ite_sedge (c : Prop) [Decidable c] (a b : State) : (if c then a else b).sedge = if c then a.sedge else b.sedge := by split <;> rfl
@[simp] theorem elim_sedge {α : Type} (o : Option α) (a : State) (f : α → State) : (o.elim a f).sedge = o.elim a.sedge (fun x => (f x).sedge) := by cases o <;> rfl
@[simp] theorem foldl_sedge {α : Type} (f : State → α → State) (l : List α) (s : State) (h : ∀ s a, (f s a).sedge = s.sedge) : (l.foldl f s).sedge = s.sedge := by
  induction l generalizing s with
  | nil => rfl
  | cons a l ih => rw [List.foldl_cons, ih, h]
@[simp] theorem ite_mem (c : Prop) [Decidable c] (a b : State) : (if c then a else b).mem = if c then a.mem else b.mem := by split <;> rfl
@[simp] theorem elim_mem {α : Type} (o : Option α) (a : State) (f : α → State) : (o.elim a f).mem = o.elim a.mem (fun x => (f x).mem) := by cases o <;> rfl
@[simp] theorem foldl_mem {α : Type} (f : State → α → State) (l : List α) (s : State) (h : ∀ s a, (f s a).mem = s.mem) : (l.foldl f s).mem = s.mem := by
  induction l generalizing s with
  | nil => rfl
  | cons a l ih => rw [List.foldl_cons, ih, h]
@[simp] theorem ite_draws (c : Prop) [Decidable c] (a b : State) : (if c then a else b).draws = if c then a.draws else b.draws := by split <;> rfl
@[simp] theorem elim_draws {α : Type} (o : Option α) (a : State) (f : α → State) : (o.elim a f).draws = o.elim a.draws (fun x => (f x).draws) := by cases o <;> rfl
@[simp] theorem foldl_draws {α : Type} (f : State → α → State) (l : List α) (s : State) (h : ∀ s a, (f s a).draws = s.draws) : (l.foldl f s).draws = s.draws := by
  induction l generalizing s with
  | nil => rfl
  | cons a l ih => rw [List.foldl_cons, ih, h]
@[simp] theorem ite_pending (c : Prop) [Decidable c] (a b : State) : (if c then a else b).pending = if c then a.pending else b.pending := by split <;> rfl
@[simp] theorem elim_pending {α : Type} (o : Option α) (a : State) (f : α → State) : (o.elim a f).pending = o.elim a.pending (fun x => (f x).pending) := by cases o <;> rfl
@[simp] theorem foldl_pending {α : Type} (f : State → α → State) (l : List α) (s : State) (h : ∀ s a, (f s a).pending = s.pending) : (l.foldl f s).pending = s.pending := by
  induction l generalizing s with
  | nil => rfl
  | cons a l ih => rw [List.foldl_cons, ih, h]
@[simp] theorem elim_same {α β : Type} (o : Option α) (c : β) : o.elim c (fun _ => c) = c := by cases o <;> rfl

/-! ## The shared operations -/

theorem takeSigned_parts {s t : State} {i : Nat} {f : Fwd} (h : s.takeSigned i = some (f, t)) : t.mode = s.mode ∧ t.time = s.time ∧ t.sess = s.sess
    ∧ t.sig = s.sig ∧ t.disp = s.disp ∧ t.drift = s.drift ∧ t.firn = s.firn ∧ t.prog = s.prog ∧ t.pair = s.pair ∧ t.hub = s.hub ∧ t.guard = s.guard
    ∧ t.moraine = s.moraine ∧ t.capture = s.capture ∧ t.link = s.link ∧ t.eth = s.eth ∧ t.can = s.can ∧ t.field = s.field ∧ t.sedge = s.sedge ∧ t.mem = s.mem
    ∧ t.draws = s.draws ∧ t.pending = s.pending := by
  unfold State.takeSigned at h
  split at h
  · split at h
    · cases h; simp
    · cases h
  · cases h
@[simp] theorem redriveGroup_same (s : State) (g : Nat) (fresh : Bool) : (State.redriveGroup s g fresh).mode = s.mode
    ∧ (State.redriveGroup s g fresh).time = s.time ∧ (State.redriveGroup s g fresh).xan = s.xan ∧ (State.redriveGroup s g fresh).sess = s.sess
    ∧ (State.redriveGroup s g fresh).disp = s.disp ∧ (State.redriveGroup s g fresh).drift = s.drift ∧ (State.redriveGroup s g fresh).firn = s.firn
    ∧ (State.redriveGroup s g fresh).prog = s.prog ∧ (State.redriveGroup s g fresh).pair = s.pair ∧ (State.redriveGroup s g fresh).hub = s.hub
    ∧ (State.redriveGroup s g fresh).guard = s.guard ∧ (State.redriveGroup s g fresh).moraine = s.moraine ∧ (State.redriveGroup s g fresh).capture = s.capture
    ∧ (State.redriveGroup s g fresh).link = s.link ∧ (State.redriveGroup s g fresh).eth = s.eth ∧ (State.redriveGroup s g fresh).can = s.can
    ∧ (State.redriveGroup s g fresh).sedge = s.sedge ∧ (State.redriveGroup s g fresh).mem = s.mem ∧ (State.redriveGroup s g fresh).draws = s.draws
    ∧ (State.redriveGroup s g fresh).pending = s.pending := by
  unfold State.redriveGroup; simp
@[simp] theorem redrive_same (s : State) : (State.redrive s).mode = s.mode ∧ (State.redrive s).time = s.time ∧ (State.redrive s).xan = s.xan
    ∧ (State.redrive s).sess = s.sess ∧ (State.redrive s).disp = s.disp ∧ (State.redrive s).drift = s.drift ∧ (State.redrive s).firn = s.firn
    ∧ (State.redrive s).prog = s.prog ∧ (State.redrive s).pair = s.pair ∧ (State.redrive s).hub = s.hub ∧ (State.redrive s).guard = s.guard
    ∧ (State.redrive s).moraine = s.moraine ∧ (State.redrive s).capture = s.capture ∧ (State.redrive s).link = s.link ∧ (State.redrive s).eth = s.eth
    ∧ (State.redrive s).can = s.can ∧ (State.redrive s).sedge = s.sedge ∧ (State.redrive s).mem = s.mem ∧ (State.redrive s).draws = s.draws
    ∧ (State.redrive s).pending = s.pending := by
  unfold State.redrive; simp
@[simp] theorem setSig_same (s : State) (g : Nat) (f : Sig → Sig) : (State.setSig s g f).mode = s.mode ∧ (State.setSig s g f).time = s.time
    ∧ (State.setSig s g f).xan = s.xan ∧ (State.setSig s g f).sess = s.sess ∧ (State.setSig s g f).disp = s.disp ∧ (State.setSig s g f).drift = s.drift
    ∧ (State.setSig s g f).firn = s.firn ∧ (State.setSig s g f).prog = s.prog ∧ (State.setSig s g f).pair = s.pair ∧ (State.setSig s g f).hub = s.hub
    ∧ (State.setSig s g f).guard = s.guard ∧ (State.setSig s g f).moraine = s.moraine ∧ (State.setSig s g f).capture = s.capture
    ∧ (State.setSig s g f).link = s.link ∧ (State.setSig s g f).eth = s.eth ∧ (State.setSig s g f).can = s.can ∧ (State.setSig s g f).field = s.field
    ∧ (State.setSig s g f).sedge = s.sedge ∧ (State.setSig s g f).mem = s.mem ∧ (State.setSig s g f).draws = s.draws
    ∧ (State.setSig s g f).pending = s.pending := by
  unfold State.setSig; (repeat' split) <;> simp
@[simp] theorem refence_same (new old : State) : (State.refence new old).mode = new.mode ∧ (State.refence new old).time = new.time
    ∧ (State.refence new old).xan = new.xan ∧ (State.refence new old).sess = new.sess ∧ (State.refence new old).disp = new.disp
    ∧ (State.refence new old).drift = new.drift ∧ (State.refence new old).firn = new.firn ∧ (State.refence new old).prog = new.prog
    ∧ (State.refence new old).pair = new.pair ∧ (State.refence new old).hub = new.hub ∧ (State.refence new old).guard = new.guard
    ∧ (State.refence new old).moraine = new.moraine ∧ (State.refence new old).capture = new.capture ∧ (State.refence new old).link = new.link
    ∧ (State.refence new old).eth = new.eth ∧ (State.refence new old).can = new.can ∧ (State.refence new old).field = new.field
    ∧ (State.refence new old).sedge = new.sedge ∧ (State.refence new old).mem = new.mem ∧ (State.refence new old).draws = new.draws
    ∧ (State.refence new old).pending = new.pending := by
  unfold State.refence; simp
@[simp] theorem countStatus_same (s : State) : (State.countStatus s).mode = s.mode ∧ (State.countStatus s).time = s.time ∧ (State.countStatus s).xan = s.xan
    ∧ (State.countStatus s).sess = s.sess ∧ (State.countStatus s).disp = s.disp ∧ (State.countStatus s).drift = s.drift ∧ (State.countStatus s).firn = s.firn
    ∧ (State.countStatus s).prog = s.prog ∧ (State.countStatus s).pair = s.pair ∧ (State.countStatus s).hub = s.hub ∧ (State.countStatus s).guard = s.guard
    ∧ (State.countStatus s).moraine = s.moraine ∧ (State.countStatus s).capture = s.capture ∧ (State.countStatus s).link = s.link
    ∧ (State.countStatus s).eth = s.eth ∧ (State.countStatus s).can = s.can ∧ (State.countStatus s).field = s.field ∧ (State.countStatus s).sedge = s.sedge
    ∧ (State.countStatus s).mem = s.mem ∧ (State.countStatus s).draws = s.draws ∧ (State.countStatus s).pending = s.pending := by
  unfold State.countStatus; simp
@[simp] theorem settle_same (s : State) : (State.settle s).mode = s.mode ∧ (State.settle s).time = s.time ∧ (State.settle s).xan = s.xan
    ∧ (State.settle s).sess = s.sess ∧ (State.settle s).disp = s.disp ∧ (State.settle s).drift = s.drift ∧ (State.settle s).firn = s.firn
    ∧ (State.settle s).prog = s.prog ∧ (State.settle s).pair = s.pair ∧ (State.settle s).hub = s.hub ∧ (State.settle s).guard = s.guard
    ∧ (State.settle s).moraine = s.moraine ∧ (State.settle s).link = s.link ∧ (State.settle s).eth = s.eth ∧ (State.settle s).can = s.can
    ∧ (State.settle s).field = s.field ∧ (State.settle s).sedge = s.sedge ∧ (State.settle s).mem = s.mem ∧ (State.settle s).draws = s.draws
    ∧ (State.settle s).pending = s.pending := by
  unfold State.settle; simp
@[simp] theorem setLnk_same (s : State) (k : Nat) (f : Link → Link) : (State.setLnk s k f).mode = s.mode ∧ (State.setLnk s k f).time = s.time
    ∧ (State.setLnk s k f).xan = s.xan ∧ (State.setLnk s k f).sess = s.sess ∧ (State.setLnk s k f).sig = s.sig ∧ (State.setLnk s k f).disp = s.disp
    ∧ (State.setLnk s k f).drift = s.drift ∧ (State.setLnk s k f).firn = s.firn ∧ (State.setLnk s k f).prog = s.prog ∧ (State.setLnk s k f).pair = s.pair
    ∧ (State.setLnk s k f).hub = s.hub ∧ (State.setLnk s k f).guard = s.guard ∧ (State.setLnk s k f).moraine = s.moraine
    ∧ (State.setLnk s k f).capture = s.capture ∧ (State.setLnk s k f).eth = s.eth ∧ (State.setLnk s k f).can = s.can ∧ (State.setLnk s k f).field = s.field
    ∧ (State.setLnk s k f).sedge = s.sedge ∧ (State.setLnk s k f).mem = s.mem ∧ (State.setLnk s k f).draws = s.draws
    ∧ (State.setLnk s k f).pending = s.pending := by
  unfold State.setLnk; simp
@[simp] theorem setPos_same (s : State) (k m : Nat) (f : Position → Position) : (State.setPos s k m f).mode = s.mode ∧ (State.setPos s k m f).time = s.time
    ∧ (State.setPos s k m f).xan = s.xan ∧ (State.setPos s k m f).sess = s.sess ∧ (State.setPos s k m f).sig = s.sig ∧ (State.setPos s k m f).disp = s.disp
    ∧ (State.setPos s k m f).drift = s.drift ∧ (State.setPos s k m f).firn = s.firn ∧ (State.setPos s k m f).prog = s.prog
    ∧ (State.setPos s k m f).pair = s.pair ∧ (State.setPos s k m f).hub = s.hub ∧ (State.setPos s k m f).guard = s.guard
    ∧ (State.setPos s k m f).moraine = s.moraine ∧ (State.setPos s k m f).capture = s.capture ∧ (State.setPos s k m f).eth = s.eth
    ∧ (State.setPos s k m f).can = s.can ∧ (State.setPos s k m f).field = s.field ∧ (State.setPos s k m f).sedge = s.sedge ∧ (State.setPos s k m f).mem = s.mem
    ∧ (State.setPos s k m f).draws = s.draws ∧ (State.setPos s k m f).pending = s.pending := by
  unfold State.setPos; simp
@[simp] theorem sendFrame_same (s : State) (f : LinkFrame) (ns : Nat) : (State.sendFrame s f ns).mode = s.mode ∧ (State.sendFrame s f ns).time = s.time
    ∧ (State.sendFrame s f ns).xan = s.xan ∧ (State.sendFrame s f ns).sess = s.sess ∧ (State.sendFrame s f ns).sig = s.sig
    ∧ (State.sendFrame s f ns).disp = s.disp ∧ (State.sendFrame s f ns).drift = s.drift ∧ (State.sendFrame s f ns).firn = s.firn
    ∧ (State.sendFrame s f ns).prog = s.prog ∧ (State.sendFrame s f ns).pair = s.pair ∧ (State.sendFrame s f ns).hub = s.hub
    ∧ (State.sendFrame s f ns).guard = s.guard ∧ (State.sendFrame s f ns).moraine = s.moraine ∧ (State.sendFrame s f ns).capture = s.capture
    ∧ (State.sendFrame s f ns).eth = s.eth ∧ (State.sendFrame s f ns).can = s.can ∧ (State.sendFrame s f ns).field = s.field
    ∧ (State.sendFrame s f ns).sedge = s.sedge ∧ (State.sendFrame s f ns).mem = s.mem ∧ (State.sendFrame s f ns).draws = s.draws
    ∧ (State.sendFrame s f ns).pending = s.pending := by
  unfold State.sendFrame; simp
@[simp] theorem configure_same (s : State) (k m : Nat) : (State.configure s k m).mode = s.mode ∧ (State.configure s k m).time = s.time
    ∧ (State.configure s k m).xan = s.xan ∧ (State.configure s k m).sess = s.sess ∧ (State.configure s k m).sig = s.sig ∧ (State.configure s k m).disp = s.disp
    ∧ (State.configure s k m).drift = s.drift ∧ (State.configure s k m).firn = s.firn ∧ (State.configure s k m).prog = s.prog
    ∧ (State.configure s k m).pair = s.pair ∧ (State.configure s k m).hub = s.hub ∧ (State.configure s k m).guard = s.guard
    ∧ (State.configure s k m).moraine = s.moraine ∧ (State.configure s k m).capture = s.capture ∧ (State.configure s k m).eth = s.eth
    ∧ (State.configure s k m).can = s.can ∧ (State.configure s k m).field = s.field ∧ (State.configure s k m).sedge = s.sedge
    ∧ (State.configure s k m).mem = s.mem ∧ (State.configure s k m).draws = s.draws ∧ (State.configure s k m).pending = s.pending := by
  unfold State.configure; simp
@[simp] theorem sendRequest_same (s : State) (k m : Nat) : (State.sendRequest s k m).mode = s.mode ∧ (State.sendRequest s k m).time = s.time
    ∧ (State.sendRequest s k m).xan = s.xan ∧ (State.sendRequest s k m).sess = s.sess ∧ (State.sendRequest s k m).sig = s.sig
    ∧ (State.sendRequest s k m).disp = s.disp ∧ (State.sendRequest s k m).drift = s.drift ∧ (State.sendRequest s k m).firn = s.firn
    ∧ (State.sendRequest s k m).prog = s.prog ∧ (State.sendRequest s k m).pair = s.pair ∧ (State.sendRequest s k m).hub = s.hub
    ∧ (State.sendRequest s k m).guard = s.guard ∧ (State.sendRequest s k m).moraine = s.moraine ∧ (State.sendRequest s k m).capture = s.capture
    ∧ (State.sendRequest s k m).eth = s.eth ∧ (State.sendRequest s k m).can = s.can ∧ (State.sendRequest s k m).field = s.field
    ∧ (State.sendRequest s k m).sedge = s.sedge ∧ (State.sendRequest s k m).mem = s.mem ∧ (State.sendRequest s k m).draws = s.draws
    ∧ (State.sendRequest s k m).pending = s.pending := by
  unfold State.sendRequest; simp
@[simp] theorem request_same (s : State) (k m : Nat) : (State.request s k m).mode = s.mode ∧ (State.request s k m).time = s.time
    ∧ (State.request s k m).xan = s.xan ∧ (State.request s k m).sess = s.sess ∧ (State.request s k m).sig = s.sig ∧ (State.request s k m).disp = s.disp
    ∧ (State.request s k m).drift = s.drift ∧ (State.request s k m).firn = s.firn ∧ (State.request s k m).prog = s.prog ∧ (State.request s k m).pair = s.pair
    ∧ (State.request s k m).hub = s.hub ∧ (State.request s k m).guard = s.guard ∧ (State.request s k m).moraine = s.moraine
    ∧ (State.request s k m).capture = s.capture ∧ (State.request s k m).eth = s.eth ∧ (State.request s k m).can = s.can ∧ (State.request s k m).field = s.field
    ∧ (State.request s k m).sedge = s.sedge ∧ (State.request s k m).mem = s.mem ∧ (State.request s k m).draws = s.draws
    ∧ (State.request s k m).pending = s.pending := by
  unfold State.request; simp
@[simp] theorem sendRetries_same (s : State) (k : Nat) : (State.sendRetries s k).mode = s.mode ∧ (State.sendRetries s k).time = s.time
    ∧ (State.sendRetries s k).xan = s.xan ∧ (State.sendRetries s k).sess = s.sess ∧ (State.sendRetries s k).sig = s.sig ∧ (State.sendRetries s k).disp = s.disp
    ∧ (State.sendRetries s k).drift = s.drift ∧ (State.sendRetries s k).firn = s.firn ∧ (State.sendRetries s k).prog = s.prog
    ∧ (State.sendRetries s k).pair = s.pair ∧ (State.sendRetries s k).hub = s.hub ∧ (State.sendRetries s k).guard = s.guard
    ∧ (State.sendRetries s k).moraine = s.moraine ∧ (State.sendRetries s k).capture = s.capture ∧ (State.sendRetries s k).eth = s.eth
    ∧ (State.sendRetries s k).can = s.can ∧ (State.sendRetries s k).field = s.field ∧ (State.sendRetries s k).sedge = s.sedge
    ∧ (State.sendRetries s k).mem = s.mem ∧ (State.sendRetries s k).draws = s.draws ∧ (State.sendRetries s k).pending = s.pending := by
  unfold State.sendRetries; simp
@[simp] theorem grant_same (n : Nat) (s : State) : (State.grant n s).mode = s.mode ∧ (State.grant n s).time = s.time ∧ (State.grant n s).xan = s.xan
    ∧ (State.grant n s).sess = s.sess ∧ (State.grant n s).sig = s.sig ∧ (State.grant n s).disp = s.disp ∧ (State.grant n s).drift = s.drift
    ∧ (State.grant n s).firn = s.firn ∧ (State.grant n s).prog = s.prog ∧ (State.grant n s).pair = s.pair ∧ (State.grant n s).hub = s.hub
    ∧ (State.grant n s).guard = s.guard ∧ (State.grant n s).moraine = s.moraine ∧ (State.grant n s).capture = s.capture ∧ (State.grant n s).eth = s.eth
    ∧ (State.grant n s).can = s.can ∧ (State.grant n s).field = s.field ∧ (State.grant n s).sedge = s.sedge ∧ (State.grant n s).mem = s.mem
    ∧ (State.grant n s).draws = s.draws ∧ (State.grant n s).pending = s.pending := by
  induction n generalizing s with
  | zero => simp [State.grant]
  | succ n ih => unfold State.grant; (repeat' split) <;> simp [ih]
@[simp] theorem endTransaction_same (s : State) (k m : Nat) : (State.endTransaction s k m).mode = s.mode ∧ (State.endTransaction s k m).time = s.time
    ∧ (State.endTransaction s k m).xan = s.xan ∧ (State.endTransaction s k m).sess = s.sess ∧ (State.endTransaction s k m).sig = s.sig
    ∧ (State.endTransaction s k m).disp = s.disp ∧ (State.endTransaction s k m).drift = s.drift ∧ (State.endTransaction s k m).firn = s.firn
    ∧ (State.endTransaction s k m).prog = s.prog ∧ (State.endTransaction s k m).pair = s.pair ∧ (State.endTransaction s k m).hub = s.hub
    ∧ (State.endTransaction s k m).guard = s.guard ∧ (State.endTransaction s k m).moraine = s.moraine ∧ (State.endTransaction s k m).capture = s.capture
    ∧ (State.endTransaction s k m).eth = s.eth ∧ (State.endTransaction s k m).can = s.can ∧ (State.endTransaction s k m).field = s.field
    ∧ (State.endTransaction s k m).sedge = s.sedge ∧ (State.endTransaction s k m).mem = s.mem ∧ (State.endTransaction s k m).draws = s.draws
    ∧ (State.endTransaction s k m).pending = s.pending := by
  unfold State.endTransaction; simp only []; split <;> simp
@[simp] theorem resetLink_same (s : State) (k : Nat) : (State.resetLink s k).mode = s.mode ∧ (State.resetLink s k).time = s.time
    ∧ (State.resetLink s k).xan = s.xan ∧ (State.resetLink s k).sess = s.sess ∧ (State.resetLink s k).sig = s.sig ∧ (State.resetLink s k).disp = s.disp
    ∧ (State.resetLink s k).drift = s.drift ∧ (State.resetLink s k).firn = s.firn ∧ (State.resetLink s k).prog = s.prog ∧ (State.resetLink s k).pair = s.pair
    ∧ (State.resetLink s k).hub = s.hub ∧ (State.resetLink s k).guard = s.guard ∧ (State.resetLink s k).moraine = s.moraine
    ∧ (State.resetLink s k).capture = s.capture ∧ (State.resetLink s k).eth = s.eth ∧ (State.resetLink s k).can = s.can ∧ (State.resetLink s k).field = s.field
    ∧ (State.resetLink s k).sedge = s.sedge ∧ (State.resetLink s k).mem = s.mem ∧ (State.resetLink s k).draws = s.draws
    ∧ (State.resetLink s k).pending = s.pending := by
  unfold State.resetLink; simp
@[simp] theorem coldLinks_same (s : State) : (State.coldLinks s).mode = s.mode ∧ (State.coldLinks s).time = s.time ∧ (State.coldLinks s).xan = s.xan
    ∧ (State.coldLinks s).sess = s.sess ∧ (State.coldLinks s).sig = s.sig ∧ (State.coldLinks s).disp = s.disp ∧ (State.coldLinks s).drift = s.drift
    ∧ (State.coldLinks s).firn = s.firn ∧ (State.coldLinks s).prog = s.prog ∧ (State.coldLinks s).pair = s.pair ∧ (State.coldLinks s).hub = s.hub
    ∧ (State.coldLinks s).guard = s.guard ∧ (State.coldLinks s).moraine = s.moraine ∧ (State.coldLinks s).capture = s.capture ∧ (State.coldLinks s).eth = s.eth
    ∧ (State.coldLinks s).can = s.can ∧ (State.coldLinks s).field = s.field ∧ (State.coldLinks s).sedge = s.sedge ∧ (State.coldLinks s).mem = s.mem
    ∧ (State.coldLinks s).draws = s.draws ∧ (State.coldLinks s).pending = s.pending := by
  unfold State.coldLinks; simp
@[simp] theorem triggerFrom_same (s : State) (code severity source unit : Nat) (words : List Word) (post : Option Nat) : (State.triggerFrom s code severity source unit words post).mode = s.mode
    ∧ (State.triggerFrom s code severity source unit words post).time = s.time ∧ (State.triggerFrom s code severity source unit words post).xan = s.xan
    ∧ (State.triggerFrom s code severity source unit words post).sess = s.sess ∧ (State.triggerFrom s code severity source unit words post).sig = s.sig
    ∧ (State.triggerFrom s code severity source unit words post).disp = s.disp ∧ (State.triggerFrom s code severity source unit words post).drift = s.drift
    ∧ (State.triggerFrom s code severity source unit words post).firn = s.firn ∧ (State.triggerFrom s code severity source unit words post).prog = s.prog
    ∧ (State.triggerFrom s code severity source unit words post).pair = s.pair ∧ (State.triggerFrom s code severity source unit words post).hub = s.hub
    ∧ (State.triggerFrom s code severity source unit words post).guard = s.guard
    ∧ (State.triggerFrom s code severity source unit words post).capture = s.capture ∧ (State.triggerFrom s code severity source unit words post).link = s.link
    ∧ (State.triggerFrom s code severity source unit words post).eth = s.eth ∧ (State.triggerFrom s code severity source unit words post).can = s.can
    ∧ (State.triggerFrom s code severity source unit words post).field = s.field ∧ (State.triggerFrom s code severity source unit words post).sedge = s.sedge
    ∧ (State.triggerFrom s code severity source unit words post).mem = s.mem ∧ (State.triggerFrom s code severity source unit words post).draws = s.draws
    ∧ (State.triggerFrom s code severity source unit words post).pending = s.pending := by
  unfold State.triggerFrom; simp
@[simp] theorem trigger_same (s : State) (code : Nat) (words : List Nat) (unit : Nat) : (State.trigger s code words unit).mode = s.mode
    ∧ (State.trigger s code words unit).time = s.time ∧ (State.trigger s code words unit).xan = s.xan ∧ (State.trigger s code words unit).sess = s.sess
    ∧ (State.trigger s code words unit).sig = s.sig ∧ (State.trigger s code words unit).disp = s.disp ∧ (State.trigger s code words unit).drift = s.drift
    ∧ (State.trigger s code words unit).firn = s.firn ∧ (State.trigger s code words unit).prog = s.prog ∧ (State.trigger s code words unit).pair = s.pair
    ∧ (State.trigger s code words unit).hub = s.hub ∧ (State.trigger s code words unit).guard = s.guard ∧ (State.trigger s code words unit).capture = s.capture
    ∧ (State.trigger s code words unit).link = s.link ∧ (State.trigger s code words unit).eth = s.eth ∧ (State.trigger s code words unit).can = s.can
    ∧ (State.trigger s code words unit).field = s.field ∧ (State.trigger s code words unit).sedge = s.sedge ∧ (State.trigger s code words unit).mem = s.mem
    ∧ (State.trigger s code words unit).draws = s.draws ∧ (State.trigger s code words unit).pending = s.pending := by
  unfold State.trigger; simp
@[simp] theorem produce_same (s : State) (q : Nat) (entry : List Word) : (State.produce s q entry).mode = s.mode ∧ (State.produce s q entry).time = s.time
    ∧ (State.produce s q entry).xan = s.xan ∧ (State.produce s q entry).sess = s.sess ∧ (State.produce s q entry).sig = s.sig
    ∧ (State.produce s q entry).drift = s.drift ∧ (State.produce s q entry).firn = s.firn ∧ (State.produce s q entry).prog = s.prog
    ∧ (State.produce s q entry).pair = s.pair ∧ (State.produce s q entry).hub = s.hub ∧ (State.produce s q entry).guard = s.guard
    ∧ (State.produce s q entry).capture = s.capture ∧ (State.produce s q entry).link = s.link ∧ (State.produce s q entry).eth = s.eth
    ∧ (State.produce s q entry).can = s.can ∧ (State.produce s q entry).field = s.field ∧ (State.produce s q entry).sedge = s.sedge
    ∧ (State.produce s q entry).mem = s.mem ∧ (State.produce s q entry).draws = s.draws ∧ (State.produce s q entry).pending = s.pending := by
  unfold State.produce; simp
@[simp] theorem produceOpen_same (s : State) (q : Nat) : (State.produceOpen s q).mode = s.mode ∧ (State.produceOpen s q).time = s.time
    ∧ (State.produceOpen s q).xan = s.xan ∧ (State.produceOpen s q).sess = s.sess ∧ (State.produceOpen s q).sig = s.sig
    ∧ (State.produceOpen s q).drift = s.drift ∧ (State.produceOpen s q).firn = s.firn ∧ (State.produceOpen s q).prog = s.prog
    ∧ (State.produceOpen s q).pair = s.pair ∧ (State.produceOpen s q).hub = s.hub ∧ (State.produceOpen s q).guard = s.guard
    ∧ (State.produceOpen s q).capture = s.capture ∧ (State.produceOpen s q).link = s.link ∧ (State.produceOpen s q).eth = s.eth
    ∧ (State.produceOpen s q).can = s.can ∧ (State.produceOpen s q).field = s.field ∧ (State.produceOpen s q).sedge = s.sedge
    ∧ (State.produceOpen s q).mem = s.mem ∧ (State.produceOpen s q).pending = s.pending := by
  unfold State.produceOpen; simp
@[simp] theorem sendSync_same (s : State) (m : SyncOut) : (State.sendSync s m).mode = s.mode ∧ (State.sendSync s m).time = s.time
    ∧ (State.sendSync s m).xan = s.xan ∧ (State.sendSync s m).sess = s.sess ∧ (State.sendSync s m).sig = s.sig ∧ (State.sendSync s m).disp = s.disp
    ∧ (State.sendSync s m).drift = s.drift ∧ (State.sendSync s m).firn = s.firn ∧ (State.sendSync s m).prog = s.prog ∧ (State.sendSync s m).hub = s.hub
    ∧ (State.sendSync s m).guard = s.guard ∧ (State.sendSync s m).moraine = s.moraine ∧ (State.sendSync s m).capture = s.capture
    ∧ (State.sendSync s m).link = s.link ∧ (State.sendSync s m).eth = s.eth ∧ (State.sendSync s m).can = s.can ∧ (State.sendSync s m).field = s.field
    ∧ (State.sendSync s m).sedge = s.sedge ∧ (State.sendSync s m).mem = s.mem ∧ (State.sendSync s m).draws = s.draws
    ∧ (State.sendSync s m).pending = s.pending := by
  unfold State.sendSync; simp
@[simp] theorem canEntry_same (s : State) (c obj kind : Nat) (ident : Nat) (dlc flags : Nat) : (State.canEntry s c obj kind ident dlc flags).mode = s.mode
    ∧ (State.canEntry s c obj kind ident dlc flags).time = s.time ∧ (State.canEntry s c obj kind ident dlc flags).xan = s.xan
    ∧ (State.canEntry s c obj kind ident dlc flags).sess = s.sess ∧ (State.canEntry s c obj kind ident dlc flags).sig = s.sig
    ∧ (State.canEntry s c obj kind ident dlc flags).drift = s.drift ∧ (State.canEntry s c obj kind ident dlc flags).firn = s.firn
    ∧ (State.canEntry s c obj kind ident dlc flags).prog = s.prog ∧ (State.canEntry s c obj kind ident dlc flags).pair = s.pair
    ∧ (State.canEntry s c obj kind ident dlc flags).hub = s.hub ∧ (State.canEntry s c obj kind ident dlc flags).guard = s.guard
    ∧ (State.canEntry s c obj kind ident dlc flags).capture = s.capture ∧ (State.canEntry s c obj kind ident dlc flags).link = s.link
    ∧ (State.canEntry s c obj kind ident dlc flags).eth = s.eth ∧ (State.canEntry s c obj kind ident dlc flags).can = s.can
    ∧ (State.canEntry s c obj kind ident dlc flags).field = s.field ∧ (State.canEntry s c obj kind ident dlc flags).sedge = s.sedge
    ∧ (State.canEntry s c obj kind ident dlc flags).mem = s.mem ∧ (State.canEntry s c obj kind ident dlc flags).draws = s.draws
    ∧ (State.canEntry s c obj kind ident dlc flags).pending = s.pending := by
  unfold State.canEntry; simp
@[simp] theorem setObj_same (s : State) (c m : Nat) (x : MsgObj) : (State.setObj s c m x).mode = s.mode ∧ (State.setObj s c m x).time = s.time
    ∧ (State.setObj s c m x).xan = s.xan ∧ (State.setObj s c m x).sess = s.sess ∧ (State.setObj s c m x).sig = s.sig ∧ (State.setObj s c m x).disp = s.disp
    ∧ (State.setObj s c m x).drift = s.drift ∧ (State.setObj s c m x).firn = s.firn ∧ (State.setObj s c m x).prog = s.prog
    ∧ (State.setObj s c m x).pair = s.pair ∧ (State.setObj s c m x).hub = s.hub ∧ (State.setObj s c m x).guard = s.guard
    ∧ (State.setObj s c m x).moraine = s.moraine ∧ (State.setObj s c m x).capture = s.capture ∧ (State.setObj s c m x).link = s.link
    ∧ (State.setObj s c m x).eth = s.eth ∧ (State.setObj s c m x).field = s.field ∧ (State.setObj s c m x).sedge = s.sedge ∧ (State.setObj s c m x).mem = s.mem
    ∧ (State.setObj s c m x).draws = s.draws ∧ (State.setObj s c m x).pending = s.pending := by
  unfold State.setObj; simp
@[simp] theorem objEntry_same (s : State) (c m kind : Nat) : (State.objEntry s c m kind).mode = s.mode ∧ (State.objEntry s c m kind).time = s.time
    ∧ (State.objEntry s c m kind).xan = s.xan ∧ (State.objEntry s c m kind).sess = s.sess ∧ (State.objEntry s c m kind).sig = s.sig
    ∧ (State.objEntry s c m kind).drift = s.drift ∧ (State.objEntry s c m kind).firn = s.firn ∧ (State.objEntry s c m kind).prog = s.prog
    ∧ (State.objEntry s c m kind).pair = s.pair ∧ (State.objEntry s c m kind).hub = s.hub ∧ (State.objEntry s c m kind).guard = s.guard
    ∧ (State.objEntry s c m kind).capture = s.capture ∧ (State.objEntry s c m kind).link = s.link ∧ (State.objEntry s c m kind).eth = s.eth
    ∧ (State.objEntry s c m kind).can = s.can ∧ (State.objEntry s c m kind).field = s.field ∧ (State.objEntry s c m kind).sedge = s.sedge
    ∧ (State.objEntry s c m kind).mem = s.mem ∧ (State.objEntry s c m kind).draws = s.draws ∧ (State.objEntry s c m kind).pending = s.pending := by
  unfold State.objEntry; simp
@[simp] theorem endNotOwner_same (s : State) (c m : Nat) : (State.endNotOwner s c m).mode = s.mode ∧ (State.endNotOwner s c m).time = s.time
    ∧ (State.endNotOwner s c m).xan = s.xan ∧ (State.endNotOwner s c m).sess = s.sess ∧ (State.endNotOwner s c m).sig = s.sig
    ∧ (State.endNotOwner s c m).drift = s.drift ∧ (State.endNotOwner s c m).firn = s.firn ∧ (State.endNotOwner s c m).prog = s.prog
    ∧ (State.endNotOwner s c m).pair = s.pair ∧ (State.endNotOwner s c m).hub = s.hub ∧ (State.endNotOwner s c m).guard = s.guard
    ∧ (State.endNotOwner s c m).capture = s.capture ∧ (State.endNotOwner s c m).link = s.link ∧ (State.endNotOwner s c m).eth = s.eth
    ∧ (State.endNotOwner s c m).field = s.field ∧ (State.endNotOwner s c m).sedge = s.sedge ∧ (State.endNotOwner s c m).mem = s.mem
    ∧ (State.endNotOwner s c m).draws = s.draws ∧ (State.endNotOwner s c m).pending = s.pending := by
  unfold State.endNotOwner; simp
@[simp] theorem cancelOwnerOnly_same (s : State) : (State.cancelOwnerOnly s).mode = s.mode ∧ (State.cancelOwnerOnly s).time = s.time
    ∧ (State.cancelOwnerOnly s).xan = s.xan ∧ (State.cancelOwnerOnly s).sess = s.sess ∧ (State.cancelOwnerOnly s).sig = s.sig
    ∧ (State.cancelOwnerOnly s).drift = s.drift ∧ (State.cancelOwnerOnly s).firn = s.firn ∧ (State.cancelOwnerOnly s).prog = s.prog
    ∧ (State.cancelOwnerOnly s).pair = s.pair ∧ (State.cancelOwnerOnly s).hub = s.hub ∧ (State.cancelOwnerOnly s).guard = s.guard
    ∧ (State.cancelOwnerOnly s).capture = s.capture ∧ (State.cancelOwnerOnly s).link = s.link ∧ (State.cancelOwnerOnly s).eth = s.eth
    ∧ (State.cancelOwnerOnly s).field = s.field ∧ (State.cancelOwnerOnly s).sedge = s.sedge ∧ (State.cancelOwnerOnly s).mem = s.mem
    ∧ (State.cancelOwnerOnly s).draws = s.draws ∧ (State.cancelOwnerOnly s).pending = s.pending := by
  unfold State.cancelOwnerOnly; simp
@[simp] theorem dropAttempts_same (s : State) (c : Nat) : (State.dropAttempts s c).mode = s.mode ∧ (State.dropAttempts s c).time = s.time
    ∧ (State.dropAttempts s c).xan = s.xan ∧ (State.dropAttempts s c).sess = s.sess ∧ (State.dropAttempts s c).sig = s.sig
    ∧ (State.dropAttempts s c).drift = s.drift ∧ (State.dropAttempts s c).firn = s.firn ∧ (State.dropAttempts s c).prog = s.prog
    ∧ (State.dropAttempts s c).pair = s.pair ∧ (State.dropAttempts s c).hub = s.hub ∧ (State.dropAttempts s c).guard = s.guard
    ∧ (State.dropAttempts s c).capture = s.capture ∧ (State.dropAttempts s c).link = s.link ∧ (State.dropAttempts s c).eth = s.eth
    ∧ (State.dropAttempts s c).field = s.field ∧ (State.dropAttempts s c).sedge = s.sedge ∧ (State.dropAttempts s c).mem = s.mem
    ∧ (State.dropAttempts s c).draws = s.draws ∧ (State.dropAttempts s c).pending = s.pending := by
  unfold State.dropAttempts; simp
@[simp] theorem fenceCan_same (s : State) (c : Nat) : (State.fenceCan s c).mode = s.mode ∧ (State.fenceCan s c).time = s.time ∧ (State.fenceCan s c).xan = s.xan
    ∧ (State.fenceCan s c).sess = s.sess ∧ (State.fenceCan s c).sig = s.sig ∧ (State.fenceCan s c).drift = s.drift ∧ (State.fenceCan s c).firn = s.firn
    ∧ (State.fenceCan s c).prog = s.prog ∧ (State.fenceCan s c).pair = s.pair ∧ (State.fenceCan s c).hub = s.hub ∧ (State.fenceCan s c).guard = s.guard
    ∧ (State.fenceCan s c).capture = s.capture ∧ (State.fenceCan s c).link = s.link ∧ (State.fenceCan s c).eth = s.eth ∧ (State.fenceCan s c).field = s.field
    ∧ (State.fenceCan s c).sedge = s.sedge ∧ (State.fenceCan s c).mem = s.mem ∧ (State.fenceCan s c).draws = s.draws
    ∧ (State.fenceCan s c).pending = s.pending := by
  unfold State.fenceCan; simp
@[simp] theorem leaveCold_same (s : State) : (State.leaveCold s).time = s.time ∧ (State.leaveCold s).xan = s.xan ∧ (State.leaveCold s).sess = s.sess
    ∧ (State.leaveCold s).sig = s.sig ∧ (State.leaveCold s).disp = s.disp ∧ (State.leaveCold s).drift = s.drift ∧ (State.leaveCold s).firn = s.firn
    ∧ (State.leaveCold s).prog = s.prog ∧ (State.leaveCold s).pair = s.pair ∧ (State.leaveCold s).hub = s.hub ∧ (State.leaveCold s).guard = s.guard
    ∧ (State.leaveCold s).moraine = s.moraine ∧ (State.leaveCold s).capture = s.capture ∧ (State.leaveCold s).link = s.link ∧ (State.leaveCold s).eth = s.eth
    ∧ (State.leaveCold s).field = s.field ∧ (State.leaveCold s).sedge = s.sedge ∧ (State.leaveCold s).mem = s.mem ∧ (State.leaveCold s).draws = s.draws
    ∧ (State.leaveCold s).pending = s.pending := by
  unfold State.leaveCold; simp
@[simp] theorem trimRecord_same (s : State) (t : Trim) (session : Word) : (State.trimRecord s t session).mode = s.mode
    ∧ (State.trimRecord s t session).time = s.time ∧ (State.trimRecord s t session).xan = s.xan ∧ (State.trimRecord s t session).sess = s.sess
    ∧ (State.trimRecord s t session).sig = s.sig ∧ (State.trimRecord s t session).disp = s.disp ∧ (State.trimRecord s t session).drift = s.drift
    ∧ (State.trimRecord s t session).firn = s.firn ∧ (State.trimRecord s t session).prog = s.prog ∧ (State.trimRecord s t session).pair = s.pair
    ∧ (State.trimRecord s t session).hub = s.hub ∧ (State.trimRecord s t session).guard = s.guard ∧ (State.trimRecord s t session).capture = s.capture
    ∧ (State.trimRecord s t session).link = s.link ∧ (State.trimRecord s t session).eth = s.eth ∧ (State.trimRecord s t session).can = s.can
    ∧ (State.trimRecord s t session).field = s.field ∧ (State.trimRecord s t session).sedge = s.sedge ∧ (State.trimRecord s t session).mem = s.mem
    ∧ (State.trimRecord s t session).draws = s.draws ∧ (State.trimRecord s t session).pending = s.pending := by
  unfold State.trimRecord; simp
@[simp] theorem cancelTrim_same (s : State) (session : Option Word) : (State.cancelTrim s session).mode = s.mode ∧ (State.cancelTrim s session).time = s.time
    ∧ (State.cancelTrim s session).xan = s.xan ∧ (State.cancelTrim s session).sess = s.sess ∧ (State.cancelTrim s session).disp = s.disp
    ∧ (State.cancelTrim s session).drift = s.drift ∧ (State.cancelTrim s session).firn = s.firn ∧ (State.cancelTrim s session).prog = s.prog
    ∧ (State.cancelTrim s session).pair = s.pair ∧ (State.cancelTrim s session).hub = s.hub ∧ (State.cancelTrim s session).guard = s.guard
    ∧ (State.cancelTrim s session).capture = s.capture ∧ (State.cancelTrim s session).link = s.link ∧ (State.cancelTrim s session).eth = s.eth
    ∧ (State.cancelTrim s session).can = s.can ∧ (State.cancelTrim s session).sedge = s.sedge ∧ (State.cancelTrim s session).mem = s.mem
    ∧ (State.cancelTrim s session).draws = s.draws ∧ (State.cancelTrim s session).pending = s.pending := by
  unfold State.cancelTrim; simp
@[simp] theorem cancelOutputTrim_same (s : State) : (State.cancelOutputTrim s).mode = s.mode ∧ (State.cancelOutputTrim s).time = s.time
    ∧ (State.cancelOutputTrim s).xan = s.xan ∧ (State.cancelOutputTrim s).sess = s.sess ∧ (State.cancelOutputTrim s).disp = s.disp
    ∧ (State.cancelOutputTrim s).drift = s.drift ∧ (State.cancelOutputTrim s).firn = s.firn ∧ (State.cancelOutputTrim s).prog = s.prog
    ∧ (State.cancelOutputTrim s).pair = s.pair ∧ (State.cancelOutputTrim s).hub = s.hub ∧ (State.cancelOutputTrim s).guard = s.guard
    ∧ (State.cancelOutputTrim s).capture = s.capture ∧ (State.cancelOutputTrim s).link = s.link ∧ (State.cancelOutputTrim s).eth = s.eth
    ∧ (State.cancelOutputTrim s).can = s.can ∧ (State.cancelOutputTrim s).sedge = s.sedge ∧ (State.cancelOutputTrim s).mem = s.mem
    ∧ (State.cancelOutputTrim s).draws = s.draws ∧ (State.cancelOutputTrim s).pending = s.pending := by
  unfold State.cancelOutputTrim; simp
@[simp] theorem cancelGroupTrim_same (s : State) (g : Nat) : (State.cancelGroupTrim s g).mode = s.mode ∧ (State.cancelGroupTrim s g).time = s.time
    ∧ (State.cancelGroupTrim s g).xan = s.xan ∧ (State.cancelGroupTrim s g).sess = s.sess ∧ (State.cancelGroupTrim s g).disp = s.disp
    ∧ (State.cancelGroupTrim s g).drift = s.drift ∧ (State.cancelGroupTrim s g).firn = s.firn ∧ (State.cancelGroupTrim s g).prog = s.prog
    ∧ (State.cancelGroupTrim s g).pair = s.pair ∧ (State.cancelGroupTrim s g).hub = s.hub ∧ (State.cancelGroupTrim s g).guard = s.guard
    ∧ (State.cancelGroupTrim s g).capture = s.capture ∧ (State.cancelGroupTrim s g).link = s.link ∧ (State.cancelGroupTrim s g).eth = s.eth
    ∧ (State.cancelGroupTrim s g).can = s.can ∧ (State.cancelGroupTrim s g).sedge = s.sedge ∧ (State.cancelGroupTrim s g).mem = s.mem
    ∧ (State.cancelGroupTrim s g).draws = s.draws ∧ (State.cancelGroupTrim s g).pending = s.pending := by
  unfold State.cancelGroupTrim; simp
@[simp] theorem gatesChanged_same (s : State) : (State.gatesChanged s).mode = s.mode ∧ (State.gatesChanged s).time = s.time ∧ (State.gatesChanged s).xan = s.xan
    ∧ (State.gatesChanged s).sess = s.sess ∧ (State.gatesChanged s).drift = s.drift ∧ (State.gatesChanged s).firn = s.firn
    ∧ (State.gatesChanged s).prog = s.prog ∧ (State.gatesChanged s).pair = s.pair ∧ (State.gatesChanged s).hub = s.hub ∧ (State.gatesChanged s).guard = s.guard
    ∧ (State.gatesChanged s).capture = s.capture ∧ (State.gatesChanged s).link = s.link ∧ (State.gatesChanged s).eth = s.eth
    ∧ (State.gatesChanged s).sedge = s.sedge ∧ (State.gatesChanged s).mem = s.mem ∧ (State.gatesChanged s).draws = s.draws
    ∧ (State.gatesChanged s).pending = s.pending := by
  unfold State.gatesChanged; simp
@[simp] theorem pin_same (s : State) (t : Nat) : (State.pin s t).mode = s.mode ∧ (State.pin s t).time = s.time ∧ (State.pin s t).xan = s.xan
    ∧ (State.pin s t).sess = s.sess ∧ (State.pin s t).sig = s.sig ∧ (State.pin s t).disp = s.disp ∧ (State.pin s t).firn = s.firn
    ∧ (State.pin s t).prog = s.prog ∧ (State.pin s t).pair = s.pair ∧ (State.pin s t).hub = s.hub ∧ (State.pin s t).guard = s.guard
    ∧ (State.pin s t).moraine = s.moraine ∧ (State.pin s t).capture = s.capture ∧ (State.pin s t).link = s.link ∧ (State.pin s t).eth = s.eth
    ∧ (State.pin s t).can = s.can ∧ (State.pin s t).field = s.field ∧ (State.pin s t).sedge = s.sedge ∧ (State.pin s t).mem = s.mem
    ∧ (State.pin s t).draws = s.draws ∧ (State.pin s t).pending = s.pending := by
  unfold State.pin; simp
@[simp] theorem modeRecord_same (s : State) (step : Nat) (old target : Mode) (result : Nat) (session : Word) : (State.modeRecord s step old target result session).mode = s.mode
    ∧ (State.modeRecord s step old target result session).time = s.time ∧ (State.modeRecord s step old target result session).xan = s.xan
    ∧ (State.modeRecord s step old target result session).sess = s.sess ∧ (State.modeRecord s step old target result session).sig = s.sig
    ∧ (State.modeRecord s step old target result session).disp = s.disp ∧ (State.modeRecord s step old target result session).drift = s.drift
    ∧ (State.modeRecord s step old target result session).firn = s.firn ∧ (State.modeRecord s step old target result session).prog = s.prog
    ∧ (State.modeRecord s step old target result session).pair = s.pair ∧ (State.modeRecord s step old target result session).hub = s.hub
    ∧ (State.modeRecord s step old target result session).guard = s.guard ∧ (State.modeRecord s step old target result session).capture = s.capture
    ∧ (State.modeRecord s step old target result session).link = s.link ∧ (State.modeRecord s step old target result session).eth = s.eth
    ∧ (State.modeRecord s step old target result session).can = s.can ∧ (State.modeRecord s step old target result session).field = s.field
    ∧ (State.modeRecord s step old target result session).sedge = s.sedge ∧ (State.modeRecord s step old target result session).mem = s.mem
    ∧ (State.modeRecord s step old target result session).draws = s.draws ∧ (State.modeRecord s step old target result session).pending = s.pending := by
  unfold State.modeRecord; simp
@[simp] theorem endDebug_same (s : State) : (State.endDebug s).mode = s.mode ∧ (State.endDebug s).time = s.time ∧ (State.endDebug s).xan = s.xan
    ∧ (State.endDebug s).sess = s.sess ∧ (State.endDebug s).sig = s.sig ∧ (State.endDebug s).prog = s.prog ∧ (State.endDebug s).pair = s.pair
    ∧ (State.endDebug s).hub = s.hub ∧ (State.endDebug s).capture = s.capture ∧ (State.endDebug s).link = s.link ∧ (State.endDebug s).eth = s.eth
    ∧ (State.endDebug s).can = s.can ∧ (State.endDebug s).field = s.field ∧ (State.endDebug s).sedge = s.sedge ∧ (State.endDebug s).mem = s.mem
    ∧ (State.endDebug s).pending = s.pending := by
  unfold State.endDebug; simp
@[simp] theorem leaveService_same (s : State) (now : Bool) : (State.leaveService s now).mode = s.mode ∧ (State.leaveService s now).time = s.time
    ∧ (State.leaveService s now).xan = s.xan ∧ (State.leaveService s now).sig = s.sig ∧ (State.leaveService s now).prog = s.prog
    ∧ (State.leaveService s now).pair = s.pair ∧ (State.leaveService s now).hub = s.hub ∧ (State.leaveService s now).capture = s.capture
    ∧ (State.leaveService s now).link = s.link ∧ (State.leaveService s now).eth = s.eth ∧ (State.leaveService s now).can = s.can
    ∧ (State.leaveService s now).field = s.field ∧ (State.leaveService s now).sedge = s.sedge ∧ (State.leaveService s now).mem = s.mem
    ∧ (State.leaveService s now).pending = s.pending := by
  unfold State.leaveService; simp
@[simp] theorem safeLeft_same (s : State) (old : Mode) : (State.safeLeft s old).mode = s.mode ∧ (State.safeLeft s old).time = s.time
    ∧ (State.safeLeft s old).xan = s.xan ∧ (State.safeLeft s old).sess = s.sess ∧ (State.safeLeft s old).sig = s.sig ∧ (State.safeLeft s old).disp = s.disp
    ∧ (State.safeLeft s old).drift = s.drift ∧ (State.safeLeft s old).firn = s.firn ∧ (State.safeLeft s old).prog = s.prog
    ∧ (State.safeLeft s old).pair = s.pair ∧ (State.safeLeft s old).guard = s.guard ∧ (State.safeLeft s old).capture = s.capture
    ∧ (State.safeLeft s old).link = s.link ∧ (State.safeLeft s old).eth = s.eth ∧ (State.safeLeft s old).can = s.can ∧ (State.safeLeft s old).field = s.field
    ∧ (State.safeLeft s old).sedge = s.sedge ∧ (State.safeLeft s old).mem = s.mem ∧ (State.safeLeft s old).draws = s.draws
    ∧ (State.safeLeft s old).pending = s.pending := by
  unfold State.safeLeft; simp
@[simp] theorem immediate_same (s : State) (m : Mode) (session : Word) : (State.immediate s m session).time = s.time ∧ (State.immediate s m session).xan = s.xan
    ∧ (State.immediate s m session).prog = s.prog ∧ (State.immediate s m session).capture = s.capture ∧ (State.immediate s m session).eth = s.eth
    ∧ (State.immediate s m session).sedge = s.sedge ∧ (State.immediate s m session).mem = s.mem ∧ (State.immediate s m session).pending = s.pending := by
  unfold State.immediate; simp
@[simp] theorem tellEpoch_same (s : State) (commit : Ns) (immediate : Bool) : (State.tellEpoch s commit immediate).mode = s.mode
    ∧ (State.tellEpoch s commit immediate).time = s.time ∧ (State.tellEpoch s commit immediate).xan = s.xan ∧ (State.tellEpoch s commit immediate).sess = s.sess
    ∧ (State.tellEpoch s commit immediate).sig = s.sig ∧ (State.tellEpoch s commit immediate).disp = s.disp
    ∧ (State.tellEpoch s commit immediate).drift = s.drift ∧ (State.tellEpoch s commit immediate).firn = s.firn
    ∧ (State.tellEpoch s commit immediate).prog = s.prog ∧ (State.tellEpoch s commit immediate).hub = s.hub
    ∧ (State.tellEpoch s commit immediate).guard = s.guard ∧ (State.tellEpoch s commit immediate).moraine = s.moraine
    ∧ (State.tellEpoch s commit immediate).capture = s.capture ∧ (State.tellEpoch s commit immediate).link = s.link
    ∧ (State.tellEpoch s commit immediate).eth = s.eth ∧ (State.tellEpoch s commit immediate).can = s.can ∧ (State.tellEpoch s commit immediate).field = s.field
    ∧ (State.tellEpoch s commit immediate).sedge = s.sedge ∧ (State.tellEpoch s commit immediate).mem = s.mem
    ∧ (State.tellEpoch s commit immediate).draws = s.draws ∧ (State.tellEpoch s commit immediate).pending = s.pending := by
  unfold State.tellEpoch; simp
@[simp] theorem setTask_same (s : State) (t : Nat) (f : TaskSt → TaskSt) : (State.setTask s t f).mode = s.mode ∧ (State.setTask s t f).time = s.time
    ∧ (State.setTask s t f).xan = s.xan ∧ (State.setTask s t f).sess = s.sess ∧ (State.setTask s t f).sig = s.sig ∧ (State.setTask s t f).drift = s.drift
    ∧ (State.setTask s t f).firn = s.firn ∧ (State.setTask s t f).prog = s.prog ∧ (State.setTask s t f).pair = s.pair ∧ (State.setTask s t f).hub = s.hub
    ∧ (State.setTask s t f).guard = s.guard ∧ (State.setTask s t f).moraine = s.moraine ∧ (State.setTask s t f).capture = s.capture
    ∧ (State.setTask s t f).link = s.link ∧ (State.setTask s t f).eth = s.eth ∧ (State.setTask s t f).can = s.can ∧ (State.setTask s t f).field = s.field
    ∧ (State.setTask s t f).sedge = s.sedge ∧ (State.setTask s t f).mem = s.mem ∧ (State.setTask s t f).draws = s.draws
    ∧ (State.setTask s t f).pending = s.pending := by
  unfold State.setTask; simp
@[simp] theorem setRelease_same (s : State) (t : Nat) (f : Release → Release) : (State.setRelease s t f).mode = s.mode ∧ (State.setRelease s t f).time = s.time
    ∧ (State.setRelease s t f).xan = s.xan ∧ (State.setRelease s t f).sess = s.sess ∧ (State.setRelease s t f).sig = s.sig
    ∧ (State.setRelease s t f).drift = s.drift ∧ (State.setRelease s t f).firn = s.firn ∧ (State.setRelease s t f).prog = s.prog
    ∧ (State.setRelease s t f).pair = s.pair ∧ (State.setRelease s t f).hub = s.hub ∧ (State.setRelease s t f).guard = s.guard
    ∧ (State.setRelease s t f).moraine = s.moraine ∧ (State.setRelease s t f).capture = s.capture ∧ (State.setRelease s t f).link = s.link
    ∧ (State.setRelease s t f).eth = s.eth ∧ (State.setRelease s t f).can = s.can ∧ (State.setRelease s t f).field = s.field
    ∧ (State.setRelease s t f).sedge = s.sedge ∧ (State.setRelease s t f).mem = s.mem ∧ (State.setRelease s t f).draws = s.draws
    ∧ (State.setRelease s t f).pending = s.pending := by
  unfold State.setRelease; simp
@[simp] theorem clearAreas_same (s : State) (t : Nat) : (State.clearAreas s t).mode = s.mode ∧ (State.clearAreas s t).time = s.time
    ∧ (State.clearAreas s t).xan = s.xan ∧ (State.clearAreas s t).sess = s.sess ∧ (State.clearAreas s t).sig = s.sig ∧ (State.clearAreas s t).disp = s.disp
    ∧ (State.clearAreas s t).drift = s.drift ∧ (State.clearAreas s t).prog = s.prog ∧ (State.clearAreas s t).pair = s.pair ∧ (State.clearAreas s t).hub = s.hub
    ∧ (State.clearAreas s t).guard = s.guard ∧ (State.clearAreas s t).moraine = s.moraine ∧ (State.clearAreas s t).capture = s.capture
    ∧ (State.clearAreas s t).link = s.link ∧ (State.clearAreas s t).eth = s.eth ∧ (State.clearAreas s t).can = s.can ∧ (State.clearAreas s t).field = s.field
    ∧ (State.clearAreas s t).sedge = s.sedge ∧ (State.clearAreas s t).mem = s.mem ∧ (State.clearAreas s t).draws = s.draws
    ∧ (State.clearAreas s t).pending = s.pending := by
  unfold State.clearAreas; simp
@[simp] theorem runNext_same (s : State) (c : Nat) : (State.runNext s c).mode = s.mode ∧ (State.runNext s c).time = s.time ∧ (State.runNext s c).xan = s.xan
    ∧ (State.runNext s c).sess = s.sess ∧ (State.runNext s c).sig = s.sig ∧ (State.runNext s c).drift = s.drift ∧ (State.runNext s c).prog = s.prog
    ∧ (State.runNext s c).pair = s.pair ∧ (State.runNext s c).hub = s.hub ∧ (State.runNext s c).guard = s.guard ∧ (State.runNext s c).moraine = s.moraine
    ∧ (State.runNext s c).capture = s.capture ∧ (State.runNext s c).link = s.link ∧ (State.runNext s c).eth = s.eth ∧ (State.runNext s c).can = s.can
    ∧ (State.runNext s c).field = s.field ∧ (State.runNext s c).sedge = s.sedge ∧ (State.runNext s c).mem = s.mem ∧ (State.runNext s c).draws = s.draws
    ∧ (State.runNext s c).pending = s.pending := by
  unfold State.runNext; (repeat' split) <;> simp
@[simp] theorem message_same (s : State) (c q : Nat) : (State.message s c q).mode = s.mode ∧ (State.message s c q).time = s.time
    ∧ (State.message s c q).xan = s.xan ∧ (State.message s c q).sess = s.sess ∧ (State.message s c q).sig = s.sig ∧ (State.message s c q).drift = s.drift
    ∧ (State.message s c q).firn = s.firn ∧ (State.message s c q).prog = s.prog ∧ (State.message s c q).pair = s.pair ∧ (State.message s c q).hub = s.hub
    ∧ (State.message s c q).guard = s.guard ∧ (State.message s c q).moraine = s.moraine ∧ (State.message s c q).capture = s.capture
    ∧ (State.message s c q).link = s.link ∧ (State.message s c q).eth = s.eth ∧ (State.message s c q).can = s.can ∧ (State.message s c q).field = s.field
    ∧ (State.message s c q).sedge = s.sedge ∧ (State.message s c q).mem = s.mem ∧ (State.message s c q).draws = s.draws
    ∧ (State.message s c q).pending = s.pending := by
  unfold State.message; simp
@[simp] theorem beginFetch_same (s : State) (f t p : Nat) : (State.beginFetch s f t p).mode = s.mode ∧ (State.beginFetch s f t p).time = s.time
    ∧ (State.beginFetch s f t p).xan = s.xan ∧ (State.beginFetch s f t p).sess = s.sess ∧ (State.beginFetch s f t p).sig = s.sig
    ∧ (State.beginFetch s f t p).disp = s.disp ∧ (State.beginFetch s f t p).firn = s.firn ∧ (State.beginFetch s f t p).prog = s.prog
    ∧ (State.beginFetch s f t p).pair = s.pair ∧ (State.beginFetch s f t p).hub = s.hub ∧ (State.beginFetch s f t p).guard = s.guard
    ∧ (State.beginFetch s f t p).moraine = s.moraine ∧ (State.beginFetch s f t p).capture = s.capture ∧ (State.beginFetch s f t p).link = s.link
    ∧ (State.beginFetch s f t p).eth = s.eth ∧ (State.beginFetch s f t p).can = s.can ∧ (State.beginFetch s f t p).field = s.field
    ∧ (State.beginFetch s f t p).sedge = s.sedge ∧ (State.beginFetch s f t p).mem = s.mem ∧ (State.beginFetch s f t p).draws = s.draws
    ∧ (State.beginFetch s f t p).pending = s.pending := by
  unfold State.beginFetch; simp
@[simp] theorem withFrame_same (s : State) (want : Nat) (fetch : Nat → State) (h : ∀ f, (fetch f).mode = s.mode ∧ (fetch f).time = s.time
    ∧ (fetch f).xan = s.xan ∧ (fetch f).sess = s.sess ∧ (fetch f).sig = s.sig ∧ (fetch f).disp = s.disp ∧ (fetch f).firn = s.firn ∧ (fetch f).prog = s.prog
    ∧ (fetch f).pair = s.pair ∧ (fetch f).hub = s.hub ∧ (fetch f).guard = s.guard ∧ (fetch f).moraine = s.moraine ∧ (fetch f).capture = s.capture
    ∧ (fetch f).link = s.link ∧ (fetch f).eth = s.eth ∧ (fetch f).can = s.can ∧ (fetch f).field = s.field ∧ (fetch f).sedge = s.sedge ∧ (fetch f).mem = s.mem
    ∧ (fetch f).draws = s.draws ∧ (fetch f).pending = s.pending) : (State.withFrame s want fetch).mode = s.mode ∧ (State.withFrame s want fetch).time = s.time
    ∧ (State.withFrame s want fetch).xan = s.xan ∧ (State.withFrame s want fetch).sess = s.sess ∧ (State.withFrame s want fetch).sig = s.sig
    ∧ (State.withFrame s want fetch).disp = s.disp ∧ (State.withFrame s want fetch).firn = s.firn ∧ (State.withFrame s want fetch).prog = s.prog
    ∧ (State.withFrame s want fetch).pair = s.pair ∧ (State.withFrame s want fetch).hub = s.hub ∧ (State.withFrame s want fetch).guard = s.guard
    ∧ (State.withFrame s want fetch).moraine = s.moraine ∧ (State.withFrame s want fetch).capture = s.capture ∧ (State.withFrame s want fetch).link = s.link
    ∧ (State.withFrame s want fetch).eth = s.eth ∧ (State.withFrame s want fetch).can = s.can ∧ (State.withFrame s want fetch).field = s.field
    ∧ (State.withFrame s want fetch).sedge = s.sedge ∧ (State.withFrame s want fetch).mem = s.mem ∧ (State.withFrame s want fetch).draws = s.draws
    ∧ (State.withFrame s want fetch).pending = s.pending := by
  unfold State.withFrame; (repeat' split) <;> simp [h]
@[simp] theorem takeFrame_same (s : State) (t p : Nat) : (State.takeFrame s t p).mode = s.mode ∧ (State.takeFrame s t p).time = s.time
    ∧ (State.takeFrame s t p).xan = s.xan ∧ (State.takeFrame s t p).sess = s.sess ∧ (State.takeFrame s t p).sig = s.sig ∧ (State.takeFrame s t p).disp = s.disp
    ∧ (State.takeFrame s t p).firn = s.firn ∧ (State.takeFrame s t p).prog = s.prog ∧ (State.takeFrame s t p).pair = s.pair
    ∧ (State.takeFrame s t p).hub = s.hub ∧ (State.takeFrame s t p).guard = s.guard ∧ (State.takeFrame s t p).moraine = s.moraine
    ∧ (State.takeFrame s t p).capture = s.capture ∧ (State.takeFrame s t p).link = s.link ∧ (State.takeFrame s t p).eth = s.eth
    ∧ (State.takeFrame s t p).can = s.can ∧ (State.takeFrame s t p).field = s.field ∧ (State.takeFrame s t p).sedge = s.sedge
    ∧ (State.takeFrame s t p).mem = s.mem ∧ (State.takeFrame s t p).draws = s.draws ∧ (State.takeFrame s t p).pending = s.pending := by
  unfold State.takeFrame; exact withFrame_same _ _ _ (fun f => by simp)
@[simp] theorem rob_same (s : State) (u : Nat) : (State.rob s u).mode = s.mode ∧ (State.rob s u).time = s.time ∧ (State.rob s u).xan = s.xan
    ∧ (State.rob s u).sess = s.sess ∧ (State.rob s u).sig = s.sig ∧ (State.rob s u).disp = s.disp ∧ (State.rob s u).firn = s.firn
    ∧ (State.rob s u).prog = s.prog ∧ (State.rob s u).pair = s.pair ∧ (State.rob s u).hub = s.hub ∧ (State.rob s u).guard = s.guard
    ∧ (State.rob s u).moraine = s.moraine ∧ (State.rob s u).capture = s.capture ∧ (State.rob s u).link = s.link ∧ (State.rob s u).eth = s.eth
    ∧ (State.rob s u).can = s.can ∧ (State.rob s u).field = s.field ∧ (State.rob s u).sedge = s.sedge ∧ (State.rob s u).mem = s.mem
    ∧ (State.rob s u).draws = s.draws ∧ (State.rob s u).pending = s.pending := by
  unfold State.rob; simp
@[simp] theorem fetchPage_same (s : State) (t p : Nat) : (State.fetchPage s t p).mode = s.mode ∧ (State.fetchPage s t p).time = s.time
    ∧ (State.fetchPage s t p).xan = s.xan ∧ (State.fetchPage s t p).sess = s.sess ∧ (State.fetchPage s t p).sig = s.sig ∧ (State.fetchPage s t p).disp = s.disp
    ∧ (State.fetchPage s t p).firn = s.firn ∧ (State.fetchPage s t p).prog = s.prog ∧ (State.fetchPage s t p).pair = s.pair
    ∧ (State.fetchPage s t p).hub = s.hub ∧ (State.fetchPage s t p).guard = s.guard ∧ (State.fetchPage s t p).moraine = s.moraine
    ∧ (State.fetchPage s t p).capture = s.capture ∧ (State.fetchPage s t p).link = s.link ∧ (State.fetchPage s t p).eth = s.eth
    ∧ (State.fetchPage s t p).can = s.can ∧ (State.fetchPage s t p).field = s.field ∧ (State.fetchPage s t p).sedge = s.sedge
    ∧ (State.fetchPage s t p).mem = s.mem ∧ (State.fetchPage s t p).draws = s.draws ∧ (State.fetchPage s t p).pending = s.pending := by
  unfold State.fetchPage; simp
@[simp] theorem serveOne_same (r : State × Bool) (t : Nat) : (State.serveOne r t).1.mode = r.1.mode ∧ (State.serveOne r t).1.time = r.1.time
    ∧ (State.serveOne r t).1.xan = r.1.xan ∧ (State.serveOne r t).1.sess = r.1.sess ∧ (State.serveOne r t).1.sig = r.1.sig
    ∧ (State.serveOne r t).1.disp = r.1.disp ∧ (State.serveOne r t).1.firn = r.1.firn ∧ (State.serveOne r t).1.prog = r.1.prog
    ∧ (State.serveOne r t).1.pair = r.1.pair ∧ (State.serveOne r t).1.hub = r.1.hub ∧ (State.serveOne r t).1.guard = r.1.guard
    ∧ (State.serveOne r t).1.moraine = r.1.moraine ∧ (State.serveOne r t).1.capture = r.1.capture ∧ (State.serveOne r t).1.link = r.1.link
    ∧ (State.serveOne r t).1.eth = r.1.eth ∧ (State.serveOne r t).1.can = r.1.can ∧ (State.serveOne r t).1.field = r.1.field
    ∧ (State.serveOne r t).1.sedge = r.1.sedge ∧ (State.serveOne r t).1.mem = r.1.mem ∧ (State.serveOne r t).1.draws = r.1.draws
    ∧ (State.serveOne r t).1.pending = r.1.pending := by
  unfold State.serveOne; (repeat' split) <;> simp
@[simp] theorem serveAll_same (l : List Nat) (r : State × Bool) : (l.foldl State.serveOne r).1.mode = r.1.mode ∧ (l.foldl State.serveOne r).1.time = r.1.time
    ∧ (l.foldl State.serveOne r).1.xan = r.1.xan ∧ (l.foldl State.serveOne r).1.sess = r.1.sess ∧ (l.foldl State.serveOne r).1.sig = r.1.sig
    ∧ (l.foldl State.serveOne r).1.disp = r.1.disp ∧ (l.foldl State.serveOne r).1.firn = r.1.firn ∧ (l.foldl State.serveOne r).1.prog = r.1.prog
    ∧ (l.foldl State.serveOne r).1.pair = r.1.pair ∧ (l.foldl State.serveOne r).1.hub = r.1.hub ∧ (l.foldl State.serveOne r).1.guard = r.1.guard
    ∧ (l.foldl State.serveOne r).1.moraine = r.1.moraine ∧ (l.foldl State.serveOne r).1.capture = r.1.capture ∧ (l.foldl State.serveOne r).1.link = r.1.link
    ∧ (l.foldl State.serveOne r).1.eth = r.1.eth ∧ (l.foldl State.serveOne r).1.can = r.1.can ∧ (l.foldl State.serveOne r).1.field = r.1.field
    ∧ (l.foldl State.serveOne r).1.sedge = r.1.sedge ∧ (l.foldl State.serveOne r).1.mem = r.1.mem ∧ (l.foldl State.serveOne r).1.draws = r.1.draws
    ∧ (l.foldl State.serveOne r).1.pending = r.1.pending := by
  induction l generalizing r with
  | nil => simp
  | cons a l ih => rw [List.foldl_cons]; simp [ih]
@[simp] theorem serveDrift_same (s : State) : (State.serveDrift s).mode = s.mode ∧ (State.serveDrift s).time = s.time ∧ (State.serveDrift s).xan = s.xan
    ∧ (State.serveDrift s).sess = s.sess ∧ (State.serveDrift s).sig = s.sig ∧ (State.serveDrift s).disp = s.disp ∧ (State.serveDrift s).firn = s.firn
    ∧ (State.serveDrift s).prog = s.prog ∧ (State.serveDrift s).pair = s.pair ∧ (State.serveDrift s).hub = s.hub ∧ (State.serveDrift s).guard = s.guard
    ∧ (State.serveDrift s).moraine = s.moraine ∧ (State.serveDrift s).capture = s.capture ∧ (State.serveDrift s).link = s.link
    ∧ (State.serveDrift s).eth = s.eth ∧ (State.serveDrift s).can = s.can ∧ (State.serveDrift s).field = s.field ∧ (State.serveDrift s).sedge = s.sedge
    ∧ (State.serveDrift s).mem = s.mem ∧ (State.serveDrift s).draws = s.draws ∧ (State.serveDrift s).pending = s.pending := by
  unfold State.serveDrift; simp
@[simp] theorem unpin_same (s : State) (t : Nat) : (State.unpin s t).mode = s.mode ∧ (State.unpin s t).time = s.time ∧ (State.unpin s t).xan = s.xan
    ∧ (State.unpin s t).sess = s.sess ∧ (State.unpin s t).sig = s.sig ∧ (State.unpin s t).disp = s.disp ∧ (State.unpin s t).firn = s.firn
    ∧ (State.unpin s t).prog = s.prog ∧ (State.unpin s t).pair = s.pair ∧ (State.unpin s t).hub = s.hub ∧ (State.unpin s t).guard = s.guard
    ∧ (State.unpin s t).moraine = s.moraine ∧ (State.unpin s t).capture = s.capture ∧ (State.unpin s t).link = s.link ∧ (State.unpin s t).eth = s.eth
    ∧ (State.unpin s t).can = s.can ∧ (State.unpin s t).field = s.field ∧ (State.unpin s t).sedge = s.sedge ∧ (State.unpin s t).mem = s.mem
    ∧ (State.unpin s t).draws = s.draws ∧ (State.unpin s t).pending = s.pending := by
  unfold State.unpin; simp
@[simp] theorem endRequest_same (s : State) (t : Nat) : (State.endRequest s t).mode = s.mode ∧ (State.endRequest s t).time = s.time
    ∧ (State.endRequest s t).xan = s.xan ∧ (State.endRequest s t).sess = s.sess ∧ (State.endRequest s t).sig = s.sig ∧ (State.endRequest s t).disp = s.disp
    ∧ (State.endRequest s t).firn = s.firn ∧ (State.endRequest s t).prog = s.prog ∧ (State.endRequest s t).pair = s.pair ∧ (State.endRequest s t).hub = s.hub
    ∧ (State.endRequest s t).guard = s.guard ∧ (State.endRequest s t).moraine = s.moraine ∧ (State.endRequest s t).capture = s.capture
    ∧ (State.endRequest s t).link = s.link ∧ (State.endRequest s t).eth = s.eth ∧ (State.endRequest s t).can = s.can ∧ (State.endRequest s t).field = s.field
    ∧ (State.endRequest s t).sedge = s.sedge ∧ (State.endRequest s t).mem = s.mem ∧ (State.endRequest s t).draws = s.draws
    ∧ (State.endRequest s t).pending = s.pending := by
  unfold State.endRequest; simp
@[simp] theorem dropPrefetch_same (s : State) (t : Nat) : (State.dropPrefetch s t).mode = s.mode ∧ (State.dropPrefetch s t).time = s.time
    ∧ (State.dropPrefetch s t).xan = s.xan ∧ (State.dropPrefetch s t).sess = s.sess ∧ (State.dropPrefetch s t).sig = s.sig
    ∧ (State.dropPrefetch s t).disp = s.disp ∧ (State.dropPrefetch s t).firn = s.firn ∧ (State.dropPrefetch s t).prog = s.prog
    ∧ (State.dropPrefetch s t).pair = s.pair ∧ (State.dropPrefetch s t).hub = s.hub ∧ (State.dropPrefetch s t).guard = s.guard
    ∧ (State.dropPrefetch s t).moraine = s.moraine ∧ (State.dropPrefetch s t).capture = s.capture ∧ (State.dropPrefetch s t).link = s.link
    ∧ (State.dropPrefetch s t).eth = s.eth ∧ (State.dropPrefetch s t).can = s.can ∧ (State.dropPrefetch s t).field = s.field
    ∧ (State.dropPrefetch s t).sedge = s.sedge ∧ (State.dropPrefetch s t).mem = s.mem ∧ (State.dropPrefetch s t).draws = s.draws
    ∧ (State.dropPrefetch s t).pending = s.pending := by
  unfold State.dropPrefetch; simp
@[simp] theorem requestPages_same (s : State) (t : Nat) : (State.requestPages s t).mode = s.mode ∧ (State.requestPages s t).time = s.time
    ∧ (State.requestPages s t).xan = s.xan ∧ (State.requestPages s t).sess = s.sess ∧ (State.requestPages s t).sig = s.sig
    ∧ (State.requestPages s t).disp = s.disp ∧ (State.requestPages s t).firn = s.firn ∧ (State.requestPages s t).prog = s.prog
    ∧ (State.requestPages s t).pair = s.pair ∧ (State.requestPages s t).hub = s.hub ∧ (State.requestPages s t).guard = s.guard
    ∧ (State.requestPages s t).moraine = s.moraine ∧ (State.requestPages s t).capture = s.capture ∧ (State.requestPages s t).link = s.link
    ∧ (State.requestPages s t).eth = s.eth ∧ (State.requestPages s t).can = s.can ∧ (State.requestPages s t).field = s.field
    ∧ (State.requestPages s t).sedge = s.sedge ∧ (State.requestPages s t).mem = s.mem ∧ (State.requestPages s t).draws = s.draws
    ∧ (State.requestPages s t).pending = s.pending := by
  unfold State.requestPages; simp
@[simp] theorem sendDelta_same (s : State) (t : Nat) (instant : Ns) (outcome : Nat) (digest : DWord) (writes : List PlainWrite) : (State.sendDelta s t instant outcome digest writes).mode = s.mode
    ∧ (State.sendDelta s t instant outcome digest writes).time = s.time ∧ (State.sendDelta s t instant outcome digest writes).xan = s.xan
    ∧ (State.sendDelta s t instant outcome digest writes).sess = s.sess ∧ (State.sendDelta s t instant outcome digest writes).sig = s.sig
    ∧ (State.sendDelta s t instant outcome digest writes).disp = s.disp ∧ (State.sendDelta s t instant outcome digest writes).drift = s.drift
    ∧ (State.sendDelta s t instant outcome digest writes).firn = s.firn ∧ (State.sendDelta s t instant outcome digest writes).prog = s.prog
    ∧ (State.sendDelta s t instant outcome digest writes).hub = s.hub ∧ (State.sendDelta s t instant outcome digest writes).guard = s.guard
    ∧ (State.sendDelta s t instant outcome digest writes).moraine = s.moraine ∧ (State.sendDelta s t instant outcome digest writes).capture = s.capture
    ∧ (State.sendDelta s t instant outcome digest writes).link = s.link ∧ (State.sendDelta s t instant outcome digest writes).eth = s.eth
    ∧ (State.sendDelta s t instant outcome digest writes).can = s.can ∧ (State.sendDelta s t instant outcome digest writes).field = s.field
    ∧ (State.sendDelta s t instant outcome digest writes).sedge = s.sedge ∧ (State.sendDelta s t instant outcome digest writes).mem = s.mem
    ∧ (State.sendDelta s t instant outcome digest writes).draws = s.draws ∧ (State.sendDelta s t instant outcome digest writes).pending = s.pending := by
  unfold State.sendDelta; simp
@[simp] theorem setFirn_same (s : State) (t : Nat) (f : FirnTask → FirnTask) : (State.setFirn s t f).mode = s.mode ∧ (State.setFirn s t f).time = s.time
    ∧ (State.setFirn s t f).xan = s.xan ∧ (State.setFirn s t f).sess = s.sess ∧ (State.setFirn s t f).sig = s.sig ∧ (State.setFirn s t f).disp = s.disp
    ∧ (State.setFirn s t f).drift = s.drift ∧ (State.setFirn s t f).prog = s.prog ∧ (State.setFirn s t f).pair = s.pair ∧ (State.setFirn s t f).hub = s.hub
    ∧ (State.setFirn s t f).guard = s.guard ∧ (State.setFirn s t f).moraine = s.moraine ∧ (State.setFirn s t f).capture = s.capture
    ∧ (State.setFirn s t f).link = s.link ∧ (State.setFirn s t f).eth = s.eth ∧ (State.setFirn s t f).can = s.can ∧ (State.setFirn s t f).field = s.field
    ∧ (State.setFirn s t f).sedge = s.sedge ∧ (State.setFirn s t f).mem = s.mem ∧ (State.setFirn s t f).draws = s.draws
    ∧ (State.setFirn s t f).pending = s.pending := by
  unfold State.setFirn; simp
@[simp] theorem unvote_same (s : State) (t : Nat) : (State.unvote s t).mode = s.mode ∧ (State.unvote s t).time = s.time ∧ (State.unvote s t).xan = s.xan
    ∧ (State.unvote s t).sess = s.sess ∧ (State.unvote s t).sig = s.sig ∧ (State.unvote s t).disp = s.disp ∧ (State.unvote s t).drift = s.drift
    ∧ (State.unvote s t).prog = s.prog ∧ (State.unvote s t).pair = s.pair ∧ (State.unvote s t).hub = s.hub ∧ (State.unvote s t).guard = s.guard
    ∧ (State.unvote s t).moraine = s.moraine ∧ (State.unvote s t).capture = s.capture ∧ (State.unvote s t).link = s.link ∧ (State.unvote s t).eth = s.eth
    ∧ (State.unvote s t).can = s.can ∧ (State.unvote s t).field = s.field ∧ (State.unvote s t).sedge = s.sedge ∧ (State.unvote s t).mem = s.mem
    ∧ (State.unvote s t).draws = s.draws ∧ (State.unvote s t).pending = s.pending := by
  unfold State.unvote; (repeat' split) <;> simp
@[simp] theorem abandon_same (s : State) (t : Nat) : (State.abandon s t).mode = s.mode ∧ (State.abandon s t).time = s.time ∧ (State.abandon s t).xan = s.xan
    ∧ (State.abandon s t).sess = s.sess ∧ (State.abandon s t).sig = s.sig ∧ (State.abandon s t).prog = s.prog ∧ (State.abandon s t).hub = s.hub
    ∧ (State.abandon s t).guard = s.guard ∧ (State.abandon s t).moraine = s.moraine ∧ (State.abandon s t).capture = s.capture
    ∧ (State.abandon s t).link = s.link ∧ (State.abandon s t).eth = s.eth ∧ (State.abandon s t).can = s.can ∧ (State.abandon s t).field = s.field
    ∧ (State.abandon s t).sedge = s.sedge ∧ (State.abandon s t).mem = s.mem ∧ (State.abandon s t).draws = s.draws
    ∧ (State.abandon s t).pending = s.pending := by
  unfold State.abandon; simp
@[simp] theorem placeAgain_same (s : State) (t : Nat) (r : Release) : (State.placeAgain s t r).mode = s.mode ∧ (State.placeAgain s t r).time = s.time
    ∧ (State.placeAgain s t r).xan = s.xan ∧ (State.placeAgain s t r).sess = s.sess ∧ (State.placeAgain s t r).sig = s.sig
    ∧ (State.placeAgain s t r).prog = s.prog ∧ (State.placeAgain s t r).hub = s.hub ∧ (State.placeAgain s t r).guard = s.guard
    ∧ (State.placeAgain s t r).moraine = s.moraine ∧ (State.placeAgain s t r).capture = s.capture ∧ (State.placeAgain s t r).link = s.link
    ∧ (State.placeAgain s t r).eth = s.eth ∧ (State.placeAgain s t r).can = s.can ∧ (State.placeAgain s t r).field = s.field
    ∧ (State.placeAgain s t r).sedge = s.sedge ∧ (State.placeAgain s t r).mem = s.mem ∧ (State.placeAgain s t r).draws = s.draws
    ∧ (State.placeAgain s t r).pending = s.pending := by
  unfold State.placeAgain; simp; (repeat' split) <;> simp
@[simp] theorem discardReleases_same (s : State) (safe : Bool) : (State.discardReleases s safe).mode = s.mode ∧ (State.discardReleases s safe).time = s.time
    ∧ (State.discardReleases s safe).xan = s.xan ∧ (State.discardReleases s safe).sess = s.sess ∧ (State.discardReleases s safe).sig = s.sig
    ∧ (State.discardReleases s safe).prog = s.prog ∧ (State.discardReleases s safe).hub = s.hub ∧ (State.discardReleases s safe).guard = s.guard
    ∧ (State.discardReleases s safe).moraine = s.moraine ∧ (State.discardReleases s safe).capture = s.capture ∧ (State.discardReleases s safe).link = s.link
    ∧ (State.discardReleases s safe).eth = s.eth ∧ (State.discardReleases s safe).can = s.can ∧ (State.discardReleases s safe).field = s.field
    ∧ (State.discardReleases s safe).sedge = s.sedge ∧ (State.discardReleases s safe).mem = s.mem ∧ (State.discardReleases s safe).draws = s.draws
    ∧ (State.discardReleases s safe).pending = s.pending := by
  unfold State.discardReleases; simp
@[simp] theorem setUndispatchable_same (s : State) (t : Nat) (on : Bool) : (State.setUndispatchable s t on).mode = s.mode
    ∧ (State.setUndispatchable s t on).time = s.time ∧ (State.setUndispatchable s t on).xan = s.xan ∧ (State.setUndispatchable s t on).sess = s.sess
    ∧ (State.setUndispatchable s t on).sig = s.sig ∧ (State.setUndispatchable s t on).drift = s.drift ∧ (State.setUndispatchable s t on).firn = s.firn
    ∧ (State.setUndispatchable s t on).prog = s.prog ∧ (State.setUndispatchable s t on).pair = s.pair ∧ (State.setUndispatchable s t on).hub = s.hub
    ∧ (State.setUndispatchable s t on).guard = s.guard ∧ (State.setUndispatchable s t on).capture = s.capture ∧ (State.setUndispatchable s t on).link = s.link
    ∧ (State.setUndispatchable s t on).eth = s.eth ∧ (State.setUndispatchable s t on).can = s.can ∧ (State.setUndispatchable s t on).field = s.field
    ∧ (State.setUndispatchable s t on).sedge = s.sedge ∧ (State.setUndispatchable s t on).mem = s.mem ∧ (State.setUndispatchable s t on).draws = s.draws
    ∧ (State.setUndispatchable s t on).pending = s.pending := by
  unfold State.setUndispatchable; simp
@[simp] theorem judgeUndispatchable_same (s : State) : (State.judgeUndispatchable s).mode = s.mode ∧ (State.judgeUndispatchable s).time = s.time
    ∧ (State.judgeUndispatchable s).xan = s.xan ∧ (State.judgeUndispatchable s).sess = s.sess ∧ (State.judgeUndispatchable s).sig = s.sig
    ∧ (State.judgeUndispatchable s).drift = s.drift ∧ (State.judgeUndispatchable s).firn = s.firn ∧ (State.judgeUndispatchable s).prog = s.prog
    ∧ (State.judgeUndispatchable s).pair = s.pair ∧ (State.judgeUndispatchable s).hub = s.hub ∧ (State.judgeUndispatchable s).guard = s.guard
    ∧ (State.judgeUndispatchable s).capture = s.capture ∧ (State.judgeUndispatchable s).link = s.link ∧ (State.judgeUndispatchable s).eth = s.eth
    ∧ (State.judgeUndispatchable s).can = s.can ∧ (State.judgeUndispatchable s).field = s.field ∧ (State.judgeUndispatchable s).sedge = s.sedge
    ∧ (State.judgeUndispatchable s).mem = s.mem ∧ (State.judgeUndispatchable s).draws = s.draws ∧ (State.judgeUndispatchable s).pending = s.pending := by
  unfold State.judgeUndispatchable; simp
@[simp] theorem moveQueues_same (s old : State) : (State.moveQueues s old).mode = s.mode ∧ (State.moveQueues s old).time = s.time
    ∧ (State.moveQueues s old).xan = s.xan ∧ (State.moveQueues s old).sess = s.sess ∧ (State.moveQueues s old).sig = s.sig
    ∧ (State.moveQueues s old).disp = s.disp ∧ (State.moveQueues s old).drift = s.drift ∧ (State.moveQueues s old).firn = s.firn
    ∧ (State.moveQueues s old).prog = s.prog ∧ (State.moveQueues s old).pair = s.pair ∧ (State.moveQueues s old).hub = s.hub
    ∧ (State.moveQueues s old).guard = s.guard ∧ (State.moveQueues s old).capture = s.capture ∧ (State.moveQueues s old).link = s.link
    ∧ (State.moveQueues s old).eth = s.eth ∧ (State.moveQueues s old).can = s.can ∧ (State.moveQueues s old).field = s.field
    ∧ (State.moveQueues s old).sedge = s.sedge ∧ (State.moveQueues s old).mem = s.mem ∧ (State.moveQueues s old).draws = s.draws
    ∧ (State.moveQueues s old).pending = s.pending := by
  unfold State.moveQueues; simp
@[simp] theorem fenceCore_same (s old : State) (c : Nat) : (State.fenceCore s old c).mode = s.mode ∧ (State.fenceCore s old c).time = s.time
    ∧ (State.fenceCore s old c).xan = s.xan ∧ (State.fenceCore s old c).sess = s.sess ∧ (State.fenceCore s old c).sig = s.sig
    ∧ (State.fenceCore s old c).prog = s.prog ∧ (State.fenceCore s old c).hub = s.hub ∧ (State.fenceCore s old c).guard = s.guard
    ∧ (State.fenceCore s old c).capture = s.capture ∧ (State.fenceCore s old c).link = s.link ∧ (State.fenceCore s old c).eth = s.eth
    ∧ (State.fenceCore s old c).can = s.can ∧ (State.fenceCore s old c).field = s.field ∧ (State.fenceCore s old c).sedge = s.sedge
    ∧ (State.fenceCore s old c).mem = s.mem ∧ (State.fenceCore s old c).draws = s.draws ∧ (State.fenceCore s old c).pending = s.pending := by
  unfold State.fenceCore; simp
@[simp] theorem replaced_same (s : State) (i sub : Nat) : (State.replaced s i sub).mode = s.mode ∧ (State.replaced s i sub).time = s.time
    ∧ (State.replaced s i sub).sess = s.sess ∧ (State.replaced s i sub).sig = s.sig ∧ (State.replaced s i sub).disp = s.disp
    ∧ (State.replaced s i sub).drift = s.drift ∧ (State.replaced s i sub).firn = s.firn ∧ (State.replaced s i sub).prog = s.prog
    ∧ (State.replaced s i sub).pair = s.pair ∧ (State.replaced s i sub).hub = s.hub ∧ (State.replaced s i sub).guard = s.guard
    ∧ (State.replaced s i sub).moraine = s.moraine ∧ (State.replaced s i sub).capture = s.capture ∧ (State.replaced s i sub).link = s.link
    ∧ (State.replaced s i sub).eth = s.eth ∧ (State.replaced s i sub).can = s.can ∧ (State.replaced s i sub).field = s.field
    ∧ (State.replaced s i sub).sedge = s.sedge ∧ (State.replaced s i sub).mem = s.mem ∧ (State.replaced s i sub).draws = s.draws
    ∧ (State.replaced s i sub).pending = s.pending := by
  unfold State.replaced; simp
@[simp] theorem setStaged_same (s : State) (o : Option Image) (state : Nat) : (State.setStaged s o state).mode = s.mode
    ∧ (State.setStaged s o state).time = s.time ∧ (State.setStaged s o state).sess = s.sess ∧ (State.setStaged s o state).sig = s.sig
    ∧ (State.setStaged s o state).disp = s.disp ∧ (State.setStaged s o state).drift = s.drift ∧ (State.setStaged s o state).firn = s.firn
    ∧ (State.setStaged s o state).pair = s.pair ∧ (State.setStaged s o state).hub = s.hub ∧ (State.setStaged s o state).guard = s.guard
    ∧ (State.setStaged s o state).moraine = s.moraine ∧ (State.setStaged s o state).capture = s.capture ∧ (State.setStaged s o state).link = s.link
    ∧ (State.setStaged s o state).eth = s.eth ∧ (State.setStaged s o state).can = s.can ∧ (State.setStaged s o state).field = s.field
    ∧ (State.setStaged s o state).sedge = s.sedge ∧ (State.setStaged s o state).mem = s.mem ∧ (State.setStaged s o state).draws = s.draws
    ∧ (State.setStaged s o state).pending = s.pending := by
  unfold State.setStaged; simp
@[simp] theorem dropTransferred_same (s : State) : (State.dropTransferred s).mode = s.mode ∧ (State.dropTransferred s).time = s.time
    ∧ (State.dropTransferred s).sess = s.sess ∧ (State.dropTransferred s).sig = s.sig ∧ (State.dropTransferred s).disp = s.disp
    ∧ (State.dropTransferred s).firn = s.firn ∧ (State.dropTransferred s).pair = s.pair ∧ (State.dropTransferred s).hub = s.hub
    ∧ (State.dropTransferred s).guard = s.guard ∧ (State.dropTransferred s).moraine = s.moraine ∧ (State.dropTransferred s).capture = s.capture
    ∧ (State.dropTransferred s).link = s.link ∧ (State.dropTransferred s).eth = s.eth ∧ (State.dropTransferred s).can = s.can
    ∧ (State.dropTransferred s).field = s.field ∧ (State.dropTransferred s).sedge = s.sedge ∧ (State.dropTransferred s).mem = s.mem
    ∧ (State.dropTransferred s).draws = s.draws ∧ (State.dropTransferred s).pending = s.pending := by
  unfold State.dropTransferred; simp
@[simp] theorem abortExchange_same (s : State) (cause : Nat) : (State.abortExchange s cause).mode = s.mode ∧ (State.abortExchange s cause).time = s.time
    ∧ (State.abortExchange s cause).sess = s.sess ∧ (State.abortExchange s cause).sig = s.sig ∧ (State.abortExchange s cause).disp = s.disp
    ∧ (State.abortExchange s cause).firn = s.firn ∧ (State.abortExchange s cause).pair = s.pair ∧ (State.abortExchange s cause).hub = s.hub
    ∧ (State.abortExchange s cause).guard = s.guard ∧ (State.abortExchange s cause).capture = s.capture ∧ (State.abortExchange s cause).link = s.link
    ∧ (State.abortExchange s cause).eth = s.eth ∧ (State.abortExchange s cause).can = s.can ∧ (State.abortExchange s cause).field = s.field
    ∧ (State.abortExchange s cause).sedge = s.sedge ∧ (State.abortExchange s cause).mem = s.mem ∧ (State.abortExchange s cause).draws = s.draws
    ∧ (State.abortExchange s cause).pending = s.pending := by
  unfold State.abortExchange; simp
@[simp] theorem abortBoth_same (s : State) (cause : Nat) : (State.abortBoth s cause).mode = s.mode ∧ (State.abortBoth s cause).time = s.time
    ∧ (State.abortBoth s cause).sess = s.sess ∧ (State.abortBoth s cause).sig = s.sig ∧ (State.abortBoth s cause).disp = s.disp
    ∧ (State.abortBoth s cause).firn = s.firn ∧ (State.abortBoth s cause).hub = s.hub ∧ (State.abortBoth s cause).guard = s.guard
    ∧ (State.abortBoth s cause).capture = s.capture ∧ (State.abortBoth s cause).link = s.link ∧ (State.abortBoth s cause).eth = s.eth
    ∧ (State.abortBoth s cause).can = s.can ∧ (State.abortBoth s cause).field = s.field ∧ (State.abortBoth s cause).sedge = s.sedge
    ∧ (State.abortBoth s cause).mem = s.mem ∧ (State.abortBoth s cause).draws = s.draws ∧ (State.abortBoth s cause).pending = s.pending := by
  unfold State.abortBoth; simp
@[simp] theorem abortHandover_same (s : State) : (State.abortHandover s).mode = s.mode ∧ (State.abortHandover s).time = s.time
    ∧ (State.abortHandover s).xan = s.xan ∧ (State.abortHandover s).sess = s.sess ∧ (State.abortHandover s).sig = s.sig ∧ (State.abortHandover s).disp = s.disp
    ∧ (State.abortHandover s).drift = s.drift ∧ (State.abortHandover s).firn = s.firn ∧ (State.abortHandover s).hub = s.hub
    ∧ (State.abortHandover s).guard = s.guard ∧ (State.abortHandover s).capture = s.capture ∧ (State.abortHandover s).link = s.link
    ∧ (State.abortHandover s).eth = s.eth ∧ (State.abortHandover s).can = s.can ∧ (State.abortHandover s).field = s.field
    ∧ (State.abortHandover s).sedge = s.sedge ∧ (State.abortHandover s).mem = s.mem ∧ (State.abortHandover s).draws = s.draws
    ∧ (State.abortHandover s).pending = s.pending := by
  unfold State.abortHandover; simp
@[simp] theorem startPhase_same (s : State) (phase : Nat) : (State.startPhase s phase).mode = s.mode ∧ (State.startPhase s phase).time = s.time
    ∧ (State.startPhase s phase).xan = s.xan ∧ (State.startPhase s phase).sess = s.sess ∧ (State.startPhase s phase).sig = s.sig
    ∧ (State.startPhase s phase).prog = s.prog ∧ (State.startPhase s phase).hub = s.hub ∧ (State.startPhase s phase).guard = s.guard
    ∧ (State.startPhase s phase).capture = s.capture ∧ (State.startPhase s phase).link = s.link ∧ (State.startPhase s phase).eth = s.eth
    ∧ (State.startPhase s phase).can = s.can ∧ (State.startPhase s phase).field = s.field ∧ (State.startPhase s phase).sedge = s.sedge
    ∧ (State.startPhase s phase).mem = s.mem ∧ (State.startPhase s phase).draws = s.draws ∧ (State.startPhase s phase).pending = s.pending := by
  unfold State.startPhase; simp
@[simp] theorem leaveStep_same (s : State) (cause phase : Nat) : (State.leaveStep s cause phase).mode = s.mode ∧ (State.leaveStep s cause phase).time = s.time
    ∧ (State.leaveStep s cause phase).sess = s.sess ∧ (State.leaveStep s cause phase).sig = s.sig ∧ (State.leaveStep s cause phase).hub = s.hub
    ∧ (State.leaveStep s cause phase).guard = s.guard ∧ (State.leaveStep s cause phase).capture = s.capture ∧ (State.leaveStep s cause phase).link = s.link
    ∧ (State.leaveStep s cause phase).eth = s.eth ∧ (State.leaveStep s cause phase).can = s.can ∧ (State.leaveStep s cause phase).field = s.field
    ∧ (State.leaveStep s cause phase).sedge = s.sedge ∧ (State.leaveStep s cause phase).mem = s.mem ∧ (State.leaveStep s cause phase).draws = s.draws
    ∧ (State.leaveStep s cause phase).pending = s.pending := by
  unfold State.leaveStep; simp
@[simp] theorem finishCheck_same (s : State) : (State.finishCheck s).mode = s.mode ∧ (State.finishCheck s).time = s.time ∧ (State.finishCheck s).xan = s.xan
    ∧ (State.finishCheck s).sess = s.sess ∧ (State.finishCheck s).sig = s.sig ∧ (State.finishCheck s).disp = s.disp ∧ (State.finishCheck s).drift = s.drift
    ∧ (State.finishCheck s).firn = s.firn ∧ (State.finishCheck s).prog = s.prog ∧ (State.finishCheck s).hub = s.hub ∧ (State.finishCheck s).guard = s.guard
    ∧ (State.finishCheck s).capture = s.capture ∧ (State.finishCheck s).link = s.link ∧ (State.finishCheck s).eth = s.eth ∧ (State.finishCheck s).can = s.can
    ∧ (State.finishCheck s).field = s.field ∧ (State.finishCheck s).sedge = s.sedge ∧ (State.finishCheck s).mem = s.mem ∧ (State.finishCheck s).draws = s.draws
    ∧ (State.finishCheck s).pending = s.pending := by
  unfold State.finishCheck; simp
@[simp] theorem pathOver_same (s : State) (d : Nat) : (State.pathOver s d).mode = s.mode ∧ (State.pathOver s d).time = s.time ∧ (State.pathOver s d).xan = s.xan
    ∧ (State.pathOver s d).sess = s.sess ∧ (State.pathOver s d).sig = s.sig ∧ (State.pathOver s d).disp = s.disp ∧ (State.pathOver s d).drift = s.drift
    ∧ (State.pathOver s d).firn = s.firn ∧ (State.pathOver s d).prog = s.prog ∧ (State.pathOver s d).hub = s.hub ∧ (State.pathOver s d).guard = s.guard
    ∧ (State.pathOver s d).capture = s.capture ∧ (State.pathOver s d).link = s.link ∧ (State.pathOver s d).eth = s.eth ∧ (State.pathOver s d).can = s.can
    ∧ (State.pathOver s d).field = s.field ∧ (State.pathOver s d).sedge = s.sedge ∧ (State.pathOver s d).mem = s.mem ∧ (State.pathOver s d).draws = s.draws
    ∧ (State.pathOver s d).pending = s.pending := by
  unfold State.pathOver; simp
@[simp] theorem dropOwn_same (s : State) (reason : Nat) : (State.dropOwn s reason).mode = s.mode ∧ (State.dropOwn s reason).time = s.time
    ∧ (State.dropOwn s reason).sess = s.sess ∧ (State.dropOwn s reason).firn = s.firn ∧ (State.dropOwn s reason).hub = s.hub
    ∧ (State.dropOwn s reason).guard = s.guard ∧ (State.dropOwn s reason).capture = s.capture ∧ (State.dropOwn s reason).link = s.link
    ∧ (State.dropOwn s reason).eth = s.eth ∧ (State.dropOwn s reason).sedge = s.sedge ∧ (State.dropOwn s reason).mem = s.mem
    ∧ (State.dropOwn s reason).draws = s.draws ∧ (State.dropOwn s reason).pending = s.pending := by
  unfold State.dropOwn; simp
@[simp] theorem abortPrepare_same (s : State) (result : Byte) : (State.abortPrepare s result).time = s.time ∧ (State.abortPrepare s result).xan = s.xan
    ∧ (State.abortPrepare s result).sess = s.sess ∧ (State.abortPrepare s result).sig = s.sig ∧ (State.abortPrepare s result).disp = s.disp
    ∧ (State.abortPrepare s result).drift = s.drift ∧ (State.abortPrepare s result).firn = s.firn ∧ (State.abortPrepare s result).prog = s.prog
    ∧ (State.abortPrepare s result).pair = s.pair ∧ (State.abortPrepare s result).hub = s.hub ∧ (State.abortPrepare s result).guard = s.guard
    ∧ (State.abortPrepare s result).capture = s.capture ∧ (State.abortPrepare s result).link = s.link ∧ (State.abortPrepare s result).eth = s.eth
    ∧ (State.abortPrepare s result).can = s.can ∧ (State.abortPrepare s result).field = s.field ∧ (State.abortPrepare s result).sedge = s.sedge
    ∧ (State.abortPrepare s result).mem = s.mem ∧ (State.abortPrepare s result).draws = s.draws ∧ (State.abortPrepare s result).pending = s.pending := by
  unfold State.abortPrepare; simp
@[simp] theorem hubRecord_same (s : State) (code severity : Nat) (words : List Word) : (State.hubRecord s code severity words).mode = s.mode
    ∧ (State.hubRecord s code severity words).time = s.time ∧ (State.hubRecord s code severity words).xan = s.xan
    ∧ (State.hubRecord s code severity words).sess = s.sess ∧ (State.hubRecord s code severity words).sig = s.sig
    ∧ (State.hubRecord s code severity words).disp = s.disp ∧ (State.hubRecord s code severity words).drift = s.drift
    ∧ (State.hubRecord s code severity words).firn = s.firn ∧ (State.hubRecord s code severity words).prog = s.prog
    ∧ (State.hubRecord s code severity words).pair = s.pair ∧ (State.hubRecord s code severity words).guard = s.guard
    ∧ (State.hubRecord s code severity words).capture = s.capture ∧ (State.hubRecord s code severity words).link = s.link
    ∧ (State.hubRecord s code severity words).eth = s.eth ∧ (State.hubRecord s code severity words).can = s.can
    ∧ (State.hubRecord s code severity words).field = s.field ∧ (State.hubRecord s code severity words).sedge = s.sedge
    ∧ (State.hubRecord s code severity words).mem = s.mem ∧ (State.hubRecord s code severity words).draws = s.draws
    ∧ (State.hubRecord s code severity words).pending = s.pending := by
  unfold State.hubRecord; simp
@[simp] theorem hubEntry_same (s : State) (d cls domain : Nat) (info : Word) : (State.hubEntry s d cls domain info).mode = s.mode
    ∧ (State.hubEntry s d cls domain info).time = s.time ∧ (State.hubEntry s d cls domain info).xan = s.xan ∧ (State.hubEntry s d cls domain info).sess = s.sess
    ∧ (State.hubEntry s d cls domain info).sig = s.sig ∧ (State.hubEntry s d cls domain info).drift = s.drift
    ∧ (State.hubEntry s d cls domain info).firn = s.firn ∧ (State.hubEntry s d cls domain info).prog = s.prog
    ∧ (State.hubEntry s d cls domain info).pair = s.pair ∧ (State.hubEntry s d cls domain info).hub = s.hub
    ∧ (State.hubEntry s d cls domain info).guard = s.guard ∧ (State.hubEntry s d cls domain info).capture = s.capture
    ∧ (State.hubEntry s d cls domain info).link = s.link ∧ (State.hubEntry s d cls domain info).eth = s.eth ∧ (State.hubEntry s d cls domain info).can = s.can
    ∧ (State.hubEntry s d cls domain info).field = s.field ∧ (State.hubEntry s d cls domain info).sedge = s.sedge
    ∧ (State.hubEntry s d cls domain info).mem = s.mem ∧ (State.hubEntry s d cls domain info).draws = s.draws
    ∧ (State.hubEntry s d cls domain info).pending = s.pending := by
  unfold State.hubEntry; simp
@[simp] theorem sendSafe_same (s : State) (ks : List Nat) : (State.sendSafe s ks).mode = s.mode ∧ (State.sendSafe s ks).time = s.time
    ∧ (State.sendSafe s ks).xan = s.xan ∧ (State.sendSafe s ks).sess = s.sess ∧ (State.sendSafe s ks).sig = s.sig ∧ (State.sendSafe s ks).disp = s.disp
    ∧ (State.sendSafe s ks).drift = s.drift ∧ (State.sendSafe s ks).firn = s.firn ∧ (State.sendSafe s ks).prog = s.prog ∧ (State.sendSafe s ks).pair = s.pair
    ∧ (State.sendSafe s ks).hub = s.hub ∧ (State.sendSafe s ks).guard = s.guard ∧ (State.sendSafe s ks).capture = s.capture ∧ (State.sendSafe s ks).eth = s.eth
    ∧ (State.sendSafe s ks).can = s.can ∧ (State.sendSafe s ks).field = s.field ∧ (State.sendSafe s ks).sedge = s.sedge ∧ (State.sendSafe s ks).mem = s.mem
    ∧ (State.sendSafe s ks).draws = s.draws ∧ (State.sendSafe s ks).pending = s.pending := by
  unfold State.sendSafe; simp
@[simp] theorem loseRing_same (s : State) : (State.loseRing s).mode = s.mode ∧ (State.loseRing s).time = s.time ∧ (State.loseRing s).xan = s.xan
    ∧ (State.loseRing s).sess = s.sess ∧ (State.loseRing s).sig = s.sig ∧ (State.loseRing s).disp = s.disp ∧ (State.loseRing s).drift = s.drift
    ∧ (State.loseRing s).firn = s.firn ∧ (State.loseRing s).prog = s.prog ∧ (State.loseRing s).pair = s.pair ∧ (State.loseRing s).hub = s.hub
    ∧ (State.loseRing s).guard = s.guard ∧ (State.loseRing s).capture = s.capture ∧ (State.loseRing s).link = s.link ∧ (State.loseRing s).eth = s.eth
    ∧ (State.loseRing s).can = s.can ∧ (State.loseRing s).field = s.field ∧ (State.loseRing s).sedge = s.sedge ∧ (State.loseRing s).mem = s.mem
    ∧ (State.loseRing s).draws = s.draws ∧ (State.loseRing s).pending = s.pending := by
  unfold State.loseRing; simp
@[simp] theorem haltTransfers_same (s : State) (of' : Frame → Bool) : (State.haltTransfers s of').mode = s.mode ∧ (State.haltTransfers s of').time = s.time
    ∧ (State.haltTransfers s of').xan = s.xan ∧ (State.haltTransfers s of').sess = s.sess ∧ (State.haltTransfers s of').sig = s.sig
    ∧ (State.haltTransfers s of').disp = s.disp ∧ (State.haltTransfers s of').firn = s.firn ∧ (State.haltTransfers s of').prog = s.prog
    ∧ (State.haltTransfers s of').pair = s.pair ∧ (State.haltTransfers s of').hub = s.hub ∧ (State.haltTransfers s of').guard = s.guard
    ∧ (State.haltTransfers s of').moraine = s.moraine ∧ (State.haltTransfers s of').capture = s.capture ∧ (State.haltTransfers s of').link = s.link
    ∧ (State.haltTransfers s of').eth = s.eth ∧ (State.haltTransfers s of').can = s.can ∧ (State.haltTransfers s of').field = s.field
    ∧ (State.haltTransfers s of').sedge = s.sedge ∧ (State.haltTransfers s of').mem = s.mem ∧ (State.haltTransfers s of').draws = s.draws
    ∧ (State.haltTransfers s of').pending = s.pending := by
  unfold State.haltTransfers; simp
@[simp] theorem fenceEffect_same (s old : State) (c : Nat) : (State.fenceEffect s old c).mode = s.mode ∧ (State.fenceEffect s old c).time = s.time
    ∧ (State.fenceEffect s old c).xan = s.xan ∧ (State.fenceEffect s old c).sess = s.sess ∧ (State.fenceEffect s old c).prog = s.prog
    ∧ (State.fenceEffect s old c).hub = s.hub ∧ (State.fenceEffect s old c).guard = s.guard ∧ (State.fenceEffect s old c).capture = s.capture
    ∧ (State.fenceEffect s old c).eth = s.eth ∧ (State.fenceEffect s old c).sedge = s.sedge ∧ (State.fenceEffect s old c).mem = s.mem
    ∧ (State.fenceEffect s old c).draws = s.draws ∧ (State.fenceEffect s old c).pending = s.pending := by
  unfold State.fenceEffect; simp
@[simp] theorem startShadow_same (s : State) (c parent : Nat) : (State.startShadow s c parent).mode = s.mode ∧ (State.startShadow s c parent).time = s.time
    ∧ (State.startShadow s c parent).xan = s.xan ∧ (State.startShadow s c parent).sess = s.sess ∧ (State.startShadow s c parent).sig = s.sig
    ∧ (State.startShadow s c parent).disp = s.disp ∧ (State.startShadow s c parent).drift = s.drift ∧ (State.startShadow s c parent).firn = s.firn
    ∧ (State.startShadow s c parent).prog = s.prog ∧ (State.startShadow s c parent).pair = s.pair ∧ (State.startShadow s c parent).guard = s.guard
    ∧ (State.startShadow s c parent).moraine = s.moraine ∧ (State.startShadow s c parent).capture = s.capture ∧ (State.startShadow s c parent).link = s.link
    ∧ (State.startShadow s c parent).eth = s.eth ∧ (State.startShadow s c parent).can = s.can ∧ (State.startShadow s c parent).field = s.field
    ∧ (State.startShadow s c parent).sedge = s.sedge ∧ (State.startShadow s c parent).mem = s.mem ∧ (State.startShadow s c parent).draws = s.draws
    ∧ (State.startShadow s c parent).pending = s.pending := by
  unfold State.startShadow; simp
@[simp] theorem fence_same (s : State) (c d : Nat) (info : Word) : (State.fence s c d info).mode = s.mode ∧ (State.fence s c d info).time = s.time
    ∧ (State.fence s c d info).xan = s.xan ∧ (State.fence s c d info).sess = s.sess ∧ (State.fence s c d info).prog = s.prog
    ∧ (State.fence s c d info).guard = s.guard ∧ (State.fence s c d info).capture = s.capture ∧ (State.fence s c d info).eth = s.eth
    ∧ (State.fence s c d info).sedge = s.sedge ∧ (State.fence s c d info).mem = s.mem ∧ (State.fence s c d info).draws = s.draws
    ∧ (State.fence s c d info).pending = s.pending := by
  unfold State.fence; simp
@[simp] theorem enterSafe_same (s : State) (d : Nat) : (State.enterSafe s d).time = s.time ∧ (State.enterSafe s d).capture = s.capture
    ∧ (State.enterSafe s d).eth = s.eth ∧ (State.enterSafe s d).sedge = s.sedge ∧ (State.enterSafe s d).mem = s.mem
    ∧ (State.enterSafe s d).pending = s.pending := by
  unfold State.enterSafe; simp
@[simp] theorem safeReaction_same (s : State) (d : Nat) (a : DetAttr) (info : Word) : (State.safeReaction s d a info).time = s.time
    ∧ (State.safeReaction s d a info).capture = s.capture ∧ (State.safeReaction s d a info).eth = s.eth ∧ (State.safeReaction s d a info).sedge = s.sedge
    ∧ (State.safeReaction s d a info).mem = s.mem ∧ (State.safeReaction s d a info).pending = s.pending := by
  unfold State.safeReaction; simp
@[simp] theorem occurMasked_same (s : State) (d : Nat) (a : DetAttr) (info session : Word) : (State.occurMasked s d a info session).mode = s.mode
    ∧ (State.occurMasked s d a info session).time = s.time ∧ (State.occurMasked s d a info session).xan = s.xan
    ∧ (State.occurMasked s d a info session).sess = s.sess ∧ (State.occurMasked s d a info session).sig = s.sig
    ∧ (State.occurMasked s d a info session).disp = s.disp ∧ (State.occurMasked s d a info session).drift = s.drift
    ∧ (State.occurMasked s d a info session).firn = s.firn ∧ (State.occurMasked s d a info session).prog = s.prog
    ∧ (State.occurMasked s d a info session).pair = s.pair ∧ (State.occurMasked s d a info session).guard = s.guard
    ∧ (State.occurMasked s d a info session).capture = s.capture ∧ (State.occurMasked s d a info session).link = s.link
    ∧ (State.occurMasked s d a info session).eth = s.eth ∧ (State.occurMasked s d a info session).can = s.can
    ∧ (State.occurMasked s d a info session).field = s.field ∧ (State.occurMasked s d a info session).sedge = s.sedge
    ∧ (State.occurMasked s d a info session).mem = s.mem ∧ (State.occurMasked s d a info session).draws = s.draws
    ∧ (State.occurMasked s d a info session).pending = s.pending := by
  unfold State.occurMasked; simp
@[simp] theorem occurLatching_same (s : State) (d : Nat) (a : DetAttr) (info session : Word) : (State.occurLatching s d a info session).time = s.time
    ∧ (State.occurLatching s d a info session).capture = s.capture ∧ (State.occurLatching s d a info session).eth = s.eth
    ∧ (State.occurLatching s d a info session).sedge = s.sedge ∧ (State.occurLatching s d a info session).mem = s.mem
    ∧ (State.occurLatching s d a info session).pending = s.pending := by
  unfold State.occurLatching; simp
@[simp] theorem occurBy_same (s : State) (d : Nat) (info session : Word) : (State.occurBy s d info session).time = s.time
    ∧ (State.occurBy s d info session).capture = s.capture ∧ (State.occurBy s d info session).eth = s.eth ∧ (State.occurBy s d info session).sedge = s.sedge
    ∧ (State.occurBy s d info session).mem = s.mem ∧ (State.occurBy s d info session).pending = s.pending := by
  unfold State.occurBy; (repeat' split) <;> simp
@[simp] theorem occur_same (s : State) (d : Nat) (info : Nat) : (State.occur s d info).time = s.time ∧ (State.occur s d info).capture = s.capture
    ∧ (State.occur s d info).eth = s.eth ∧ (State.occur s d info).sedge = s.sedge ∧ (State.occur s d info).mem = s.mem
    ∧ (State.occur s d info).pending = s.pending := by
  unfold State.occur; simp
@[simp] theorem rise_same (s : State) (d : Nat) (info : Nat) : (State.rise s d info).time = s.time ∧ (State.rise s d info).capture = s.capture
    ∧ (State.rise s d info).eth = s.eth ∧ (State.rise s d info).sedge = s.sedge ∧ (State.rise s d info).mem = s.mem
    ∧ (State.rise s d info).pending = s.pending := by
  unfold State.rise; simp
@[simp] theorem fall_same (s : State) (d : Nat) : (State.fall s d).mode = s.mode ∧ (State.fall s d).time = s.time ∧ (State.fall s d).xan = s.xan
    ∧ (State.fall s d).sess = s.sess ∧ (State.fall s d).sig = s.sig ∧ (State.fall s d).disp = s.disp ∧ (State.fall s d).drift = s.drift
    ∧ (State.fall s d).firn = s.firn ∧ (State.fall s d).prog = s.prog ∧ (State.fall s d).pair = s.pair ∧ (State.fall s d).guard = s.guard
    ∧ (State.fall s d).moraine = s.moraine ∧ (State.fall s d).capture = s.capture ∧ (State.fall s d).link = s.link ∧ (State.fall s d).eth = s.eth
    ∧ (State.fall s d).can = s.can ∧ (State.fall s d).field = s.field ∧ (State.fall s d).sedge = s.sedge ∧ (State.fall s d).mem = s.mem
    ∧ (State.fall s d).draws = s.draws ∧ (State.fall s d).pending = s.pending := by
  unfold State.fall; simp
@[simp] theorem endSession_same (s : State) (n : Word) : (State.endSession s n).mode = s.mode ∧ (State.endSession s n).time = s.time
    ∧ (State.endSession s n).xan = s.xan ∧ (State.endSession s n).sig = s.sig ∧ (State.endSession s n).disp = s.disp ∧ (State.endSession s n).drift = s.drift
    ∧ (State.endSession s n).firn = s.firn ∧ (State.endSession s n).prog = s.prog ∧ (State.endSession s n).pair = s.pair ∧ (State.endSession s n).hub = s.hub
    ∧ (State.endSession s n).guard = s.guard ∧ (State.endSession s n).link = s.link ∧ (State.endSession s n).eth = s.eth ∧ (State.endSession s n).can = s.can
    ∧ (State.endSession s n).field = s.field ∧ (State.endSession s n).sedge = s.sedge ∧ (State.endSession s n).mem = s.mem
    ∧ (State.endSession s n).draws = s.draws ∧ (State.endSession s n).pending = s.pending := by
  unfold State.endSession; simp
@[simp] theorem endSessions_same (s : State) (ns : List Word) : (State.endSessions s ns).mode = s.mode ∧ (State.endSessions s ns).time = s.time
    ∧ (State.endSessions s ns).xan = s.xan ∧ (State.endSessions s ns).sig = s.sig ∧ (State.endSessions s ns).disp = s.disp
    ∧ (State.endSessions s ns).drift = s.drift ∧ (State.endSessions s ns).firn = s.firn ∧ (State.endSessions s ns).prog = s.prog
    ∧ (State.endSessions s ns).pair = s.pair ∧ (State.endSessions s ns).hub = s.hub ∧ (State.endSessions s ns).guard = s.guard
    ∧ (State.endSessions s ns).link = s.link ∧ (State.endSessions s ns).eth = s.eth ∧ (State.endSessions s ns).can = s.can
    ∧ (State.endSessions s ns).field = s.field ∧ (State.endSessions s ns).sedge = s.sedge ∧ (State.endSessions s ns).mem = s.mem
    ∧ (State.endSessions s ns).draws = s.draws ∧ (State.endSessions s ns).pending = s.pending := by
  unfold State.endSessions; simp
@[simp] theorem endAllSessions_same (s : State) : (State.endAllSessions s).mode = s.mode ∧ (State.endAllSessions s).time = s.time
    ∧ (State.endAllSessions s).xan = s.xan ∧ (State.endAllSessions s).sig = s.sig ∧ (State.endAllSessions s).disp = s.disp
    ∧ (State.endAllSessions s).drift = s.drift ∧ (State.endAllSessions s).firn = s.firn ∧ (State.endAllSessions s).prog = s.prog
    ∧ (State.endAllSessions s).pair = s.pair ∧ (State.endAllSessions s).hub = s.hub ∧ (State.endAllSessions s).guard = s.guard
    ∧ (State.endAllSessions s).link = s.link ∧ (State.endAllSessions s).eth = s.eth ∧ (State.endAllSessions s).can = s.can
    ∧ (State.endAllSessions s).field = s.field ∧ (State.endAllSessions s).sedge = s.sedge ∧ (State.endAllSessions s).mem = s.mem
    ∧ (State.endAllSessions s).draws = s.draws ∧ (State.endAllSessions s).pending = s.pending := by
  unfold State.endAllSessions; simp
@[simp] theorem send_same (s : State) (y : Reply) : (State.send s y).mode = s.mode ∧ (State.send s y).time = s.time ∧ (State.send s y).sess = s.sess
    ∧ (State.send s y).sig = s.sig ∧ (State.send s y).disp = s.disp ∧ (State.send s y).drift = s.drift ∧ (State.send s y).firn = s.firn
    ∧ (State.send s y).prog = s.prog ∧ (State.send s y).pair = s.pair ∧ (State.send s y).hub = s.hub ∧ (State.send s y).guard = s.guard
    ∧ (State.send s y).moraine = s.moraine ∧ (State.send s y).capture = s.capture ∧ (State.send s y).link = s.link ∧ (State.send s y).eth = s.eth
    ∧ (State.send s y).field = s.field ∧ (State.send s y).sedge = s.sedge ∧ (State.send s y).mem = s.mem ∧ (State.send s y).draws = s.draws
    ∧ (State.send s y).pending = s.pending := by
  unfold State.send; simp
@[simp] theorem answer_same (s : State) (x : ReplyTo) (status : Nat) (data : List Byte) (sub : Byte) : (State.answer s x status data sub).mode = s.mode
    ∧ (State.answer s x status data sub).time = s.time ∧ (State.answer s x status data sub).sig = s.sig ∧ (State.answer s x status data sub).disp = s.disp
    ∧ (State.answer s x status data sub).drift = s.drift ∧ (State.answer s x status data sub).firn = s.firn ∧ (State.answer s x status data sub).prog = s.prog
    ∧ (State.answer s x status data sub).pair = s.pair ∧ (State.answer s x status data sub).hub = s.hub ∧ (State.answer s x status data sub).guard = s.guard
    ∧ (State.answer s x status data sub).link = s.link ∧ (State.answer s x status data sub).eth = s.eth ∧ (State.answer s x status data sub).field = s.field
    ∧ (State.answer s x status data sub).sedge = s.sedge ∧ (State.answer s x status data sub).mem = s.mem ∧ (State.answer s x status data sub).draws = s.draws
    ∧ (State.answer s x status data sub).pending = s.pending := by
  unfold State.answer; simp
@[simp] theorem consume_same (s : State) (n : Word) (c : DWord) : (State.consume s n c).mode = s.mode ∧ (State.consume s n c).time = s.time
    ∧ (State.consume s n c).xan = s.xan ∧ (State.consume s n c).sig = s.sig ∧ (State.consume s n c).disp = s.disp ∧ (State.consume s n c).drift = s.drift
    ∧ (State.consume s n c).firn = s.firn ∧ (State.consume s n c).prog = s.prog ∧ (State.consume s n c).pair = s.pair ∧ (State.consume s n c).hub = s.hub
    ∧ (State.consume s n c).guard = s.guard ∧ (State.consume s n c).moraine = s.moraine ∧ (State.consume s n c).capture = s.capture
    ∧ (State.consume s n c).link = s.link ∧ (State.consume s n c).eth = s.eth ∧ (State.consume s n c).can = s.can ∧ (State.consume s n c).field = s.field
    ∧ (State.consume s n c).sedge = s.sedge ∧ (State.consume s n c).mem = s.mem ∧ (State.consume s n c).draws = s.draws
    ∧ (State.consume s n c).pending = s.pending := by
  unfold State.consume; simp
@[simp] theorem enqueue_same (s : State) (x : ReplyTo) : (State.enqueue s x).mode = s.mode ∧ (State.enqueue s x).time = s.time ∧ (State.enqueue s x).sig = s.sig
    ∧ (State.enqueue s x).drift = s.drift ∧ (State.enqueue s x).firn = s.firn ∧ (State.enqueue s x).prog = s.prog ∧ (State.enqueue s x).pair = s.pair
    ∧ (State.enqueue s x).hub = s.hub ∧ (State.enqueue s x).guard = s.guard ∧ (State.enqueue s x).link = s.link ∧ (State.enqueue s x).eth = s.eth
    ∧ (State.enqueue s x).field = s.field ∧ (State.enqueue s x).sedge = s.sedge ∧ (State.enqueue s x).mem = s.mem
    ∧ (State.enqueue s x).pending = s.pending := by
  unfold State.enqueue; simp
@[simp] theorem occurOpen_same (s : State) (d : Nat) : (State.occurOpen s d).time = s.time ∧ (State.occurOpen s d).capture = s.capture
    ∧ (State.occurOpen s d).eth = s.eth ∧ (State.occurOpen s d).sedge = s.sedge ∧ (State.occurOpen s d).mem = s.mem
    ∧ (State.occurOpen s d).pending = s.pending := by
  unfold State.occurOpen; simp
@[simp] theorem riseOpen_same (s : State) (d : Nat) : (State.riseOpen s d).time = s.time ∧ (State.riseOpen s d).capture = s.capture
    ∧ (State.riseOpen s d).eth = s.eth ∧ (State.riseOpen s d).sedge = s.sedge ∧ (State.riseOpen s d).mem = s.mem
    ∧ (State.riseOpen s d).pending = s.pending := by
  unfold State.riseOpen; simp
@[simp] theorem streamSig_same (s : State) (g : Nat) : (State.streamSig s g).mode = s.mode ∧ (State.streamSig s g).time = s.time
    ∧ (State.streamSig s g).xan = s.xan ∧ (State.streamSig s g).sess = s.sess ∧ (State.streamSig s g).sig = s.sig ∧ (State.streamSig s g).disp = s.disp
    ∧ (State.streamSig s g).drift = s.drift ∧ (State.streamSig s g).firn = s.firn ∧ (State.streamSig s g).prog = s.prog ∧ (State.streamSig s g).hub = s.hub
    ∧ (State.streamSig s g).guard = s.guard ∧ (State.streamSig s g).moraine = s.moraine ∧ (State.streamSig s g).capture = s.capture
    ∧ (State.streamSig s g).link = s.link ∧ (State.streamSig s g).eth = s.eth ∧ (State.streamSig s g).can = s.can ∧ (State.streamSig s g).field = s.field
    ∧ (State.streamSig s g).sedge = s.sedge ∧ (State.streamSig s g).mem = s.mem ∧ (State.streamSig s g).draws = s.draws
    ∧ (State.streamSig s g).pending = s.pending := by
  unfold State.streamSig; simp
@[simp] theorem sourceSig_same (s : State) (g : Nat) (f : Sig → Sig) : (State.sourceSig s g f).mode = s.mode ∧ (State.sourceSig s g f).time = s.time
    ∧ (State.sourceSig s g f).xan = s.xan ∧ (State.sourceSig s g f).sess = s.sess ∧ (State.sourceSig s g f).disp = s.disp
    ∧ (State.sourceSig s g f).drift = s.drift ∧ (State.sourceSig s g f).firn = s.firn ∧ (State.sourceSig s g f).prog = s.prog
    ∧ (State.sourceSig s g f).hub = s.hub ∧ (State.sourceSig s g f).guard = s.guard ∧ (State.sourceSig s g f).moraine = s.moraine
    ∧ (State.sourceSig s g f).capture = s.capture ∧ (State.sourceSig s g f).link = s.link ∧ (State.sourceSig s g f).eth = s.eth
    ∧ (State.sourceSig s g f).can = s.can ∧ (State.sourceSig s g f).field = s.field ∧ (State.sourceSig s g f).sedge = s.sedge
    ∧ (State.sourceSig s g f).mem = s.mem ∧ (State.sourceSig s g f).draws = s.draws ∧ (State.sourceSig s g f).pending = s.pending := by
  unfold State.sourceSig; simp
@[simp] theorem dirty_same (s : State) (page : Nat) : (State.dirty s page).mode = s.mode ∧ (State.dirty s page).time = s.time ∧ (State.dirty s page).xan = s.xan
    ∧ (State.dirty s page).sess = s.sess ∧ (State.dirty s page).sig = s.sig ∧ (State.dirty s page).disp = s.disp ∧ (State.dirty s page).firn = s.firn
    ∧ (State.dirty s page).prog = s.prog ∧ (State.dirty s page).pair = s.pair ∧ (State.dirty s page).hub = s.hub ∧ (State.dirty s page).guard = s.guard
    ∧ (State.dirty s page).moraine = s.moraine ∧ (State.dirty s page).capture = s.capture ∧ (State.dirty s page).link = s.link
    ∧ (State.dirty s page).eth = s.eth ∧ (State.dirty s page).can = s.can ∧ (State.dirty s page).field = s.field ∧ (State.dirty s page).sedge = s.sedge
    ∧ (State.dirty s page).mem = s.mem ∧ (State.dirty s page).draws = s.draws ∧ (State.dirty s page).pending = s.pending := by
  unfold State.dirty; simp
@[simp] theorem setCopy_same (s0 : State) (p w type : Nat) (v : Word) : (State.setCopy s0 p w type v).mode = s0.mode
    ∧ (State.setCopy s0 p w type v).time = s0.time ∧ (State.setCopy s0 p w type v).xan = s0.xan ∧ (State.setCopy s0 p w type v).sess = s0.sess
    ∧ (State.setCopy s0 p w type v).sig = s0.sig ∧ (State.setCopy s0 p w type v).disp = s0.disp ∧ (State.setCopy s0 p w type v).prog = s0.prog
    ∧ (State.setCopy s0 p w type v).pair = s0.pair ∧ (State.setCopy s0 p w type v).hub = s0.hub ∧ (State.setCopy s0 p w type v).guard = s0.guard
    ∧ (State.setCopy s0 p w type v).moraine = s0.moraine ∧ (State.setCopy s0 p w type v).capture = s0.capture ∧ (State.setCopy s0 p w type v).link = s0.link
    ∧ (State.setCopy s0 p w type v).eth = s0.eth ∧ (State.setCopy s0 p w type v).can = s0.can ∧ (State.setCopy s0 p w type v).field = s0.field
    ∧ (State.setCopy s0 p w type v).sedge = s0.sedge ∧ (State.setCopy s0 p w type v).mem = s0.mem ∧ (State.setCopy s0 p w type v).draws = s0.draws
    ∧ (State.setCopy s0 p w type v).pending = s0.pending := by
  unfold State.setCopy; (repeat' split) <;> simp
@[simp] theorem setWord_same (s : State) (w type : Nat) (v : Word) : (State.setWord s w type v).mode = s.mode ∧ (State.setWord s w type v).time = s.time
    ∧ (State.setWord s w type v).xan = s.xan ∧ (State.setWord s w type v).sess = s.sess ∧ (State.setWord s w type v).sig = s.sig
    ∧ (State.setWord s w type v).disp = s.disp ∧ (State.setWord s w type v).prog = s.prog ∧ (State.setWord s w type v).pair = s.pair
    ∧ (State.setWord s w type v).hub = s.hub ∧ (State.setWord s w type v).guard = s.guard ∧ (State.setWord s w type v).moraine = s.moraine
    ∧ (State.setWord s w type v).capture = s.capture ∧ (State.setWord s w type v).link = s.link ∧ (State.setWord s w type v).eth = s.eth
    ∧ (State.setWord s w type v).can = s.can ∧ (State.setWord s w type v).field = s.field ∧ (State.setWord s w type v).sedge = s.sedge
    ∧ (State.setWord s w type v).mem = s.mem ∧ (State.setWord s w type v).draws = s.draws ∧ (State.setWord s w type v).pending = s.pending := by
  unfold State.setWord; simp
@[simp] theorem commitWrite_same (ws : List PlainWrite) (s : State) (w : PlainWrite) : (State.commitWrite ws s w).mode = s.mode
    ∧ (State.commitWrite ws s w).time = s.time ∧ (State.commitWrite ws s w).xan = s.xan ∧ (State.commitWrite ws s w).sess = s.sess
    ∧ (State.commitWrite ws s w).disp = s.disp ∧ (State.commitWrite ws s w).prog = s.prog ∧ (State.commitWrite ws s w).pair = s.pair
    ∧ (State.commitWrite ws s w).hub = s.hub ∧ (State.commitWrite ws s w).guard = s.guard ∧ (State.commitWrite ws s w).moraine = s.moraine
    ∧ (State.commitWrite ws s w).capture = s.capture ∧ (State.commitWrite ws s w).link = s.link ∧ (State.commitWrite ws s w).eth = s.eth
    ∧ (State.commitWrite ws s w).can = s.can ∧ (State.commitWrite ws s w).field = s.field ∧ (State.commitWrite ws s w).sedge = s.sedge
    ∧ (State.commitWrite ws s w).mem = s.mem ∧ (State.commitWrite ws s w).draws = s.draws ∧ (State.commitWrite ws s w).pending = s.pending := by
  unfold State.commitWrite; simp
@[simp] theorem commitProduced_same (s : State) (t : Nat) : (State.commitProduced s t).mode = s.mode ∧ (State.commitProduced s t).time = s.time
    ∧ (State.commitProduced s t).xan = s.xan ∧ (State.commitProduced s t).sess = s.sess ∧ (State.commitProduced s t).disp = s.disp
    ∧ (State.commitProduced s t).drift = s.drift ∧ (State.commitProduced s t).firn = s.firn ∧ (State.commitProduced s t).prog = s.prog
    ∧ (State.commitProduced s t).pair = s.pair ∧ (State.commitProduced s t).hub = s.hub ∧ (State.commitProduced s t).guard = s.guard
    ∧ (State.commitProduced s t).moraine = s.moraine ∧ (State.commitProduced s t).capture = s.capture ∧ (State.commitProduced s t).link = s.link
    ∧ (State.commitProduced s t).eth = s.eth ∧ (State.commitProduced s t).can = s.can ∧ (State.commitProduced s t).field = s.field
    ∧ (State.commitProduced s t).sedge = s.sedge ∧ (State.commitProduced s t).mem = s.mem ∧ (State.commitProduced s t).draws = s.draws
    ∧ (State.commitProduced s t).pending = s.pending := by
  unfold State.commitProduced; simp
@[simp] theorem skewEnds_same (s : State) : (State.skewEnds s).mode = s.mode ∧ (State.skewEnds s).time = s.time ∧ (State.skewEnds s).xan = s.xan
    ∧ (State.skewEnds s).sess = s.sess ∧ (State.skewEnds s).sig = s.sig ∧ (State.skewEnds s).disp = s.disp ∧ (State.skewEnds s).drift = s.drift
    ∧ (State.skewEnds s).firn = s.firn ∧ (State.skewEnds s).prog = s.prog ∧ (State.skewEnds s).pair = s.pair ∧ (State.skewEnds s).guard = s.guard
    ∧ (State.skewEnds s).moraine = s.moraine ∧ (State.skewEnds s).capture = s.capture ∧ (State.skewEnds s).link = s.link ∧ (State.skewEnds s).eth = s.eth
    ∧ (State.skewEnds s).can = s.can ∧ (State.skewEnds s).field = s.field ∧ (State.skewEnds s).sedge = s.sedge ∧ (State.skewEnds s).mem = s.mem
    ∧ (State.skewEnds s).draws = s.draws ∧ (State.skewEnds s).pending = s.pending := by
  unfold State.skewEnds; simp
@[simp] theorem commit_same (s : State) (t : Nat) (ws : List PlainWrite) : (State.commit s t ws).mode = s.mode ∧ (State.commit s t ws).time = s.time
    ∧ (State.commit s t ws).xan = s.xan ∧ (State.commit s t ws).sess = s.sess ∧ (State.commit s t ws).disp = s.disp ∧ (State.commit s t ws).prog = s.prog
    ∧ (State.commit s t ws).pair = s.pair ∧ (State.commit s t ws).guard = s.guard ∧ (State.commit s t ws).moraine = s.moraine
    ∧ (State.commit s t ws).capture = s.capture ∧ (State.commit s t ws).link = s.link ∧ (State.commit s t ws).eth = s.eth ∧ (State.commit s t ws).can = s.can
    ∧ (State.commit s t ws).field = s.field ∧ (State.commit s t ws).sedge = s.sedge ∧ (State.commit s t ws).mem = s.mem ∧ (State.commit s t ws).draws = s.draws
    ∧ (State.commit s t ws).pending = s.pending := by
  unfold State.commit; simp
@[simp] theorem logEntry_same (s : State) (kind subject : Nat) (a b c : Nat) : (State.logEntry s kind subject a b c).mode = s.mode
    ∧ (State.logEntry s kind subject a b c).time = s.time ∧ (State.logEntry s kind subject a b c).xan = s.xan
    ∧ (State.logEntry s kind subject a b c).sess = s.sess ∧ (State.logEntry s kind subject a b c).sig = s.sig
    ∧ (State.logEntry s kind subject a b c).disp = s.disp ∧ (State.logEntry s kind subject a b c).drift = s.drift
    ∧ (State.logEntry s kind subject a b c).firn = s.firn ∧ (State.logEntry s kind subject a b c).prog = s.prog
    ∧ (State.logEntry s kind subject a b c).pair = s.pair ∧ (State.logEntry s kind subject a b c).hub = s.hub
    ∧ (State.logEntry s kind subject a b c).guard = s.guard ∧ (State.logEntry s kind subject a b c).capture = s.capture
    ∧ (State.logEntry s kind subject a b c).link = s.link ∧ (State.logEntry s kind subject a b c).eth = s.eth
    ∧ (State.logEntry s kind subject a b c).can = s.can ∧ (State.logEntry s kind subject a b c).field = s.field
    ∧ (State.logEntry s kind subject a b c).mem = s.mem ∧ (State.logEntry s kind subject a b c).draws = s.draws
    ∧ (State.logEntry s kind subject a b c).pending = s.pending := by
  unfold State.logEntry; simp
/-- D074 and D075 are of class DEGRADE: their occurrence reaches the Fault Hub, its queue and the recorder alone. -/
theorem riseFlash_same (s : State) (d : Nat) (h : d = 74 ∨ d = 75) :
    (State.rise s d 0).mode = s.mode ∧ (State.rise s d 0).time = s.time ∧ (State.rise s d 0).xan = s.xan ∧ (State.rise s d 0).sess = s.sess
    ∧ (State.rise s d 0).sig = s.sig ∧ (State.rise s d 0).firn = s.firn ∧ (State.rise s d 0).prog = s.prog ∧ (State.rise s d 0).pair = s.pair
    ∧ (State.rise s d 0).guard = s.guard ∧ (State.rise s d 0).capture = s.capture ∧ (State.rise s d 0).link = s.link ∧ (State.rise s d 0).eth = s.eth
    ∧ (State.rise s d 0).can = s.can ∧ (State.rise s d 0).field = s.field ∧ (State.rise s d 0).sedge = s.sedge ∧ (State.rise s d 0).mem = s.mem
    ∧ (State.rise s d 0).draws = s.draws ∧ (State.rise s d 0).pending = s.pending ∧ (State.rise s d 0).drift = s.drift := by
  obtain ⟨a, e, h2, h3⟩ : ∃ a, detAttr d = some a ∧ a.cls ≠ 2 ∧ a.cls ≠ 3 := by
    rcases h with rfl | rfl <;> exact ⟨_, rfl, by decide, by decide⟩
  simp only [State.rise, State.occur, State.occurBy, e]
  split
  · simp
  split
  · simp
  · simp [State.occurLatching, h2, h3]
/-- What an access to the eMMC devices leaves (R214). -/
@[simp] theorem flashResult_same (s : State) (ok1 ok2 : Bool) :
    (State.flashResult s ok1 ok2).mode = s.mode ∧ (State.flashResult s ok1 ok2).time = s.time ∧ (State.flashResult s ok1 ok2).xan = s.xan
    ∧ (State.flashResult s ok1 ok2).sess = s.sess ∧ (State.flashResult s ok1 ok2).sig = s.sig ∧ (State.flashResult s ok1 ok2).firn = s.firn
    ∧ (State.flashResult s ok1 ok2).prog = s.prog ∧ (State.flashResult s ok1 ok2).pair = s.pair ∧ (State.flashResult s ok1 ok2).guard = s.guard
    ∧ (State.flashResult s ok1 ok2).capture = s.capture ∧ (State.flashResult s ok1 ok2).link = s.link ∧ (State.flashResult s ok1 ok2).eth = s.eth
    ∧ (State.flashResult s ok1 ok2).can = s.can ∧ (State.flashResult s ok1 ok2).field = s.field ∧ (State.flashResult s ok1 ok2).sedge = s.sedge
    ∧ (State.flashResult s ok1 ok2).mem = s.mem ∧ (State.flashResult s ok1 ok2).draws = s.draws ∧ (State.flashResult s ok1 ok2).pending = s.pending := by
  have h1 := fun t => riseFlash_same t 74 (.inl rfl)
  have h2 := fun t => riseFlash_same t 75 (.inr rfl)
  simp only [State.flashResult]
  cases ok1 <;> cases ok2 <;> simp [h1, h2]

end Frame
end Sys2Proof.Machine
end

