-- ==== Sys2Proof/Laws/Memory.lean ====
section
/-! SUPPORT. The other memory operations keep the canonical form, and the memory after reset has it. -/
namespace Sys2Proof.Machine

/-- The memory after reset lists nothing, so it is canonical. -/
theorem wf_reset : Memory.wf State.reset.mem = true := rfl
/-- A run of bytes keeps the canonical form. -/
theorem wf_wrBytes (l : List Byte) : ∀ (m : List Host.Cell) (a : Nat), Memory.wf m = true → Memory.wf (wrBytes m a l) = true := by
  induction l with
  | nil => intro m a h; exact h
  | cons b l ih => intro m a h; exact ih _ _ (wf_wr8 m a b h)
/-- A run of bytes leaves every address outside it. -/
theorem rd8_wrBytes_ne (l : List Byte) : ∀ (m : List Host.Cell) (a c : Nat), Memory.wf m = true → c < a ∨ a + l.length ≤ c → rd8 (wrBytes m a l) c = rd8 m c := by
  induction l with
  | nil => intro m a c _ _; rfl
  | cons b l ih =>
    intro m a c h hc
    simp only [List.length_cons] at hc
    rw [wrBytes, ih _ _ _ (wf_wr8 m a b h) (by omega), rd8_wr8_ne m a c b (by omega) 0 h]

end Sys2Proof.Machine
end

