-- ==== Sys2Proof/Laws/Requests.lean ====
section
/-! SUPPORT. What the Dictionary Responder's checks come to: a request whose tag is right and that no check faults is passed; a granted request runs at once. -/
namespace Sys2Proof.Machine

/-- No check of Table 3.7 but check 7 faults a request with a trailer that names a session. -/
def State.unfaulted (s : State) (r : Req) (op : Nat) (t : Trailer) (ses : Session) : Bool :=
  s.hears r && fits r && frameOk r && !(0xF000 ≤ r.index.toNat && !s.vendorAllowed) && !(decide (lookup s r.index.toNat r.sub.toNat = .noObject))
    && (subsOf op r).all (subOk s op r) && ((subsOf op r).filterMap (accessFault s op r.index.toNat)).isEmpty && (subsOf op r).all (typeOk s op r)
    && authNeeded s op r && decide (ses.counter.toNat < t.counter.toNat)
    && (s.lateFault (some ses.role) (some ses.scope) r op).isNone

/-- A request with a right tag that no check faults is passed (R81). -/
theorem State.judge_passed (s : State) (r : Req) (op : Nat) (t : Trailer) (ses : Session) (ht : r.trailer = some t) (hs : s.sessionOf t.session = some ses)
    (htag : Config.hmac ses.key (tagInput 1 t.session t.counter (r.header (BitVec.ofNat 8 op)) r.data) = t.tag) (h : s.unfaulted r op t ses = true) :
    s.judge r op = .passed (s.consume t.session t.counter) (State.accepted (s.replyTo r op) t.counter) := by
  simp only [State.unfaulted, Bool.and_eq_true, Bool.not_eq_true', decide_eq_true_eq, decide_eq_false_iff_not] at h
  obtain ⟨⟨⟨⟨⟨⟨⟨⟨⟨⟨h1, h2⟩, h3⟩, h4⟩, h5⟩, h6⟩, h7⟩, h8⟩, h9⟩, h10⟩, h11⟩ := h
  have ha : s.authOf r op = .ok (ses, ⟨t.session, t.counter, ses.key, ses.role, ses.blank, ses.clientKey, ses.nonce, false⟩) := by
    simp only [State.authOf, ht, hs]; rw [if_pos htag]
  have h7' : (List.filterMap (accessFault s op r.index.toNat) (subsOf op r)).head? = none := by
    simpa [List.isEmpty_iff] using h7
  have h4' : ¬ (0xF000 ≤ r.index.toNat ∧ s.vendorAllowed = false) := by
    intro hc; simp [hc.1, hc.2] at h4
  have h11' : s.lateFault (some ses.role) (some ses.scope) r op = none := by simpa using h11
  simp [State.judge, h1, h2, h3, h4', h5, h6, h7', h8, h9, ha, Nat.not_le.mpr h10, h11']

/-- What the Responder completes itself runs on an admitted request (R87). -/
theorem State.completed_admitted {s t : State} {r : Req} {op : Nat} {x : ReplyTo} (h : Admitted s r op t x) (f : State → ReplyTo → State) :
    s.completed r op f = f t x := by simp [State.completed, h.passed]
/-- What is forwarded runs at once on a granted request, after its PENDING reply and its entry in interrupt queue 60 (R88, R90, R181). -/
theorem State.forwarded_granted {s t : State} {r : Req} {op : Nat} {x : ReplyTo} (h : Granted s r op t x) (f : State → ReplyTo → State) :
    s.forwarded r op f = f ((if writes op then t.send (x.frame true 0 x.req.sub []) else t).produceOpen 60) x := by simp [State.forwarded, h.passed, h.free, h.up]
/-- What is forwarded waits its turn when another request waits before it (R88). -/
theorem State.forwarded_waits {s t : State} {r : Req} {op : Nat} {x : ReplyTo} (h : s.judge r op = .passed t x) (hq : t.xan.queue ≠ []) (f : State → ReplyTo → State) :
    s.forwarded r op f = t.enqueue x := by simp [State.forwarded, h, List.isEmpty_iff, hq]
/-- Check 14 passes what nothing refuses: the operation, then its final reply (R81). -/
theorem State.check14_accepts (t : State) (x : ReplyTo) (op : State → State) (hp : x.req.port ≠ 0) (hs : State.blankBarred x = false) (hm : t.recoveryBarred x = false) :
    t.check14 x false false false op = (op t).answer x 0 := by simp [State.check14, hp, hs, hm]
/-- Check 14 refuses in the order RANGE, BUSY, STATE_CONFLICT (R81). -/
theorem State.check14_refuses (t : State) (x : ReplyTo) (busy conflict : Bool) (op : State → State) (hp : x.req.port ≠ 0) :
    t.check14 x true busy conflict op = t.answer x 6 ∧ t.check14 x false true conflict op = t.answer x 0x0A ∧ t.check14 x false false true op = t.answer x 9 := by
  simp [State.check14, hp]
/-- A write through a home address passes check 14 and has no reply (R68). -/
theorem State.check14_home (t : State) (x : ReplyTo) (range busy conflict : Bool) (op : State → State) (hp : x.req.port = 0) :
    t.check14 x range busy conflict op = op t := by simp [State.check14, hp]
/-- The last reply sent over a port is the one sent (R76). -/
theorem State.send_sent (s : State) (y : Reply) (hp : y.port ≠ 0) : Sent (s.send y) y.body := by
  unfold State.send; rw [if_neg hp]; split <;> simp [Sent, Reply.body]

end Sys2Proof.Machine
end

