-- ==== Sys2Proof/Laws/State.lean ====
section
/-! SUPPORT. What each named update of the state writes, and which fields of its part it leaves. -/
namespace Sys2Proof.Machine
namespace State

/-! ## setTask -/

@[simp] theorem setTask_task_self (s : State) (t : Nat) (f : TaskSt → TaskSt) : (s.setTask t f).task t = f (s.task t) := by simp [setTask, task]
theorem setTask_task (s : State) (t j : Nat) (f : TaskSt → TaskSt) : (s.setTask t f).task j = if j = t then f (s.task t) else s.task j := by
  simp [setTask, task, get_put]
@[simp] theorem setTask_disp_cores (s : State) (t : Nat) (f : TaskSt → TaskSt) : (s.setTask t f).disp.cores = s.disp.cores := rfl
@[simp] theorem setTask_disp_queues (s : State) (t : Nat) (f : TaskSt → TaskSt) : (s.setTask t f).disp.queues = s.disp.queues := rfl
@[simp] theorem setTask_disp_warns (s : State) (t : Nat) (f : TaskSt → TaskSt) : (s.setTask t f).disp.warns = s.disp.warns := rfl

/-! ## setFirn -/

@[simp] theorem setFirn_firnTask_self (s : State) (t : Nat) (f : FirnTask → FirnTask) : (s.setFirn t f).firnTask t = f (s.firnTask t) := by simp [setFirn, firnTask]
theorem setFirn_firnTask (s : State) (t j : Nat) (f : FirnTask → FirnTask) : (s.setFirn t f).firnTask j = if j = t then f (s.firnTask t) else s.firnTask j := by
  simp [setFirn, firnTask, get_put]
@[simp] theorem setFirn_firn_areas (s : State) (t : Nat) (f : FirnTask → FirnTask) : (s.setFirn t f).firn.areas = s.firn.areas := rfl
@[simp] theorem setFirn_firn_stateA (s : State) (t : Nat) (f : FirnTask → FirnTask) : (s.setFirn t f).firn.stateA = s.firn.stateA := rfl
@[simp] theorem setFirn_firn_stateB (s : State) (t : Nat) (f : FirnTask → FirnTask) : (s.setFirn t f).firn.stateB = s.firn.stateB := rfl
@[simp] theorem setFirn_firn_stateC (s : State) (t : Nat) (f : FirnTask → FirnTask) : (s.setFirn t f).firn.stateC = s.firn.stateC := rfl
@[simp] theorem setFirn_firn_selftestCount (s : State) (t : Nat) (f : FirnTask → FirnTask) : (s.setFirn t f).firn.selftestCount = s.firn.selftestCount := rfl
@[simp] theorem setFirn_firn_selftestFails (s : State) (t : Nat) (f : FirnTask → FirnTask) : (s.setFirn t f).firn.selftestFails = s.firn.selftestFails := rfl
@[simp] theorem setFirn_firn_traceTask (s : State) (t : Nat) (f : FirnTask → FirnTask) : (s.setFirn t f).firn.traceTask = s.firn.traceTask := rfl
@[simp] theorem setFirn_firn_trace (s : State) (t : Nat) (f : FirnTask → FirnTask) : (s.setFirn t f).firn.trace = s.firn.trace := rfl
@[simp] theorem setFirn_firn_traceGen (s : State) (t : Nat) (f : FirnTask → FirnTask) : (s.setFirn t f).firn.traceGen = s.firn.traceGen := rfl

/-! ## setGrp -/

@[simp] theorem setGrp_grp_self (s : State) (g : Nat) (f : Group → Group) : (s.setGrp g f).grp g = f (s.grp g) := by simp [setGrp, grp]
theorem setGrp_grp (s : State) (g j : Nat) (f : Group → Group) : (s.setGrp g f).grp j = if j = g then f (s.grp g) else s.grp j := by
  simp [setGrp, grp, get_put]
@[simp] theorem setGrp_field_watchdog (s : State) (g : Nat) (f : Group → Group) : (s.setGrp g f).field.watchdog = s.field.watchdog := rfl
@[simp] theorem setGrp_field_restorePolicy (s : State) (g : Nat) (f : Group → Group) : (s.setGrp g f).field.restorePolicy = s.field.restorePolicy := rfl
@[simp] theorem setGrp_field_convertBase (s : State) (g : Nat) (f : Group → Group) : (s.setGrp g f).field.convertBase = s.field.convertBase := rfl
@[simp] theorem setGrp_field_chans (s : State) (g : Nat) (f : Group → Group) : (s.setGrp g f).field.chans = s.field.chans := rfl
@[simp] theorem setGrp_field_trim (s : State) (g : Nat) (f : Group → Group) : (s.setGrp g f).field.trim = s.field.trim := rfl
@[simp] theorem setGrp_field_harts (s : State) (g : Nat) (f : Group → Group) : (s.setGrp g f).field.harts = s.field.harts := rfl

/-! ## setChan -/

@[simp] theorem setChan_chan_self (s : State) (c : Nat) (f : Chan → Chan) : (s.setChan c f).chan c = f (s.chan c) := by simp [setChan, chan]
theorem setChan_chan (s : State) (c j : Nat) (f : Chan → Chan) : (s.setChan c f).chan j = if j = c then f (s.chan c) else s.chan j := by
  simp [setChan, chan, get_put]
@[simp] theorem setChan_field_watchdog (s : State) (c : Nat) (f : Chan → Chan) : (s.setChan c f).field.watchdog = s.field.watchdog := rfl
@[simp] theorem setChan_field_restorePolicy (s : State) (c : Nat) (f : Chan → Chan) : (s.setChan c f).field.restorePolicy = s.field.restorePolicy := rfl
@[simp] theorem setChan_field_convertBase (s : State) (c : Nat) (f : Chan → Chan) : (s.setChan c f).field.convertBase = s.field.convertBase := rfl
@[simp] theorem setChan_field_groups (s : State) (c : Nat) (f : Chan → Chan) : (s.setChan c f).field.groups = s.field.groups := rfl
@[simp] theorem setChan_field_trim (s : State) (c : Nat) (f : Chan → Chan) : (s.setChan c f).field.trim = s.field.trim := rfl
@[simp] theorem setChan_field_harts (s : State) (c : Nat) (f : Chan → Chan) : (s.setChan c f).field.harts = s.field.harts := rfl

/-! ## setPort -/

@[simp] theorem setPort_port_self (s : State) (p : Nat) (f : Port → Port) : (s.setPort p f).port p = f (s.port p) := by simp [setPort, port]
theorem setPort_port (s : State) (p j : Nat) (f : Port → Port) : (s.setPort p f).port j = if j = p then f (s.port p) else s.port j := by
  simp [setPort, port, get_put]
@[simp] theorem setPort_eth_prpConfig (s : State) (p : Nat) (f : Port → Port) : (s.setPort p f).eth.prpConfig = s.eth.prpConfig := rfl
@[simp] theorem setPort_eth_prpActive (s : State) (p : Nat) (f : Port → Port) : (s.setPort p f).eth.prpActive = s.eth.prpActive := rfl
@[simp] theorem setPort_eth_duplicates (s : State) (p : Nat) (f : Port → Port) : (s.setPort p f).eth.duplicates = s.eth.duplicates := rfl
@[simp] theorem setPort_eth_nodes (s : State) (p : Nat) (f : Port → Port) : (s.setPort p f).eth.nodes = s.eth.nodes := rfl
@[simp] theorem setPort_eth_pool (s : State) (p : Nat) (f : Port → Port) : (s.setPort p f).eth.pool = s.eth.pool := rfl
@[simp] theorem setPort_eth_lastSupervision (s : State) (p : Nat) (f : Port → Port) : (s.setPort p f).eth.lastSupervision = s.eth.lastSupervision := rfl
@[simp] theorem setPort_eth_out (s : State) (p : Nat) (f : Port → Port) : (s.setPort p f).eth.out = s.eth.out := rfl

/-! ## setLnk -/

@[simp] theorem setLnk_lnk_self (s : State) (k : Nat) (f : Link → Link) : (s.setLnk k f).lnk k = f (s.lnk k) := by simp [setLnk, lnk]
theorem setLnk_lnk (s : State) (k j : Nat) (f : Link → Link) : (s.setLnk k f).lnk j = if j = k then f (s.lnk k) else s.lnk j := by
  simp [setLnk, lnk, get_put]
@[simp] theorem setLnk_link_slots (s : State) (k : Nat) (f : Link → Link) : (s.setLnk k f).link.slots = s.link.slots := rfl
@[simp] theorem setLnk_link_slotWaits (s : State) (k : Nat) (f : Link → Link) : (s.setLnk k f).link.slotWaits = s.link.slotWaits := rfl
@[simp] theorem setLnk_link_waiting (s : State) (k : Nat) (f : Link → Link) : (s.setLnk k f).link.waiting = s.link.waiting := rfl
@[simp] theorem setLnk_link_out (s : State) (k : Nat) (f : Link → Link) : (s.setLnk k f).link.out = s.link.out := rfl

/-! ## setCan -/

@[simp] theorem setCan_canCh_self (s : State) (c : Nat) (f : Can → Can) : (s.setCan c f).canCh c = f (s.canCh c) := by simp [setCan, canCh]
theorem setCan_canCh (s : State) (c j : Nat) (f : Can → Can) : (s.setCan c f).canCh j = if j = c then f (s.canCh c) else s.canCh j := by
  simp [setCan, canCh, get_put]
@[simp] theorem setCan_can_node (s : State) (c : Nat) (f : Can → Can) : (s.setCan c f).can.node = s.can.node := rfl
@[simp] theorem setCan_can_channels (s : State) (c : Nat) (f : Can → Can) : (s.setCan c f).can.channels = s.can.channels := rfl
@[simp] theorem setCan_can_dropped (s : State) (c : Nat) (f : Can → Can) : (s.setCan c f).can.dropped = s.can.dropped := rfl

/-! ## setCap -/

@[simp] theorem setCap_cap_self (s : State) (g : Nat) (f : CapGroup → CapGroup) : (s.setCap g f).cap g = f (s.cap g) := by simp [setCap, cap]
theorem setCap_cap (s : State) (g j : Nat) (f : CapGroup → CapGroup) : (s.setCap g f).cap j = if j = g then f (s.cap g) else s.cap j := by
  simp [setCap, cap, get_put]
@[simp] theorem setCap_capture_epoch (s : State) (g : Nat) (f : CapGroup → CapGroup) : (s.setCap g f).capture.epoch = s.capture.epoch := rfl
@[simp] theorem setCap_capture_count (s : State) (g : Nat) (f : CapGroup → CapGroup) : (s.setCap g f).capture.count = s.capture.count := rfl
@[simp] theorem setCap_capture_waiting (s : State) (g : Nat) (f : CapGroup → CapGroup) : (s.setCap g f).capture.waiting = s.capture.waiting := rfl
@[simp] theorem setCap_capture_queue (s : State) (g : Nat) (f : CapGroup → CapGroup) : (s.setCap g f).capture.queue = s.capture.queue := rfl
@[simp] theorem setCap_capture_writerFree (s : State) (g : Nat) (f : CapGroup → CapGroup) : (s.setCap g f).capture.writerFree = s.capture.writerFree := rfl
@[simp] theorem setCap_capture_overwritten (s : State) (g : Nat) (f : CapGroup → CapGroup) : (s.setCap g f).capture.overwritten = s.capture.overwritten := rfl
@[simp] theorem setCap_capture_droppedRun (s : State) (g : Nat) (f : CapGroup → CapGroup) : (s.setCap g f).capture.droppedRun = s.capture.droppedRun := rfl
@[simp] theorem setCap_capture_buffer (s : State) (g : Nat) (f : CapGroup → CapGroup) : (s.setCap g f).capture.buffer = s.capture.buffer := rfl
@[simp] theorem setCap_capture_held (s : State) (g : Nat) (f : CapGroup → CapGroup) : (s.setCap g f).capture.held = s.capture.held := rfl
@[simp] theorem setCap_capture_nextNumber (s : State) (g : Nat) (f : CapGroup → CapGroup) : (s.setCap g f).capture.nextNumber = s.capture.nextNumber := rfl
@[simp] theorem setCap_capture_stored (s : State) (g : Nat) (f : CapGroup → CapGroup) : (s.setCap g f).capture.stored = s.capture.stored := rfl
@[simp] theorem setCap_capture_dropped (s : State) (g : Nat) (f : CapGroup → CapGroup) : (s.setCap g f).capture.dropped = s.capture.dropped := rfl
@[simp] theorem setCap_capture_late (s : State) (g : Nat) (f : CapGroup → CapGroup) : (s.setCap g f).capture.late = s.capture.late := rfl
@[simp] theorem setCap_capture_reorderDelay (s : State) (g : Nat) (f : CapGroup → CapGroup) : (s.setCap g f).capture.reorderDelay = s.capture.reorderDelay := rfl
@[simp] theorem setCap_capture_share (s : State) (g : Nat) (f : CapGroup → CapGroup) : (s.setCap g f).capture.share = s.capture.share := rfl
@[simp] theorem setCap_capture_cursors (s : State) (g : Nat) (f : CapGroup → CapGroup) : (s.setCap g f).capture.cursors = s.capture.cursors := rfl

/-! ## setArea, setRelease -/

@[simp] theorem setArea_self (s : State) (t p : Nat) (a : Area) : (s.setArea t p a).area t p = a := by simp [setArea, area]
theorem setArea_ne (s : State) (t p u q : Nat) (a : Area) (h : 3 * u + q ≠ 3 * t + p) : (s.setArea t p a).area u q = s.area u q := by simp [setArea, area, get_put, h]
@[simp] theorem setArea_firn_tasks (s : State) (t p : Nat) (a : Area) :
    (s.setArea t p a).firn.tasks = (s.setFirn t (fun f => { f with stashPeak := BitVec.ofNat 32 (max f.stashPeak.toNat a.entries.length) })).firn.tasks := rfl
@[simp] theorem setArea_firn_stateA (s : State) (t p : Nat) (a : Area) : (s.setArea t p a).firn.stateA = s.firn.stateA := rfl
@[simp] theorem setArea_firn_stateB (s : State) (t p : Nat) (a : Area) : (s.setArea t p a).firn.stateB = s.firn.stateB := rfl
@[simp] theorem setArea_firn_stateC (s : State) (t p : Nat) (a : Area) : (s.setArea t p a).firn.stateC = s.firn.stateC := rfl
@[simp] theorem setArea_firn_selftestCount (s : State) (t p : Nat) (a : Area) : (s.setArea t p a).firn.selftestCount = s.firn.selftestCount := rfl
@[simp] theorem setArea_firn_selftestFails (s : State) (t p : Nat) (a : Area) : (s.setArea t p a).firn.selftestFails = s.firn.selftestFails := rfl
@[simp] theorem setArea_firn_traceTask (s : State) (t p : Nat) (a : Area) : (s.setArea t p a).firn.traceTask = s.firn.traceTask := rfl
@[simp] theorem setArea_firn_trace (s : State) (t p : Nat) (a : Area) : (s.setArea t p a).firn.trace = s.firn.trace := rfl
@[simp] theorem setArea_firn_traceGen (s : State) (t p : Nat) (a : Area) : (s.setArea t p a).firn.traceGen = s.firn.traceGen := rfl
@[simp] theorem setRelease_self (s : State) (t : Nat) (f : Release → Release) : ((s.setRelease t f).task t).release = (s.task t).release.map f := by simp [setRelease]

end State
end Sys2Proof.Machine
end

