-- ==== Sys2Proof/Machine/Pins.lean ====
section
/-! DEFINITION. What the module shows outside by its state alone: output pins, front LEDs and the front display (11, 20). -/
namespace Sys2Proof.Machine

/-- What a front LED does (Table 20.10). -/
inductive Lamp where
  | dark
  | steady
  | flash (hertz : Nat)
  deriving DecidableEq, Repr

/-- The front LEDs (Table 20.10). -/
structure Leds where
  run : Lamp
  active : Lamp
  sync : Lamp
  force : Lamp
  debug : Lamp
  fault : Lamp
  deriving DecidableEq, Repr

/-- What the front display shows (R592). -/
inductive Display where
  /-- Line 1: the mode, the slot and the role of PAIR_STATUS. Line 2: the worst latched detector. -/
  | normal (mode : Mode) (upperSlot : Bool) (role : Nat) (worst : Option Nat)
  /-- A trim: the channel, the point, the steps and the current in µA (R542). -/
  | trim (channel : Nat) (span : Bool) (steps : Int) (current : Int)
  | noFirmware
  deriving DecidableEq, Repr

/-- The output pins (R11, R306, R372, R373). -/
structure Pins where
  ownSelf : Bool
  gatesOpen : Bool
  alive : Bool
  faultN : Bool
  deriving DecidableEq, Repr

namespace State

/-- The output pins: from power-on reset until the start-up test has completed ALIVE and FAULT_N are low (R372, R373). -/
def outPins (s : State) : Pins :=
  { ownSelf := s.pair.ownSelf, gatesOpen := s.gateOpen, alive := !s.mode.inReset && s.mode.hubTested && s.hub.alive
    faultN := !s.mode.inReset && !s.faultNLow }
/-- LED RUN; in TRACK the adopted epoch is the last one received (DEDUCED). -/
def ledRun (s : State) : Lamp :=
  match s.mode.current with
  | .run => .steady
  | .hold => .flash 1
  | .service => .flash 1
  | .track => if s.pair.lastEpoch.elim false (fun e => decide (e.1 = .run)) then .steady else .flash 1
  | .cold => .dark
  | .safe => .dark
/-- LED ACTIVE. -/
def ledActive (s : State) : Lamp := if !s.pair.ownSelf then .dark else if s.gateOpen then .steady else .flash 2
/-- LED SYNC; where several rows apply, the 4 Hz row comes first (DEDUCED). -/
def ledSync (s : State) : Lamp :=
  if s.pair.stale ∨ s.pair.split ∨ s.pair.interlockOpen then .flash 4
  else if !s.pair.peerPresent then .dark
  else if s.syncPhase = 5 then .steady
  else if 1 ≤ s.syncPhase ∧ s.syncPhase ≤ 4 then .flash 1 else .dark
/-- LED FORCE (R156). -/
def ledForce (s : State) : Lamp := if s.forceCount 0 = 0 then .dark else .steady
/-- LED DEBUG: lit while a task is in DEBUG-TAINT, 1 Hz while a debug session alone is attached (R250, R401). -/
def ledDebug (s : State) : Lamp := if s.disp.tasks.any (fun e => e.2.tainted) then .steady else if s.guard.attached then .flash 1 else .dark
/-- LED FAULT (R374). -/
def ledFault (s : State) : Lamp := if s.anyLatch 3 then .flash 2 else if s.anyLatch 1 then .steady else .dark
/-- The front LEDs: for 1 s after the release of power-on reset every one is lit (R591). -/
def leds (s : State) : Leds :=
  if s.mode.inReset then ⟨.dark, .dark, .dark, .dark, .dark, .dark⟩
  else if s.time.now < s.mode.resetAt + 1000000000 then ⟨.steady, .steady, .steady, .steady, .steady, .steady⟩
  else ⟨s.ledRun, s.ledActive, s.ledSync, s.ledForce, s.ledDebug, s.ledFault⟩
/-- The worst latched detector: the lowest number of the worst latched class (DEDUCED from FAULT_STATE). -/
def worstDetector (s : State) : Option Nat := s.latchedDets.find? (fun d => (detAttr d).elim false (fun a => a.cls = s.worstClass))
/-- The front display (R592). -/
def display (s : State) : Display :=
  if s.sedge.recovery then .noFirmware
  else match s.field.trim with
    | some t => .trim t.channel t.span t.steps (if t.channel < 0x28 then (s.chan t.channel).measured else (s.chan t.channel).commanded)
    | none => .normal s.mode.current s.pair.slotPos s.pairRole s.worstDetector

end State
end Sys2Proof.Machine
end

