-- ==== Sys2Proof/WellFormed.lean ====
section
/-! DEFINITION. Which operands a command may carry: the numbers of tasks, cores, links, channels, queues and ports that the module has. -/
namespace Sys2Proof

/-- Tasks 0 to 15 (Table 1.4). -/
def taskWf (n : Nat) : Bool := decide (n < 16)
/-- Cores C0 to C7 (Table 1.5). -/
def coreWf (n : Nat) : Bool := decide (n < 8)
/-- Links 0 to 47 (Table 1.4). -/
def linkWf (n : Nat) : Bool := decide (n < 48)
/-- CAN1 and CAN2. -/
def canWf (n : Nat) : Bool := n == 1 || n == 2
/-- Groups 1 and 2 of the Field Block (R518). -/
def groupWf (n : Nat) : Bool := n == 1 || n == 2
/-- Digital channels, codes 0x00 to 0x1F (Table 18.1). -/
def digitalWf (n : Nat) : Bool := decide (n < 0x20)
/-- Analog outputs AO1 to AO8 (Table 18.1). -/
def analogOutWf (n : Nat) : Bool := decide (0x28 ≤ n) && decide (n < 0x30)
/-- A channel code of the Field Block or of a link (R451). -/
def channelWf (n : Nat) : Bool := decide (n < 0x30) || (decide (0x1000 ≤ n) && decide (n < 0x7000))

/-- A request arrives at one of the seven ports, with the two bytes that a request leaves 0 and no more data than a frame holds (Tables 3.4 and 4.15, R73). -/
def Req.wf (r : Req) : Bool := decide (1 ≤ r.port) && decide (r.port ≤ 7) && r.status == 0 && r.reserved == 0 && decide (r.data.length ≤ 65535)
/-- A write by a client, or by a master at a word of the address space (R65). -/
def ObjWrite.wf : ObjWrite → Bool
  | .xanfil r => r.wf
  | .home m a _ => decide (m < 16) && decide (a < 0x100000000) && decide (a % 4 = 0)
/-- The action is a write into the stash. -/
def PassAct.isWrite : PassAct → Bool
  | .write .. => true
  | .readValue _ => false
  | .readStatus _ => false
  | .readState _ => false
/-- Signals 0 to 65,535; state words of 25 bits (R230). -/
def PassAct.wf : PassAct → Bool
  | .write .. => true
  | .readValue n => decide (n < 65536)
  | .readStatus n => decide (n < 65536)
  | .readState n => decide (n < 33554432)
/-- An access of a master 0 to 15 by read, write or fetch, aligned to its size of 1 to 64 bytes. -/
def Access.wf (a : Access) : Bool := decide (a.master < 16) && decide (a.kind ≤ 2) && decide (a.size ≤ 6) && decide (a.address < 0x100000000) && decide (a.address % 2 ^ a.size = 0)
/-- Groups 0 to 31 of the Capture Engine (Table 1.4). -/
def ArmBy.wf : ArmBy → Bool
  | .command r => r.wf
  | .signal g => decide (g < 32)
/-- A stored trim comes from a request or from the keys. -/
def StoreBy.wf : StoreBy → Bool
  | .command r => r.wf
  | .keys => true
/-- PTP ports 0 to 4 with an IEEE 1588 portState 1 to 9; offsets carried as 32 bits (Table 16.5). -/
def PtpEvent.wf : PtpEvent → Bool
  | .portState p c => decide (p < 5) && decide (1 ≤ c) && decide (c ≤ 9)
  | .sync _ _ => true
  | .announce _ _ _ => true
  | .grandmaster => true
  | .unsupported => true
/-- The bytes that a data length code spells (ISO 11898-1). -/
def codeLength (fd : Bool) (d : Nat) : Nat := if d ≤ 8 then d else if fd then [12, 16, 20, 24, 32, 48, 64].getD (d - 9) 64 else 8
/-- A frame's identifier fits its format, its data its length code; a remote frame is classic and has none. -/
def CanFrame.wf (f : CanFrame) : Bool :=
  (f.ide || decide (f.ident.toNat < 2048)) && decide (f.data.length = if f.remote then 0 else codeLength f.fdf f.dlc.toNat) && !(f.remote && f.fdf) && (f.fdf || !f.brs && !f.esi)
/-- Parts of the bulk copy name signals, tasks and a percentage (Table 10.8). -/
def BulkPart.wf : BulkPart → Bool
  | .signal n _ _ _ => decide (n < 65536)
  | .holdRun t _ => taskWf t
  | .percent p => decide (p ≤ 100)
  | .modes _ t _ => decide (t ≤ 5)
  | .image _ _ => true
  | .stateWords _ _ => true

/-- A command whose operands the module can meet. An ill-formed one leaves the state as it is where it names something that the module does not have. -/
def Instr.wf : Instr → Bool
  | .powerOnResetRelease p => p.trimBad.all (fun c => decide (0x20 ≤ c) && decide (c < 0x30))
  | .hubStartupTestComplete => true
  | .bootMeasurementComplete m => decide (m.copy1 ≤ 3) && decide (m.copy2 ≤ 3) && m.images.all (fun r => decide (r.slot < 2))
  | .endOfBoot => true
  | .monotonicClockStartTimeout => true
  | .logicSupplyLost => true
  | .powerFail _ _ => true
  | .feedOvervoltageDisconnect feed _ => decide (feed < 2)
  | .feedReconnect feed _ _ => decide (feed < 2)
  | .presentNHigh _ => true
  | .modeRequestRun r => r.wf
  | .modeRequestHold r => r.wf
  | .serviceRequestService r => r.wf
  | .serviceRequestHold r => r.wf
  | .serviceRequestTrack r => r.wf
  | .prepareComplete => true
  | .prepareTimeout => true
  | .epochReceived _ target _ _ => decide (target ≤ 5)
  | .taskReleaseInstant task => taskWf task
  | .deadlineCheck task => taskWf task
  | .prefetchRequest task => taskWf task
  | .workingSetResident task => taskWf task
  | .pageFetchComplete page _ _ => decide (page < 0x40000)
  | .writeBackComplete frame => decide (frame < 8192)
  | .passEnd core acts _ _ => coreWf core && acts.all PassAct.wf
  | .blockBoundary core acts _ => coreWf core && acts.all PassAct.wf
  | .coreIdle core => coreWf core
  | .voteEnd task => taskWf task
  | .commitComplete task => taskWf task
  | .resyncEnd task => taskWf task
  | .bgCompareEnd task => taskWf task
  | .undeclaredAccess core a _ => coreWf core && decide (a.kind ≤ 2) && decide (a.address.toNat < 0x40000000)
  | .stashOverflow core w => coreWf core && w.isWrite
  | .nonresidentPrivilegedAccess core a => coreWf core && decide (a.kind ≤ 2) && decide (a.address.toNat < 0x40000000)
  | .guardViolation a => a.wf
  | .guardSync master _ => decide (master < 16)
  | .queueEntryProduced queue entry => decide (queue < 256) && decide (entry.length ≤ 4)
  | .interruptMessageSend queue => decide (queue < 256)
  | .coalesceTimeExpiry queue => decide (queue < 256)
  | .consumerWrite queue index => decide (queue < 256) && decide (index < 128)
  | .allocMsg => true
  | .freeMsg address => decide (address < 0x100000000)
  | .read r => r.wf
  | .write r => r.wf
  | .readRange r => r.wf
  | .windowRead r => r.wf
  | .windowWrite r => r.wf
  | .sessionOpen r _ => r.wf
  | .sessionOpenReply _ number => decide (number ≠ 0)
  | .sessionClose r => r.wf
  | .signedWrite r => r.wf
  | .signatureVerified _ => true
  | .forwardedRequestComplete => true
  | .sessionIdleTimeout number => decide (number ≠ 0)
  | .sessionValidityExpiry number => decide (number ≠ 0)
  | .sessionKill r => r.wf
  | .revokedNonces r => r.wf
  | .presencePermit => true
  | .presencePermitExpiry => true
  | .attestQuoteNonce r => r.wf
  | .quoteComplete => true
  | .replaceAuthority _ => true
  | .installDeviceCert _ => true
  | .removeDeviceCert => true
  | .lifecycleRequest _ => true
  | .wipeComplete => true
  | .wipeVerifyFailed => true
  | .signalValueWrite r => r.wf
  | .forceValueWrite r => r.wf
  | .forceSet r => r.wf
  | .forceRelease r => r.wf
  | .forceReleaseAll r => r.wf
  | .imageStage r => r.wf
  | .stageVerify r => r.wf
  | .stageDiscard r => r.wf
  | .imageVerifyComplete _ _ _ _ => true
  | .instanceParamsWrite r => r.wf
  | .constantPoolWrite r => r.wf
  | .constantChangeComplete => true
  | .exchangeStart => true
  | .transferEnd stageError => decide (stageError < 256)
  | .mappingEnd => true
  | .bulkCopyEnd => true
  | .newLayoutInStep => true
  | .standbyReady _ => true
  | .swapInstant => true
  | .lastDeltaAcknowledged => true
  | .swapReclaimTimeout => true
  | .exchangeAbort r => r.wf
  | .prepareLimitExpiry => true
  | .exchangeRevert => true
  | .exchangeConfirm r => r.wf
  | .revertWindowExpiry => true
  | .loneExchangeExecute => true
  | .loneRevertExecute => true
  | .handoverRequest r => r.wf
  | .ownPeerChange _ => true
  | .claimTimerExpiry => true
  | .claim => true
  | .ownershipConflict => true
  | .gateCheck _ => true
  | .outputPathCheck domain _ => decide (domain < 256)
  | .interlockOpenTimeout => true
  | .hello m => decide (m.lifecycle ≤ 5) && decide (m.protocol < 65536)
  | .helloTimer => true
  | .helloDefer => true
  | .heartbeat m => decide (m.syncPhase ≤ 15)
  | .goodbye reason => decide (1 ≤ reason) && decide (reason ≤ 8)
  | .streamInputChange c => decide (c.signal < 65536) && decide (c.source < 8)
  | .commitDelta d => taskWf d.task && decide (d.outcome ≤ 7)
  | .handoverMessage _ => true
  | .exchangeMessage _ => true
  | .bulk p => p.wf
  | .syncRetransmitTimeout _ => true
  | .laneDown lane => decide (lane < 2)
  | .laneRetrain lane => decide (lane < 2)
  | .laneUp lane => decide (lane < 2)
  | .syncLinkFailure cause => decide (cause < 256)
  | .syncLinkUp => true
  | .staleTimeout => true
  | .clockOffsetExcess => true
  | .stateCopyEnd => true
  | .resyncBufferFull => true
  | .resyncBufferDrained => true
  | .resyncRestartWaitExpiry => true
  | .checkpointTick => true
  | .checkpointComplete _ _ => true
  | .checkpointWaive r => r.wf
  | .detectorOccurrence detector _ => decide (detector < 512)
  | .detectorLiveFall detector => decide (detector < 512)
  | .shadowEnd domain => decide (domain < 256)
  | .causeLatch r => r.wf
  | .fenceRestore r => r.wf
  | .restoreShadowEnd => true
  | .detRaise w => w.wf
  | .detRaiseLevelOff w => w.wf
  | .leafKick w => w.wf
  | .leafWatchdogStop missing => decide (missing < 2)
  | .moraineTrigger code unit payload => decide (code < 1024) && decide (unit < 4096) && decide (payload.length ≤ 8)
  | .moraineAccept => true
  | .post port code unit payload => decide (port ≤ 8) && decide (code < 1024) && decide (unit < 4096) && decide (payload.length ≤ 8)
  | .persistTick => true
  | .persistComplete _ _ => true
  | .moraineClear => true
  | .moraineCursor r => r.wf
  | .rateLimit r => r.wf
  | .snapList r => r.wf
  | .captureRecordArrival c => channelWf c.channel
  | .reorderDelayExpiry => true
  | .captureEnd group => decide (group < 32)
  | .groupArm by_ => by_.wf
  | .groupDisarm r => r.wf
  | .captureRelease r => r.wf
  | .captureCursor r => r.wf
  | .linkCycleInstant link => linkWf link
  | .linkReply link p => linkWf link && decide (p.position < 16) && p.soe.all (fun e => decide (e.channel < 32))
  | .replyWindowExpiry link position => linkWf link && decide (position < 16)
  | .linkCycleEnd link => linkWf link
  | .configureReply link p => linkWf link && decide (p.position < 16) && decide (p.result < 256)
  | .configureRetry link position => linkWf link && decide (position < 16)
  | .linkSyncLost link => linkWf link
  | .linkTrained link _ => linkWf link
  | .linkPark r => r.wf
  | .ethFrameReceived port f => decide (port < 5) && decide (f.bytes.length ≤ 1518)
  | .txSubmit w => w.wf
  | .rxSupply w => w.wf
  | .launchInstant port queue _ => decide (port < 5) && decide (queue < 8)
  | .txComplete port queue _ => decide (port < 5) && decide (queue < 8)
  | .ethLinkChange port _ _ => decide (port < 5)
  | .ptpMessage e => e.wf
  | .ptpHoldover _ => true
  | .holdoverLimitExpiry => true
  | .wallSet r => r.wf
  | .wallTimeStore => true
  | .ptpSettingWrite r => r.wf
  | .prpSupervisionTimer => true
  | .canFrameReceived channel f => canWf channel && f.wf
  | .moTransmitRequest w => w.wf
  | .moAbort w => w.wf
  | .canTransmitEnd channel _ => canWf channel
  | .canBusOff channel _ => canWf channel
  | .canRecover r => r.wf
  | .busOffRecoveryComplete channel _ => canWf channel
  | .canErrorStateChange channel _ _ => canWf channel
  | .channelMode r => r.wf
  | .abrCandidateTimeout channel => canWf channel
  | .abrResult channel _ _ _ => canWf channel
  | .outputUpdate group => groupWf group
  | .fbWatchdogExpiry group => groupWf group
  | .digitalInputEdge channel _ _ => digitalWf channel
  | .analogConversion group microamps => groupWf group && decide (microamps.length = 4)
  | .supplySample group _ => groupWf group
  | .groupSwitchOff group => groupWf group
  | .restoreReady group => groupWf group
  | .groupRestore r => r.wf
  | .outputOverload channel _ _ => digitalWf channel
  | .overloadRetry channel _ => digitalWf channel
  | .readbackCompare channel _ => digitalWf channel
  | .loopCompliance channel _ => analogOutWf channel
  | .hartRequest r => r.wf
  | .hartTransactionDone hart result => decide (hart < 16) && decide (2 ≤ result.result) && decide (result.result ≤ 4)
  | .hartBurstFrame hart _ => decide (hart < 16)
  | .trimSelect r => r.wf
  | .trimAdjust r => r.wf
  | .trimKeyPress _ => true
  | .trimKeyRepeat _ _ => true
  | .trimStore by_ => by_.wf
  | .trimCancel r => r.wf
  | .trimIdleTimeout => true
  | .sensorSample readings failed => decide (readings.length = 24) && failed.all (fun k => decide (k < 24))
  | .cover _ => true
  | .sedgeStoreRetry _ => true
  | .fwStage r => r.wf
  | .fwVerify r => r.wf
  | .fwDiscard r => r.wf
  | .fwVerifyComplete _ _ _ _ => true
  | .fwActivate => true
  | .firmwareReboot => true
  | .floorRaise => true
  | .trialConfirmed => true
  | .extest => true
  | .samplePreload => true
  | .idcode => true
  | .bypass => true
  | .attach => true
  | .halt task => taskWf task
  | .step task acts _ _ => taskWf task && acts.all PassAct.wf
  | .resume task => taskWf task
  | .detach => true
  | .dbgAccessRead _ => true
  | .dbgAccessWrite _ _ => true
  | .tapReset => true
  | .taintRebuildEnd task => taskWf task
  | .debugPermit r => r.wf
  | .debugPermitExpiry => true
  | .statsReset r => r.wf
  | .driftStatsReset r => r.wf
  | .firnStatsReset r => r.wf
  | .objectWrite w => w.wf
  | .eccCorrectedError rank => decide (rank < 2)
  | .energyStoreCharged group => groupWf group
  | .wireBreakChange channel _ => digitalWf channel
  | .loopComplianceCleared channel _ => analogOutWf channel
  | .canTransmitStart channel => canWf channel
  | .aliveToggle => true

end Sys2Proof
end

