-- ==== Sys2Proof/Tests/Slice0.lean ====
section
/-! SUPPORT. Small checks of the model against the words of the specification, and a witness for the hypotheses of every statement. -/
namespace Sys2Proof.Tests
open Sys2Proof.Machine
-- Many small theorems: elaborated one after the other, so that the threads stay few.
set_option Elab.async false
set_option linter.unusedVariables false

/-! ## Small states -/

/-- One task, two units, three signals, two channels, a capture group and a link. -/
def img : Image :=
  { build := 0x311, length := 4096, hash := 77, minFw := 0x04010000
    tasks := [{ task := 0, period := 1000, deadline := 600, affinity := 3, stashWords := 8, reads := [10], ranges := [(256, 1)] }]
    units := [{ unit := 0 }, { unit := 20, parent := some 0 }]
    signals := [{ signal := 10, attributes := 0x1000, unit := 20, readers := [0] }, { signal := 11, attributes := 0x2000, unit := 20, producer := some 0 },
                { signal := 12, attributes := 0x4120, unit := 20, readers := [0] }]
    insts := [{ id := 0x2A10, unit := 20, task := 0, params := [{ word := 1, value := 5, low := 0, high := 10 }], initial := [7], types := List.replicate 16 1 }]
    slotPools := [1, 0, 0, 0, 0]
    channels := [{ channel := 0x00, unit := 20, signal := some 10, kind := 1, capture := true, group := some 2, trigger := 1, wireBreak := true },
                 { channel := 0x10, unit := 20, signal := some 11, kind := 3 }]
    groups := [{ group := 2 }]
    links := [{ link := 3, period := 1000, positions := [{ position := 0, typeId := 0x1234 }] }] }
/-- The entries of the image's signals. -/
def sigs : Tab Sig :=
  [(10, { attributes := 0x1000, unit := 20, readers := [0], quality := 0 }), (11, { attributes := 0x2000, unit := 20, producer := some 0, quality := 0 }),
   (12, { attributes := 0x4120, unit := 20, readers := [0], quality := 0 })]
/-- Five sessions on P1, one of each role, each under its own number and key. -/
def sessions : List Session :=
  [1, 2, 3, 4, 5].map (fun n => { number := BitVec.ofNat 32 n, role := n, port := 1, scope := 0, key := BitVec.ofNat 256 n, validFor := 5000 })
/-- A lone active module in RUN, one second after its clock started. -/
def act : State :=
  { State.reset with
    mode := { current := .run, target := .run, life := .inService, hubTested := true, measured := true, booted := true, leftColdAt := some 0 }
    time := { now := 1000000000, mono := 1000000000, monoRun := true }
    sess := { table := sessions, ks := { version := 1 }, sealed1 := some { version := 1 }, sealed2 := some { version := 1 }, sealedCopy1 := 0, sealedCopy2 := 0 }
    sig := { entries := sigs }
    disp := { tasks := [(0, { adopted := .run, nextRelease := 1000000000 })] }
    drift := { frames := [(256, { state := 2, residentPin := true, page := 256, declaredBy := 1 })], residentLoaded := true }
    prog := { image := some img, flash := [(0, { image := some img })], slots := [(0x2A10, 0)] }
    pair := { ownSelf := true, lowSince := none }
    moraine := { boot := 1 } }
/-- The same module with its mode changed. -/
def inMode (m : Mode) : State := { act with mode := { act.mode with current := m, target := m } }

/-- The image that an exchange brings. -/
def img2 : Image := { img with build := 0x312, hash := 78 }
/-- The active module of a pair whose standby is in step. -/
def duo : State :=
  { act with pair := { ownSelf := true, lowSince := none, peerPresent := true, syncUp := true, lane0 := true, lane1 := true, paired := true, streamSeq := 4
                       partnerPhase := 5, partnerMode := 1, partnerFw := 0x04010000, partnerArmed := true } }
/-- An in-step standby in the upper slot. -/
def standby : State :=
  { inMode .track with pair := { ownPeer := true, slotPos := true, lowSince := none, highSince := some 0, peerPresent := true, syncUp := true, lane0 := true, lane1 := true
                                 paired := true, phase := 5, streamSeq := 4, drained := true, partnerOwns := true, partnerMode := 2
                                 partnerFw := 0x04010000, lastEpoch := some (.run, false) } }
/-- A state with an exchange under way. -/
def inExch (s : State) (x : Exch) : State := { s with prog := { s.prog with exch := x } }

/-! ## Signed requests -/

/-- A request under a session number, which is also its key. -/
def tagged (n op : Nat) (r : Req) (counter : DWord := 1) : Req :=
  let q := { r with flags := 1, length := BitVec.ofNat 16 r.data.length }
  { q with trailer := some ⟨BitVec.ofNat 32 n, counter, Config.hmac (BitVec.ofNat 256 n) (tagInput 1 (BitVec.ofNat 32 n) counter (q.header (BitVec.ofNat 8 op)) q.data)⟩ }
/-- A WRITE of bytes under a session. -/
def wr (n i sub : Nat) (data : List Byte) : Req := tagged n 2 { index := BitVec.ofNat 16 i, sub := BitVec.ofNat 8 sub, data := data }
/-- A WINDOW_WRITE of bytes under a session. -/
def ww (n i sub select offset : Nat) (bytes : List Byte) : Req :=
  tagged n 5 { index := BitVec.ofNat 16 i, sub := BitVec.ofNat 8 sub, data := be 4 select ++ be 4 offset ++ bytes }
/-- A signed command's argument as it waits verified. -/
def waiting (i : Nat) (a : List Byte) : Fwd :=
  { req := { index := BitVec.ofNat 16 i, data := be 24 0 ++ be 2 a.length ++ be 2 0 ++ a }, opcode := 0x12, signedOk := true }
/-- A state in which a signed command waits verified. -/
def sgd (s : State) (i : Nat) (a : List Byte) : State := { s with xan := { s.xan with queue := [waiting i a] } }
/-- The request has passed check 8. -/
def after (s : State) (n : Nat) (counter : DWord := 1) : State := s.consume (BitVec.ofNat 32 n) counter

/-- The reply that such a request gets. -/
def replyFor (s : State) (n op : Nat) (r : Req) (counter : DWord := 1) : ReplyTo := State.accepted (s.replyTo (tagged n op r counter) op) counter
/-- A request under a session is granted: every check but the tag's, and what Granted asks beside them, as one computation. -/
def ready (s : State) (n op : Nat) (r : Req) (counter : DWord := 1) : Bool :=
  (s.sessionOf (BitVec.ofNat 32 n)).elim false (fun ses => decide (ses.key = BitVec.ofNat 256 n)
    && s.unfaulted (tagged n op r counter) op ((tagged n op r counter).trailer.getD ⟨0, 0, 0⟩) ses)
  && decide (r.port ≠ 0) && !State.blankBarred (replyFor s n op r counter)
  && !(after s n counter).recoveryBarred (replyFor s n op r counter)
/-- A ready request passes checks 1 to 13. -/
theorem passed {s : State} {n op : Nat} {r : Req} {counter : DWord} (h : ready s n op r counter = true) :
    s.judge (tagged n op r counter) op = .passed (after s n counter) (replyFor s n op r counter) := by
  simp only [ready, Bool.and_eq_true] at h
  obtain ⟨⟨⟨h, _⟩, _⟩, _⟩ := h
  cases hs : s.sessionOf (BitVec.ofNat 32 n) with
  | none => simp [hs] at h
  | some ses =>
    simp only [hs, Option.elim_some, Bool.and_eq_true, decide_eq_true_eq] at h
    exact State.judge_passed s (tagged n op r counter) op ((tagged n op r counter).trailer.getD ⟨0, 0, 0⟩) ses rfl hs (by rw [h.1]; rfl) h.2
/-- A ready request is admitted. -/
theorem admitted {s : State} {n op : Nat} {r : Req} {counter : DWord} (h : ready s n op r counter = true) :
    Admitted s (tagged n op r counter) op (after s n counter) (replyFor s n op r counter) := by
  have hj := passed h
  simp only [ready, Bool.and_eq_true, decide_eq_true_eq, Bool.not_eq_true'] at h
  exact ⟨h.1.1.2, hj, h.1.2, h.2⟩
/-- A ready request that finds the queue empty and the runtime up is granted. -/
theorem granted {s : State} {n op : Nat} {r : Req} {counter : DWord} (h : ready s n op r counter = true)
    (hq : (after s n counter).xan.queue = []) (hu : (after s n counter).runtimeUp = true) :
    Granted s (tagged n op r counter) op (after s n counter) (replyFor s n op r counter) := ⟨admitted h, hq, hu⟩

/-- A request under session 5 that no check up to 7 faults reaches check 8. -/
theorem reaches {op : Nat} {r : Req} {counter : DWord}
    (h : (act.hears (tagged 5 op r counter) && fits (tagged 5 op r counter) && frameOk (tagged 5 op r counter) && (decide (r.index.toNat < 0xF000))
      && !(decide (lookup act r.index.toNat r.sub.toNat = .noObject)) && (subsOf op (tagged 5 op r counter)).all (subOk act op (tagged 5 op r counter))
      && ((subsOf op (tagged 5 op r counter)).filterMap (accessFault act op r.index.toNat)).isEmpty
      && (subsOf op (tagged 5 op r counter)).all (typeOk act op (tagged 5 op r counter)) && authNeeded act op (tagged 5 op r counter)) = true) :
    ReachesCheck8 act (tagged 5 op r counter) op (sessions.getD 4 { number := 0, role := 0, port := 0, scope := 0 }) ⟨5, counter, 5, 5, false, 0, 0, false⟩ := by
  simp only [Bool.and_eq_true, Bool.not_eq_true', decide_eq_true_eq, decide_eq_false_iff_not, List.isEmpty_iff] at h
  obtain ⟨⟨⟨⟨⟨⟨⟨⟨h1, h2⟩, h3⟩, h4⟩, h5⟩, h6⟩, h7⟩, h8⟩, h9⟩ := h
  refine ⟨⟨h1, h2, h3⟩, fun hc => absurd (Nat.lt_of_lt_of_le h4 hc) (Nat.lt_irrefl _), ⟨h5, h6⟩, h7, h8, h9, ?_⟩
  have hs : act.sessionOf 5 = some (sessions.getD 4 { number := 0, role := 0, port := 0, scope := 0 }) := by decide +kernel
  have e : (tagged 5 op r counter).trailer = some ⟨5, counter, Config.hmac 5 (tagInput 1 5 counter ((tagged 5 op r counter).header (BitVec.ofNat 8 op)) (tagged 5 op r counter).data)⟩ := rfl
  simp only [State.authOf, e, hs]
  exact (if_pos rfl).trans rfl
/-- Master 0 with two regions over the same bytes, region 3 of the higher RANK. -/
def twoRegions : State :=
  { act with guard := { live := [(0, 0x410000), (1, 0x80FF0001), (6, 0x410000), (7, 0x80FF1003)] } }

/-- A signed command that stands alone and verified is taken. -/
theorem signed {s : State} {i : Nat} {a : List Byte} (hi : i < 65536 := by decide +kernel) (hs : s.xan.queue = [] := by rfl) (hu : s.runtimeUp = true := by decide +kernel) (hm : s.recoveryBarred (State.replyOf (waiting i a)) = false := by decide +kernel) :
    Signed (sgd s i a) i (waiting i a) s := by
  refine ⟨by simp [waiting], ?_, rfl, hm⟩
  have h : i % 65536 = i := Nat.mod_eq_of_lt hi
  have u : (sgd s i a).runtimeUp = true := hu
  have e : (sgd s i a).xan.queue = [waiting i a] := rfl
  have v : (waiting i a).req.index.toNat = i := by simp [waiting, h]
  have k : (waiting i a).opcode = 0x12 ∧ (waiting i a).signedOk = true := ⟨rfl, rfl⟩
  simp only [State.takeSigned, e, u, v, k, decide_true, Bool.and_self, if_true]
  cases s with | mk _ _ x => cases x; simp_all [sgd]

/-- The argument of a waiting signed command. -/
theorem waiting_arg (i : Nat) (a : List Byte) (h : a.length < 65536) : (waiting i a).req.arg = a := by
  have e : (waiting i a).req.data = be 24 0 ++ (be 2 a.length ++ (be 2 0 ++ a)) := by simp [waiting]
  have l : at_ (waiting i a).req.data 24 2 = a.length := by
    rw [e]
    have h1 := at_behind (be 24 0) (be 2 a.length ++ (be 2 0 ++ a)) 0 2
    have h2 := at_front (be 2 a.length) (be 2 0 ++ a)
    simp only [be_length] at h1 h2
    rw [h1, h2, fromBe_be]; omega
  simp only [Req.arg, l, slice]
  rw [e]
  simp [List.drop_append, List.drop_eq_nil_of_le]
/-- The argument of KEYSTORE_COMMAND that hashes an empty stage. -/
theorem keyArg {op : Nat} (h : op < 256) :
    (sgd act 0x1130 ([BitVec.ofNat 8 op, 0, 0, 0] ++ be 64 (Config.sha512 []).toNat)).keyArgument
      (waiting 0x1130 ([BitVec.ofNat 8 op, 0, 0, 0] ++ be 64 (Config.sha512 []).toNat)).req.arg op = true := by
  rw [waiting_arg _ _ (by simp)]
  have e : (sgd act 0x1130 ([BitVec.ofNat 8 op, 0, 0, 0] ++ be 64 (Config.sha512 []).toNat)).keyStage = [] := rfl
  have m := at_behind [BitVec.ofNat 8 op, (0 : Byte), 0, 0] (be 64 (Config.sha512 []).toNat) 0 64
  have f := at_front (be 64 (Config.sha512 []).toNat) []
  simp only [be_length, List.append_nil] at f
  have k : (Config.sha512 []).toNat % 256 ^ 64 = (Config.sha512 []).toNat := Nat.mod_eq_of_lt (lt_of_lt_of_le (Config.sha512 []).isLt (by rw [show (256 : Nat) = 2 ^ 8 from rfl, ← pow_mul]))
  rw [fromBe_be, k] at f
  simp only [List.length_cons, List.length_nil, f] at m
  simp only [State.keyArgument, e]
  simp at m
  simp [m]
  simp [at_, slice, fromBe, Nat.mod_eq_of_lt h]
/-- A SIGNED_WRITE to PRESENCE_PERMIT whose token names this module. -/
def signedReq : Req :=
  { index := 0x1220, data := be 8 Config.serial.toNat ++ be 4 5 ++ be 8 1 ++ be 2 0x1220 ++ [0, 0] ++ be 2 4 ++ [0, 0] ++ be 4 60 ++ be 512 0 }
/-- Its layout names the serial number. -/
theorem signedLayout : layoutOk act 0x12 (tagged 5 0x12 signedReq) = true := by
  have h : at_ (tagged 5 0x12 signedReq).data 0 8 = Config.serial.toNat := by
    have f := at_front (be 8 Config.serial.toNat) (be 4 5 ++ be 8 1 ++ be 2 0x1220 ++ [0, 0] ++ be 2 4 ++ [0, 0] ++ be 4 60 ++ be 512 0)
    rw [be_length, fromBe_be, Nat.mod_eq_of_lt (lt_of_lt_of_le Config.serial.isLt (by norm_num))] at f
    simpa [tagged, signedReq] using f
  unfold layoutOk
  rw [h]
  simp only [decide_true, Bool.and_true]
  decide +kernel
/-- It passes checks 1 to 13. -/
theorem signedPassed : act.judge (tagged 5 0x12 signedReq) 0x12 = .passed (after act 5) (replyFor act 5 0x12 signedReq) := by
  refine State.judge_passed act (tagged 5 0x12 signedReq) 0x12 ((tagged 5 0x12 signedReq).trailer.getD ⟨0, 0, 0⟩)
    (sessions.getD 4 { number := 0, role := 0, port := 0, scope := 0 }) rfl (by decide +kernel) rfl ?_
  unfold State.unfaulted State.lateFault
  rw [signedLayout]
  decide +kernel

/-! ## A provisioning token and a signed command -/

/-- Bytes 0 to 583 of a provisioning token for this module. -/
def tokenPre : List Byte := be 2 1 ++ [5, 0] ++ be 4 0 ++ be 8 Config.serial.toNat ++ be 10 0 ++ be 10 1 ++ be 32 0 ++ be 4 65537 ++ be 512 0
/-- The token with its signature, and the client nonce. -/
def token : List Byte := tokenPre ++ (be 512 (Config.pss 0 0 tokenPre).toNat ++ be 32 0)
/-- A BLANK module with its cover open. -/
def blankAct : State := { inMode .cold with mode := { (inMode .cold).mode with life := .blank }, sedge := { act.sedge with coverOpen := true } }
/-- The SESSION_OPEN that carries the token on SVC. -/
def openReq : Req := { port := 5, index := 0x1200, length := 1128, data := token }
theorem tokenPre_length : tokenPre.length = 584 := by simp [tokenPre]
theorem token_length : token.length = 1128 := by simp [token, tokenPre_length]
/-- A 512-byte field holds a 4,096-bit number. -/
theorem field4096 (x : BitVec 4096) (l : List Byte) : BitVec.ofNat 4096 (at_ (be 512 x.toNat ++ l) 0 512) = x := by
  have f := at_front (be 512 x.toNat) l
  rw [be_length, fromBe_be] at f
  rw [f]
  apply BitVec.eq_of_toNat_eq
  rw [BitVec.toNat_ofNat, show (256 : Nat) ^ 512 = 2 ^ 4096 by rw [show (256 : Nat) = 2 ^ 8 from rfl, ← pow_mul], Nat.mod_mod, Nat.mod_eq_of_lt x.isLt]
/-- The token's signature verifies under its own client key. -/
theorem token_signed : blankAct.tokenSigned token 0 = true := by
  have h1 : token.take 584 = tokenPre := by
    rw [token, ← tokenPre_length]; exact List.take_left' rfl
  have h2 : BitVec.ofNat 4096 (at_ token 584 512) = Config.pss 0 0 tokenPre := by
    have b := at_behind tokenPre (be 512 (Config.pss 0 0 tokenPre).toNat ++ be 32 0) 0 512
    rw [tokenPre_length] at b
    rw [token, b]; exact field4096 _ _
  have h3 : State.tokenKey token = 0 := by decide +kernel
  have h4 : blankAct.mode.life = .blank := rfl
  simp only [State.tokenSigned, h1, h2, h3, h4, if_true, Option.elim_some, verifies, decide_true]
/-- The token names the serial number of this module. -/
theorem token_serial : at_ token 8 8 = Config.serial.toNat := by
  have e : token = (be 2 1 ++ [5, 0] ++ be 4 0) ++ (be 8 Config.serial.toNat ++ (be 10 0 ++ be 10 1 ++ be 32 0 ++ be 4 65537 ++ be 512 0 ++ (be 512 (Config.pss 0 0 tokenPre).toNat ++ be 32 0))) := by
    simp only [token, tokenPre, List.append_assoc]
  have b := at_behind (be 2 1 ++ [5, 0] ++ be 4 0) (be 8 Config.serial.toNat ++ (be 10 0 ++ be 10 1 ++ be 32 0 ++ be 4 65537 ++ be 512 0 ++ (be 512 (Config.pss 0 0 tokenPre).toNat ++ be 32 0))) 0 8
  have f := at_front (be 8 Config.serial.toNat) (be 10 0 ++ be 10 1 ++ be 32 0 ++ be 4 65537 ++ be 512 0 ++ (be 512 (Config.pss 0 0 tokenPre).toNat ++ be 32 0))
  rw [be_length, fromBe_be, Nat.mod_eq_of_lt (lt_of_lt_of_le Config.serial.isLt (by norm_num))] at f
  rw [e]; exact b.trans f
/-- The token passes the checks of Table 4.3. -/
theorem openPassed : blankAct.openFault openReq 0 = none := by
  have d : openReq.data = token := rfl
  have n : blankAct.blankToken openReq = true := by
    unfold State.blankToken
    rw [d, token_serial]
    simp only [decide_true]
    decide +kernel
  unfold State.openFault
  simp only [d, token_length, token_signed, token_serial, n, ne_eq, not_true_eq_false, decide_false, Bool.and_false]
  decide +kernel

/-- A signed command whose signature is its own. -/
def ownSigned : Fwd :=
  { req := { index := 0x1220, data := be 28 0 ++ (be 512 (Config.pss 0 0 (be 28 0)).toNat ++ []) }, opcode := 0x12, auth := some ⟨5, 1, 5, 5, false, 0, 0, false⟩ }
theorem ownSigned_verifies : State.commandSigned ownSigned 0 = true := by
  have h1 : at_ ownSigned.req.data 24 2 = 0 := by decide +kernel
  have h2 : ownSigned.req.data.take 28 = be 28 0 := by
    have := List.take_left' (l₁ := be 28 0) (l₂ := be 512 (Config.pss 0 0 (be 28 0)).toNat ++ []) (i := 28) (by simp)
    exact this
  have h3 : BitVec.ofNat 4096 (at_ ownSigned.req.data 28 512) = Config.pss 0 0 (be 28 0) := by
    have b := at_behind (be 28 0) (be 512 (Config.pss 0 0 (be 28 0)).toNat ++ []) 0 512
    rw [be_length] at b
    exact (congrArg (BitVec.ofNat 4096) b).trans (field4096 _ _)
  have h4 : ownSigned.auth = some ⟨5, 1, 5, 5, false, 0, 0, false⟩ := rfl
  simp only [State.commandSigned, h1, Nat.add_zero, h2, h3, h4, Option.elim_some, verifies, decide_true]

/-! ## Operands that the module does not have -/

/-- Tasks, cores, frames, queues, detectors and event codes beyond the last are ill-formed. -/
theorem test_wf_numbers : [Instr.halt 16, .coreIdle 8, .writeBackComplete 8192, .pageFetchComplete 0x40000 0 true, .interruptMessageSend 256,
    .consumerWrite 0 128, .queueEntryProduced 1 [0, 0, 0, 0, 0], .detectorOccurrence 512 0, .moraineTrigger 1024 0 [], .moraineTrigger 0 4096 [], .post 9 0 0 [],
    .post 0 0 0 [0, 0, 0, 0, 0, 0, 0, 0, 0], .captureEnd 32, .leafWatchdogStop 2, .guardSync 16 0, .shadowEnd 256, .freeMsg 0x100000000,
    .epochReceived 0 6 0 false, .undeclaredAccess 0 ⟨0, 3⟩ false, .nonresidentPrivilegedAccess 0 ⟨0x40000000, 0⟩].all (fun c => !c.wf) = true := by decide
/-- Links, ports, channels, groups and lanes beyond the last are ill-formed. -/
theorem test_wf_fields : [Instr.linkCycleInstant 48, .replyWindowExpiry 0 16, .linkReply 0 { position := 16, seq := 0 }, .configureReply 0 { position := 16, result := 0 },
    .ethLinkChange 5 true true, .launchInstant 0 8 false, .canTransmitStart 0, .canBusOff 3 0, .outputUpdate 0, .supplySample 3 0, .digitalInputEdge 0x20 true 0,
    .loopCompliance 0x27 0, .analogConversion 1 [0, 0, 0], .hartBurstFrame 16 [], .sensorSample [] [], .laneDown 2, .eccCorrectedError 2, .feedReconnect 2 0 0,
    .goodbye 0, .goodbye 9, .ptpMessage (.portState 0 10), .captureRecordArrival { time := 0, channel := 0x30, value := 0 }].all (fun c => !c.wf) = true := by decide
/-- Requests, writes, accesses, frames and messages with a field that none can have are ill-formed. -/
theorem test_wf_operands : [Instr.read { port := 0 }, .write { port := 8 }, .read { status := 1 }, .read { reserved := 1 }, .objectWrite (.home 16 0x50000000 0),
    .objectWrite (.home 0 0x50000001 0), .guardViolation { master := 16, address := 0, kind := 0 }, .guardViolation { master := 0, address := 1, kind := 0 },
    .guardViolation { master := 0, address := 0, kind := 3 }, .canFrameReceived 1 { ident := 2048 }, .canFrameReceived 1 { ident := 0, dlc := 9, data := [0] },
    .canFrameReceived 1 { ident := 0, brs := true }, .stashOverflow 0 (.readValue 0), .passEnd 0 [.readValue 65536] 0 0, .groupArm (.signal 32),
    .bulk (.percent 101), .bulk (.holdRun 16 0), .sessionOpenReply 0 0, .hartTransactionDone 0 { result := 1 },
    .powerOnResetRelease { trimBad := [0x1F] }, .bootMeasurementComplete { copy1 := 4 }, .commitDelta { task := 0, instant := 0, outcome := 8 },
    .streamInputChange { signal := 65536, value := 0, quality := 0, source := 1 },
    .transferEnd 256, .outputPathCheck 256 true, .syncLinkFailure 256, .hello { lifecycle := 6 }, .heartbeat { syncPhase := 16 }, .trimStore (.command { port := 8 })].all (fun c => !c.wf)
    = true := by decide
/-- The last of each range is well-formed. -/
theorem test_wf_last : [Instr.halt 15, .coreIdle 7, .writeBackComplete 8191, .interruptMessageSend 255, .detectorOccurrence 511 0, .linkCycleInstant 47, .launchInstant 4 7 false,
    .canBusOff 2 0, .outputUpdate 2, .digitalInputEdge 0x1F true 0, .loopCompliance 0x2F 0, .hartBurstFrame 15 [], .read { port := 7 },
    .canFrameReceived 1 { ident := 0x1FFFFFFF, ide := true, fdf := true, brs := true, dlc := 9, data := List.replicate 12 0 }, .aliveToggle].all Instr.wf = true := by decide

/-! ## Numbers of the manual's worked examples -/

/-- 12,300 and 50.0 and true in the three passes (Table 8.10). -/
theorem test_representations : (encode 0 1 12300, encode 1 1 12300, encode 2 1 12300) = (0x300C, 0xFFFFCFF4, 0x2D0B700C)
    ∧ (encode 0 3 0x42480000, encode 1 3 0x42480000, encode 2 3 0x42480000) = (0x42480000, 0xC2480000, 0x43C80000)
    ∧ (encode 0 0 1, encode 1 0 1, encode 2 0 1) = (1, 0, 0xA5) := by decide +kernel
/-- 12,720 in passes B and C, and what they decode to (Table 8.11). -/
theorem test_representations_back : decode 1 1 0xFFFFCE50 = some 12720 ∧ decode 2 1 0x2E9531B0 = some 12720 ∧ decode 2 0 0x5B = none ∧ decode 2 1 0x2E9531B1 = none := by decide +kernel
/-- DEVICE_MODE in a transition from HOLD to RUN (Table 2.8). -/
theorem test_device_mode : ({ act with mode := { act.mode with current := .hold, target := .run, inTransition := true } } : State).deviceMode = 0x00010203 := by decide +kernel
/-- DEVICE_MODE after the transition (Table 2.8), and in SAFE (Table 3.14). -/
theorem test_device_mode_settled : act.deviceMode = 0x00000202 ∧ (inMode .safe).deviceMode = 0x00000505 := by decide +kernel
/-- REQUEST_STATUS of unit 118 refusing with FENCED (Table 2.8). -/
theorem test_request_status : ({ act with mode := { act.mode with reqUnit := 118, reqReason := 1, reqResult := 4 } } : State).requestStatus = 0x00760104 := by decide +kernel
/-- DET_STATE of D091 latched, of D003 as a consequence of D091, and of D152 live and latched (Tables 11.12 and 15.10). -/
theorem test_det_state : [91, 3, 152].map ({ act with hub := { act.hub with dets := [(3, { consequential := true, parent := 91 }), (91, { latched := true, clearedSince := true, lastInfo := 3 }), (152, { live := true, latched := true })] } } : State).detState = [0x6303A000, 0x0B03A05B, 0xC01CA000] := by decide +kernel
/-- FIRN_TASK_STATE after a skew majority with pass A odd, and after a skew hold (Section 8, worked example). -/
theorem test_firn_task_state : ({ act with firn := { act.firn with tasks := [(2, { oddPass := 1, lastOutcome := 2 })] } } : State).firnTaskState 2 = 0x00000012
    ∧ ({ act with firn := { act.firn with tasks := [(2, { skewRun := 1, lastOutcome := 4 })] } } : State).firnTaskState 2 = 0x00010004 := by decide +kernel
/-- Status words of signals 9,010, 9,000 and 9,020 (Table 5.12), of a skew hold and of a deep supply fault (Tables 8.12 and 18.11). -/
theorem test_signal_status : (({ quality := 0, forced := true, source := 2 } : Sig).status, ({ quality := 3, substituted := true, source := 1 } : Sig).status,
      ({ quality := 3, forced := true, source := 2 } : Sig).status, ({ quality := 3, substituted := true, source := 2 } : Sig).status,
      ({ quality := 0, skewHeld := true, source := 2 } : Sig).status, ({ quality := 2, undervolt := true } : Sig).status)
    = (0x2004, 0xC009, 0xE004, 0xC00A, 0x0402, 0x8020) := by decide +kernel
/-- Where objects lie in the address space (Sections 12 and 18). -/
theorem test_home_address : (homeAddress 0x731A 0, homeAddress 0x7900 1, homeAddress 0x1101 0) = (0x51CC6800, 0x51E40004, 0x50440400) := by decide
/-- Master 10 under the regions of Table 12.8. -/
def fencedDma : State :=
  { act with guard := { live := [(640, 0x448000), (641, 0xB4FF0000), (642, 0x448800), (643, 0xACFF1003), (644, 0x448180), (645, 0x9C1F1003)] } }
/-- A burst into a ring of queues 48 to 57 is allowed, one into ring 60 refused by region 0. -/
theorem test_rings : fencedDma.verdict { master := 10, kind := 1, address := 0x4481C000 } = .allowed ∧ fencedDma.verdict { master := 10, kind := 1, address := 0x4481E000 } = .refused 0 := by decide +kernel
/-- The burst at 0x4487_FFE0 is refused by region 0 although it ends in region 1; the one at 0x448F_FFE0 is allowed on its first byte. -/
theorem test_bursts : fencedDma.verdict { master := 10, kind := 1, address := 0x4487FFE0, size := 6 } = .refused 0
    ∧ fencedDma.verdict { master := 10, kind := 1, address := 0x448FFFE0, size := 6 } = .allowed := by decide +kernel
/-- VIOL_INFO of that refusal. -/
theorem test_viol_info : State.violInfo { master := 10, kind := 1, address := 0x4487FFE0, size := 6 } 0 = 0x0000390A := by decide +kernel
/-- The trigger record of capture 17 (Section 14, worked example). -/
theorem test_capture_record : ({ seq := 0x341C2, time := 0x00016B9A6D90, channel := 4, value := 1, kind := 0x20 } : CapItem).bytes
    = [0x00, 0x01, 0x6B, 0x9A, 0x6D, 0x90, 0x00, 0x04, 0x00, 0x00, 0x00, 0x01, 0x41, 0xC2, 0x00, 0x20] := by decide +kernel
/-- A record of an example channel, in microseconds after 6,100.150 s. -/
def rec (t c v : Nat) : CapItem := { time := t, channel := c, value := BitVec.ofNat 32 v }
/-- Discharge pressure in capture 17 (Table 14.9). -/
theorem test_measure_analog : measure 0x21 (some (rec 0 0x21 12400)) [rec 100400 0x21 12800, rec 100800 0x21 13600, rec 101200 0x21 14800, rec 101600 0x21 16000, rec 102000 0x21 16400] 0 600000 false
    = { channel := 0x21, changes := 5, low := 12400, high := 16400, mean := 15725, rise := 1200 } := by decide +kernel
/-- The limit switch and the trip relay in capture 17 (Table 14.9). -/
theorem test_measure_digital : measure 0x1647 (some (rec 0 0x1647 1)) [rec 100900 0x1647 0, rec 100950 0x1647 1, rec 101010 0x1647 0] 0 600000 false
      = { channel := 0x1647, changes := 3, pulse := 60, low := 0, high := 1, mean := 168267 }
    ∧ (measure 4 (some (rec 0 4 0)) [rec 100000 4 1] 0 600000 false).mean = 833333 := by decide +kernel
/-- The HMAC input of the setpoint write (Section 4, worked example), its serial apart. -/
theorem test_tag_input : (tagInput 1 12 41 (({ transaction := 0x2C, index := 0x6012, sub := 0x35, flags := 1, length := 4 } : Req).header 2) [0x42, 0xBF, 0, 0]).drop 9
    = [0, 0, 0, 0x0C, 0, 0, 0, 0, 0, 0, 0, 0x29, 0x01, 0x02, 0x00, 0x2C, 0x60, 0x12, 0x35, 0x01, 0, 0, 0, 4, 0x42, 0xBF, 0, 0] := by decide +kernel
/-- A bucket of BURST 4 and RATE 2 passes four triggers 10 ms apart and not the fifth; at half a second it passes again (Section 13, worked example). -/
theorem test_bucket : (List.range 6).map (fun k => ((List.range k).foldl (fun (s : State) j => ({ s with time := { s.time with mono := 1000000000 + j * 10000000 } }).trigger 0x041 [])
      { act with moraine := { act.moraine with codes := [(0x41, { rate := 2, burst := 4, tokens := 4000000000, last := 1000000000 })] } }).moraine.queue.length) = [0, 1, 2, 3, 4, 4] := by decide +kernel
/-- FW_STATE of module B verified, on trial, and confirmed (Table 19.13). -/
theorem test_fw_state : (({ act with sedge := { act.sedge with stageState := 3 } } : State).fwState, ({ act with sedge := { act.sedge with runningB := true, trial := true, attempts := 1, stageState := 5 } } : State).fwState,
      ({ act with sedge := { act.sedge with runningB := true, stageState := 5 } } : State).fwState) = (0x00000300, 0xD0000500, 0x80000500) := by decide +kernel
/-- GROUP_STATE in the sag, switched off, ready and resumed (Table 18.11). -/
theorem test_group_state : [({ undervolt := true, gateOpen := true, storeReady := true, supply := 18500 } : Group), { undervolt := true, switchedOff := true, gateOpen := true, supply := 15200 },
      { switchedOff := true, restoreReady := true, gateOpen := true, storeReady := true, supply := 23800 },
      { gateOpen := true, storeReady := true, supply := 23800 }].map (fun x => ({ act with field := { act.field with groups := [(1, x)] } } : State).groupState 1)
    = [0x86004844, 0xC4003B60, 0x66005CF8, 0x06005CF8] := by decide +kernel
/-- CHANNEL_STATE of CAN2 in bus-off recovery with three objects pending, and MO_STATUS of each (Table 17.8). -/
theorem test_bus_off : ({ act with can := { act.can with chan := [(2, { mode := 1, error := 2, recovering := true, objects := [(5, { pending := true }), (9, { pending := true }), (12, { pending := true })] })] } } : State).canState 2 = 0x50000003
    ∧ ({ pending := true, byBusOff := true } : MsgObj).statusWord = 0x00000005 ∧ ({ lastResult := 2 } : MsgObj).statusWord = 0x00000200 := by decide +kernel

/-! ## Steps -/

/-- On an empty queue a nanosecond passes on both clocks. -/
theorem test_idle : (match step act with | .next t => (t.time.now, t.time.mono, t.pending) | _ => (0, 0, [])) = (1000000001, 1000000001, []) := by decide +kernel
/-- The front command runs, and the rest of the queue stays. -/
theorem test_step : (match step { act with pending := [.bypass, .idcode] } with | .next t => t.pending | _ => []) = [Instr.idcode] := by decide +kernel
/-- A SAFE-class occurrence enters SAFE and freezes ALIVE; SAFE is not masked (R350, R372). -/
theorem test_safe : (match exec (.detectorOccurrence 33 0) act with | .next t => (t.mode.current, (t.det 33).latched) | _ => (.run, false)) = (.safe, true) := by decide +kernel
/-- A READ_RANGE of COUNT 4 over three declared signals and one undeclared (R78). -/
theorem test_read_range : (match exec (.readRange { index := 0x6000, sub := 10, length := 1, data := [4] }) act with
    | .next t => (t.xan.out.head?.map (fun y => (y.opcode, y.status, y.data.length))) | _ => none) = some (0x83, 0, 16) := by decide +kernel
/-- A lone module in RUN: RUN and ACTIVE steady, all else dark; a SAFE-class latch flashes FAULT at 2 Hz (R374, Table 20.10). -/
theorem test_leds : act.leds = ⟨.steady, .steady, .dark, .dark, .dark, .dark⟩ ∧ (match exec (.detectorOccurrence 33 0) act with | .next t => t.ledFault | _ => .dark) = .flash 2
    ∧ act.display = .normal .run false 1 none := by decide +kernel

/-! ## Witnesses of the statements -/

/-- The hypotheses of ObjectsAreReadAndStored are met. -/
theorem witness_objectsAreReadAndStored_1 :
    (∃ (s : State) (r : Req) (t : State) (x : ReplyTo), r.port ≠ 0 ∧ s.judge r 1 = .passed t x) ∧
    (∃ (s : State) (r : Req) (t : State) (x : ReplyTo), r.port ≠ 0 ∧ s.judge r 3 = .passed t x ∧ State.rangeFault t r = false) ∧
    (∃ (s : State) (r : Req) (t : State) (x : ReplyTo), r.port ≠ 0 ∧ s.judge r 3 = .passed t x ∧ State.rangeFault t r = true) ∧
    (∃ (s : State) (r : Req) (t : State) (x : ReplyTo), r.port ≠ 0 ∧ s.judge r 4 = .passed t x ∧ r.index = 0x6400 ∧ r.select = 0 ∧ r.offset ≤ 2097152
      ∧ r.len ≤ (if r.overCan then 16 else 1024)) ∧
    (∃ (s : State) (r : Req) (t : State) (x : ReplyTo), Granted s r 2 t x ∧ State.ownWrite r.index.toNat = false) ∧
    (∃ (s : State) (r : Req) (t : State) (x : ReplyTo), Granted s r 2 t x ∧ r.index = 0x7004 ∧ r.sub = 0 ∧ 10 ≤ r.value ∧ r.value ≤ 500) ∧
    (∃ (s : State) (r : Req) (t : State) (x : ReplyTo), Granted s r 2 t x ∧ r.index = 0x7004 ∧ r.sub = 0 ∧ (r.value < 10 ∨ 500 < r.value)) ∧
    (∃ (s : State) (m : Nat) (v : Word), homeMaster m = true) :=
  ⟨⟨act, { index := 0x2000 }, act, (act).replyTo ({ index := 0x2000 }) 1, by decide +kernel⟩,
   ⟨act, { index := 0x2203, length := 1, data := [2] }, act, (act).replyTo ({ index := 0x2203, length := 1, data := [2] }) 3, by decide +kernel⟩,
   ⟨act, { index := 0x2203, length := 1, data := [0] }, act, (act).replyTo ({ index := 0x2203, length := 1, data := [0] }) 3, by decide +kernel⟩,
   ⟨act, { index := 0x6400, length := 10, data := be 4 0 ++ be 4 320 ++ be 2 32 }, act, (act).replyTo ({ index := 0x6400, length := 10, data := be 4 0 ++ be 4 320 ++ be 2 32 }) 4,
     by decide +kernel⟩,
   ⟨act, tagged 3 2 { index := 0x7004, data := [0, 10] }, after (act) 3, replyFor (act) 3 2 { index := 0x7004, data := [0, 10] },
     granted (by decide +kernel) rfl (by decide +kernel), by decide +kernel⟩,
   ⟨act, tagged 3 2 { index := 0x7004, data := [0, 10] }, after (act) 3, replyFor (act) 3 2 { index := 0x7004, data := [0, 10] },
     granted (by decide +kernel) rfl (by decide +kernel), by decide +kernel⟩,
   ⟨act, tagged 3 2 { index := 0x7004, data := [1, 0xF5] }, after (act) 3, replyFor (act) 3 2 { index := 0x7004, data := [1, 0xF5] },
     granted (by decide +kernel) rfl (by decide +kernel), by decide +kernel⟩,
   ⟨act, 0, 500, by decide +kernel⟩⟩

/-- The hypotheses of ObjectsAreReadAndStored are met. -/
theorem witness_objectsAreReadAndStored_2 :
    (∃ (s : State) (m i sub : Nat) (o : Obj) (v : Word), i < 0x10000 ∧ sub < 256 ∧ lookup s i sub = .found o ∧ (o.acc = .r ∨ o.acc = .rs
      ∨ o.ty = .bytes)) ∧
    (∃ (s : State) (m q : Nat) (v : Word), homeMaster m = true ∧ q < 256) :=
  ⟨⟨act, 0, 0x1000, 0, { ty := .u32 }, 5, by decide +kernel⟩,
   ⟨act, 0, 255, 0xFFFFFFFF, by decide +kernel⟩⟩

/-- The hypotheses of ForwardedRequestsQueueInOrder are met. -/
theorem witness_forwardedRequestsQueueInOrder_1 :
    (∃ (s : State) (r : Req) (t : State) (x : ReplyTo), r.port ≠ 0 ∧ s.judge r 2 = .passed t x ∧ State.ownWrite r.index.toNat = false
      ∧ t.xan.queue.length < 256) ∧
    (∃ (s : State) (r : Req) (t : State) (x : ReplyTo), r.port ≠ 0 ∧ s.judge r 2 = .passed t x ∧ State.ownWrite r.index.toNat = false
      ∧ 256 ≤ t.xan.queue.length) ∧
    (∃ (s : State) (r : Req) (t : State) (x : ReplyTo), r.port ≠ 0 ∧ s.judge r 2 = .passed t x ∧ State.ownWrite r.index.toNat = true) ∧
    (∃ (s : State) (r : Req) (t : State) (x : ReplyTo), r.port ≠ 0 ∧ s.judge r 5 = .passed t x ∧ State.ownWrite r.index.toNat = false
      ∧ t.xan.queue.length < 256) ∧
    (∃ (s : State) (r : Req) (t : State) (x : ReplyTo), r.port ≠ 0 ∧ s.judge r 4 = .passed t x ∧ r.index ≠ 0x6400 ∧ t.xan.queue.length < 256) ∧
    (∃ (s : State) (f : Fwd) (rest : List Fwd), s.xan.queue = f :: rest ∧ s.runtimeUp = true ∧ f.opcode ≠ 0x12) ∧
    (∃ (s : State) (f : Fwd) (rest : List Fwd), s.xan.queue = f :: rest ∧ s.runtimeUp = true ∧ f.opcode = 2 ∧ f.req.index = 0x1010 ∧ f.req.sub = 1
      ∧ f.req.port ≠ 0 ∧ 1024 ≤ f.req.value ∧ State.blankBarred (State.replyOf f) = false ∧ s.recoveryBarred (State.replyOf f) = false) ∧
    (∃ (s : State) (f : Fwd) (rest : List Fwd), s.xan.queue = f :: rest ∧ s.runtimeUp = true ∧ f.opcode = 2 ∧ f.req.index = 0x1010 ∧ f.req.sub = 1
      ∧ f.req.port ≠ 0 ∧ f.req.value < 1024) :=
  ⟨⟨act, tagged 3 2 { index := 0x7004, data := [0, 100] }, after (act) 3, replyFor (act) 3 2 { index := 0x7004, data := [0, 100] }, by decide +kernel,
    passed (by decide +kernel), by decide +kernel⟩,
   ⟨{ act with xan := { act.xan with queue := List.replicate 256 { req := {}, opcode := 2 } } }, tagged 3 2 { index := 0x7004, data := [0, 100] },
     after ({ act with xan := { act.xan with queue := List.replicate 256 { req := {}, opcode := 2 } } }) 3,
     replyFor ({ act with xan := { act.xan with queue := List.replicate 256 { req := {}, opcode := 2 } } }) 3 2 { index := 0x7004, data := [0, 100] },
     by decide +kernel, passed (by decide +kernel), by decide +kernel⟩,
   ⟨act, tagged 2 2 { index := 0x7010, sub := 15, data := be 4 0 }, after (act) 2, replyFor (act) 2 2 { index := 0x7010, sub := 15, data := be 4 0 },
     by decide +kernel, passed (by decide +kernel), by decide +kernel⟩,
   ⟨act, tagged 5 5 { index := 0x1131, data := be 8 0 ++ [1] }, after (act) 5, replyFor (act) 5 5 { index := 0x1131, data := be 8 0 ++ [1] },
     by decide +kernel, passed (by decide +kernel), by decide +kernel⟩,
   ⟨act, { index := 0x1112, length := 10, data := be 8 0 ++ be 2 16 }, act, (act).replyTo ({ index := 0x1112, length := 10, data := be 8 0 ++ be 2 16 }) 4,
     by decide +kernel⟩,
   ⟨{ act with xan := { act.xan with queue := [{ req := { index := 0x1010, sub := 1, data := be 2 1024 }, opcode := 2 }] } },
     { req := { index := 0x1010, sub := 1, data := be 2 1024 }, opcode := 2 }, [], rfl, by decide +kernel⟩,
   ⟨{ act with xan := { act.xan with queue := [{ req := { index := 0x1010, sub := 1, data := be 2 1024 }, opcode := 2 }] } },
     { req := { index := 0x1010, sub := 1, data := be 2 1024 }, opcode := 2 }, [], rfl, by decide +kernel⟩,
   ⟨{ act with xan := { act.xan with queue := [{ req := { index := 0x1010, sub := 1, data := be 2 1023 }, opcode := 2 }] } },
     { req := { index := 0x1010, sub := 1, data := be 2 1023 }, opcode := 2 }, [], rfl, by decide +kernel⟩⟩

/-- The hypotheses of ForwardedRequestsQueueInOrder are met. -/
theorem witness_forwardedRequestsQueueInOrder_2 :
    ∃ (s : State), (s.xan.queue = [] ∨ s.runtimeUp = false) :=
  ⟨act, by decide +kernel⟩

/-- The hypotheses of SessionsOpenAndEnd are met. -/
theorem witness_sessionsOpenAndEnd_1 :
    (∃ (s : State) (r : Req) (k : BitVec 512), s.hears r = true ∧ fits r = true ∧ frameOk r = true ∧ r.overCan = false ∧ r.port ≠ 0 ∧ r.index = 0x1200
      ∧ r.sub = 0 ∧ s.openFault r k = none) ∧
    (∃ (s : State) (r : Req) (k : BitVec 512) (f : Nat × Nat), s.hears r = true ∧ fits r = true ∧ frameOk r = true ∧ r.overCan = false ∧ r.port ≠ 0
      ∧ r.index = 0x1200 ∧ r.sub = 0 ∧ s.openFault r k = some f) ∧
    (∃ (s : State) (o : Opening) (key : BitVec 256) (n : Word), s.sess.opening = some o ∧ n ≠ 0 ∧ s.sessionOf n = none ∧ o.req.port ≠ 0
      ∧ (o.blank = false ∨ s.sedge.coverOpen = true)) ∧
    (∃ (s : State) (key : BitVec 256) (n : Word), s.sess.opening = none) ∧
    (∃ (s : State) (r : Req) (ses : Session) (a : Auth), s.hears r = true ∧ fits r = true ∧ frameOk r = true ∧ r.overCan = false ∧ r.port ≠ 0
      ∧ r.index = 0x1200 ∧ r.sub = 0 ∧ s.authOf r 0x11 = .ok (ses, a) ∧ ses.counter < a.counter ∧ r.length = 0) ∧
    (∃ (s : State) (r : Req) (k : Nat), s.hears r = true ∧ fits r = true ∧ frameOk r = true ∧ r.overCan = false ∧ r.port ≠ 0 ∧ r.index = 0x1200
      ∧ r.sub = 0 ∧ s.authOf r 0x11 = .error k) ∧
    (∃ (s : State) (n : Word) (y : Session), s.sessionOf n = some y ∧ y.lastReq + s.idleInForce.toNat * 1000000000 ≤ s.time.mono) ∧
    (∃ (s : State) (n : Word) (y : Session), s.sessionOf n = some y ∧ s.time.mono < y.lastReq + s.idleInForce.toNat * 1000000000) :=
  ⟨⟨blankAct, openReq, 0, by decide +kernel, by decide +kernel, by decide +kernel, by decide +kernel, by decide +kernel, by decide +kernel,
    by decide +kernel, openPassed⟩,
   ⟨act, { index := 0x1200, length := 1128, data := be 2 1 ++ [1, 0] ++ be 12 0 ++ be 10 0 ++ be 10 1 ++ be 32 0 ++ be 4 65537 ++ be 1056 0 }, 0, (6,
     7), by decide +kernel⟩,
   ⟨{ act with sess := { act.sess with opening := some { req := { index := 0x1200 }, role := 1, scope := 0, notAfter := {}, nonce := 0, clientNonce := [], clientKey := 0, notBefore := {}, blank := false } } },
     { req := { index := 0x1200 }, role := 1, scope := 0, notAfter := {}, nonce := 0, clientNonce := [], clientKey := 0, notBefore := {}, blank := false },
     9, 6, rfl, by decide +kernel⟩,
   ⟨act, 9, 6, by decide +kernel⟩,
   ⟨act, tagged 3 0x11 { index := 0x1200 }, sessions.getD 2 { number := 0, role := 0, port := 0, scope := 0 }, ⟨3, 1, 3, 3, false, 0, 0, false⟩, by decide +kernel, by decide +kernel, by decide +kernel, by decide +kernel, by decide +kernel, by decide +kernel, by decide +kernel, by rw [State.authOf]; exact if_pos rfl, by decide +kernel⟩,
   ⟨act, { index := 0x1200 }, 0, by decide +kernel⟩,
   ⟨{ act with time := { act.time with mono := 600000000000 } }, 3, sessions.getD 2 { number := 0, role := 0, port := 0, scope := 0 }, rfl,
     by decide +kernel⟩,
   ⟨act, 3, sessions.getD 2 { number := 0, role := 0, port := 0, scope := 0 }, rfl, by decide +kernel⟩⟩

/-- The hypotheses of SessionsOpenAndEnd are met. -/
theorem witness_sessionsOpenAndEnd_2 :
    (∃ (s : State) (n : Word) (y : Session), s.sessionOf n = some y ∧ y.openedAt + y.validFor ≤ s.time.mono) ∧
    (∃ (s : State) (r : Req) (t : State) (x : ReplyTo), Granted s r 2 t x ∧ r.index = 0x1203 ∧ r.sub = 0
      ∧ (t.sessionOf (BitVec.ofNat 32 r.value)).isSome = true) ∧
    (∃ (s : State) (r : Req) (t : State) (x : ReplyTo), Granted s r 2 t x ∧ r.index = 0x1203 ∧ r.sub = 0
      ∧ (t.sessionOf (BitVec.ofNat 32 r.value)).isSome = false) ∧
    (∃ (s : State) (r : Req) (t : State) (x : ReplyTo), Granted s r 5 t x ∧ r.index = 0x1210 ∧ r.sub = 0 ∧ r.select = 0 ∧ r.bytes.length = 32
      ∧ r.offset ≤ 2016 ∧ at_ r.bytes 0 32 ≠ 0 ∧ r.overCan = false) :=
  ⟨⟨act, 3, sessions.getD 2 { number := 0, role := 0, port := 0, scope := 0 }, rfl, by decide +kernel⟩,
   ⟨act, tagged 5 2 { index := 0x1203, data := [0, 0, 0, 1] }, after (act) 5, replyFor (act) 5 2 { index := 0x1203, data := [0, 0, 0, 1] },
     granted (by decide +kernel) rfl (by decide +kernel), by decide +kernel⟩,
   ⟨act, tagged 5 2 { index := 0x1203, data := [0, 0, 0, 9] }, after (act) 5, replyFor (act) 5 2 { index := 0x1203, data := [0, 0, 0, 9] },
     granted (by decide +kernel) rfl (by decide +kernel), by decide +kernel⟩,
   ⟨act, tagged 5 5 { index := 0x1210, data := be 4 0 ++ be 4 2016 ++ be 32 9 }, after (act) 5, replyFor (act) 5 5 { index := 0x1210, data := be 4 0 ++ be 4 2016 ++ be 32 9 },
     granted (by decide +kernel) rfl (by decide +kernel), by decide +kernel⟩⟩

/-- The hypotheses of SignedCommandsKeyStoreAndQuote are met. -/
theorem witness_signedCommandsKeyStoreAndQuote_1 :
    (∃ (s : State) (r : Req) (t : State) (x : ReplyTo), r.port ≠ 0 ∧ s.judge r 0x12 = .passed t x ∧ t.xan.queue.length < 256) ∧
    (∃ (s : State) (f : Fwd) (rest : List Fwd) (k : BitVec 512), takeOut (fun g : Fwd => g.opcode = 0x12 && !g.signedOk) s.xan.queue = some (f, rest)
      ∧ State.commandSigned f k = false ∧ f.req.port ≠ 0) ∧
    (∃ (s : State) (f : Fwd) (rest : List Fwd) (k : BitVec 512), takeOut (fun g : Fwd => g.opcode = 0x12 && !g.signedOk) s.xan.queue = some (f, rest)
      ∧ State.commandSigned f k = true) ∧
    (∃ (s : State) (f : Fwd) (t : State), Signed s 0x1220 f t ∧ f.req.arg.length = 4 ∧ 60 ≤ fromBe f.req.arg ∧ fromBe f.req.arg ≤ 3600
      ∧ s.inService = true) ∧
    (∃ (s : State) (f : Fwd) (t : State), Signed s 0x1220 f t ∧ (f.req.arg.length ≠ 4 ∨ fromBe f.req.arg < 60 ∨ 3600 < fromBe f.req.arg)) ∧
    (∃ (s : State) (e : Ns), s.sess.presenceUntil = some e ∧ e ≤ s.time.mono) ∧
    (∃ (s : State) (e : Ns), s.sess.presenceUntil = some e ∧ s.time.mono < e) ∧
    (∃ (s : State) (f : Fwd) (t : State) (salt : BitVec 512), Signed s 0x1130 f t ∧ s.keyArgument f.req.arg 1 = true ∧ (s.mode.life = .provisioned
      ∨ s.mode.life = .inService ∨ s.mode.life = .develop)) :=
  ⟨⟨act, tagged 5 0x12 signedReq, after act 5, replyFor act 5 0x12 signedReq, by decide +kernel, signedPassed, by decide +kernel⟩,
   ⟨{ act with xan := { act.xan with queue := [{ req := { index := 0x1220 }, opcode := 0x12 }] } }, { req := { index := 0x1220 }, opcode := 0x12 },
     [], 0, rfl, by decide +kernel⟩,
   ⟨{ act with xan := { act.xan with queue := [ownSigned] } }, ownSigned, [], 0, rfl, ownSigned_verifies⟩,
   ⟨sgd (inMode .service) 0x1220 (be 4 60), waiting 0x1220 (be 4 60), inMode .service, signed, by decide +kernel⟩,
   ⟨sgd (act) 0x1220 (be 4 59), waiting 0x1220 (be 4 59), act, signed, by decide +kernel⟩,
   ⟨{ act with sess := { act.sess with presenceUntil := some 1000000000 } }, 1000000000, by decide +kernel⟩,
   ⟨{ act with sess := { act.sess with presenceUntil := some 1000000001 } }, 1000000001, by decide +kernel⟩,
   ⟨sgd (act) 0x1130 ([1, 0, 0, 0] ++ be 64 (Config.sha512 []).toNat), waiting 0x1130 ([1, 0, 0, 0] ++ be 64 (Config.sha512 []).toNat), act, 0,
     signed, keyArg (by decide), by decide +kernel⟩⟩

/-- The hypotheses of SignedCommandsKeyStoreAndQuote are met. -/
theorem witness_signedCommandsKeyStoreAndQuote_2 :
    (∃ (s : State) (f : Fwd) (t : State) (salt : BitVec 512), Signed s 0x1130 f t ∧ s.keyArgument f.req.arg 2 = true ∧ (s.mode.life = .provisioned
      ∨ s.mode.life = .inService ∨ s.mode.life = .develop)) ∧
    (∃ (s : State) (f : Fwd) (t : State), Signed s 0x1130 f t ∧ s.keyArgument f.req.arg 3 = true ∧ (s.mode.life = .provisioned
      ∨ s.mode.life = .inService ∨ s.mode.life = .develop)) ∧
    (∃ (s : State) (r : Req) (t : State) (x : ReplyTo), Granted s r 5 t x ∧ r.index = 0x1111 ∧ r.sub = 0 ∧ s.engineBusy = false) ∧
    (∃ (s : State) (r : Req) (t : State) (x : ReplyTo), Granted s r 5 t x ∧ r.index = 0x1111 ∧ r.sub = 0 ∧ s.engineBusy = true) ∧
    (∃ (s : State), s.sess.quoteBusy = true) ∧
    (∃ (s : State), s.sess.quoteBusy = false) :=
  ⟨⟨sgd (act) 0x1130 ([2, 0, 0, 0] ++ be 64 (Config.sha512 []).toNat), waiting 0x1130 ([2, 0, 0, 0] ++ be 64 (Config.sha512 []).toNat), act, 0,
    signed, keyArg (by decide), by decide +kernel⟩,
   ⟨sgd (act) 0x1130 ([3, 0, 0, 0] ++ be 64 (Config.sha512 []).toNat), waiting 0x1130 ([3, 0, 0, 0] ++ be 64 (Config.sha512 []).toNat), act, signed,
     keyArg (by decide), by decide +kernel⟩,
   ⟨act, tagged 1 5 { index := 0x1111, data := be 8 0 ++ be 32 3 }, after (act) 1, replyFor (act) 1 5 { index := 0x1111, data := be 8 0 ++ be 32 3 },
     granted (by decide +kernel) rfl (by decide +kernel), by decide +kernel⟩,
   ⟨{ act with sess := { act.sess with quoteBusy := true } }, tagged 1 5 { index := 0x1111, data := be 8 0 ++ be 32 3 },
     after ({ act with sess := { act.sess with quoteBusy := true } }) 1,
     replyFor ({ act with sess := { act.sess with quoteBusy := true } }) 1 5 { index := 0x1111, data := be 8 0 ++ be 32 3 },
     granted (by decide +kernel) rfl (by decide +kernel), by decide +kernel⟩,
   ⟨{ act with sess := { act.sess with quoteBusy := true } }, by decide +kernel⟩,
   ⟨act, by decide +kernel⟩⟩

/-- The hypotheses of PowerOnResetAndBoot are met. -/
theorem witness_powerOnResetAndBoot :
    (∃ (s : State) (p : PowerUp), (s.mode.inReset = true ∨ s.moraine.boot = 0) ∧ State.supplied p = true) ∧
    (∃ (s : State) (p : PowerUp), ((s.mode.inReset = false ∧ s.moraine.boot ≠ 0) ∨ State.supplied p = false)) ∧
    (∃ (s : State), s.mode.inReset = false ∧ s.mode.hubTested = false) ∧
    (∃ (s : State), s.mode.inReset = false ∧ s.time.monoRun = false ∧ s.mode.resetAt + 200000000 ≤ s.time.now) ∧
    (∃ (s : State) (m : BootMeasure), s.mode.inReset = false ∧ s.mode.measured = false ∧ s.sedge.recovery = false ∧ s.mode.lifePending = none
      ∧ State.readable m 4 = true) ∧
    (∃ (s : State) (m : BootMeasure), s.mode.inReset = false ∧ s.mode.measured = false ∧ s.sedge.recovery = false ∧ s.mode.lifePending = none
      ∧ State.readable m 4 = false) ∧
    (∃ (s : State), s.mode.inReset = false ∧ s.mode.measured = true ∧ s.mode.booted = false) :=
  ⟨⟨State.reset, { feedA := 19201, feedB := 0 }, by decide +kernel⟩,
   ⟨State.reset, { feedA := 19200, feedB := 33001 }, by decide +kernel⟩,
   ⟨State.reset, by decide +kernel⟩,
   ⟨{ State.reset with time := { now := 200000000 } }, by decide +kernel⟩,
   ⟨State.reset, {}, by decide +kernel⟩,
   ⟨State.reset, { bad1 := [4], bad2 := [4] }, by decide +kernel⟩,
   ⟨{ State.reset with mode := { measured := true } }, by decide +kernel⟩⟩

/-- The hypotheses of SuppliesSeatSensorsAndCover are met. -/
theorem witness_suppliesSeatSensorsAndCover_1 :
    (∃ (s : State) (a b : Nat), a < 16000 ∧ b < 16000 ∧ s.sedge.lowSince = none) ∧
    (∃ (s : State) (a b : Nat), (16000 ≤ a ∨ 16000 ≤ b ∨ s.sedge.lowSince.isSome = true)) ∧
    (∃ (s : State) (k : Ns), s.sedge.lowSince = some k ∧ k + 200000 ≤ s.time.now ∧ s.mode.inReset = false) ∧
    (∃ (s : State), s.sedge.lowSince.elim true (fun k => decide (s.time.now < k + 200000)) = true) ∧
    (∃ (s : State) (h : Ns), 4000 ≤ h ∧ s.sedge.inserted = true) ∧
    (∃ (s : State) (h : Ns), h < 4000) ∧
    (∃ (s : State) (f mv : Nat), f < 2 ∧ 33000 < mv ∧ (s.feed f).disconnected = false) ∧
    (∃ (s : State) (f mv : Nat), mv ≤ 33000) :=
  ⟨⟨act, 15999, 0, by decide +kernel⟩,
   ⟨act, 16000, 0, by decide +kernel⟩,
   ⟨{ act with sedge := { act.sedge with lowSince := some 999800000 } }, 999800000, by decide +kernel⟩,
   ⟨{ act with sedge := { act.sedge with lowSince := some 999800001 } }, by decide +kernel⟩,
   ⟨act, 4000, by decide +kernel⟩,
   ⟨act, 3999, by decide +kernel⟩,
   ⟨act, 1, 33001, by decide +kernel⟩,
   ⟨act, 1, 33000, by decide +kernel⟩⟩

/-- The hypotheses of SuppliesSeatSensorsAndCover are met. -/
theorem witness_suppliesSeatSensorsAndCover_2 :
    (∃ (s : State) (f mv : Nat) (b : Ns), f < 2 ∧ mv < 31000 ∧ 10000000 ≤ b ∧ (s.feed f).disconnected = true) ∧
    (∃ (s : State) (f mv : Nat) (b : Ns), (31000 ≤ mv ∨ b < 10000000)) ∧
    (∃ (s : State) (l : List Int) (failed : List Nat), l.length = 24
      ∧ s.sedge.sampledAt.elim true (fun k => decide (k + 10000000 ≤ s.time.now)) = true) ∧
    (∃ (s : State) (l : List Int) (failed : List Nat) (k : Ns), s.sedge.sampledAt = some k ∧ s.time.now < k + 10000000) ∧
    (∃ (s : State), s.sedge.coverOpen = false) ∧
    (∃ (s : State), s.sedge.coverOpen = true) ∧
    (∃ (s : State) (b : Bool), b = s.sedge.coverOpen) :=
  ⟨⟨{ act with sedge := { act.sedge with feedA := { disconnected := true } } }, 0, 30999, 10000000, by decide +kernel⟩,
   ⟨act, 0, 30999, 9999999, by decide +kernel⟩,
   ⟨{ act with sedge := { act.sedge with sampledAt := some 990000000 } }, List.replicate 24 0, [3], by decide +kernel⟩,
   ⟨{ act with sedge := { act.sedge with sampledAt := some 990000001 } }, List.replicate 24 0, [], 990000001, by decide +kernel⟩,
   ⟨act, by decide +kernel⟩,
   ⟨{ act with sedge := { act.sedge with coverOpen := true } }, by decide +kernel⟩,
   ⟨act, false, by decide +kernel⟩⟩

/-- The hypotheses of FirmwareIsStagedAndActivated are met. -/
theorem witness_firmwareIsStagedAndActivated_1 :
    (∃ (s : State) (r : Req) (t : State) (x : ReplyTo), Granted s r 5 t x ∧ r.index = 0x7A21 ∧ r.sub = 0 ∧ r.select = 0
      ∧ r.offset ≤ s.sedge.stageTotal ∧ 1 ≤ r.bytes.length ∧ r.bytes.length ≤ (if r.overCan then 16 else 1024) ∧ r.offset + r.bytes.length ≤ 2 ^ 28
      ∧ s.sedge.trial = false ∧ s.mayStageFw = true) ∧
    (∃ (s : State) (r : Req) (t : State) (x : ReplyTo), Granted s r 2 t x ∧ r.index = 0x7A22 ∧ r.sub = 0 ∧ r.value = 1) ∧
    (∃ (s : State) (r : Req) (t : State) (x : ReplyTo), Granted s r 2 t x ∧ r.index = 0x7A22 ∧ r.sub = 0 ∧ r.value = 2) ∧
    (∃ (s : State) (c : Word) (k : BitVec 512) (a b : Bool), s.sedge.stageState = 2) ∧
    (∃ (s : State) (c : Word) (k : BitVec 512) (a b : Bool), s.sedge.stageState ≠ 2) ∧
    (∃ (s : State) (f : Fwd) (t : State), Signed s 0x7A20 f t ∧ s.sedge.stageState = 3 ∧ State.fwArgument f.req.arg 1 s.other = true
      ∧ s.fwBusy = false ∧ (s.mode.life = .provisioned ∨ s.mode.life = .inService ∨ s.mode.life = .develop) ∧ s.pair.ownSelf = false
      ∧ s.partnerAnswers = false) ∧
    (∃ (s : State) (f : Fwd) (t : State), Signed s 0x7A20 f t ∧ s.sedge.stageState ≠ 3 ∧ at_ f.req.arg 0 1 = 1) ∧
    (∃ (s : State), s.mode.rebootDue = true) :=
  ⟨⟨act, tagged 4 5 { index := 0x7A21, data := be 8 0 ++ [7] }, after (act) 4, replyFor (act) 4 5 { index := 0x7A21, data := be 8 0 ++ [7] },
    granted (by decide +kernel) rfl (by decide +kernel), by decide +kernel⟩,
   ⟨act, tagged 4 2 { index := 0x7A22, data := [1] }, after (act) 4, replyFor (act) 4 2 { index := 0x7A22, data := [1] },
     granted (by decide +kernel) rfl (by decide +kernel), by decide +kernel⟩,
   ⟨{ act with sedge := { act.sedge with stageState := 3 } }, tagged 4 2 { index := 0x7A22, data := [2] },
     after ({ act with sedge := { act.sedge with stageState := 3 } }) 4,
     replyFor ({ act with sedge := { act.sedge with stageState := 3 } }) 4 2 { index := 0x7A22, data := [2] },
     granted (by decide +kernel) rfl (by decide +kernel), by decide +kernel⟩,
   ⟨{ act with sedge := { act.sedge with stageState := 2 } }, 0, 0, true, false, by decide +kernel⟩,
   ⟨act, 0, 0, false, true, by decide +kernel⟩,
   ⟨sgd { act with sedge := { act.sedge with slotB := some { release := 0x04020000, hash := 9, length := 3 }, stageState := 3, stageTotal := 3 }, pair := {} } 0x7A20 ([1,
     0, 0, 0] ++ be 64 9), waiting 0x7A20 ([1, 0, 0, 0] ++ be 64 9), { act with sedge := { act.sedge with slotB := some { release := 0x04020000, hash := 9, length := 3 }, stageState := 3, stageTotal := 3 }, pair := {} },
     signed, by decide +kernel⟩,
   ⟨sgd act 0x7A20 [1], waiting 0x7A20 [1], act, signed, by decide +kernel⟩,
   ⟨{ act with mode := { act.mode with rebootDue := true } }, by decide +kernel⟩⟩

/-- The hypotheses of FirmwareIsStagedAndActivated are met. -/
theorem witness_firmwareIsStagedAndActivated_2 :
    (∃ (s : State) (f : Fwd) (t : State) (p : FwPackage), Signed s 0x7A20 f t ∧ s.running = some p ∧ State.fwArgument f.req.arg 2 (some p) = true
      ∧ s.sedge.floor < p.securityVersion ∧ s.fwBusy = false ∧ (s.mode.life = .provisioned ∨ s.mode.life = .inService ∨ s.mode.life = .develop)) ∧
    (∃ (s : State), s.sedge.trial = true ∧ s.mode.rebootDue = false ∧ s.trialGood = true) ∧
    (∃ (s : State), (s.sedge.trial = false ∨ s.trialGood = false)) :=
  ⟨⟨sgd { act with sedge := { act.sedge with slotA := some { hash := 9, securityVersion := 1 } } } 0x7A20 ([2, 0, 0, 0] ++ be 64 9),
    waiting 0x7A20 ([2, 0, 0, 0] ++ be 64 9), { act with sedge := { act.sedge with slotA := some { hash := 9, securityVersion := 1 } } }, { hash := 9, securityVersion := 1 },
    signed, by decide +kernel⟩,
   ⟨{ act with mode := { act.mode with leftColdAt := some 0 }, time := { act.time with now := 60000000000 }, sedge := { act.sedge with trial := true, attempts := 1 } },
     by decide +kernel⟩,
   ⟨act, by decide +kernel⟩⟩

/-- The hypotheses of DetectorsCountAndLatch are met. -/
theorem witness_detectorsCountAndLatch :
    (∃ (s : State) (d : Nat) (a : DetAttr) (info : Word), detAttr d = some a ∧ (a.event = true ∨ (s.det d).live = false)) ∧
    (∃ (s : State) (d : Nat), (s.det d).live = true) ∧
    (∃ (s : State) (d : Nat), (s.det d).live = false) ∧
    (∃ (s : State) (m : Nat) (v : Word) (a : DetAttr), homeMaster m = true ∧ State.raiseOk v.toNat = true ∧ detAttr (State.raiseDet v.toNat) = some a
      ∧ tb v.toNat 15 = false ∧ (a.event = true ∨ (s.det (State.raiseDet v.toNat)).live = false) ∧ (s.mode.life = .develop ∨ a.runtime = true)) ∧
    (∃ (s : State) (m : Nat) (v : Word) (a : DetAttr), detAttr (State.raiseDet v.toNat) = some a ∧ s.mode.life ≠ .develop ∧ a.runtime = false) ∧
    (∃ (s : State) (r : Req) (t : State) (x : ReplyTo) (a : DetAttr), Granted s r 2 t x ∧ r.index = 0x7006 ∧ r.sub = 0 ∧ State.raiseOk r.value = true
      ∧ detAttr (State.raiseDet r.value) = some a ∧ tb r.value 15 = false ∧ (a.event = true ∨ (s.det (State.raiseDet r.value)).live = false)
      ∧ s.mode.life = .develop) ∧
    (∃ (s : State) (m : Nat) (v : Word) (a : DetAttr), homeMaster m = true ∧ State.raiseOk v.toNat = true ∧ detAttr (State.raiseDet v.toNat) = some a
      ∧ tb v.toNat 15 = true ∧ a.event = false ∧ (s.mode.life = .develop ∨ a.runtime = true)) ∧
    (∃ (s : State) (r : Req) (t : State) (x : ReplyTo) (a : DetAttr), Granted s r 2 t x ∧ r.index = 0x7006 ∧ r.sub = 0 ∧ State.raiseOk r.value = true
      ∧ detAttr (State.raiseDet r.value) = some a ∧ tb r.value 15 = true ∧ a.event = false ∧ s.mode.life = .develop) :=
  ⟨⟨act, 0, { cls := 2, domain := 0, own := true }, 7, by decide +kernel⟩,
   ⟨{ act with hub := { act.hub with dets := [(50, { live := true, latched := true, count := 1 })] } }, 50, by decide +kernel⟩,
   ⟨act, 50, by decide +kernel⟩,
   ⟨act, 7, 0x000A0075, { cls := 1, runtime := true }, by decide +kernel⟩,
   ⟨act, 7, 0, { cls := 2, domain := 0, own := true }, by decide +kernel⟩,
   ⟨{ act with mode := { act.mode with life := .develop } }, tagged 5 2 { index := 0x7006, data := [0, 1, 0, 0] },
     after ({ act with mode := { act.mode with life := .develop } }) 5,
     replyFor ({ act with mode := { act.mode with life := .develop } }) 5 2 { index := 0x7006, data := [0, 1, 0, 0] }, { cls := 2, domain := 0, own := true },
     granted (by decide +kernel) rfl (by decide +kernel), by decide +kernel⟩,
   ⟨{ act with hub := { act.hub with dets := [(97, { live := true })] } }, 13, 0x00008061, { cls := 1, event := false, runtime := true },
     by decide +kernel⟩,
   ⟨{ act with mode := { act.mode with life := .develop }, hub := { act.hub with dets := [(97, { live := true })] } }, tagged 5 2 { index := 0x7006, data := [0, 0, 0x80, 0x61] },
     after ({ act with mode := { act.mode with life := .develop }, hub := { act.hub with dets := [(97, { live := true })] } }) 5,
     replyFor ({ act with mode := { act.mode with life := .develop }, hub := { act.hub with dets := [(97, { live := true })] } }) 5 2 { index := 0x7006, data := [0, 0, 0x80, 0x61] },
     { cls := 1, event := false, runtime := true }, granted (by decide +kernel) rfl (by decide +kernel), by decide +kernel⟩⟩

/-- The hypotheses of CausesAreClearedAndTheLeafIsWatched are met. -/
theorem witness_causesAreClearedAndTheLeafIsWatched_1 :
    (∃ (s : State) (r : Req) (t : State) (x : ReplyTo), Admitted s r 2 t x ∧ r.index = 0x7010 ∧ (∀ d ∈ State.writtenDets r.sub.toNat r.value,
      (s.det d).live = false)) ∧
    (∃ (s : State) (r : Req) (t : State) (x : ReplyTo) (d : Nat), Admitted s r 2 t x ∧ r.index = 0x7010 ∧ d ∈ State.writtenDets r.sub.toNat r.value
      ∧ (s.det d).live = true) ∧
    (∃ (s : State) (r : Req) (t : State) (x : ReplyTo) (n : Nat), Granted s r 2 t x ∧ r.index = 0x7003 ∧ r.sub = 0 ∧ resetTime r.value = some n
      ∧ s.fenced r.value = true ∧ s.hub.restore = none ∧ s.latchedIn r.value = false) ∧
    (∃ (s : State) (r : Req) (t : State) (x : ReplyTo), Granted s r 2 t x ∧ r.index = 0x7003 ∧ r.sub = 0 ∧ (resetTime r.value).isSome = true
      ∧ (s.fenced r.value = false ∨ s.hub.restore.isSome = true)) ∧
    (∃ (s : State) (r : Restore) (h : Shadow), s.hub.restore = some r ∧ h ∈ s.hub.shadows ∧ h.domain = r.domain ∧ h.parent = 511
      ∧ h.stop ≤ s.time.mono ∧ r.hits = [] ∧ (∀ e ∈ s.hub.dets, e.2.live = false) ∧ r.fwd.req.port ≠ 0) ∧
    (∃ (s : State) (r : Restore) (h : Shadow), s.hub.restore = some r ∧ h ∈ s.hub.shadows ∧ h.domain = r.domain ∧ h.parent = 511
      ∧ h.stop ≤ s.time.mono ∧ r.hits = [(254, 7)] ∧ (∀ e ∈ s.hub.dets, e.2.live = false) ∧ r.fwd.req.port ≠ 0) ∧
    (∃ (s : State) (c : Nat) (h : Shadow), h ∈ s.hub.shadows ∧ h.domain = c ∧ h.parent ≠ 511 ∧ h.stop ≤ s.time.mono ∧ (∀ e ∈ s.hub.dets,
      e.2.live = false) ∧ (∀ e ∈ s.releases, e.2.waiting = false)) ∧
    (∃ (s : State) (c : Nat), (∀ h ∈ s.hub.shadows, s.time.mono < h.stop)) :=
  ⟨⟨{ act with hub := { act.hub with dets := [(511, { latched := true, count := 1 })] } }, tagged 2 2 { index := 0x7010, sub := 15, data := [0x80, 0, 0, 0] },
    after ({ act with hub := { act.hub with dets := [(511, { latched := true, count := 1 })] } }) 2,
    replyFor ({ act with hub := { act.hub with dets := [(511, { latched := true, count := 1 })] } }) 2 2 { index := 0x7010, sub := 15, data := [0x80, 0, 0, 0] },
    admitted (by decide +kernel), by decide +kernel⟩,
   ⟨{ act with hub := { act.hub with dets := [(511, { latched := true, live := true })] } }, tagged 2 2 { index := 0x7010, sub := 15, data := [0x80, 0, 0, 0] },
     after ({ act with hub := { act.hub with dets := [(511, { latched := true, live := true })] } }) 2,
     replyFor ({ act with hub := { act.hub with dets := [(511, { latched := true, live := true })] } }) 2 2 { index := 0x7010, sub := 15, data := [0x80, 0, 0, 0] },
     511, admitted (by decide +kernel), by decide +kernel⟩,
   ⟨{ act with hub := { act.hub with fenced := [0x4C] } }, tagged 4 2 { index := 0x7003, data := [0x4C] },
     after ({ act with hub := { act.hub with fenced := [0x4C] } }) 4,
     replyFor ({ act with hub := { act.hub with fenced := [0x4C] } }) 4 2 { index := 0x7003, data := [0x4C] }, 5000000,
     granted (by decide +kernel) rfl (by decide +kernel), by decide +kernel⟩,
   ⟨act, tagged 4 2 { index := 0x7003, data := [0x4C] }, after (act) 4, replyFor (act) 4 2 { index := 0x7003, data := [0x4C] },
     granted (by decide +kernel) rfl (by decide +kernel), by decide +kernel⟩,
   ⟨{ act with hub := { act.hub with fenced := [0x4C], shadows := [⟨0x4C, 511, 0, 5⟩], restore := some { domain := 0x4C, fwd := { req := { index := 0x7003, data := [0x4C] }, opcode := 2 } } } },
     { domain := 0x4C, fwd := { req := { index := 0x7003, data := [0x4C] }, opcode := 2 } }, ⟨0x4C, 511, 0, 5⟩, by decide +kernel⟩,
   ⟨{ act with hub := { act.hub with fenced := [0x4C], shadows := [⟨0x4C, 511, 0, 5⟩], restore := some { domain := 0x4C, fwd := { req := { index := 0x7003, data := [0x4C] }, opcode := 2 }, hits := [(254, 7)] } } },
     { domain := 0x4C, fwd := { req := { index := 0x7003, data := [0x4C] }, opcode := 2 }, hits := [(254, 7)] }, ⟨0x4C, 511, 0, 5⟩,
     by decide +kernel⟩,
   ⟨{ act with hub := { act.hub with shadows := [⟨0x4C, 254, 0, 5⟩], fenced := [0x4C] } }, 0x4C, ⟨0x4C, 254, 0, 5⟩, by decide +kernel⟩,
   ⟨act, 0x4C, by decide +kernel⟩⟩

/-- The hypotheses of CausesAreClearedAndTheLeafIsWatched are met. -/
theorem witness_causesAreClearedAndTheLeafIsWatched_2 :
    (∃ (s : State) (m : Nat), homeMaster m = true ∧ s.hub.leafStopped = false) ∧
    (∃ (s : State) (m : Nat) (v : Word), homeMaster m = true ∧ s.hub.leafStopped = false ∧ v ≠ s.hub.nextKick) ∧
    (∃ (s : State) (r : Req) (t : State) (x : ReplyTo), Granted s r 2 t x ∧ r.index = 0x7005 ∧ r.sub = 0) ∧
    (∃ (s : State), s.hub.leafStopped = false) ∧
    (∃ (s : State) (k : Ns), s.hub.leafStopped = false ∧ s.hub.rtKick = some k ∧ k + s.hub.leafLimit.toNat * 1000000 ≤ s.time.now) ∧
    (∃ (s : State) (k : Ns), s.hub.rtKick = some k ∧ s.time.now < k + s.hub.leafLimit.toNat * 1000000) ∧
    (∃ (s : State), s.hub.aliveFrozen = false ∧ s.hub.aliveAt + 1000000 ≤ s.time.now) ∧
    (∃ (s : State), s.hub.aliveFrozen = true) :=
  ⟨⟨act, 0, by decide +kernel⟩,
   ⟨act, 13, 0, by decide +kernel⟩,
   ⟨act, tagged 5 2 { index := 0x7005, data := [0, 0, 0x5A, 0x5A] }, after (act) 5, replyFor (act) 5 2 { index := 0x7005, data := [0, 0, 0x5A, 0x5A] },
     granted (by decide +kernel) rfl (by decide +kernel), by decide +kernel⟩,
   ⟨act, by decide +kernel⟩,
   ⟨{ act with hub := { act.hub with rtKick := some 900000000, leafLimit := 100 } }, 900000000, by decide +kernel⟩,
   ⟨{ act with hub := { act.hub with rtKick := some 900000001, leafLimit := 100 } }, 900000001, by decide +kernel⟩,
   ⟨{ act with hub := { act.hub with aliveFrozen := false, aliveAt := 999000000 } }, by decide +kernel⟩,
   ⟨{ act with hub := { act.hub with aliveFrozen := true } }, by decide +kernel⟩⟩

/-- The hypotheses of ModesArePreparedAndCommitted are met. -/
theorem witness_modesArePreparedAndCommitted_1 :
    (∃ (s : State) (r : Req) (t : State) (x : ReplyTo), Granted s r 2 t x ∧ r.index = 0x2001 ∧ r.sub = 0 ∧ targetOf r = 2 ∧ r.value < 512
      ∧ s.modeBusy = false ∧ s.pair.ownSelf = true ∧ s.mayGo .run false = true) ∧
    (∃ (s : State) (r : Req) (t : State) (x : ReplyTo), Granted s r 2 t x ∧ r.index = 0x2001 ∧ r.sub = 0 ∧ targetOf r = 3 ∧ r.value < 512
      ∧ s.modeBusy = false ∧ s.pair.ownSelf = true ∧ s.mayGo .hold false = true) ∧
    (∃ (s : State) (r : Req) (t : State) (x : ReplyTo), Granted s r 2 t x ∧ r.index = 0x2003 ∧ r.sub = 0 ∧ targetOf r = 4 ∧ r.value < 512
      ∧ s.modeBusy = false ∧ s.mayGo .service false = true) ∧
    (∃ (s : State) (r : Req) (t : State) (x : ReplyTo), Granted s r 2 t x ∧ r.index = 0x2003 ∧ r.sub = 0 ∧ targetOf r = 3 ∧ r.value < 512
      ∧ s.modeBusy = false ∧ s.mode.current = .service ∧ s.pair.ownSelf = true) ∧
    (∃ (s : State) (r : Req) (t : State) (x : ReplyTo), Granted s r 2 t x ∧ r.index = 0x2001 ∧ r.sub = 0 ∧ targetOf r = 3 ∧ r.value < 512
      ∧ s.modeBusy = false ∧ s.mode.current = .service) ∧
    (∃ (s : State) (r : Req) (t : State) (x : ReplyTo), Granted s r 2 t x ∧ r.index = 0x2001 ∧ r.sub = 0 ∧ targetOf r = 2 ∧ r.value < 512
      ∧ s.modeBusy = false ∧ (s.pair.ownSelf && s.mayGo .run false) = false) ∧
    (∃ (s : State) (r : Req) (t : State) (x : ReplyTo), Granted s r 2 t x ∧ r.index = 0x2001 ∧ r.sub = 0 ∧ targetOf r = 2 ∧ r.value < 512
      ∧ s.modeBusy = true) ∧
    (∃ (s : State) (r : Req) (t : State) (x : ReplyTo), Granted s r 2 t x ∧ r.index = 0x2001 ∧ r.sub = 0 ∧ targetOf r = 2 ∧ 512 ≤ r.value) :=
  ⟨⟨inMode .hold, tagged 2 2 { index := 0x2001, data := be 4 258 }, after (inMode .hold) 2, replyFor (inMode .hold) 2 2 { index := 0x2001, data := be 4 258 },
    granted (by decide +kernel) rfl (by decide +kernel), by decide +kernel⟩,
   ⟨inMode .run, tagged 2 2 { index := 0x2001, data := be 4 259 }, after (inMode .run) 2, replyFor (inMode .run) 2 2 { index := 0x2001, data := be 4 259 },
     granted (by decide +kernel) rfl (by decide +kernel), by decide +kernel⟩,
   ⟨inMode .hold, tagged 4 2 { index := 0x2003, data := be 4 260 }, after (inMode .hold) 4, replyFor (inMode .hold) 4 2 { index := 0x2003, data := be 4 260 },
     granted (by decide +kernel) rfl (by decide +kernel), by decide +kernel⟩,
   ⟨inMode .service, tagged 4 2 { index := 0x2003, data := be 4 259 }, after (inMode .service) 4, replyFor (inMode .service) 4 2 { index := 0x2003, data := be 4 259 },
     granted (by decide +kernel) rfl (by decide +kernel), by decide +kernel⟩,
   ⟨inMode .service, tagged 2 2 { index := 0x2001, data := be 4 3 }, after (inMode .service) 2, replyFor (inMode .service) 2 2 { index := 0x2001, data := be 4 3 },
     granted (by decide +kernel) rfl (by decide +kernel), by decide +kernel⟩,
   ⟨act, tagged 2 2 { index := 0x2001, data := be 4 2 }, after (act) 2, replyFor (act) 2 2 { index := 0x2001, data := be 4 2 },
     granted (by decide +kernel) rfl (by decide +kernel), by decide +kernel⟩,
   ⟨{ act with mode := { act.mode with inTransition := true } }, tagged 2 2 { index := 0x2001, data := be 4 2 },
     after ({ act with mode := { act.mode with inTransition := true } }) 2,
     replyFor ({ act with mode := { act.mode with inTransition := true } }) 2 2 { index := 0x2001, data := be 4 2 },
     granted (by decide +kernel) rfl (by decide +kernel), by decide +kernel⟩,
   ⟨act, tagged 2 2 { index := 0x2001, data := be 4 514 }, after (act) 2, replyFor (act) 2 2 { index := 0x2001, data := be 4 514 },
     granted (by decide +kernel) rfl (by decide +kernel), by decide +kernel⟩⟩

/-- The hypotheses of ModesArePreparedAndCommitted are met. -/
theorem witness_modesArePreparedAndCommitted_2 :
    (∃ (s : State) (r : Req) (t : State) (x : ReplyTo), Granted s r 2 t x ∧ r.index = 0x2003 ∧ r.sub = 0 ∧ targetOf r = 1 ∧ r.value < 512
      ∧ s.modeBusy = false ∧ s.mayTrack = true ∧ s.pair.linkKept = true ∧ s.pair.syncUp = true) ∧
    (∃ (s : State) (r : Req) (t : State) (x : ReplyTo), Granted s r 2 t x ∧ r.index = 0x2003 ∧ r.sub = 0 ∧ targetOf r = 1 ∧ r.value < 512
      ∧ s.modeBusy = false ∧ s.mayTrack = true ∧ s.pair.linkKept = false) ∧
    (∃ (s : State) (r : Req) (t : State) (x : ReplyTo), Granted s r 2 t x ∧ r.index = 0x2003 ∧ r.sub = 0 ∧ targetOf r = 1 ∧ r.value < 512
      ∧ s.modeBusy = false ∧ s.mayTrack = false) ∧
    (∃ (s : State) (p : Prep) (k n : Nat), s.mode.prep = some p ∧ s.refusal p = some (k, n)) ∧
    (∃ (s : State) (p : Prep), s.mode.prep = some p ∧ s.refusal p = none ∧ s.exchangeOpen = false ∧ s.pair.handover ≠ 1 ∧ s.taskMask ≠ 0) ∧
    (∃ (s : State) (p : Prep), s.mode.prep = some p ∧ s.refusal p = none ∧ s.exchangeOpen = false ∧ s.pair.handover ≠ 1 ∧ s.taskMask = 0) ∧
    (∃ (s : State), s.mode.prep = none) ∧
    (∃ (s : State) (p : Prep), s.mode.prep = some p ∧ p.since + s.mode.prepareTimeout.toNat * 1000000 ≤ s.time.mono) :=
  ⟨⟨{ inMode .service with pair := { ownPeer := true, linkKept := true, syncUp := true } }, tagged 4 2 { index := 0x2003, data := be 4 1 },
    after ({ inMode .service with pair := { ownPeer := true, linkKept := true, syncUp := true } }) 4,
    replyFor ({ inMode .service with pair := { ownPeer := true, linkKept := true, syncUp := true } }) 4 2 { index := 0x2003, data := be 4 1 },
    granted (by decide +kernel) rfl (by decide +kernel), by decide +kernel⟩,
   ⟨{ inMode .service with pair := { ownPeer := true } }, tagged 4 2 { index := 0x2003, data := be 4 1 },
     after ({ inMode .service with pair := { ownPeer := true } }) 4,
     replyFor ({ inMode .service with pair := { ownPeer := true } }) 4 2 { index := 0x2003, data := be 4 1 },
     granted (by decide +kernel) rfl (by decide +kernel), by decide +kernel⟩,
   ⟨act, tagged 4 2 { index := 0x2003, data := be 4 1 }, after (act) 4, replyFor (act) 4 2 { index := 0x2003, data := be 4 1 },
     granted (by decide +kernel) rfl (by decide +kernel), by decide +kernel⟩,
   ⟨{ act with mode := { act.mode with prep := some { target := .hold, since := 0 } }, disp := { act.disp with tasks := [(0, { adopted := .run, halted := true })] } },
     { target := .hold, since := 0 }, 20, 3, by decide +kernel⟩,
   ⟨{ act with mode := { act.mode with prep := some { target := .hold, since := 0 } } }, { target := .hold, since := 0 }, by decide +kernel⟩,
   ⟨{ act with mode := { act.mode with prep := some { target := .hold, since := 0 } }, prog := { } }, { target := .hold, since := 0 },
     by decide +kernel⟩,
   ⟨act, by decide +kernel⟩,
   ⟨{ act with mode := { act.mode with prep := some { target := .hold, since := 0 } } }, { target := .hold, since := 0 }, by decide +kernel⟩⟩

/-- The hypotheses of ModesArePreparedAndCommitted are met. -/
theorem witness_modesArePreparedAndCommitted_3 :
    ∃ (s : State), s.mode.prep.elim true (fun p => decide (s.time.mono < p.since + s.mode.prepareTimeout.toNat * 1000000)) = true :=
  ⟨act, by decide +kernel⟩

/-- The hypotheses of ReleaseInstantsPlaceReleases are met. -/
theorem witness_releaseInstantsPlaceReleases_1 :
    (∃ (s : State) (t : Nat) (d : TaskDecl), s.taskDecl t = some d ∧ (s.tasks.map (·.task)).Nodup ∧ s.mode.current ≠ .cold ∧ s.time.monoRun = true
      ∧ s.releaseDue d = true ∧ (∀ k : Nat, (s.task k).release = none) ∧ s.pair.received = [] ∧ s.prog.exch.swapAt = none ∧ s.pair.handoverAt = none
      ∧ s.mode.pending = 0 ∧ s.prog.exch.stopped = false ∧ s.dispatches t = true ∧ (s.task t).resumeDue = false ∧ (s.task t).halted = false
      ∧ (State.coresOf d.affinity).any (fun c => !s.fenced c) = true ∧ (∀ e ∈ s.tasks, s.setResident e.task = true)) ∧
    (∃ (s : State) (t : Nat) (d : TaskDecl), s.taskDecl t = some d ∧ (s.tasks.map (·.task)).Nodup ∧ s.mode.current ≠ .cold ∧ s.time.monoRun = true
      ∧ s.releaseDue d = true ∧ (∀ k : Nat, (s.task k).release = none) ∧ s.pair.received = [] ∧ s.prog.exch.swapAt = none ∧ s.pair.handoverAt = none
      ∧ s.mode.pending = 0 ∧ s.prog.exch.stopped = false ∧ s.dispatches t = true ∧ (s.task t).resumeDue = false ∧ (s.task t).halted = true) ∧
    (∃ (s : State) (t : Nat) (d : TaskDecl) (r : Release), t < 16 ∧ (s.task t).release = some r ∧ s.taskDecl t = some d
      ∧ r.instant + d.deadline * 1000 ≤ s.time.mono ∧ (s.task t).halted = false ∧ (s.task t).undispatchable = false ∧ r.excused = false
      ∧ (s.task t).adopted = .run ∧ s.mode.current = .run) ∧
    (∃ (s : State) (t : Nat) (d : TaskDecl) (r : Release), t < 16 ∧ (s.task t).release = some r ∧ s.taskDecl t = some d
      ∧ s.time.mono < r.instant + d.deadline * 1000) ∧
    (∃ (s : State) (t : Nat), t < 16 ∧ (s.task t).release = none) ∧
    (∃ (s : State) (t : Nat) (d : TaskDecl), s.taskDecl t = some d ∧ d.resident = false ∧ s.mode.current ≠ .cold
      ∧ s.dueAt d (s.time.mono + d.prefetchLead * 1000) = true ∧ s.drift.requests = []) ∧
    (∃ (s : State) (t : Nat) (d : TaskDecl), s.taskDecl t = some d ∧ d.resident = true) ∧
    (∃ (s : State) (t : Nat) (r : Release), s.setResident t = true ∧ s.drift.requests.any (fun q => q.task = t) = true ∧ (s.task t).release = some r
      ∧ r.waiting = true) :=
  ⟨⟨act, 0, img.tasks.getD 0 { task := 0, period := 0, deadline := 0 }, by decide +kernel, by decide +kernel, by decide +kernel, by decide +kernel, by decide +kernel, by intro k; cases k <;> rfl, by decide +kernel⟩,
   ⟨{ act with disp := { act.disp with tasks := [(0, { adopted := .run, halted := true })] } }, 0, img.tasks.getD 0 { task := 0, period := 0, deadline := 0 }, by decide +kernel, by decide +kernel, by decide +kernel, by decide +kernel, by decide +kernel, by intro k; cases k <;> rfl, by decide +kernel⟩,
   ⟨{ act with disp := { act.disp with tasks := [(0, { adopted := .run, releaseCount := 1, lastRelease := 999000000, nextRelease := 1000000000, release := some { instant := 999000000, core := 0, pass := 1, running := true } })] } },
     0, img.tasks.getD 0 { task := 0, period := 0, deadline := 0 }, { instant := 999000000, core := 0, pass := 1, running := true },
     by decide +kernel⟩,
   ⟨{ act with disp := { act.disp with tasks := [(0, { adopted := .run, releaseCount := 1, lastRelease := 999000000, nextRelease := 1000000000, release := some { instant := 999400001, core := 0 } })] } },
     0, img.tasks.getD 0 { task := 0, period := 0, deadline := 0 }, { instant := 999400001, core := 0 }, by decide +kernel⟩,
   ⟨act, 0, by decide +kernel⟩,
   ⟨{ act with prog := { act.prog with image := some { img with tasks := [{ task := 0, period := 1000, deadline := 600, resident := false, ranges := [(256, 1)] }] } } },
     0, { task := 0, period := 1000, deadline := 600, resident := false, ranges := [(256, 1)] }, by decide +kernel⟩,
   ⟨act, 0, img.tasks.getD 0 { task := 0, period := 0, deadline := 0 }, by decide +kernel⟩,
   ⟨{ act with disp := { act.disp with tasks := [(0, { adopted := .run, releaseCount := 1, lastRelease := 999000000, nextRelease := 1000000000, release := some { instant := 999000000, core := 0, waiting := true } })] }, drift := { act.drift with requests := [⟨0, 0, false⟩] } },
     0, { instant := 999000000, core := 0, waiting := true }, by decide +kernel⟩⟩

/-- The hypotheses of ReleaseInstantsPlaceReleases are met. -/
theorem witness_releaseInstantsPlaceReleases_2 :
    ∃ (s : State) (t : Nat), s.setResident t = true ∧ s.drift.requests.any (fun q => q.task = t) = true ∧ (s.task t).release = none :=
  ⟨{ act with drift := { act.drift with requests := [⟨0, 0, false⟩] } }, 0, by decide +kernel⟩

/-- The hypotheses of PassesRunInOrder are met. -/
theorem witness_passesRunInOrder_1 :
    (∃ (s : State) (c t : Nat) (r : Release) (acts : List PassAct) (b e : Ns), s.runningOn c = some (t, r) ∧ (s.task t).release = some r
      ∧ r.stopping = false ∧ (s.passActs t r (s.area t (r.pass - 1)) acts).2 = false ∧ r.tainted = false ∧ 1 ≤ r.pass ∧ r.pass < 3) ∧
    (∃ (s : State) (c t : Nat) (r : Release) (acts : List PassAct) (b e : Ns), s.runningOn c = some (t, r) ∧ (s.task t).release = some r
      ∧ r.stopping = false ∧ (s.passActs t r (s.area t (r.pass - 1)) acts).2 = false ∧ r.pass = 3) ∧
    (∃ (s : State) (c t : Nat) (r : Release) (acts : List PassAct) (b : Ns), s.runningOn c = some (t, r) ∧ (s.task t).release = some r
      ∧ r.stopping = false ∧ (s.passActs t r (s.area t (r.pass - 1)) acts).2 = false ∧ (s.task t).halted = false
      ∧ (s.eligibleOn c).any (fun e => s.priority e.1 < s.priority t) = false) ∧
    (∃ (s : State) (c t : Nat) (r : Release) (acts : List PassAct) (b : Ns), s.runningOn c = some (t, r) ∧ (s.task t).release = some r
      ∧ r.stopping = false ∧ (s.passActs t r (s.area t (r.pass - 1)) acts).2 = false ∧ (s.task t).halted = false
      ∧ (s.eligibleOn c).any (fun e => s.priority e.1 < s.priority t) = true) ∧
    (∃ (s : State) (c t : Nat) (r : Release) (w : PassAct), s.runningOn c = some (t, r) ∧ (s.task t).release = some r ∧ r.stopping = false
      ∧ (s.passActs t r (s.area t (r.pass - 1)) [w]).2 = true) ∧
    (∃ (s : State) (c t : Nat) (r : Release) (w : PassAct), s.runningOn c = some (t, r) ∧ (s.task t).release = some r ∧ r.stopping = false
      ∧ (s.passActs t r (s.area t (r.pass - 1)) [w]).2 = false) ∧
    (∃ (s : State) (c t : Nat) (r : Release) (a : Word) (k : Nat), s.runningOn c = some (t, r) ∧ (s.task t).release = some r ∧ r.stopping = false
      ∧ k ≤ 2 ∧ a.toNat < 0x40000000 ∧ s.refuses { master := c, address := a.toNat, kind := k, privileged := false } = false
      ∧ s.inWorkingSet t (a.toNat / 4096) = false) ∧
    (∃ (s : State) (c : Nat) (a : Word) (k : Nat), c < 8 ∧ k ≤ 2 ∧ a.toNat < 0x40000000 ∧ s.resident (a.toNat / 4096) = false
      ∧ s.refuses { master := c, address := a.toNat, kind := k, privileged := true } = false) :=
  ⟨⟨{ act with disp := { act.disp with tasks := [(0, { adopted := .run, releaseCount := 1, lastRelease := 999000000, nextRelease := 1000000000, release := some { instant := 999000000, core := 0, pass := 1, running := true } })] } },
    0, 0, { instant := 999000000, core := 0, pass := 1, running := true }, [.readValue 10], 5, 2, by decide +kernel⟩,
   ⟨{ act with disp := { act.disp with tasks := [(0, { adopted := .run, releaseCount := 1, lastRelease := 999000000, nextRelease := 1000000000, release := some { instant := 999000000, core := 0, pass := 3, running := true } })] } },
     0, 0, { instant := 999000000, core := 0, pass := 3, running := true }, [.readValue 10], 5, 2, by decide +kernel⟩,
   ⟨{ act with disp := { act.disp with tasks := [(0, { adopted := .run, releaseCount := 1, lastRelease := 999000000, nextRelease := 1000000000, release := some { instant := 999000000, core := 0, pass := 1, running := true } })] } },
     0, 0, { instant := 999000000, core := 0, pass := 1, running := true }, [.readValue 10], 5, by decide +kernel⟩,
   ⟨{ act with prog := { act.prog with image := some { img with tasks := [{ task := 0, period := 1000, deadline := 600, priority := 1 }, { task := 1, period := 1000, deadline := 600 }] } }, disp := { act.disp with tasks := [(0, { adopted := .run, release := some { instant := 999000000, core := 0, pass := 1, running := true } }), (1, { release := some { instant := 999500000, core := 0 } })] } },
     0, 0, { instant := 999000000, core := 0, pass := 1, running := true }, [], 5, by decide +kernel⟩,
   ⟨{ { act with disp := { act.disp with tasks := [(0, { adopted := .run, releaseCount := 1, lastRelease := 999000000, nextRelease := 1000000000, release := some { instant := 999000000, core := 0, pass := 1, running := true } })] } } with prog := { act.prog with image := some { img with tasks := [{ task := 0, period := 1000, deadline := 600, stashWords := 0 }] } } },
     0, 0, { instant := 999000000, core := 0, pass := 1, running := true }, .write 1 11 0 1, by decide +kernel⟩,
   ⟨{ act with disp := { act.disp with tasks := [(0, { adopted := .run, releaseCount := 1, lastRelease := 999000000, nextRelease := 1000000000, release := some { instant := 999000000, core := 0, pass := 1, running := true } })] } },
     0, 0, { instant := 999000000, core := 0, pass := 1, running := true }, .write 1 11 0 1, by decide +kernel⟩,
   ⟨{ act with disp := { act.disp with tasks := [(0, { adopted := .run, releaseCount := 1, lastRelease := 999000000, nextRelease := 1000000000, release := some { instant := 999000000, core := 0, pass := 1, running := true } })] }, guard := { act.guard with live := [(0, 0x3FFFFF), (1, 0x80FF0077)] } },
     0, 0, { instant := 999000000, core := 0, pass := 1, running := true }, 0x3FFFFFFF, 2, by decide +kernel⟩,
   ⟨act, 7, 0x3FFFFFFF, 0, by decide +kernel⟩⟩

/-- The hypotheses of PassesRunInOrder are met. -/
theorem witness_passesRunInOrder_2 :
    (∃ (s : State) (c : Nat), c < 8 ∧ s.fenced c = false ∧ s.runningOn c = none) ∧
    (∃ (s : State) (c : Nat) (a : Word) (k : Nat), s.resident (a.toNat / 4096) = true) ∧
    (∃ (s : State) (c : Nat), (8 ≤ c ∨ s.fenced c = true ∨ (s.runningOn c).isSome = true)) :=
  ⟨⟨act, 7, by decide +kernel, by decide +kernel, by rfl⟩,
   ⟨act, 7, 0x00100000, 0, by decide +kernel⟩,
   ⟨act, 8, by decide +kernel⟩⟩

/-- The hypotheses of VotesAndCommits are met. -/
theorem witness_votesAndCommits :
    (∃ (s : State) (t : Nat) (r : Release), (s.task t).release = some r ∧ r.voting = true ∧ r.tainted = false ∧ r.core < 8 ∧ s.mode.current ≠ .track
      ∧ (State.outcomeOf (s.area t 0) (s.area t 1) (s.area t 2)).1 ≤ 3 ∧ ((s.firnTask t).commits + 1) % 16 ≠ 0) ∧
    (∃ (s : State) (t : Nat) (r : Release), (s.task t).release = some r ∧ r.voting = true ∧ r.tainted = false ∧ r.core < 8 ∧ s.mode.current ≠ .track
      ∧ (State.outcomeOf (s.area t 0) (s.area t 1) (s.area t 2)).1 = 4) ∧
    (∃ (s : State) (t : Nat) (r : Release), (s.task t).release = some r ∧ r.voting = true ∧ r.tainted = true ∧ s.pair.received = []) ∧
    (∃ (s : State) (t : Nat) (r : Release) (v : Vote), (s.task t).release = some r ∧ r.committing = true ∧ (s.firnTask t).vote = some v
      ∧ s.drift.ckptBusy = none) ∧
    (∃ (s : State) (t : Nat) (r : Release) (v : Vote), (s.task t).release = some r ∧ r.committing = true ∧ (s.firnTask t).vote = some v
      ∧ (s.task t).tainted = false ∧ s.drift.ckptBusy = none) ∧
    (∃ (s : State) (t : Nat), (s.firnTask t).repair = 1 ∧ (s.firnTask t).rebuildDue = false ∧ (s.task t).tainted = false) ∧
    (∃ (s : State) (t : Nat), (s.firnTask t).repair = 2 ∧ (s.task t).tainted = false) ∧
    (∃ (s : State) (t : Nat), (s.firnTask t).repair = 3) :=
  ⟨⟨{ act with disp := { act.disp with tasks := [(0, { adopted := .run, releaseCount := 1, lastRelease := 999000000, nextRelease := 1000000000, release := some { instant := 999000000, core := 0, pass := 3, voting := true } })] }, firn := { areas := [(0, { entries := [⟨1, 11, 0, 1⟩], digest := 5 }), (1, { entries := [⟨1, 11, 0, 0⟩], digest := 5 }), (2, { entries := [⟨1, 11, 0, 0xA5⟩], digest := 5 })] } },
    0, { instant := 999000000, core := 0, pass := 3, voting := true }, by decide +kernel⟩,
   ⟨{ act with disp := { act.disp with tasks := [(0, { adopted := .run, releaseCount := 1, lastRelease := 999000000, nextRelease := 1000000000, release := some { instant := 999000000, core := 0, pass := 3, voting := true } })] }, firn := { areas := [(0, { entries := [⟨1, 11, 1, 1⟩], digest := 5 }), (1, { entries := [⟨1, 11, 1, 0xFFFFFFFE⟩], digest := 6 }), (2, { entries := [⟨1, 11, 1, 184323⟩], digest := 7 })] } },
     0, { instant := 999000000, core := 0, pass := 3, voting := true }, by decide +kernel⟩,
   ⟨{ act with disp := { act.disp with tasks := [(0, { adopted := .run, releaseCount := 1, lastRelease := 999000000, nextRelease := 1000000000, release := some { instant := 999000000, core := 0, pass := 1, voting := true, tainted := true } })] } },
     0, { instant := 999000000, core := 0, pass := 1, voting := true, tainted := true }, by decide +kernel⟩,
   ⟨{ act with disp := { act.disp with tasks := [(0, { adopted := .run, releaseCount := 1, lastRelease := 999000000, nextRelease := 1000000000, release := some { instant := 999000000, core := 0, pass := 3, committing := true } })] }, firn := { tasks := [(0, { vote := some { outcome := 1, writes := [⟨1, 11, 0, 1⟩], instant := 999000000 } })] } },
     0, { instant := 999000000, core := 0, pass := 3, committing := true }, { outcome := 1, writes := [⟨1, 11, 0, 1⟩], instant := 999000000 },
     by decide +kernel⟩,
   ⟨{ act with disp := { act.disp with tasks := [(0, { adopted := .run, releaseCount := 1, lastRelease := 999000000, nextRelease := 1000000000, release := some { instant := 999000000, core := 0, pass := 3, committing := true } })] }, firn := { tasks := [(0, { vote := some { outcome := 1, writes := [⟨1, 11, 0, 1⟩], instant := 999000000 } })] } },
     0, { instant := 999000000, core := 0, pass := 3, committing := true }, { outcome := 1, writes := [⟨1, 11, 0, 1⟩], instant := 999000000 },
     by decide +kernel⟩,
   ⟨{ act with firn := { tasks := [(0, { repair := 1, repairOdd := 3 })] } }, 0, by decide +kernel⟩,
   ⟨{ act with firn := { tasks := [(0, { repair := 2, bgShare := 255 })] } }, 0, by decide +kernel⟩,
   ⟨{ act with firn := { tasks := [(0, { repair := 3 })] } }, 0, by decide +kernel⟩⟩

/-- The hypotheses of InterruptQueues are met. -/
theorem witness_interruptQueues :
    (∃ (s : State) (n : Nat) (entry : List Word), n < 256 ∧ entry.length ≤ 4
      ∧ ((get ({} : IntQ) s.disp.queues n).producer + 1) % 128 ≠ (get ({} : IntQ) s.disp.queues n).consumer % 128) ∧
    (∃ (s : State) (n : Nat) (entry : List Word), n < 256 ∧ entry.length ≤ 4
      ∧ ((get ({} : IntQ) s.disp.queues n).producer + 1) % 128 = (get ({} : IntQ) s.disp.queues n).consumer % 128) ∧
    (∃ (s : State) (n : Nat), State.mayNotify (get ({} : IntQ) s.disp.queues n) = true
      ∧ State.countReached (get ({} : IntQ) s.disp.queues n) = true) ∧
    (∃ (s : State) (n : Nat), (State.mayNotify (get ({} : IntQ) s.disp.queues n) && State.countReached (get ({} : IntQ) s.disp.queues n)) = false) ∧
    (∃ (s : State) (n : Nat), State.mayNotify (get ({} : IntQ) s.disp.queues n) = true ∧ s.timeReached (get ({} : IntQ) s.disp.queues n) = true) ∧
    (∃ (s : State) (n : Nat), (State.mayNotify (get ({} : IntQ) s.disp.queues n) && s.timeReached (get ({} : IntQ) s.disp.queues n)) = false) ∧
    (∃ (s : State) (n k : Nat), n < 256 ∧ k < 128 ∧ (get ({} : IntQ) s.disp.queues n).producer = k) :=
  ⟨⟨act, 255, [1, 2, 3, 4], by decide +kernel⟩,
   ⟨{ act with disp := { act.disp with queues := [(5, { route := 0x80000000, producer := 127, consumer := 0, ring := [(0, [1])] })] } }, 5, [],
     by decide +kernel⟩,
   ⟨{ act with disp := { act.disp with queues := [(5, { route := 0x80000000, producer := 1, consumer := 0, ring := [(0, [1])] })] } }, 5,
     by decide +kernel⟩,
   ⟨act, 5, by decide +kernel⟩,
   ⟨{ act with disp := { act.disp with queues := [(5, { route := 0x8001FF00, producer := 1, times := [(0, 999999000)] })] } }, 5, by decide +kernel⟩,
   ⟨act, 5, by decide +kernel⟩,
   ⟨{ act with disp := { act.disp with queues := [(5, { route := 0x80000000, producer := 127, consumer := 5, ring := [(0, [1])], outstanding := true })] } },
     5, 127, by decide +kernel⟩⟩

/-- The hypotheses of MemoryIsManaged are met. -/
theorem witness_memoryIsManaged_1 :
    (∃ (s : State) (p f : Nat) (y : Frame) (n : Ns) (b : Bool), s.drift.frames.find? (fun e => e.2.state = 1 && e.2.page = p) = some (f, y)
      ∧ ((b = true ∨ p < 0x10000 ∨ 0x18000 ≤ p)) ∧ s.drift.requests = [] ∧ s.prog.change = none ∧ s.prog.exch.phase ≠ 4) ∧
    (∃ (s : State) (p f : Nat) (y : Frame) (n : Ns), s.drift.frames.find? (fun e => e.2.state = 1 && e.2.page = p) = some (f, y) ∧ 0x10000 ≤ p
      ∧ p < 0x18000 ∧ y.refetched = false) ∧
    (∃ (s : State) (p f : Nat) (y : Frame) (n : Ns), s.drift.frames.find? (fun e => e.2.state = 1 && e.2.page = p) = some (f, y) ∧ 0x10000 ≤ p
      ∧ p < 0x18000 ∧ y.refetched = true) ∧
    (∃ (s : State) (p : Nat) (n : Ns) (b : Bool), s.drift.frames.find? (fun e => e.2.state = 1 && e.2.page = p) = none) ∧
    (∃ (s : State) (f : Nat), s.drift.writeBacks.any (fun w => w.1 = f) = true ∧ s.drift.requests = [] ∧ s.prog.change = none
      ∧ s.prog.exch.phase ≠ 4) ∧
    (∃ (s : State) (f : Nat), s.drift.writeBacks.any (fun w => w.1 = f) = false) ∧
    (∃ (s : State), s.freeMsgs ≠ []) ∧
    (∃ (s : State), s.freeMsgs = []) :=
  ⟨⟨{ act with drift := { act.drift with frames := [(300, { state := 1, page := 98304, area := 0 })] } }, 0x18000, 300, { state := 1, page := 98304, area := 0 },
    9, false, by decide +kernel⟩,
   ⟨{ act with drift := { act.drift with frames := [(300, { state := 1, page := 98303, area := 0 })] } }, 0x17FFF, 300, { state := 1, page := 98303, area := 0 },
     9, by decide +kernel⟩,
   ⟨{ act with drift := { act.drift with frames := [(300, { state := 1, page := 0x10000, area := 0, refetched := true })] } }, 0x10000, 300,
     { state := 1, page := 0x10000, area := 0, refetched := true }, 9, by decide +kernel⟩,
   ⟨act, 9, 9, true, by rfl⟩,
   ⟨{ act with drift := { act.drift with frames := [(300, { state := 3, page := 9 })], writeBacks := [(300, 77)] } }, 300, by decide +kernel⟩,
   ⟨act, 300, by decide +kernel⟩,
   ⟨act, fun h => absurd (congrArg List.length h) (by decide +kernel)⟩,
   ⟨{ act with drift := { act.drift with messages := List.range 6144 } }, List.filter_eq_nil_iff.mpr (fun m h => by simpa using h)⟩⟩

/-- The hypotheses of MemoryIsManaged are met. -/
theorem witness_memoryIsManaged_2 :
    (∃ (s : State) (m : Nat), s.drift.messages.contains m = true) ∧
    (∃ (s : State) (a : Nat), (∀ m ∈ s.drift.messages, a ≠ 0x44880000 + m * 256)) ∧
    (∃ (s : State) (k : Nat), k < 2 ∧ get (0, 0) s.drift.eccSec k = (s.time.mono / 1000000000, s.drift.eccThreshold.toNat)) ∧
    (∃ (s : State) (k : Nat), k < 2 ∧ (get (0, 0) s.drift.eccSec k).2 < s.drift.eccThreshold.toNat ∧ 0 < s.drift.eccThreshold.toNat) :=
  ⟨⟨{ act with drift := { act.drift with messages := [0, 6143] } }, 6143, by decide +kernel⟩,
   ⟨{ act with drift := { act.drift with messages := [0, 6143] } }, 0x44880001, by decide +kernel⟩,
   ⟨{ act with drift := { act.drift with eccSec := [(1, (1, 16))] } }, 1, by decide +kernel⟩,
   ⟨act, 0, by decide +kernel⟩⟩

/-- The hypotheses of StatisticsAndCheckpoints are met. -/
theorem witness_statisticsAndCheckpoints_1 :
    (∃ (s : State) (i : Image), s.drift.ckptLast / 10000000000 < s.time.mono / 10000000000 ∧ s.pair.ownSelf = true ∧ s.drift.ckptBusy = none
      ∧ s.image = some i) ∧
    (∃ (s : State), s.time.mono / 10000000000 ≤ s.drift.ckptLast / 10000000000) ∧
    (∃ (s : State) (c : Ckpt), s.drift.ckptBusy = some c) ∧
    (∃ (s : State) (a b : Bool), s.drift.ckptBusy = none) ∧
    (∃ (s : State) (r : Req) (t : State) (x : ReplyTo), Granted s r 2 t x ∧ r.index = 0x7440 ∧ r.sub = 4 ∧ r.value = 1
      ∧ s.drift.noCheckpoint = true) ∧
    (∃ (s : State) (r : Req) (t : State) (x : ReplyTo), Granted s r 2 t x ∧ r.index = 0x7440 ∧ r.sub = 4 ∧ r.value = 1
      ∧ s.drift.noCheckpoint = false) ∧
    (∃ (s : State) (r : Req) (t : State) (x : ReplyTo), Granted s r 2 t x ∧ r.sub = 0x16 ∧ 0x2400 ≤ r.index.toNat ∧ r.index.toNat ≤ 0x240F
      ∧ r.value = 1) ∧
    (∃ (s : State) (r : Req) (t : State) (x : ReplyTo), Granted s r 2 t x ∧ r.index = 0x7401 ∧ r.sub = 0 ∧ r.value = 1) :=
  ⟨⟨{ act with time := { act.time with mono := 10000000000 } }, img, by decide +kernel⟩,
   ⟨act, by decide +kernel⟩,
   ⟨{ act with drift := { act.drift with ckptBusy := some { sequence := 7, area := 1 } } }, { sequence := 7, area := 1 }, by decide +kernel⟩,
   ⟨act, true, true, by decide +kernel⟩,
   ⟨{ inMode .cold with drift := { noCheckpoint := true } }, tagged 3 2 { index := 0x7440, sub := 4, data := [1] },
     after ({ inMode .cold with drift := { noCheckpoint := true } }) 3,
     replyFor ({ inMode .cold with drift := { noCheckpoint := true } }) 3 2 { index := 0x7440, sub := 4, data := [1] },
     granted (by decide +kernel) rfl (by decide +kernel), by decide +kernel⟩,
   ⟨act, tagged 3 2 { index := 0x7440, sub := 4, data := [1] }, after (act) 3, replyFor (act) 3 2 { index := 0x7440, sub := 4, data := [1] },
     granted (by decide +kernel) rfl (by decide +kernel), by decide +kernel⟩,
   ⟨act, tagged 3 2 { index := 0x2400, sub := 0x16, data := [1] }, after (act) 3, replyFor (act) 3 2 { index := 0x2400, sub := 0x16, data := [1] },
     granted (by decide +kernel) rfl (by decide +kernel), by decide +kernel⟩,
   ⟨act, tagged 4 2 { index := 0x7401, data := [1] }, after (act) 4, replyFor (act) 4 2 { index := 0x7401, data := [1] },
     granted (by decide +kernel) rfl (by decide +kernel), by decide +kernel⟩⟩

/-- The hypotheses of StatisticsAndCheckpoints are met. -/
theorem witness_statisticsAndCheckpoints_2 :
    ∃ (s : State) (r : Req) (t : State) (x : ReplyTo), Granted s r 2 t x ∧ r.index = 0x7501 ∧ r.sub = 0 ∧ r.value = 1 :=
  ⟨{ act with firn := { tasks := [(0, { bgCycles := 4, repair := 2 })] } }, tagged 3 2 { index := 0x7501, data := [1] },
    after ({ act with firn := { tasks := [(0, { bgCycles := 4, repair := 2 })] } }) 3, replyFor ({ act with firn := { tasks := [(0, { bgCycles := 4, repair := 2 })] } }) 3 2 { index := 0x7501, data := [1] },
    granted (by decide +kernel) rfl (by decide +kernel), by decide +kernel⟩

/-- The hypotheses of LifeCycleChanges are met. -/
theorem witness_lifeCycleChanges :
    (∃ (s : State) (f : Fwd) (t : State) (secret : BitVec 4096), Signed s 0x1101 f t ∧ f.req.arg.length = 4 ∧ fromBe f.req.arg ≤ 4
      ∧ (s.mode.life ≠ .blank ∨ (t.stagedCert (fun c => f.auth.elim false (fun a => c.key = a.clientKey)) = true))
      ∧ State.mayBecome s.mode.life (lifeOf (fromBe f.req.arg)) = true ∧ s.mode.lifePending = none ∧ s.mode.rebootDue = false ∧ s.pair.ownSelf = false
      ∧ ((s.mode.current = .cold ∨ s.mode.current = .track ∨ s.mode.current = .service))) ∧
    (∃ (s : State) (f : Fwd) (t : State) (secret : BitVec 4096), Signed s 0x1101 f t ∧ f.req.arg.length = 4 ∧ fromBe f.req.arg ≤ 4
      ∧ s.mode.life ≠ .blank ∧ s.mode.lifePending = none ∧ s.mode.rebootDue = false ∧ (State.mayBecome s.mode.life (lifeOf (fromBe f.req.arg)) = false
      ∨ s.pair.ownSelf = true)) ∧
    (∃ (s : State) (f : Fwd) (t : State) (secret : BitVec 4096), Signed s 0x1101 f t ∧ s.mode.life = .blank ∧ fromBe f.req.arg = 1
      ∧ ¬ (t.stagedCert (fun c => f.auth.elim false (fun a => c.key = a.clientKey)) = true)) ∧
    (∃ (s : State) (l : Life), s.mode.lifePending = some l ∧ s.mode.wipeStep = 5 ∧ s.mode.inReset = false) ∧
    (∃ (s : State), (s.mode.lifePending = none ∨ s.mode.wipeStep ≠ 5 ∨ s.mode.inReset = true)) :=
  ⟨⟨sgd ({ act with pair := {}, mode := { act.mode with current := .service, target := .service } }) 0x1101 (be 4 3), waiting 0x1101 (be 4 3),
    { act with pair := {}, mode := { act.mode with current := .service, target := .service } }, 7, signed, by decide +kernel⟩,
   ⟨sgd (act) 0x1101 (be 4 2), waiting 0x1101 (be 4 2), act, 7, signed, by decide +kernel⟩,
   ⟨sgd ({ inMode .cold with pair := {}, mode := { (inMode .cold).mode with life := .blank } }) 0x1101 (be 4 1), waiting 0x1101 (be 4 1),
     { inMode .cold with pair := {}, mode := { (inMode .cold).mode with life := .blank } }, 7, signed, by decide +kernel⟩,
   ⟨{ act with mode := { act.mode with current := .cold, lifePending := some .develop, wipeStep := 5 } }, .develop, by decide +kernel⟩,
   ⟨act, by decide +kernel⟩⟩

/-- The hypotheses of SignalsAreWrittenAndForced are met. -/
theorem witness_signalsAreWrittenAndForced :
    (∃ (s : State) (r : Req) (t : State) (x : ReplyTo), Admitted s r 2 t x ∧ 0x6000 ≤ r.index.toNat ∧ r.index.toNat ≤ 0x60FF
      ∧ suits (s.sigOf (sigNo r.index.toNat r.sub.toNat)).type r.value = true) ∧
    (∃ (s : State) (r : Req) (t : State) (x : ReplyTo), Admitted s r 2 t x ∧ 0x6000 ≤ r.index.toNat ∧ r.index.toNat ≤ 0x60FF
      ∧ suits (s.sigOf (sigNo r.index.toNat r.sub.toNat)).type r.value = false) ∧
    (∃ (s : State) (r : Req) (t : State) (x : ReplyTo), Admitted s r 2 t x ∧ 0x6200 ≤ r.index.toNat ∧ r.index.toNat ≤ 0x62FF
      ∧ suits (s.sigOf (sigNo r.index.toNat r.sub.toNat)).type r.value = true
      ∧ ((s.sigOf (sigNo r.index.toNat r.sub.toNat)).forced && s.mode.current = .safe) = false) ∧
    (∃ (s : State) (r : Req) (t : State) (x : ReplyTo), Admitted s r 2 t x ∧ 0x6200 ≤ r.index.toNat ∧ r.index.toNat ≤ 0x62FF
      ∧ suits (s.sigOf (sigNo r.index.toNat r.sub.toNat)).type r.value = false) ∧
    (∃ (s : State) (r : Req) (t : State) (x : ReplyTo), Admitted s r 2 t x ∧ 0x6300 ≤ r.index.toNat ∧ r.index.toNat ≤ 0x63FF ∧ r.value = 1
      ∧ ((s.mode.current = .run ∨ s.mode.current = .hold ∨ s.mode.current = .service))) ∧
    (∃ (s : State) (r : Req) (t : State) (x : ReplyTo), Admitted s r 2 t x ∧ 0x6300 ≤ r.index.toNat ∧ r.index.toNat ≤ 0x63FF ∧ r.value = 1
      ∧ ((s.mode.current = .cold ∨ s.mode.current = .track ∨ s.mode.current = .safe))) ∧
    (∃ (s : State) (r : Req) (t : State) (x : ReplyTo), Admitted s r 2 t x ∧ 0x6300 ≤ r.index.toNat ∧ r.index.toNat ≤ 0x63FF ∧ r.value = 0) ∧
    (∃ (s : State) (r : Req) (t : State) (x : ReplyTo), Granted s r 2 t x ∧ r.sub = 0x12 ∧ 0x3000 ≤ r.index.toNat ∧ r.index.toNat ≤ 0x3FFF
      ∧ r.value = 1) :=
  ⟨⟨{ act with sig := { entries := [(10, { attributes := 0x100, unit := 20 })] } }, tagged 2 2 { index := 0x6000, sub := 10, data := be 4 1 },
    after ({ act with sig := { entries := [(10, { attributes := 0x100, unit := 20 })] } }) 2, replyFor ({ act with sig := { entries := [(10, { attributes := 0x100, unit := 20 })] } }) 2 2 { index := 0x6000, sub := 10, data := be 4 1 },
    admitted (by decide +kernel), by decide +kernel⟩,
   ⟨{ act with sig := { entries := [(10, { attributes := 0x100, unit := 20 })] } }, tagged 2 2 { index := 0x6000, sub := 10, data := be 4 2 },
     after ({ act with sig := { entries := [(10, { attributes := 0x100, unit := 20 })] } }) 2, replyFor ({ act with sig := { entries := [(10, { attributes := 0x100, unit := 20 })] } }) 2 2 { index := 0x6000, sub := 10, data := be 4 2 },
     admitted (by decide +kernel), by decide +kernel⟩,
   ⟨{ act with sig := { entries := [(10, { attributes := 0x20, unit := 20 })] } }, tagged 2 2 { index := 0x6200, sub := 10, data := be 4 1 },
     after ({ act with sig := { entries := [(10, { attributes := 0x20, unit := 20 })] } }) 2, replyFor ({ act with sig := { entries := [(10, { attributes := 0x20, unit := 20 })] } }) 2 2 { index := 0x6200, sub := 10, data := be 4 1 },
     admitted (by decide +kernel), by decide +kernel⟩,
   ⟨{ act with sig := { entries := [(10, { attributes := 0x20, unit := 20 })] } }, tagged 2 2 { index := 0x6200, sub := 10, data := be 4 2 },
     after ({ act with sig := { entries := [(10, { attributes := 0x20, unit := 20 })] } }) 2, replyFor ({ act with sig := { entries := [(10, { attributes := 0x20, unit := 20 })] } }) 2 2 { index := 0x6200, sub := 10, data := be 4 2 },
     admitted (by decide +kernel), by decide +kernel⟩,
   ⟨{ act with sig := { entries := [(10, { attributes := 0x20, unit := 20 })] } }, tagged 2 2 { index := 0x6300, sub := 10, data := [1] },
     after ({ act with sig := { entries := [(10, { attributes := 0x20, unit := 20 })] } }) 2, replyFor ({ act with sig := { entries := [(10, { attributes := 0x20, unit := 20 })] } }) 2 2 { index := 0x6300, sub := 10, data := [1] },
     admitted (by decide +kernel), by decide +kernel⟩,
   ⟨{ inMode .safe with sig := { entries := [(10, { attributes := 0x20, unit := 20 })] } }, tagged 2 2 { index := 0x6300, sub := 10, data := [1] },
     after ({ inMode .safe with sig := { entries := [(10, { attributes := 0x20, unit := 20 })] } }) 2,
     replyFor ({ inMode .safe with sig := { entries := [(10, { attributes := 0x20, unit := 20 })] } }) 2 2 { index := 0x6300, sub := 10, data := [1] },
     admitted (by decide +kernel), by decide +kernel⟩,
   ⟨{ act with sig := { entries := [(10, { attributes := 0x20, unit := 20, forced := true })] } }, tagged 2 2 { index := 0x6300, sub := 10, data := [0] },
     after ({ act with sig := { entries := [(10, { attributes := 0x20, unit := 20, forced := true })] } }) 2,
     replyFor ({ act with sig := { entries := [(10, { attributes := 0x20, unit := 20, forced := true })] } }) 2 2 { index := 0x6300, sub := 10, data := [0] },
     admitted (by decide +kernel), by decide +kernel⟩,
   ⟨{ act with sig := { entries := [(10, { attributes := 0x20, unit := 20, forced := true }), (11, { attributes := 0x20, unit := 0, forced := true })] } },
     tagged 3 2 { index := 0x3014, sub := 0x12, data := [1] }, after ({ act with sig := { entries := [(10, { attributes := 0x20, unit := 20, forced := true }), (11, { attributes := 0x20, unit := 0, forced := true })] } }) 3,
     replyFor ({ act with sig := { entries := [(10, { attributes := 0x20, unit := 20, forced := true }), (11, { attributes := 0x20, unit := 0, forced := true })] } }) 3 2 { index := 0x3014, sub := 0x12, data := [1] },
     granted (by decide +kernel) rfl (by decide +kernel), by decide +kernel⟩⟩

/-- The hypotheses of ImagesAreStagedAndVerified are met. -/
theorem witness_imagesAreStagedAndVerified :
    (∃ (s : State) (r : Req) (t : State) (x : ReplyTo), Granted s r 5 t x ∧ r.index = 0x2301 ∧ r.sub = 0 ∧ r.select = 0 ∧ r.offset ≤ s.stageFile.total
      ∧ State.writeLength r = true ∧ r.offset + r.bytes.length ≤ 2 ^ 30 ∧ s.exchanging = false ∧ s.mayStage = true) ∧
    (∃ (s : State) (r : Req) (t : State) (x : ReplyTo), Granted s r 5 t x ∧ r.index = 0x2301 ∧ r.sub = 0 ∧ r.select = 0 ∧ r.offset ≤ s.stageFile.total
      ∧ State.writeLength r = true ∧ r.offset + r.bytes.length ≤ 2 ^ 30 ∧ s.exchanging = true) ∧
    (∃ (s : State) (r : Req) (t : State) (x : ReplyTo), Granted s r 2 t x ∧ r.index = 0x2302 ∧ r.sub = 0 ∧ r.value = 1 ∧ s.exchanging = false) ∧
    (∃ (s : State) (r : Req) (t : State) (x : ReplyTo), Granted s r 2 t x ∧ r.index = 0x2302 ∧ r.sub = 0 ∧ r.value = 1 ∧ s.exchanging = true) ∧
    (∃ (s : State) (r : Req) (t : State) (x : ReplyTo), Granted s r 2 t x ∧ r.index = 0x2302 ∧ r.sub = 0 ∧ r.value = 2 ∧ s.exchanging = false) ∧
    (∃ (s : State) (i : Image) (k : ImageSalts) (a b : Bool), s.prog.stageState = 2 ∧ s.image.isSome = true) ∧
    (∃ (s : State) (i : Image) (k : ImageSalts) (a b : Bool), s.prog.stageState = 2 ∧ s.image = none ∧ s.mode.current = .cold) ∧
    (∃ (s : State) (i : Image) (k : ImageSalts) (a b : Bool), s.prog.stageState ≠ 2) :=
  ⟨⟨act, tagged 3 5 { index := 0x2301, data := be 8 0 ++ [7] }, after (act) 3, replyFor (act) 3 5 { index := 0x2301, data := be 8 0 ++ [7] },
    granted (by decide +kernel) rfl (by decide +kernel), by decide +kernel⟩,
   ⟨inExch act { phase := 6, held := true }, tagged 3 5 { index := 0x2301, data := be 8 0 ++ [7] }, after (inExch act { phase := 6, held := true }) 3,
     replyFor (inExch act { phase := 6, held := true }) 3 5 { index := 0x2301, data := be 8 0 ++ [7] },
     granted (by decide +kernel) rfl (by decide +kernel), by decide +kernel⟩,
   ⟨act, tagged 3 2 { index := 0x2302, data := [1] }, after (act) 3, replyFor (act) 3 2 { index := 0x2302, data := [1] },
     granted (by decide +kernel) rfl (by decide +kernel), by decide +kernel⟩,
   ⟨inExch act { phase := 6, held := true }, tagged 3 2 { index := 0x2302, data := [1] }, after (inExch act { phase := 6, held := true }) 3,
     replyFor (inExch act { phase := 6, held := true }) 3 2 { index := 0x2302, data := [1] }, granted (by decide +kernel) rfl (by decide +kernel),
     by decide +kernel⟩,
   ⟨act, tagged 3 2 { index := 0x2302, data := [2] }, after (act) 3, replyFor (act) 3 2 { index := 0x2302, data := [2] },
     granted (by decide +kernel) rfl (by decide +kernel), by decide +kernel⟩,
   ⟨{ act with prog := { act.prog with stageState := 2, flash := put act.prog.flash 1 { bytes := [7], total := 1 } } }, img, {}, false, true,
     by decide +kernel⟩,
   ⟨{ act with mode := { act.mode with current := .cold, booted := true }, pair := {}, prog := { stageState := 2 } }, img, {}, true, true,
     by decide +kernel⟩,
   ⟨act, img, {}, true, true, by decide +kernel⟩⟩

/-- The hypotheses of ParametersAndConstantsChange are met. -/
theorem witness_parametersAndConstantsChange :
    (∃ (s : State) (r : Req) (t : State) (x : ReplyTo) (y : InstDecl), Granted s r 5 t x ∧ r.index = 0x2310 ∧ r.sub = 0
      ∧ (s.image.elim none (fun i => i.insts.find? (fun z => z.id = r.select))) = some y ∧ State.writeLength r = true
      ∧ r.offset + r.bytes.length ≤ 4 * (instFields y).length
      ∧ (paramsWritten y r.offset r.bytes).all (fun e => paramOk ((y.types.getD e.1.word 2).toNat) e.1 e.2) = true) ∧
    (∃ (s : State) (r : Req) (t : State) (x : ReplyTo) (y : InstDecl), Granted s r 5 t x ∧ r.index = 0x2310 ∧ r.sub = 0
      ∧ (s.image.elim none (fun i => i.insts.find? (fun z => z.id = r.select))) = some y
      ∧ (paramsWritten y r.offset r.bytes).all (fun e => paramOk ((y.types.getD e.1.word 2).toNat) e.1 e.2) = false) ∧
    (∃ (s : State) (r : Req) (t : State) (x : ReplyTo), Granted s r 5 t x ∧ r.index = 0x2311 ∧ r.sub = 0
      ∧ (s.image.elim false (fun i => i.constants.any (fun c => c.page = r.select))) = true ∧ State.writeLength r = true
      ∧ r.offset + r.bytes.length ≤ 4096 ∧ s.prog.changeRecord.length < 256 ∧ s.prog.change = none ∧ s.abortable = false ∧ s.copyFrame.isSome = true
      ∧ s.tasks.any (fun d => (pagesOf d.ranges).contains r.select) = true) ∧
    (∃ (s : State) (r : Req) (t : State) (x : ReplyTo), Granted s r 5 t x ∧ r.index = 0x2311 ∧ r.sub = 0
      ∧ (s.image.elim false (fun i => i.constants.any (fun c => c.page = r.select))) = true ∧ State.writeLength r = true
      ∧ r.offset + r.bytes.length ≤ 4096 ∧ s.prog.changeRecord.length < 256 ∧ s.prog.change.isSome = true) ∧
    (∃ (s : State) (c : ConstQ), s.prog.change = some c ∧ c.waiting = [] ∧ c.frame.isSome = true ∧ s.fenced s.imageRank = false
      ∧ s.fenced 0x52 = false ∧ c.fwd.req.port ≠ 0) ∧
    (∃ (s : State) (c : ConstQ), s.prog.change = some c ∧ c.waiting ≠ []) ∧
    (∃ (s : State), s.prog.change = none) :=
  ⟨⟨act, tagged 3 5 { index := 0x2310, data := be 4 0x2A10 ++ be 4 0 ++ be 4 10 }, after (act) 3, replyFor (act) 3 5 { index := 0x2310, data := be 4 0x2A10 ++ be 4 0 ++ be 4 10 },
    img.insts.getD 0 { id := 0 }, granted (by decide +kernel) rfl (by decide +kernel), by decide +kernel⟩,
   ⟨act, tagged 3 5 { index := 0x2310, data := be 4 0x2A10 ++ be 4 0 ++ be 4 11 }, after (act) 3, replyFor (act) 3 5 { index := 0x2310, data := be 4 0x2A10 ++ be 4 0 ++ be 4 11 },
     img.insts.getD 0 { id := 0 }, granted (by decide +kernel) rfl (by decide +kernel), by decide +kernel⟩,
   ⟨{ act with prog := { act.prog with image := some ({ img with constants := [{ page := 256 }] }) } }, tagged 3 5 { index := 0x2311, data := be 4 256 ++ be 4 4092 ++ be 4 9 },
     after ({ act with prog := { act.prog with image := some ({ img with constants := [{ page := 256 }] }) } }) 3,
     replyFor ({ act with prog := { act.prog with image := some ({ img with constants := [{ page := 256 }] }) } }) 3 5 { index := 0x2311, data := be 4 256 ++ be 4 4092 ++ be 4 9 },
     granted (by decide +kernel) rfl (by decide +kernel), by decide +kernel⟩,
   ⟨{ act with prog := { act.prog with image := some ({ img with constants := [{ page := 256 }] }), change := some { page := 256, words := [(3, 9)], frame := some 300, waiting := [], fwd := { req := { index := 0x2311 }, opcode := 5 } } } },
     tagged 3 5 { index := 0x2311, data := be 4 256 ++ be 4 4092 ++ be 4 9 },
     after ({ act with prog := { act.prog with image := some ({ img with constants := [{ page := 256 }] }), change := some { page := 256, words := [(3, 9)], frame := some 300, waiting := [], fwd := { req := { index := 0x2311 }, opcode := 5 } } } }) 3,
     replyFor ({ act with prog := { act.prog with image := some ({ img with constants := [{ page := 256 }] }), change := some { page := 256, words := [(3, 9)], frame := some 300, waiting := [], fwd := { req := { index := 0x2311 }, opcode := 5 } } } }) 3 5 { index := 0x2311, data := be 4 256 ++ be 4 4092 ++ be 4 9 },
     granted (by decide +kernel) rfl (by decide +kernel), by decide +kernel⟩,
   ⟨{ act with prog := { act.prog with image := some ({ img with constants := [{ page := 256 }] }), change := some { page := 256, words := [(3, 9)], frame := some 300, waiting := [], fwd := { req := { index := 0x2311 }, opcode := 5 } } } },
     { page := 256, words := [(3, 9)], frame := some 300, waiting := [], fwd := { req := { index := 0x2311 }, opcode := 5 } }, by decide +kernel⟩,
   ⟨{ act with prog := { act.prog with image := some ({ img with constants := [{ page := 256 }] }), change := some { page := 256, words := [(3, 9)], frame := some 300, waiting := [0], fwd := { req := { index := 0x2311 }, opcode := 5 } } } },
     { page := 256, words := [(3, 9)], frame := some 300, waiting := [0], fwd := { req := { index := 0x2311 }, opcode := 5 } }, by decide +kernel⟩,
   ⟨act, by decide +kernel⟩⟩

/-- The hypotheses of ExchangesPrepareAndAbort are met. -/
theorem witness_exchangesPrepareAndAbort_1 :
    (∃ (s : State) (f : Fwd) (t : State) (i : Image), Signed s 0x2320 f t ∧ f.req.arg.length = 68 ∧ s.prog.stageState = 3 ∧ s.prog.staged = some i
      ∧ i.hash.toNat = at_ f.req.arg 0 64 ∧ 60 ≤ at_ f.req.arg 64 4 ∧ at_ f.req.arg 64 4 ≤ 3600 ∧ s.exchanging = false ∧ s.mode.prep = none
      ∧ s.mode.inTransition = false ∧ s.mode.rebootDue = false ∧ s.pair.split = false ∧ s.partnerAnswers = true ∧ s.partnerInStep = true
      ∧ ((s.mode.current = .run ∨ s.mode.current = .hold)) ∧ s.pair.partnerFw = s.fwRelease) ∧
    (∃ (s : State) (f : Fwd) (t : State) (i : Image), Signed s 0x2320 f t ∧ f.req.arg.length = 68 ∧ s.prog.stageState = 3 ∧ s.prog.staged = some i
      ∧ i.hash.toNat = at_ f.req.arg 0 64 ∧ 60 ≤ at_ f.req.arg 64 4 ∧ at_ f.req.arg 64 4 ≤ 3600 ∧ s.exchanging = false ∧ s.mode.prep = none
      ∧ s.mode.inTransition = false ∧ s.mode.rebootDue = false ∧ s.pair.split = false ∧ s.partnerAnswers = false ∧ s.mode.current = .hold) ∧
    (∃ (s : State), s.exchangeOpen = true ∧ s.prog.exch.phase = 1 ∧ s.pair.ownSelf = true) ∧
    (∃ (s : State) (e : Nat), s.exchangeOpen = true ∧ s.prog.exch.phase = 1 ∧ s.pair.ownSelf = false) ∧
    (∃ (s : State) (old new : Image) (m : Tab Nat), s.image = some old ∧ s.prog.exch.other = some new ∧ s.exchangeOpen = true ∧ s.prog.exch.phase = 2
      ∧ exchangeMap new old s.prog.slots = some m) ∧
    (∃ (s : State), s.exchangeOpen = true ∧ s.prog.exch.phase = 3 ∧ ((s.pair.ownSelf = false ∨ s.prog.exch.lone = true))) ∧
    (∃ (s : State), s.exchangeOpen = true ∧ s.prog.exch.phase = 3 ∧ s.prog.exch.lone = false ∧ s.pair.ownSelf = true) ∧
    (∃ (s : State), s.exchangeOpen = true ∧ s.prog.exch.phase = 3 ∧ s.prog.exch.lone = false ∧ s.pair.ownSelf = false ∧ s.prog.exch.copied = true
      ∧ 2 ≤ s.prog.exch.mapped) :=
  ⟨⟨sgd ({ duo with prog := { duo.prog with stageState := 3, staged := some img2 } }) 0x2320 (be 64 78 ++ be 4 600),
    waiting 0x2320 (be 64 78 ++ be 4 600), { duo with prog := { duo.prog with stageState := 3, staged := some img2 } }, img2, signed,
    by decide +kernel⟩,
   ⟨sgd ({ inMode .hold with prog := { act.prog with stageState := 3, staged := some img2 } }) 0x2320 (be 64 78 ++ be 4 600),
     waiting 0x2320 (be 64 78 ++ be 4 600), { inMode .hold with prog := { act.prog with stageState := 3, staged := some img2 } }, img2, signed,
     by decide +kernel⟩,
   ⟨inExch duo { phase := 1, outcome := 1, other := some img2 }, by decide +kernel⟩,
   ⟨inExch standby { phase := 1, outcome := 1, other := some img2 }, 0, by decide +kernel⟩,
   ⟨inExch duo { phase := 2, outcome := 1, other := some img2 }, img, img2, [(0x2A10, 0)], by decide +kernel⟩,
   ⟨inExch standby { phase := 3, outcome := 1, other := some img2 }, by decide +kernel⟩,
   ⟨inExch duo { phase := 3, outcome := 1, other := some img2 }, by decide +kernel⟩,
   ⟨inExch standby { phase := 3, outcome := 1, other := some img2, copied := true, mapped := 2 }, by decide +kernel⟩⟩

/-- The hypotheses of ExchangesPrepareAndAbort are met. -/
theorem witness_exchangesPrepareAndAbort_2 :
    (∃ (s : State) (d : TaskDecl), s.exchangeOpen = true ∧ ((s.prog.exch.phase = 4 ∨ s.prog.exch.phase = 8)) ∧ s.prog.exch.lone = false
      ∧ s.pair.ownSelf = true ∧ s.prog.exch.swapAt = none ∧ s.slowest = some d) ∧
    (∃ (s : State), s.exchangeOpen = true ∧ s.prog.exch.phase = 4 ∧ s.prog.exch.lone = false ∧ s.pair.ownSelf = false ∧ s.prog.exch.ready = false
      ∧ s.newResident = true) ∧
    (∃ (s : State) (e : Nat), e ≠ 0 ∧ s.exchangeOpen = true ∧ s.prog.exch.phase = 1 ∧ s.pair.ownSelf = true) ∧
    (∃ (s : State) (old new : Image), s.image = some old ∧ s.prog.exch.other = some new ∧ s.exchangeOpen = true ∧ s.prog.exch.phase = 2
      ∧ s.pair.ownSelf = true ∧ exchangeMap new old s.prog.slots = none) ∧
    (∃ (s : State), s.exchangeOpen = true ∧ s.prog.exch.phase = 4 ∧ s.prog.exch.lone = false ∧ s.pair.ownSelf = true) ∧
    (∃ (s : State) (r : Req) (t : State) (x : ReplyTo), Granted s r 2 t x ∧ r.index = 0x2325 ∧ r.sub = 0 ∧ r.value = 1 ∧ s.abortable = true
      ∧ s.pair.ownSelf = true) ∧
    (∃ (s : State) (r : Req) (t : State) (x : ReplyTo), Granted s r 2 t x ∧ r.index = 0x2325 ∧ r.sub = 0 ∧ r.value = 1 ∧ s.abortable = false
      ∧ (s.pair.handover = 1 && s.pair.ownSelf) = false) ∧
    (∃ (s : State) (e : Ns), s.prog.exch.prepareEnd = some e ∧ e ≤ s.time.mono ∧ s.abortable = true ∧ s.pair.ownSelf = true) :=
  ⟨⟨inExch duo { phase := 4, outcome := 1, other := some img2 }, img.tasks.getD 0 { task := 0, period := 0, deadline := 0 }, by decide +kernel⟩,
   ⟨{ inExch standby { phase := 4, outcome := 1, other := some { img2 with tasks := [] } } with drift := {} }, by decide +kernel⟩,
   ⟨inExch duo { phase := 1, outcome := 1, other := some img2 }, 4, by decide +kernel⟩,
   ⟨inExch duo { phase := 2, outcome := 1, other := some { img2 with slotPools := [0, 0, 0, 0, 0] } }, img, { img2 with slotPools := [0, 0, 0, 0, 0] },
     by decide +kernel⟩,
   ⟨inExch duo { phase := 4, outcome := 1, other := some img2 }, by decide +kernel⟩,
   ⟨inExch duo { phase := 5, outcome := 1, other := some img2 }, tagged 3 2 { index := 0x2325, data := [1] }, after (inExch duo { phase := 5, outcome := 1, other := some img2 }) 3,
     replyFor (inExch duo { phase := 5, outcome := 1, other := some img2 }) 3 2 { index := 0x2325, data := [1] },
     granted (by decide +kernel) rfl (by decide +kernel), by decide +kernel⟩,
   ⟨inExch duo { phase := 6, outcome := 1, other := some img2 }, tagged 3 2 { index := 0x2325, data := [1] }, after (inExch duo { phase := 6, outcome := 1, other := some img2 }) 3,
     replyFor (inExch duo { phase := 6, outcome := 1, other := some img2 }) 3 2 { index := 0x2325, data := [1] },
     granted (by decide +kernel) rfl (by decide +kernel), by decide +kernel⟩,
   ⟨inExch duo { phase := 1, outcome := 1, other := some img2, prepareEnd := some 1000000000 }, 1000000000, by decide +kernel⟩⟩

/-- The hypotheses of ExchangesPrepareAndAbort are met. -/
theorem witness_exchangesPrepareAndAbort_3 :
    ∃ (s : State), s.prog.exch.prepareEnd.elim true (fun e => decide (s.time.mono < e)) = true :=
  ⟨act, by decide +kernel⟩

/-- The hypotheses of ExchangesSwapAndRevert are met. -/
theorem witness_exchangesSwapAndRevert_1 :
    (∃ (s : State), s.swapDue = true ∧ s.prog.exch.stopped = false ∧ s.pair.ownSelf = true) ∧
    (∃ (s : State), (s.swapDue = false ∨ s.prog.exch.stopped = true)) ∧
    (∃ (s : State), s.pair.ownSelf = true ∧ s.prog.exch.stopped = true ∧ s.swapDue = true ∧ s.releases = [] ∧ ((s.mode.current = .run
      ∨ s.mode.current = .hold))) ∧
    (∃ (s : State) (e : Ns), s.pair.waitUntil = some e ∧ e ≤ s.time.now ∧ s.pair.ownPeer = false ∧ s.pair.ownSelf = false ∧ s.mode.current = .track
      ∧ s.mode.inReset = false ∧ (s.prog.exch.swapMode = .run ∨ s.prog.exch.swapMode = .hold)) ∧
    (∃ (s : State), s.pair.waitUntil.elim true (fun e => decide (s.time.now < e)) = true) ∧
    (∃ (s : State) (f : Fwd) (t : State) (i : Image), Signed s 0x2321 f t ∧ f.req.arg.length = 64 ∧ s.prog.stageState = 5 ∧ s.prog.staged = some i
      ∧ i.hash.toNat = at_ f.req.arg 0 64 ∧ s.modeBusy = false ∧ s.prog.exch.phase = 6 ∧ s.prog.exch.lone = true ∧ s.mode.current = .hold) ∧
    (∃ (s : State) (f : Fwd) (t : State) (i : Image), Signed s 0x2321 f t ∧ f.req.arg.length = 64 ∧ s.prog.stageState = 5 ∧ s.prog.staged = some i
      ∧ i.hash.toNat = at_ f.req.arg 0 64 ∧ s.modeBusy = false ∧ s.prog.exch.phase = 6 ∧ s.prog.exch.lone = false ∧ ((s.mode.current = .run
      ∨ s.mode.current = .hold)) ∧ s.partnerAnswers = true ∧ tb s.pair.partnerMode.toNat 18 = false) ∧
    (∃ (s : State) (r : Req) (t : State) (x : ReplyTo), Granted s r 2 t x ∧ r.index = 0x2326 ∧ r.sub = 0 ∧ r.value = 1 ∧ s.prog.exch.outcome = 1
      ∧ s.prog.exch.phase = 6 ∧ s.pair.ownSelf = true ∧ s.prog.exch.lone = false) :=
  ⟨⟨inExch duo { phase := 4, outcome := 1, other := some img2, swapAt := some 1000000000 }, by decide +kernel⟩,
   ⟨act, by decide +kernel⟩,
   ⟨inExch duo { phase := 5, outcome := 1, other := some img2, swapAt := some 1000000000, stopped := true }, by decide +kernel⟩,
   ⟨{ inExch standby { phase := 5, outcome := 1, other := some img2, swapMode := .run } with pair := { standby.pair with ownPeer := false, waitUntil := some 1000000000 } },
     1000000000, by decide +kernel⟩,
   ⟨act, by decide +kernel⟩,
   ⟨sgd ({ inMode .hold with prog := { act.prog with stageState := 5, staged := some img2, exch := { phase := 6, outcome := 1, held := true, heldHere := true, other := some img2, layout := [(0x2A10, 0)], lone := true } } }) 0x2321 (be 64 78),
     waiting 0x2321 (be 64 78), { inMode .hold with prog := { act.prog with stageState := 5, staged := some img2, exch := { phase := 6, outcome := 1, held := true, heldHere := true, other := some img2, layout := [(0x2A10, 0)], lone := true } } },
     img2, signed, by decide +kernel⟩,
   ⟨sgd ({ duo with prog := { act.prog with stageState := 5, staged := some img2, exch := { phase := 6, outcome := 1, held := true, heldHere := true, other := some img2, layout := [(0x2A10, 0)] } } }) 0x2321 (be 64 78),
     waiting 0x2321 (be 64 78), { duo with prog := { act.prog with stageState := 5, staged := some img2, exch := { phase := 6, outcome := 1, held := true, heldHere := true, other := some img2, layout := [(0x2A10, 0)] } } },
     img2, signed, by decide +kernel⟩,
   ⟨{ duo with prog := { act.prog with stageState := 5, staged := some img2, exch := { phase := 6, outcome := 1, held := true, heldHere := true, other := some img2, layout := [(0x2A10, 0)] } } },
     tagged 3 2 { index := 0x2326, data := [1] }, after ({ duo with prog := { act.prog with stageState := 5, staged := some img2, exch := { phase := 6, outcome := 1, held := true, heldHere := true, other := some img2, layout := [(0x2A10, 0)] } } }) 3,
     replyFor ({ duo with prog := { act.prog with stageState := 5, staged := some img2, exch := { phase := 6, outcome := 1, held := true, heldHere := true, other := some img2, layout := [(0x2A10, 0)] } } }) 3 2 { index := 0x2326, data := [1] },
     granted (by decide +kernel) rfl (by decide +kernel), by decide +kernel⟩⟩

/-- The hypotheses of ExchangesSwapAndRevert are met. -/
theorem witness_exchangesSwapAndRevert_2 :
    (∃ (s : State) (e : Ns), s.prog.exch.phase = 6 ∧ s.prog.exch.windowEnd = some e ∧ e ≤ s.time.mono ∧ s.prog.exch.lone = true) ∧
    (∃ (s : State) (e : Ns), s.prog.exch.phase = 6 ∧ s.prog.exch.windowEnd = some e ∧ s.time.mono < e) ∧
    (∃ (s : State) (old new : Image), s.image = some old ∧ s.prog.exch.other = some new ∧ s.exchangeOpen = true ∧ s.prog.exch.lone = true
      ∧ s.prog.exch.phase = 3 ∧ s.prog.exch.copied = true ∧ s.slowestInstant = true) ∧
    (∃ (s : State) (old new : Image), s.image = some new ∧ s.prog.exch.other = some old ∧ s.exchangeOpen = true ∧ s.prog.exch.lone = true
      ∧ s.prog.exch.phase = 8 ∧ s.slowestInstant = true) :=
  ⟨⟨{ inMode .hold with prog := { act.prog with exch := { phase := 6, outcome := 1, lone := true, copied := true, windowEnd := some 1000000000, other := some img2, layout := [(0x2A10, 0)] } } },
    1000000000, by decide +kernel⟩,
   ⟨{ inMode .hold with prog := { act.prog with exch := { phase := 6, outcome := 1, lone := true, copied := true, windowEnd := some 1000000001, other := some img2, layout := [(0x2A10, 0)] } } },
     1000000001, by decide +kernel⟩,
   ⟨{ inMode .hold with prog := { act.prog with exch := { phase := 3, outcome := 1, lone := true, copied := true, other := some img2, layout := [(0x2A10, 0)] } } },
     img, img2, by decide +kernel⟩,
   ⟨{ inMode .hold with prog := { act.prog with exch := { phase := 8, outcome := 1, lone := true, copied := true, other := some img2, layout := [(0x2A10, 0)] } } },
     img2, img, by decide +kernel⟩⟩

/-- The hypotheses of InterlockClaims are met. -/
theorem witness_interlockClaims :
    (∃ (s : State) (r : Req) (t : State) (x : ReplyTo) (d : TaskDecl), Granted s r 2 t x ∧ r.index = 0x2205 ∧ r.sub = 0 ∧ r.value = 1
      ∧ s.modeBusy = false ∧ s.pair.handover ≠ 1 ∧ s.exchanging = false ∧ s.mode.rebootDue = false ∧ ((s.mode.current = .run
      ∨ s.mode.current = .hold)) ∧ s.partnerInStep = true ∧ s.pair.split = false ∧ s.slowest = some d) ∧
    (∃ (s : State) (r : Req) (t : State) (x : ReplyTo), Granted s r 2 t x ∧ r.index = 0x2205 ∧ r.sub = 0 ∧ r.value = 1 ∧ s.modeBusy = false
      ∧ s.pair.handover ≠ 1 ∧ s.exchanging = false ∧ s.mode.rebootDue = false ∧ ((s.partnerInStep = false ∨ s.pair.split = true))) ∧
    (∃ (s : State) (t : Ns), s.pair.ownSelf = false ∧ s.pair.ownPeer = false ∧ s.mayClaim = true ∧ s.pair.claimWait = none ∧ s.pair.lowSince = some t
      ∧ t + 2000000 ≤ s.time.now) ∧
    (∃ (s : State) (t : Ns), s.pair.lowSince = some t ∧ s.time.now < t + 2000000) ∧
    (∃ (s : State) (e : Ns), s.pair.claimWait = some e ∧ s.pair.ownSelf = false ∧ s.pair.ownPeer = false ∧ s.mayClaim = true ∧ ((s.pair.received = []
      ∨ e ≤ s.time.now)) ∧ s.mode.current = .track ∧ s.mode.pending = 0) ∧
    (∃ (s : State) (e : Ns), s.pair.claimWait = some e ∧ s.pair.ownSelf = false ∧ s.pair.ownPeer = false ∧ s.coldReady = true ∧ ((s.pair.received = []
      ∨ e ≤ s.time.now))) ∧
    (∃ (s : State), (s.pair.ownPeer = true ∨ s.pair.claimWait = none)) :=
  ⟨⟨duo, tagged 4 2 { index := 0x2205, data := [1] }, after (duo) 4, replyFor (duo) 4 2 { index := 0x2205, data := [1] },
    img.tasks.getD 0 { task := 0, period := 0, deadline := 0 }, granted (by decide +kernel) rfl (by decide +kernel), by decide +kernel⟩,
   ⟨act, tagged 4 2 { index := 0x2205, data := [1] }, after (act) 4, replyFor (act) 4 2 { index := 0x2205, data := [1] },
     granted (by decide +kernel) rfl (by decide +kernel), by decide +kernel⟩,
   ⟨{ standby with pair := { standby.pair with ownPeer := false, lowSince := some 998000000 } }, 998000000, by decide +kernel⟩,
   ⟨{ standby with pair := { standby.pair with ownPeer := false, lowSince := some 998000001 } }, 998000001, by decide +kernel⟩,
   ⟨{ standby with pair := { standby.pair with ownPeer := false, claimWait := some 1003000000 } }, 1003000000, by decide +kernel⟩,
   ⟨{ inMode .cold with mode := { (inMode .cold).mode with powerUpPolicy := 1 }, pair := { claimWait := some 1003000000 }, drift := { checkpoints := [{ sequence := 1, hash := 77, area := 0 }] } },
     1003000000, by decide +kernel⟩,
   ⟨{ standby with pair := { standby.pair with claimWait := some 0 } }, by decide +kernel⟩⟩

/-- The hypotheses of InterlockTiesConflictsAndChecks are met. -/
theorem witness_interlockTiesConflictsAndChecks_1 :
    (∃ (s : State), s.pair.ownPeer = false ∧ s.pair.ownSelf = false ∧ s.pair.waitUntil = none ∧ s.prog.exch.outcome ≠ 1 ∧ s.mode.current ≠ .cold) ∧
    (∃ (s : State) (c : Ns), s.pair.ownPeer = false ∧ s.pair.ownSelf = true ∧ s.pair.claimedAt = some c ∧ s.time.now ≤ c + 50000
      ∧ s.pair.slotPos = false) ∧
    (∃ (s : State) (c : Ns), s.pair.ownPeer = false ∧ s.pair.ownSelf = true ∧ s.pair.claimedAt = some c ∧ s.time.now ≤ c + 50000
      ∧ s.pair.slotPos = true ∧ s.pair.claimFrom = .track ∧ s.mode.current ≠ .safe) ∧
    (∃ (s : State), s.pair.ownPeer = true) ∧
    (∃ (s : State) (h : Ns), s.pair.ownSelf = true ∧ s.pair.ownPeer = true ∧ s.pair.highSince = some h ∧ h + 50000 < s.time.now
      ∧ s.pair.claimedAt = none ∧ (s.det 115).live = false) ∧
    (∃ (s : State) (t : Ns), s.pair.syncUp = true ∧ s.pair.ownPeer = true ∧ s.pair.ownSelf = false ∧ s.pair.interlockOpen = false
      ∧ s.pair.openSince = some t ∧ t + 10000000 ≤ s.time.now ∧ (s.det 114).live = false) ∧
    (∃ (s : State), s.pair.ownSelf = true ∧ s.pair.claimedAt.isSome = true ∧ s.pair.gateChecked = false ∧ s.pair.gateFailed = false
      ∧ s.pair.toCheck = []) ∧
    (∃ (s : State), s.pair.ownSelf = true ∧ s.pair.claimedAt.isSome = true ∧ s.pair.gateChecked = false ∧ s.pair.gateFailed = false
      ∧ (s.det 116).live = false) :=
  ⟨⟨{ standby with pair := { standby.pair with ownPeer := false } }, by decide +kernel⟩,
   ⟨{ duo with pair := { duo.pair with claimedAt := some 999950000 } }, 999950000, by decide +kernel⟩,
   ⟨{ duo with pair := { duo.pair with claimedAt := some 999950000, slotPos := true, claimFrom := .track } }, 999950000, by decide +kernel⟩,
   ⟨standby, by decide +kernel⟩,
   ⟨{ duo with pair := { duo.pair with ownPeer := true, highSince := some 999949999 } }, 999949999, by decide +kernel⟩,
   ⟨{ standby with pair := { standby.pair with openSince := some 990000000 } }, 990000000, by decide +kernel⟩,
   ⟨{ duo with pair := { duo.pair with claimedAt := some 0 } }, by decide +kernel⟩,
   ⟨{ duo with pair := { duo.pair with claimedAt := some 0 } }, by decide +kernel⟩⟩

/-- The hypotheses of InterlockTiesConflictsAndChecks are met. -/
theorem witness_interlockTiesConflictsAndChecks_2 :
    ∃ (s : State) (d : Nat), s.pair.ownSelf = true ∧ s.pair.gateFailed = false ∧ s.outputPaths.contains d = true ∧ s.fenced d = false ∧ ((d < 0x4C
      ∨ (s.grp (d - 0x4B)).switchedOff = false)) ∧ s.pair.toCheck.contains d = true :=
  ⟨{ duo with prog := { act.prog with image := some { img with channels := [{ channel := 0x10, unit := 20, signal := some 11, kind := 3 }] } }, pair := { duo.pair with claimedAt := some 0, toCheck := [0x4C, 0x4D] } },
    0x4D, by decide +kernel⟩

/-- The hypotheses of PartnersPair are met. -/
theorem witness_partnersPair :
    (∃ (s : State) (m : HelloMsg), s.mode.inReset = false ∧ s.pair.syncUp = true ∧ s.pair.stale = false ∧ s.mode.current ≠ .cold
      ∧ s.time.monoRun = true ∧ s.pairingOk m = true) ∧
    (∃ (s : State) (m : HelloMsg), s.mode.inReset = false ∧ s.pair.syncUp = true ∧ s.pair.stale = false ∧ s.time.monoRun = true
      ∧ s.pairingOk m = false) ∧
    (∃ (s : State), s.pair.paired = false ∧ s.pair.lastHello + 10000000000 ≤ s.time.now ∧ (s.pair.lane0 || s.pair.lane1) = true) ∧
    (∃ (s : State), s.mode.current = .cold ∧ s.pair.syncUp = true) ∧
    (∃ (s : State) (m : HeartbeatMsg), s.mode.inReset = false ∧ s.pair.syncUp = true ∧ s.pair.stale = false ∧ s.mode.current ≠ .cold) ∧
    (∃ (s : State) (k : Nat), s.pair.syncUp = true ∧ 1 ≤ k ∧ k ≤ 8) ∧
    (∃ (s : State) (e : Word) (k : Nat) (c : Ns), s.mode.current = .track ∧ s.pair.ownSelf = false ∧ s.pair.syncUp = true ∧ k ≤ 5) ∧
    (∃ (s : State) (e : Word) (k : Nat) (c : Ns), s.mode.current = .track ∧ s.pair.ownSelf = false ∧ s.pair.syncUp = true ∧ k ≤ 5 ∧ s.taskMask ≠ 0) :=
  ⟨⟨{ duo with pair := { duo.pair with paired := false } }, { lifecycle := 2, slotPos := true, firmware := 0x04010000 }, by decide +kernel⟩,
   ⟨{ duo with pair := { duo.pair with paired := false } }, { lifecycle := 2, slotPos := false, firmware := 0x04010000 }, by decide +kernel⟩,
   ⟨{ duo with time := { act.time with now := 10000000000 }, pair := { duo.pair with paired := false } }, by decide +kernel⟩,
   ⟨{ inMode .cold with pair := { syncUp := true, paired := true } }, by decide +kernel⟩,
   ⟨standby, { ownSelf := true, mode := 2, offset := -5 }, by decide +kernel⟩,
   ⟨standby, 8, by decide +kernel⟩,
   ⟨standby, 9, 5, 0, by decide +kernel⟩,
   ⟨standby, 9, 3, 1000000000, by decide +kernel⟩⟩

/-- The hypotheses of TheStreamIsApplied are met. -/
theorem witness_theStreamIsApplied_1 :
    (∃ (s : State) (c : StreamChange), s.streams = true ∧ s.inOrder c.sequence = true ∧ s.buffers = false ∧ s.sigDecl c.signal = true) ∧
    (∃ (s : State) (c : StreamChange), s.streams = true ∧ s.inOrder c.sequence = true ∧ s.buffers = true) ∧
    (∃ (s : State) (c : StreamChange), s.streams = true ∧ s.inOrder c.sequence = false) ∧
    (∃ (s : State) (d : Delta), s.streams = true ∧ s.inOrder d.sequence = true ∧ s.buffers = true) ∧
    (∃ (s : State) (d : Delta), s.streams = true ∧ s.inOrder d.sequence = true ∧ s.buffers = false ∧ s.pair.received = []
      ∧ (s.task d.task).release = none ∧ d.instant ≤ s.time.mono ∧ (s.firnTask d.task).vote = none ∧ d.outcome = 1 ∧ d.forces = [] ∧ d.params = []
      ∧ d.constPages = [] ∧ d.arms = [] ∧ s.prog.exch.heldHere = false ∧ s.exchangeOpen = false) ∧
    (∃ (s : State) (d : Delta), s.streams = true ∧ s.inOrder d.sequence = false) ∧
    (∃ (s : State) (i : Ns), s.pair.syncUp = true ∧ s.pair.ownSelf = false ∧ s.exchangeOpen = true) ∧
    (∃ (s : State) (i : Ns), s.pair.syncUp = true ∧ s.pair.ownSelf = false ∧ s.exchangeOpen = false) :=
  ⟨⟨standby, { sequence := 5, signal := 10, value := 1, quality := 0, source := 1 }, by decide +kernel⟩,
   ⟨{ standby with pair := { standby.pair with phase := 3 } }, { sequence := 5, signal := 10, value := 1, quality := 0, source := 1 },
     by decide +kernel⟩,
   ⟨standby, { sequence := 6, signal := 10, value := 1, quality := 0, source := 1 }, by decide +kernel⟩,
   ⟨{ standby with pair := { standby.pair with phase := 3 } }, { sequence := 5, task := 0, instant := 999000000, writes := [⟨1, 11, 0, 1⟩] },
     by decide +kernel⟩,
   ⟨standby, { sequence := 5, task := 0, instant := 999000000, writes := [⟨1, 11, 0, 1⟩] }, by decide +kernel⟩,
   ⟨standby, { sequence := 6, task := 0, instant := 999000000, writes := [⟨1, 11, 0, 1⟩] }, by decide +kernel⟩,
   ⟨inExch standby { phase := 4, outcome := 1 }, 5, by decide +kernel⟩,
   ⟨standby, 5, by decide +kernel⟩⟩

/-- The hypotheses of TheStreamIsApplied are met. -/
theorem witness_theStreamIsApplied_2 :
    (∃ (s : State), s.pair.syncUp = true ∧ s.pair.ownSelf = true) ∧
    (∃ (s : State), s.pair.syncUp = true) ∧
    (∃ (s : State) (n : Nat), n ≠ s.pair.streamSeq) ∧
    (∃ (s : State) (i : ImageFile) (n : Nat), s.pair.syncUp = true ∧ s.pair.ownSelf = false ∧ s.mode.current = .track) ∧
    (∃ (s : State) (c : Nat), s.pair.syncUp = true ∧ s.abortable = true ∧ s.pair.ownSelf = true) :=
  ⟨⟨duo, by decide +kernel⟩,
   ⟨duo, by decide +kernel⟩,
   ⟨duo, 3, by decide +kernel⟩,
   ⟨standby, { image := some img2 }, 600, by decide +kernel⟩,
   ⟨inExch duo { phase := 3, outcome := 1 }, 6, by decide +kernel⟩⟩

/-- The hypotheses of LanesAndTheSyncLink are met. -/
theorem witness_lanesAndTheSyncLink :
    (∃ (s : State) (k : Nat), k < 2 ∧ s.laneUp k = true) ∧
    (∃ (s : State) (k : Nat), k < 2 ∧ s.laneUp k = false ∧ get 0 s.pair.laneSince k + 1000000000 ≤ s.time.now) ∧
    (∃ (s : State) (k : Nat), k < 2 ∧ s.laneUp k = false ∧ get 0 s.pair.laneSince k + 100000000 ≤ s.time.now) ∧
    (∃ (s : State) (c : Nat), s.pair.syncUp = true) ∧
    (∃ (s : State), s.pair.syncUp = false ∧ s.mode.inReset = false ∧ (s.pair.lane0 || s.pair.lane1) = true ∧ s.pair.stale = false) ∧
    (∃ (s : State) (n : Nat), s.pair.syncUp = true) ∧
    (∃ (s : State) (f : Ns), s.mode.current = .track ∧ s.pair.syncUp = false ∧ s.pair.ownSelf = false ∧ s.pair.stale = false ∧ s.pair.ownPeer = true
      ∧ s.pair.failedAt = some f ∧ f + 3000000 ≤ s.time.now ∧ s.pair.highSince.elim true (fun h => decide (h ≤ f)) = true) ∧
    (∃ (s : State) (f : Ns), s.mode.current = .track ∧ s.pair.offsetSince = some f ∧ f + 1000000000 ≤ s.time.now ∧ s.pair.phase = 5
      ∧ s.pair.ownSelf = false) :=
  ⟨⟨duo, 1, by decide +kernel⟩,
   ⟨{ duo with pair := { duo.pair with lane1 := false } }, 1, by decide +kernel⟩,
   ⟨{ duo with pair := { duo.pair with lane1 := false } }, 1, by decide +kernel⟩,
   ⟨duo, 1, by decide +kernel⟩,
   ⟨{ duo with pair := { duo.pair with syncUp := false } }, by decide +kernel⟩,
   ⟨duo, 3, by decide +kernel⟩,
   ⟨{ standby with pair := { standby.pair with syncUp := false, failedAt := some 997000000 } }, 997000000, by decide +kernel⟩,
   ⟨{ standby with pair := { standby.pair with offsetSince := some 0 } }, 0, by decide +kernel⟩⟩

/-- The hypotheses of Resynchronisation are met. -/
theorem witness_resynchronisation_1 :
    (∃ (s : State) (e : Word) (k : Nat) (p : Half), s.mode.current = .track ∧ s.pair.ownSelf = false ∧ s.pair.syncUp = true ∧ s.pair.phase = 3) ∧
    (∃ (s : State) (g : Nat) (v : Word) (q : BitVec 2) (f : ForceMsg), s.mode.current = .track ∧ s.pair.ownSelf = false ∧ s.pair.syncUp = true
      ∧ s.pair.phase = 3 ∧ s.sigDecl g = true) ∧
    (∃ (s : State) (t n : Nat), s.mode.current = .track ∧ s.pair.ownSelf = false ∧ s.pair.syncUp = true ∧ s.pair.phase = 3) ∧
    (∃ (s : State) (i : Nat) (ws : List (Nat × Word)), s.mode.current = .track ∧ s.pair.ownSelf = false ∧ s.pair.syncUp = true ∧ s.pair.phase = 3) ∧
    (∃ (s : State) (n : Nat), s.mode.current = .track ∧ s.pair.ownSelf = false ∧ s.pair.syncUp = true ∧ s.pair.phase = 3) ∧
    (∃ (s : State) (i : ImageFile) (l : List (Nat × List (Nat × Word))), s.mode.current = .track ∧ s.pair.ownSelf = false ∧ s.pair.syncUp = true
      ∧ s.pair.phase = 2) ∧
    (∃ (s : State), s.mode.current = .track ∧ s.pair.phase = 3 ∧ s.pair.syncUp = true ∧ s.pair.resyncWait = none) ∧
    (∃ (s : State), s.streams = true ∧ s.pair.phase = 4 ∧ s.pair.drained = false) :=
  ⟨⟨{ standby with pair := { standby.pair with phase := 3 } }, 7, 2, 1, by decide +kernel⟩,
   ⟨{ standby with pair := { standby.pair with phase := 3 } }, 10, 1, 0, ⟨10, true, 1⟩, by decide +kernel⟩,
   ⟨{ standby with pair := { standby.pair with phase := 3 } }, 0, 2, by decide +kernel⟩,
   ⟨{ standby with pair := { standby.pair with phase := 3 } }, 0x2A10, [(1, 7)], by decide +kernel⟩,
   ⟨{ standby with pair := { standby.pair with phase := 3 } }, 101, by decide +kernel⟩,
   ⟨{ standby with pair := { standby.pair with phase := 2 } }, { image := some img2 }, [], by decide +kernel⟩,
   ⟨{ standby with pair := { standby.pair with phase := 3 } }, by decide +kernel⟩,
   ⟨{ standby with pair := { standby.pair with phase := 4, drained := false, buffer := [{ sequence := 3, task := 0, instant := 999000000, writes := [⟨1, 11, 0, 1⟩] }] } },
     by decide +kernel⟩⟩

/-- The hypotheses of Resynchronisation are met. -/
theorem witness_resynchronisation_2 :
    (∃ (s : State), s.streams = true ∧ s.buffers = true ∧ s.pair.restartRun < 2) ∧
    (∃ (s : State), s.streams = true ∧ s.buffers = true ∧ 2 ≤ s.pair.restartRun) ∧
    (∃ (s : State) (e : Ns), s.pair.resyncWait = some e ∧ e ≤ s.time.now ∧ s.mode.current = .track ∧ s.pair.syncUp = true) :=
  ⟨⟨{ standby with pair := { standby.pair with phase := 3, restartRun := 1, buffer := [{ sequence := 3, task := 0, instant := 999000000, writes := [⟨1, 11, 0, 1⟩] }] } },
    by decide +kernel⟩,
   ⟨{ standby with pair := { standby.pair with phase := 3, restartRun := 2 } }, by decide +kernel⟩,
   ⟨{ standby with pair := { standby.pair with phase := 3, resyncWait := some 0 } }, 0, by decide +kernel⟩⟩

/-- The hypotheses of RegionGuardAndDebuggerAccesses are met. -/
theorem witness_regionGuardAndDebuggerAccesses_1 :
    (∃ (s : State) (a : Access) (i : Nat), a.master < 16 ∧ a.kind < 3 ∧ a.size < 7 ∧ a.address < 2 ^ 36 ∧ s.verdict a = .refused i) ∧
    (∃ (s : State) (a : Access), (s.verdict a = .allowed ∨ s.verdict a = .gap)) ∧
    (∃ (s : State) (m : Nat) (k : Half), (m < 8 ∨ m = 13) ∧ (m = 13 ∨ k.toNat < 8192) ∧ (∀ j ∈ State.maskMasters k, s.rulesOk j = true)) ∧
    (∃ (s : State) (m j : Nat) (k : Half), (m < 8 ∨ m = 13) ∧ (m = 13 ∨ k.toNat < 8192)
      ∧ (State.maskMasters k).find? (fun j => !s.rulesOk j) = some j) ∧
    (∃ (s : State) (m : Nat) (k : Half), m < 8 ∧ 8192 ≤ k.toNat) ∧
    (∃ (s : State) (a : BitVec 36), s.guard.attached = true ∧ a.toNat % 4 = 0 ∧ s.verdict (State.dbgAccess a.toNat 0) = .allowed) ∧
    (∃ (s : State) (a : BitVec 36), s.guard.attached = true ∧ ((a.toNat % 4 ≠ 0 ∨ s.verdict (State.dbgAccess a.toNat 0) = .gap))) ∧
    (∃ (s : State) (a : BitVec 36) (i : Nat), s.guard.attached = true ∧ a.toNat % 4 = 0 ∧ s.verdict (State.dbgAccess a.toNat 0) = .refused i) :=
  ⟨⟨act, { master := 8, address := 0x40000000, kind := 1 }, 160, by decide +kernel⟩,
   ⟨act, { master := 0, address := 0x40000000, kind := 2 }, by decide +kernel⟩,
   ⟨{ act with guard := { pending := [(0, 1), (1, 0x80FF0000), (832, 2)] } }, 0, 1, by decide +kernel⟩,
   ⟨{ act with guard := { pending := [(1, 0xE4000000)] } }, 0, 0, 1, by decide +kernel⟩,
   ⟨act, 7, 0x8000, by decide +kernel⟩,
   ⟨{ act with guard := { attached := true }, mem := [(0x41000000, 7)] }, 0x41000000, by decide +kernel⟩,
   ⟨{ act with guard := { attached := true } }, 0x41000002, by decide +kernel⟩,
   ⟨{ act with guard := { attached := true } }, 0x44E00000, 64, by decide +kernel⟩⟩

/-- The hypotheses of RegionGuardAndDebuggerAccesses are met. -/
theorem witness_regionGuardAndDebuggerAccesses_2 :
    (∃ (s : State) (a : BitVec 36), s.guard.attached = false) ∧
    (∃ (s : State) (a : BitVec 36) (v : Word), s.guard.attached = true ∧ a.toNat % 4 = 0 ∧ s.stateWordAt a.toNat = none
      ∧ mapEntry a.toNat ≠ some 0x44000000 ∧ s.verdict (State.dbgAccess a.toNat 1) = .allowed ∧ s.barsDebug a.toNat = false) ∧
    (∃ (s : State) (a : BitVec 36) (v : Word) (i : Nat), s.guard.attached = true ∧ a.toNat % 4 = 0 ∧ s.stateWordAt a.toNat = none
      ∧ mapEntry a.toNat ≠ some 0x44000000 ∧ s.verdict (State.dbgAccess a.toNat 1) = .refused i) ∧
    (∃ (s : State) (a : BitVec 36) (v : Word), s.guard.attached = true ∧ a.toNat % 4 ≠ 0) ∧
    (∃ (s : State) (a : BitVec 36) (v : Word), s.guard.attached = false) ∧
    (∃ (s : State) (a : BitVec 36) (v : Word) (w : Nat), s.guard.attached = true ∧ a.toNat % 4 = 0 ∧ s.stateWordAt a.toNat = some w
      ∧ s.quiet = true) ∧
    (∃ (s : State) (a : BitVec 36) (v : Word) (w : Nat), s.guard.attached = true ∧ a.toNat % 4 = 0 ∧ s.stateWordAt a.toNat = some w
      ∧ ((s.mode.current = .run ∨ s.mode.current = .hold))) ∧
    (∃ (s : State) (g : Nat) (a : BitVec 36) (v : Word), s.guard.attached = true ∧ g < 65536 ∧ a.toNat = 0x44000000 + 32 * g ∧ s.sigDecl g = true) :=
  ⟨⟨act, 0, by decide +kernel⟩,
   ⟨{ act with guard := { attached := true } }, 0x410FFFFC, 0x80000001, by decide +kernel⟩,
   ⟨{ act with guard := { attached := true } }, 0x44E00000, 1, 64, by decide +kernel⟩,
   ⟨{ act with guard := { attached := true } }, 0x118000001, 1, by decide +kernel⟩,
   ⟨act, 0, 0, by decide +kernel⟩,
   ⟨{ inMode .service with guard := { attached := true } }, 0x118000004, 9, 1, by decide +kernel⟩,
   ⟨{ act with guard := { attached := true } }, 0x118000004, 9, 1, by decide +kernel⟩,
   ⟨{ act with guard := { attached := true } }, 10, 0x44000140, 5, by decide +kernel⟩⟩

/-- The hypotheses of TheTapAndDebugSessions are met. -/
theorem witness_theTapAndDebugSessions_1 :
    (∃ (s : State), s.scanGate = true) ∧
    (∃ (s : State), s.scanGate = false) ∧
    (∃ (s : State), s.mayAttach = true ∧ s.guard.attached = false) ∧
    (∃ (s : State), s.mayAttach = false) ∧
    (∃ (s : State) (t : Nat), s.mayHalt t = true ∧ s.mode.current = .run) ∧
    (∃ (s : State) (t : Nat), s.mayHalt t = true ∧ s.mode.current = .hold) ∧
    (∃ (s : State) (t : Nat), s.mayHalt t = false) ∧
    (∃ (s : State) (t : Nat) (r : Release) (a : List PassAct) (b : Ns), (∀ y ∈ a, ∃ g, y = .readState g) ∧ s.mayHalt t = true
      ∧ (s.task t).halted = true ∧ s.mode.current = .run ∧ (s.task t).release = some r ∧ r.pass ≤ 1 ∧ r.running = false ∧ r.voting = false
      ∧ r.committing = false ∧ r.waiting = false ∧ r.stopping = false ∧ r.tainted = false ∧ ((r.pass = 0 → (s.firnTask t).repair = 0))) :=
  ⟨⟨{ inMode .cold with mode := { (inMode .cold).mode with life := .blank } }, by decide +kernel⟩,
   ⟨act, by decide +kernel⟩,
   ⟨{ act with mode := { act.mode with life := .develop } }, by decide +kernel⟩,
   ⟨act, by decide +kernel⟩,
   ⟨{ act with mode := { act.mode with life := .develop }, guard := { attached := true } }, 0, by decide +kernel⟩,
   ⟨{ act with mode := { act.mode with life := .develop, current := .hold }, guard := { attached := true } }, 0, by decide +kernel⟩,
   ⟨act, 0, by decide +kernel⟩,
   ⟨{ act with mode := { act.mode with life := .develop }, guard := { attached := true }, disp := { act.disp with tasks := [(0, { adopted := .run, releaseCount := 1, halted := true, release := some { instant := 999000000, core := 0, pass := 1, suspended := true } })] } },
     0, { instant := 999000000, core := 0, pass := 1, suspended := true }, [.readState 0], 9, fun y hy => ⟨0, List.mem_singleton.mp hy⟩,
     by decide +kernel⟩⟩

/-- The hypotheses of TheTapAndDebugSessions are met. -/
theorem witness_theTapAndDebugSessions_2 :
    (∃ (s : State) (t : Nat) (a : List PassAct) (b : Ns) (l : Bool), s.mayHalt t = true ∧ (s.task t).halted = true ∧ s.mode.current = .run) ∧
    (∃ (s : State) (t : Nat), s.guard.attached = true ∧ (s.task t).halted = true ∧ t < 16) ∧
    (∃ (s : State) (t : Nat), (s.task t).halted = false) ∧
    (∃ (s : State), s.guard.attached = true) ∧
    (∃ (s : State), s.guard.attached = false) ∧
    (∃ (s : State) (r : Req) (t : State) (x : ReplyTo), Granted s r 2 t x ∧ r.index = 0x7340 ∧ r.sub = 0 ∧ 60 ≤ r.value ∧ r.value ≤ 3600
      ∧ s.mode.life = .inService ∧ s.inService = true) ∧
    (∃ (s : State) (r : Req) (t : State) (x : ReplyTo), Granted s r 2 t x ∧ r.index = 0x7340 ∧ r.sub = 0 ∧ (r.value < 60 ∨ 3600 < r.value)) ∧
    (∃ (s : State) (e : Ns), s.guard.permitUntil = some e ∧ e ≤ s.time.mono) :=
  ⟨⟨{ act with mode := { act.mode with life := .develop }, guard := { attached := true }, disp := { act.disp with tasks := [(0, { adopted := .run, releaseCount := 1, halted := true, release := some { instant := 999000000, core := 0, pass := 1, suspended := true } })] } },
    0, [.readValue 10], 9, true, by decide +kernel⟩,
   ⟨{ act with mode := { act.mode with life := .develop }, guard := { attached := true }, disp := { act.disp with tasks := [(0, { adopted := .run, releaseCount := 1, halted := true, release := some { instant := 999000000, core := 0, pass := 1, suspended := true } })] } },
     0, by decide +kernel⟩,
   ⟨act, 0, by decide +kernel⟩,
   ⟨{ act with mode := { act.mode with life := .develop }, guard := { attached := true }, disp := { act.disp with tasks := [(0, { adopted := .run, releaseCount := 1, halted := true, release := some { instant := 999000000, core := 0, pass := 1, suspended := true } })] } },
     by decide +kernel⟩,
   ⟨act, by decide +kernel⟩,
   ⟨inMode .service, tagged 5 2 { index := 0x7340, data := be 4 60 }, after (inMode .service) 5, replyFor (inMode .service) 5 2 { index := 0x7340, data := be 4 60 },
     granted (by decide +kernel) rfl (by decide +kernel), by decide +kernel⟩,
   ⟨inMode .service, tagged 5 2 { index := 0x7340, data := be 4 3601 }, after (inMode .service) 5, replyFor (inMode .service) 5 2 { index := 0x7340, data := be 4 3601 },
     granted (by decide +kernel) rfl (by decide +kernel), by decide +kernel⟩,
   ⟨{ act with guard := { attached := true, onPermit := true, permitUntil := some 1000000000 } }, 1000000000, by decide +kernel⟩⟩

/-- The hypotheses of TheTapAndDebugSessions are met. -/
theorem witness_theTapAndDebugSessions_3 :
    ∃ (s : State) (e : Ns), s.guard.permitUntil = some e ∧ s.time.mono < e :=
  ⟨{ act with guard := { attached := true, onPermit := true, permitUntil := some 1000000001 } }, 1000000001, by decide +kernel⟩

/-- The hypotheses of MoraineTriggersAndPosts are met. -/
theorem witness_moraineTriggersAndPosts :
    (∃ (s : State) (c k : Nat) (w : List Word), codeAssigned c = true ∧ w.length = payloadOf c ∧ k < 4096 ∧ s.passesNow c = true) ∧
    (∃ (s : State) (c k : Nat) (w : List Word), codeAssigned c = true ∧ w.length = payloadOf c ∧ k < 4096 ∧ s.passesNow c = false) ∧
    (∃ (s : State) (q : Trig) (rest : List Trig), s.moraine.queue = q :: rest
      ∧ (s.moraine.lastAccept.elim true (fun a => decide (a + 1000 ≤ s.time.mono))) = true ∧ (acceptedWords q s.time.mono).length ≤ 4) ∧
    (∃ (s : State) (a : Ns), s.moraine.lastAccept = some a ∧ s.time.mono < a + 1000) ∧
    (∃ (s : State) (p c k : Nat) (w : List Word), p ≤ 8 ∧ c < 1024 ∧ k < 4096 ∧ w.length ≤ 8) ∧
    (∃ (s : State) (r : Req) (t : State) (x : ReplyTo), Granted s r 2 t x ∧ 0x7130 ≤ r.index.toNat ∧ r.index.toNat ≤ 0x7133
      ∧ neverSuppressed ((r.index.toNat - 0x7130) * 256 + r.sub.toNat) = false ∧ 65536 ≤ r.value) ∧
    (∃ (s : State) (r : Req) (t : State) (x : ReplyTo), Granted s r 2 t x ∧ 0x7130 ≤ r.index.toNat ∧ r.index.toNat ≤ 0x7133
      ∧ ((neverSuppressed ((r.index.toNat - 0x7130) * 256 + r.sub.toNat) = true ∨ r.value < 65536))) ∧
    (∃ (s : State) (r : Req) (t : State) (x : ReplyTo), Granted s r 2 t x ∧ 0x7140 ≤ r.index.toNat ∧ r.index.toNat ≤ 0x715F
      ∧ payloadOf ((r.index.toNat - 0x7140) * 32 + r.sub.toNat / 8) ≤ r.sub.toNat % 8 ∧ tb r.value 31 = true ∧ s.snapOk r.value = true
      ∧ s.snapWide r.value = false ∧ ((r.sub.toNat % 8 = 0
      ∨ s.snapWide (get (0 : Word) (codeOf s ((r.index.toNat - 0x7140) * 32 + r.sub.toNat / 8)).snaps (r.sub.toNat % 8 - 1)).toNat = false))) :=
  ⟨⟨act, 0x0C2, 4095, [7], by decide +kernel⟩,
   ⟨{ act with moraine := { act.moraine with codes := [(0xC2, { tokens := 0, last := 1000000000 })] } }, 0x0C2, 0, [7], by decide +kernel⟩,
   ⟨{ act with moraine := { act.moraine with queue := [⟨0x0C2, 0, 16, 0, 999999000, 0, [7], none⟩], lastAccept := some 999999000 } }, ⟨0x0C2, 0, 16,
     0, 999999000, 0, [7], none⟩, [], by decide +kernel⟩,
   ⟨{ act with moraine := { act.moraine with queue := [⟨0x0C2, 0, 16, 0, 999999000, 0, [7], none⟩], lastAccept := some 999999001 } }, 999999001,
     by decide +kernel⟩,
   ⟨act, 8, 0x0C2, 0, [7], by decide +kernel⟩,
   ⟨act, tagged 5 2 { index := 0x7130, sub := 0x71, data := be 4 0x10002 }, after (act) 5, replyFor (act) 5 2 { index := 0x7130, sub := 0x71, data := be 4 0x10002 },
     granted (by decide +kernel) rfl (by decide +kernel), by decide +kernel⟩,
   ⟨act, tagged 5 2 { index := 0x7130, sub := 0x71, data := be 4 2 }, after (act) 5, replyFor (act) 5 2 { index := 0x7130, sub := 0x71, data := be 4 2 },
     granted (by decide +kernel) rfl (by decide +kernel), by decide +kernel⟩,
   ⟨act, tagged 3 2 { index := 0x7143, sub := 0x97, data := be 4 0x80200000 }, after (act) 3, replyFor (act) 3 2 { index := 0x7143, sub := 0x97, data := be 4 0x80200000 },
     granted (by decide +kernel) rfl (by decide +kernel), by decide +kernel⟩⟩

/-- The hypotheses of MoraineKeepsAndClears are met. -/
theorem witness_moraineKeepsAndClears :
    (∃ (s : State), s.moraine.persistAt / 1000000000 < s.time.mono / 1000000000 ∧ s.moraine.persistBusy = false) ∧
    (∃ (s : State) (a b : Bool), s.moraine.persistBusy = true ∧ (a || b) = true) ∧
    (∃ (s : State), s.moraine.persistBusy = true) ∧
    (∃ (s : State) (f : Fwd) (t : State), Signed s 0x7110 f t ∧ f.req.arg.length = 8 ∧ s.signatureWaits f = false
      ∧ BitVec.ofNat 64 (fromBe f.req.arg) < (s.signatureSeq f).getD (oldestRec s)) ∧
    (∃ (s : State) (r : Req) (t : State) (x : ReplyTo), Granted s r 2 t x ∧ r.index = 0x7121 ∧ r.sub = 0
      ∧ State.cursorsFull t.moraine.cursors x.session = false) ∧
    (∃ (s : State) (r : Req) (t : State) (x : ReplyTo), Granted s r 2 t x ∧ r.index = 0x7121 ∧ r.sub = 0
      ∧ State.cursorsFull t.moraine.cursors x.session = true) :=
  ⟨⟨{ act with moraine := { act.moraine with ring := [{ seq := 5, mono := 0, wall := {}, code := 0x70, severity := 0, source := 2, unit := 0, lag := 0, suppressed := 0, flags := 0, words := [] }] } },
    by decide +kernel⟩,
   ⟨{ act with moraine := { act.moraine with persistBusy := true, persisting := [{ seq := 5, mono := 0, wall := {}, code := 0x70, severity := 0, source := 2, unit := 0, lag := 0, suppressed := 0, flags := 0, words := [] }] } },
     true, false, by decide +kernel⟩,
   ⟨{ act with moraine := { act.moraine with persistBusy := true, persisting := [{ seq := 5, mono := 0, wall := {}, code := 0x70, severity := 0, source := 2, unit := 0, lag := 0, suppressed := 0, flags := 0, words := [] }] } },
     by decide +kernel⟩,
   ⟨sgd ({ act with moraine := { act.moraine with ring := [{ seq := 7, mono := 0, wall := {}, code := 0x70, severity := 0, source := 2, unit := 0, lag := 0, suppressed := 0, flags := 0, words := [] }, { seq := 6, mono := 0, wall := {}, code := 0x70, severity := 0, source := 2, unit := 0, lag := 0, suppressed := 0, flags := 0, words := [] }] } }) 0x7110 (be 8 5),
     waiting 0x7110 (be 8 5), { act with moraine := { act.moraine with ring := [{ seq := 7, mono := 0, wall := {}, code := 0x70, severity := 0, source := 2, unit := 0, lag := 0, suppressed := 0, flags := 0, words := [] }, { seq := 6, mono := 0, wall := {}, code := 0x70, severity := 0, source := 2, unit := 0, lag := 0, suppressed := 0, flags := 0, words := [] }] } },
     signed, by decide +kernel⟩,
   ⟨act, tagged 1 2 { index := 0x7121, data := be 8 0xFFFFFFFFFFFFFFFF }, after (act) 1, replyFor (act) 1 2 { index := 0x7121, data := be 8 0xFFFFFFFFFFFFFFFF },
     granted (by decide +kernel) rfl (by decide +kernel), by decide +kernel⟩,
   ⟨{ act with moraine := { act.moraine with cursors := [(11, 0), (12, 0), (13, 0), (14, 0), (15, 0), (16, 0), (17, 0), (18, 0)] } },
     tagged 1 2 { index := 0x7121, data := be 8 0 }, after ({ act with moraine := { act.moraine with cursors := [(11, 0), (12, 0), (13, 0), (14, 0), (15, 0), (16, 0), (17, 0), (18, 0)] } }) 1,
     replyFor ({ act with moraine := { act.moraine with cursors := [(11, 0), (12, 0), (13, 0), (14, 0), (15, 0), (16, 0), (17, 0), (18, 0)] } }) 1 2 { index := 0x7121, data := be 8 0 },
     granted (by decide +kernel) rfl (by decide +kernel), by decide +kernel⟩⟩

/-- The hypotheses of CapturesRecord are met. -/
theorem witness_capturesRecord_1 :
    (∃ (s : State) (c : CaptureRec), s.mode.current ≠ .cold ∧ s.capFenced c.channel = false ∧ (s.binding c.channel).elim false (·.capture) = true
      ∧ s.nowUs ≤ c.time + s.capture.reorderDelay.toNat) ∧
    (∃ (s : State) (c : CaptureRec), s.mode.current ≠ .cold ∧ s.capFenced c.channel = false ∧ (s.binding c.channel).elim false (·.capture) = true
      ∧ c.time + s.capture.reorderDelay.toNat < s.nowUs ∧ s.capture.waiting.filter s.ripe = []) ∧
    (∃ (s : State) (x : CapItem), s.capture.waiting = [x] ∧ s.capture.queue = [] ∧ s.ripe x = true
      ∧ x.time + s.capture.reorderDelay.toNat + 4096 ≤ s.capture.writerFree) ∧
    (∃ (s : State) (x : CapItem), s.capture.waiting = [x] ∧ s.capture.queue = [] ∧ s.ripe x = true
      ∧ s.capture.writerFree ≤ x.time + s.capture.reorderDelay.toNat
      ∧ (s.binding x.channel).elim true (fun b => b.group.elim true (fun g => !(s.cap g).armed)) = true ∧ s.capture.droppedRun = 0
      ∧ s.capture.count % 65536 ≠ 0 ∧ s.capture.buffer.head?.elim true (fun y => decide (y.time / 2 ^ 48 = x.time / 2 ^ 48)) = true
      ∧ s.capture.held.all (·.ended) = true) ∧
    (∃ (s : State), s.capture.waiting.filter s.ripe = [] ∧ s.capture.queue = []) ∧
    (∃ (s : State) (g n : Nat) (c : Capture), (s.cap g).firing = some n ∧ s.capture.held.find? (fun d => d.number = n) = some c ∧ c.ended = false
      ∧ c.group = g ∧ c.trigTime + (s.cap g).post.toNat + s.capture.reorderDelay.toNat ≤ s.nowUs ∧ s.capture.waiting.filter s.ripe = []
      ∧ s.capture.queue = []) ∧
    (∃ (s : State) (r : Req) (t : State) (x : ReplyTo), Granted s r 2 t x ∧ r.sub = 1 ∧ 0x7240 ≤ r.index.toNat ∧ r.index.toNat ≤ 0x725F ∧ r.value = 1
      ∧ (s.cap (r.index.toNat - 0x7240)).firing = none) ∧
    (∃ (s : State) (r : Req) (t : State) (x : ReplyTo), Granted s r 2 t x ∧ r.sub = 1 ∧ 0x7240 ≤ r.index.toNat ∧ r.index.toNat ≤ 0x725F ∧ r.value = 1
      ∧ (s.cap (r.index.toNat - 0x7240)).firing.isSome = true) :=
  ⟨⟨act, { time := 998000, channel := 0, value := 1 }, by decide +kernel⟩,
   ⟨act, { time := 997999, channel := 0, value := 1 }, by decide +kernel⟩,
   ⟨{ act with capture := { act.capture with writerFree := 6101, waiting := [{ time := 5, channel := 0, value := 1 }] } }, { time := 5, channel := 0, value := 1 },
     by decide +kernel⟩,
   ⟨{ act with capture := { act.capture with count := 1, waiting := [{ time := 5, channel := 0, value := 1 }] } }, { time := 5, channel := 0, value := 1 },
     by decide +kernel⟩,
   ⟨{ act with capture := { act.capture with waiting := [{ time := 998001, channel := 0, value := 1 }] } }, by decide +kernel⟩,
   ⟨{ act with capture := { act.capture with held := [{ number := 3, group := 2, trigger := 0, trigTime := 400000, first := 0, last := 0 }], groups := [(2, { firing := some 3 })] } },
     2, 3, { number := 3, group := 2, trigger := 0, trigTime := 400000, first := 0, last := 0 }, by decide +kernel⟩,
   ⟨act, tagged 2 2 { index := 0x7242, sub := 1, data := [1] }, after (act) 2, replyFor (act) 2 2 { index := 0x7242, sub := 1, data := [1] },
     granted (by decide +kernel) rfl (by decide +kernel), by decide +kernel⟩,
   ⟨{ act with capture := { act.capture with groups := [(2, { firing := some 3 })] } }, tagged 2 2 { index := 0x7242, sub := 1, data := [1] },
     after ({ act with capture := { act.capture with groups := [(2, { firing := some 3 })] } }) 2,
     replyFor ({ act with capture := { act.capture with groups := [(2, { firing := some 3 })] } }) 2 2 { index := 0x7242, sub := 1, data := [1] },
     granted (by decide +kernel) rfl (by decide +kernel), by decide +kernel⟩⟩

/-- The hypotheses of CapturesRecord are met. -/
theorem witness_capturesRecord_2 :
    (∃ (s : State) (g n : Nat), (s.groupDecl g).bind (·.armSignal) = some n ∧ (s.cap g).armLevel = false ∧ (s.sigOf n).effective ≠ 0
      ∧ (s.cap g).firing = none) ∧
    (∃ (s : State) (g n : Nat), (s.groupDecl g).bind (·.armSignal) = some n ∧ (s.cap g).armLevel = true) ∧
    (∃ (s : State) (r : Req) (t : State) (x : ReplyTo), Granted s r 2 t x ∧ r.sub = 1 ∧ 0x7240 ≤ r.index.toNat ∧ r.index.toNat ≤ 0x725F ∧ r.value = 0
      ∧ (s.cap (r.index.toNat - 0x7240)).firing = none) ∧
    (∃ (s : State) (r : Req) (t : State) (x : ReplyTo), Granted s r 2 t x ∧ r.sub = 1 ∧ 0x7240 ≤ r.index.toNat ∧ r.index.toNat ≤ 0x725F ∧ r.value = 0
      ∧ (s.cap (r.index.toNat - 0x7240)).firing.isSome = true) ∧
    (∃ (s : State) (r : Req) (t : State) (x : ReplyTo), Granted s r 2 t x ∧ r.index = 0x7202 ∧ r.sub = 0
      ∧ s.capture.held.any (fun c => c.number = r.value) = true) ∧
    (∃ (s : State) (r : Req) (t : State) (x : ReplyTo), Granted s r 2 t x ∧ r.index = 0x7202 ∧ r.sub = 0
      ∧ s.capture.held.any (fun c => c.number = r.value) = false) ∧
    (∃ (s : State) (r : Req) (t : State) (x : ReplyTo), Granted s r 2 t x ∧ r.index = 0x7221 ∧ r.sub = 0
      ∧ State.cursorsFull t.capture.cursors x.session = false) :=
  ⟨⟨{ act with prog := { act.prog with image := some { img with groups := [{ group := 2, armSignal := some 10 }] } }, sig := { entries := [(10, { attributes := 0x1000, unit := 20, readers := [0], quality := 0, value := 1 })] } },
    2, 10, by decide +kernel⟩,
   ⟨{ act with prog := { act.prog with image := some { img with groups := [{ group := 2, armSignal := some 10 }] } }, sig := { entries := [(10, { attributes := 0x1000, unit := 20, readers := [0], quality := 0, value := 1 })] }, capture := { groups := [(2, { armLevel := true })] } },
     2, 10, by decide +kernel⟩,
   ⟨{ act with capture := { act.capture with groups := [(2, { armed := true })] } }, tagged 2 2 { index := 0x7242, sub := 1, data := [0] },
     after ({ act with capture := { act.capture with groups := [(2, { armed := true })] } }) 2,
     replyFor ({ act with capture := { act.capture with groups := [(2, { armed := true })] } }) 2 2 { index := 0x7242, sub := 1, data := [0] },
     granted (by decide +kernel) rfl (by decide +kernel), by decide +kernel⟩,
   ⟨{ act with capture := { act.capture with groups := [(2, { firing := some 3 })] } }, tagged 2 2 { index := 0x7242, sub := 1, data := [0] },
     after ({ act with capture := { act.capture with groups := [(2, { firing := some 3 })] } }) 2,
     replyFor ({ act with capture := { act.capture with groups := [(2, { firing := some 3 })] } }) 2 2 { index := 0x7242, sub := 1, data := [0] },
     granted (by decide +kernel) rfl (by decide +kernel), by decide +kernel⟩,
   ⟨{ act with capture := { act.capture with held := [{ number := 3, group := 2, trigger := 0, trigTime := 400000, first := 0, last := 0 }] } },
     tagged 2 2 { index := 0x7202, data := be 4 3 }, after ({ act with capture := { act.capture with held := [{ number := 3, group := 2, trigger := 0, trigTime := 400000, first := 0, last := 0 }] } }) 2,
     replyFor ({ act with capture := { act.capture with held := [{ number := 3, group := 2, trigger := 0, trigTime := 400000, first := 0, last := 0 }] } }) 2 2 { index := 0x7202, data := be 4 3 },
     granted (by decide +kernel) rfl (by decide +kernel), by decide +kernel⟩,
   ⟨{ act with capture := { act.capture with held := [{ number := 3, group := 2, trigger := 0, trigTime := 400000, first := 0, last := 0 }] } },
     tagged 2 2 { index := 0x7202, data := be 4 4 }, after ({ act with capture := { act.capture with held := [{ number := 3, group := 2, trigger := 0, trigTime := 400000, first := 0, last := 0 }] } }) 2,
     replyFor ({ act with capture := { act.capture with held := [{ number := 3, group := 2, trigger := 0, trigTime := 400000, first := 0, last := 0 }] } }) 2 2 { index := 0x7202, data := be 4 4 },
     granted (by decide +kernel) rfl (by decide +kernel), by decide +kernel⟩,
   ⟨act, tagged 1 2 { index := 0x7221, data := be 8 7 }, after (act) 1, replyFor (act) 1 2 { index := 0x7221, data := be 8 7 },
     granted (by decide +kernel) rfl (by decide +kernel), by decide +kernel⟩⟩

/-- The hypotheses of LinkCyclesAndConfiguration are met. -/
theorem witness_linkCyclesAndConfiguration_1 :
    (∃ (s : State) (k : Nat) (d : LinkDecl), s.linkDecl k = some d ∧ s.mode.inReset = false ∧ s.time.monoRun = true ∧ d.phase * 1000 ≤ s.time.mono
      ∧ (s.time.mono - d.phase * 1000) % (d.period * 1000) = 0 ∧ s.fenced (0x10 + k) = false ∧ (s.lnk k).cycleOpen = false
      ∧ (s.positionsOf k).all (fun j => !(s.pos k j).configWait) = true ∧ (s.lnk k).parkDue = false ∧ s.mode.current ≠ .cold) ∧
    (∃ (s : State) (k m : Nat) (d : LinkDecl), s.linkDecl k = some d ∧ s.mode.inReset = false ∧ s.time.monoRun = true ∧ d.phase * 1000 ≤ s.time.mono
      ∧ (s.time.mono - d.phase * 1000) % (d.period * 1000) = 0 ∧ s.fenced (0x10 + k) = false ∧ (s.lnk k).cycleOpen = false
      ∧ (s.positionsOf k).all (fun j => !(s.pos k j).configWait) = true ∧ (s.lnk k).parkDue = false ∧ s.mode.current ≠ .cold ∧ m ∈ s.positionsOf k
      ∧ (s.pos k m).configure = false ∧ (((s.pos k m).state = 1 ∨ (s.pos k m).state = 3)) ∧ s.link.slots + (s.positionsOf k).length ≤ 256) ∧
    (∃ (s : State) (k : Nat) (d : LinkDecl), s.linkDecl k = some d ∧ s.mode.inReset = false ∧ s.time.monoRun = true ∧ d.phase * 1000 ≤ s.time.mono
      ∧ (s.time.mono - d.phase * 1000) % (d.period * 1000) = 0 ∧ s.fenced (0x10 + k) = false ∧ (s.lnk k).cycleOpen = false
      ∧ (s.lnk k).parkDue = true) ∧
    (∃ (s : State) (k : Nat) (d : LinkDecl), s.linkDecl k = some d ∧ s.mode.inReset = false ∧ s.time.monoRun = true ∧ d.phase * 1000 ≤ s.time.mono
      ∧ (s.time.mono - d.phase * 1000) % (d.period * 1000) = 0 ∧ s.fenced (0x10 + k) = false ∧ (s.lnk k).cycleOpen = false
      ∧ (s.positionsOf k).all (fun j => !(s.pos k j).configWait) = true ∧ (s.lnk k).parkDue = false ∧ s.mode.current = .cold) ∧
    (∃ (s : State) (k : Nat) (d : LinkDecl), s.linkDecl k = some d ∧ s.mode.inReset = false ∧ s.time.monoRun = true ∧ d.phase * 1000 ≤ s.time.mono
      ∧ (s.time.mono - d.phase * 1000) % (d.period * 1000) = 0 ∧ s.fenced (0x10 + k) = true) ∧
    (∃ (s : State) (r : Req) (t : State) (x : ReplyTo), Granted s r 2 t x ∧ r.sub = 0x10 ∧ 0x7610 ≤ r.index.toNat ∧ r.index.toNat ≤ 0x763F
      ∧ r.value = 1 ∧ s.fenced (0x10 + (r.index.toNat - 0x7610)) = false ∧ s.mode.current ≠ .cold) ∧
    (∃ (s : State) (r : Req) (t : State) (x : ReplyTo), Granted s r 2 t x ∧ r.sub = 0x10 ∧ 0x7610 ≤ r.index.toNat ∧ r.index.toNat ≤ 0x763F
      ∧ r.value ≠ 1) ∧
    (∃ (s : State) (k : Nat) (p : ConfigReply), k < 48 ∧ (s.linkDecl k).isSome = true ∧ s.mode.inReset = false ∧ p.crcOk = true
      ∧ (s.pos k p.position).configWait = true ∧ p.result = 0) :=
  ⟨⟨{ act with link := { links := [(3, { trained := true, cycles := 255, positions := [(0, { state := 1, configure := false, everConfigured := true })] })] } },
    3, { link := 3, period := 1000, positions := [{ position := 0, typeId := 0x1234 }] }, by decide +kernel⟩,
   ⟨{ act with link := { links := [(3, { trained := true, cycles := 255, positions := [(0, { state := 1, configure := false, everConfigured := true })] })] } },
     3, 0, { link := 3, period := 1000, positions := [{ position := 0, typeId := 0x1234 }] }, by decide +kernel⟩,
   ⟨{ act with link := { links := [(3, { trained := true, parkDue := true, positions := [(0, { state := 1, configure := false, everConfigured := true })] })] } },
     3, { link := 3, period := 1000, positions := [{ position := 0, typeId := 0x1234 }] }, by decide +kernel⟩,
   ⟨{ inMode .cold with link := { links := [(3, { trained := true, positions := [(0, { state := 1, configure := false, everConfigured := true })] })] } },
     3, { link := 3, period := 1000, positions := [{ position := 0, typeId := 0x1234 }] }, by decide +kernel⟩,
   ⟨{ act with hub := { act.hub with fenced := [0x13] }, link := { links := [(3, { trained := true, positions := [(0, { state := 1, configure := false })] })] } },
     3, { link := 3, period := 1000, positions := [{ position := 0, typeId := 0x1234 }] }, by decide +kernel⟩,
   ⟨{ act with link := { links := [(3, { trained := true, positions := [(0, { state := 1, configure := false, everConfigured := true })] })] } },
     tagged 4 2 { index := 0x7613, sub := 0x10, data := [1] }, after ({ act with link := { links := [(3, { trained := true, positions := [(0, { state := 1, configure := false, everConfigured := true })] })] } }) 4,
     replyFor ({ act with link := { links := [(3, { trained := true, positions := [(0, { state := 1, configure := false, everConfigured := true })] })] } }) 4 2 { index := 0x7613, sub := 0x10, data := [1] },
     granted (by decide +kernel) rfl (by decide +kernel), by decide +kernel⟩,
   ⟨{ act with link := { links := [(3, { trained := true, positions := [(0, { state := 1, configure := false, everConfigured := true })] })] } },
     tagged 4 2 { index := 0x7613, sub := 0x10, data := [2] }, after ({ act with link := { links := [(3, { trained := true, positions := [(0, { state := 1, configure := false, everConfigured := true })] })] } }) 4,
     replyFor ({ act with link := { links := [(3, { trained := true, positions := [(0, { state := 1, configure := false, everConfigured := true })] })] } }) 4 2 { index := 0x7613, sub := 0x10, data := [2] },
     granted (by decide +kernel) rfl (by decide +kernel), by decide +kernel⟩,
   ⟨{ act with link := { links := [(3, { trained := true, positions := [(0, { configWait := true, configure := false })] })] } }, 3, { position := 0, result := 0, moduleType := 0x9999, serial := 5 },
     by decide +kernel⟩⟩

/-- The hypotheses of LinkCyclesAndConfiguration are met. -/
theorem witness_linkCyclesAndConfiguration_2 :
    (∃ (s : State) (k : Nat) (p : ConfigReply), k < 48 ∧ (s.linkDecl k).isSome = true ∧ s.mode.inReset = false ∧ p.crcOk = true
      ∧ (s.pos k p.position).configWait = true ∧ p.result ≠ 0) ∧
    (∃ (s : State) (k m : Nat), (s.pos k m).state = 2 ∧ (s.pos k m).refusedAt + 1000000000 ≤ s.time.mono ∧ s.fenced (0x10 + k) = false
      ∧ s.mode.current ≠ .cold ∧ m ∈ s.positionsOf k) ∧
    (∃ (s : State) (k m : Nat), s.time.mono < (s.pos k m).refusedAt + 1000000000) ∧
    (∃ (s : State) (k : Nat), k < 48 ∧ (s.lnk k).trained = true ∧ (s.linkDecl k).isSome = true) ∧
    (∃ (s : State) (k : Nat), k < 48 ∧ (s.lnk k).trained = true ∧ s.linkDecl k = none) ∧
    (∃ (s : State) (k : Nat) (d : Word), k < 48 ∧ (s.lnk k).trained = false) :=
  ⟨⟨{ act with link := { links := [(3, { trained := true, positions := [(0, { configWait := true, configure := false })] })] } }, 3, { position := 0, result := 1, moduleType := 0x9999, serial := 5 },
    by decide +kernel⟩,
   ⟨{ act with link := { links := [(3, { trained := true, positions := [(0, { state := 2, configure := false })] })] } }, 3, 0, by decide +kernel⟩,
   ⟨{ act with link := { links := [(3, { trained := true, positions := [(0, { state := 2, configure := false, refusedAt := 1 })] })] } }, 3, 0,
     by decide +kernel⟩,
   ⟨{ act with link := { links := [(3, { trained := true, positions := [(0, { state := 1, configure := false, everConfigured := true })] })] } }, 3,
     by decide +kernel⟩,
   ⟨{ act with link := { links := [(4, { trained := true })] } }, 4, by decide +kernel⟩,
   ⟨act, 3, 40, by decide +kernel⟩⟩

/-- The hypotheses of LinkRepliesAreTaken are met. -/
theorem witness_linkRepliesAreTaken :
    (∃ (s : State) (k : Nat) (p : LinkReply), k < 48 ∧ (s.linkDecl k).isSome = true ∧ s.fenced (0x10 + k) = false ∧ s.mode.inReset = false
      ∧ p.crcOk = true ∧ p.seq = (s.lnk k).seq ∧ (s.pos k p.position).inFlight = true ∧ (s.pos k p.position).retryDue = false
      ∧ (s.pos k p.position).requestEnd + 2912 ≤ s.time.mono ∧ s.time.mono ≤ (s.pos k p.position).windowEnd + 2912) ∧
    (∃ (s : State) (k c g : Nat) (p : LinkReply), k < 48 ∧ (s.linkDecl k).isSome = true ∧ s.fenced (0x10 + k) = false ∧ s.mode.inReset = false
      ∧ p.crcOk = true ∧ p.seq = (s.lnk k).seq ∧ (s.pos k p.position).inFlight = true ∧ (s.pos k p.position).retryDue = false
      ∧ (s.pos k p.position).requestEnd + 2912 ≤ s.time.mono ∧ s.time.mono ≤ (s.pos k p.position).windowEnd + 2912 ∧ s.linkWrites = true
      ∧ s.linkInputs k p.position = [(c, g)] ∧ s.sigDecl g = true) ∧
    (∃ (s : State) (k : Nat) (p : LinkReply), k < 48 ∧ (s.linkDecl k).isSome = true ∧ s.fenced (0x10 + k) = false ∧ s.mode.inReset = false
      ∧ p.crcOk = false ∧ (s.pos k p.position).inFlight = false) ∧
    (∃ (s : State) (k m : Nat) (p : LinkReply), k < 48 ∧ (s.linkDecl k).isSome = true ∧ s.fenced (0x10 + k) = false ∧ s.mode.inReset = false
      ∧ p.crcOk = true ∧ p.position = m ∧ p.seq ≠ (s.lnk k).seq ∧ (s.pos k m).inFlight = true ∧ (s.pos k m).retryDue = false
      ∧ (s.pos k m).retried = false ∧ s.retryFits k m = true ∧ m ∈ s.positionsOf k ∧ s.firstWaits k = false
      ∧ (s.positionsOf k).all (fun n => decide (n = m) || !(s.pos k n).retryDue) = true) ∧
    (∃ (s : State) (k m : Nat), k < 48 ∧ (s.pos k m).windowEnd ≤ s.time.mono ∧ (s.pos k m).inFlight = true ∧ (s.pos k m).retryDue = false
      ∧ (s.pos k m).retried = false ∧ s.retryFits k m = true ∧ m ∈ s.positionsOf k ∧ s.firstWaits k = false
      ∧ (s.positionsOf k).all (fun n => decide (n = m) || !(s.pos k n).retryDue) = true) ∧
    (∃ (s : State) (k m : Nat), k < 48 ∧ (s.pos k m).windowEnd ≤ s.time.mono ∧ (s.pos k m).inFlight = true ∧ (s.pos k m).retryDue = false
      ∧ (((s.pos k m).retried = true ∨ s.retryFits k m = false))) ∧
    (∃ (s : State) (k m : Nat), ((s.pos k m).inFlight = false ∨ s.time.mono < (s.pos k m).windowEnd)) ∧
    (∃ (s : State) (k : Nat), k < 48 ∧ (s.lnk k).cycleOpen = true
      ∧ (s.positionsOf k).all (fun m => !(s.pos k m).inFlight && !(s.pos k m).configWait) = true ∧ s.link.waiting.any (fun w => w.2.1 = k) = false
      ∧ (s.positionsOf k).all (fun m => !State.counts (s.pos k m) || (s.pos k m).answered) = true ∧ (s.lnk k).missInUse ≠ 0
      ∧ ((get ({} : IntQ) s.disp.queues k).producer + 1) % 128 ≠ (get ({} : IntQ) s.disp.queues k).consumer % 128) :=
  ⟨⟨{ act with link := { links := [(3, { trained := true, seq := 7, positions := [(0, { state := 1, configure := false, everConfigured := true, inFlight := true, missed := 2, requestEnd := 999990000, windowEnd := 999998000 })] })] } },
    3, { position := 0, seq := 7, moduleType := 0x1234 }, by decide +kernel⟩,
   ⟨{ act with link := { links := [(3, { trained := true, positions := [(0, { state := 1, configure := false, everConfigured := true, inFlight := true, owner := true, requestEnd := 999990000, windowEnd := 999998000 })] })] }, prog := { act.prog with image := some { img with channels := [{ channel := 0x1605, unit := 20, signal := some 10, kind := 1 }] } } },
     3, 5, 10, { position := 0, seq := 0, input := [0, 0, 0, 0, 0, 99], chStatus := [0, 0, 0, 0, 0, 5] }, by decide +kernel⟩,
   ⟨{ act with link := { links := [(3, { trained := true, positions := [(0, { state := 1, configure := false, everConfigured := true })] })] } }, 3,
     { position := 0, seq := 7, moduleType := 0x1234, crcOk := false }, by decide +kernel⟩,
   ⟨{ act with link := { links := [(3, { trained := true, seq := 6, cycleAt := 999999000, positions := [(0, { state := 1, configure := false, everConfigured := true, inFlight := true, missed := 2, requestEnd := 999990000, windowEnd := 999998000 })] })] } },
     3, 0, { position := 0, seq := 7, moduleType := 0x1234 }, by decide +kernel⟩,
   ⟨{ act with link := { links := [(3, { trained := true, seq := 6, cycleAt := 999999000, positions := [(0, { state := 1, configure := false, everConfigured := true, inFlight := true, missed := 2, requestEnd := 999990000, windowEnd := 999998000 })] })] } },
     3, 0, by decide +kernel⟩,
   ⟨{ act with link := { links := [(3, { trained := true, seq := 6, cycleAt := 999999000, positions := [(0, { state := 1, configure := false, everConfigured := true, inFlight := true, missed := 2, requestEnd := 999990000, windowEnd := 999998000, retried := true })] })] } },
     3, 0, by decide +kernel⟩,
   ⟨act, 3, 0, by decide +kernel⟩,
   ⟨{ act with link := { links := [(3, { trained := true, cycleOpen := true, positions := [(0, { state := 1, everConfigured := true, answered := true })] })] } },
     3, by decide +kernel⟩⟩

/-- The hypotheses of EthernetFramesAreReceived are met. -/
theorem witness_ethernetFramesAreReceived :
    (∃ (s : State) (p : Nat) (f : EthFrame), p < 5 ∧ s.mode.inReset = false ∧ s.usable p = true ∧ ((f.fcsOk = false ∨ f.bytes.length < 60
      ∨ 1518 < f.bytes.length))) ∧
    (∃ (s : State) (p : Nat) (f : EthFrame), p < 5 ∧ s.mode.inReset = false ∧ s.usable p = true ∧ f.fcsOk = true ∧ 60 ≤ f.bytes.length
      ∧ f.bytes.length ≤ 1518 ∧ ((s.prpMember p = false ∨ f.prp = none)) ∧ f.kind = .xanfil ∧ (s.port (s.nodePort p)).ip ≠ 0
      ∧ f.ipDest = (s.port (s.nodePort p)).ip ∧ f.udpPort = s.xan.udpPort) ∧
    (∃ (s : State) (p a : Nat) (f : EthFrame) (rest : List Nat), p < 5 ∧ s.mode.inReset = false ∧ s.usable p = true ∧ f.fcsOk = true
      ∧ 60 ≤ f.bytes.length ∧ f.bytes.length ≤ 1518 ∧ ((s.prpMember p = false ∨ f.prp = none)) ∧ f.kind = .other ∧ s.forPort (s.nodePort p) f = true
      ∧ s.eth.pool = a :: rest ∧ f.bytes.length ≤ 224 ∧ MemoryForm s
      ∧ ((get ({} : IntQ) s.disp.queues (48 + s.nodePort p)).producer + 1) % 128 ≠ (get ({} : IntQ) s.disp.queues (48 + s.nodePort p)).consumer % 128) ∧
    (∃ (s : State) (p : Nat) (f : EthFrame), p < 5 ∧ s.mode.inReset = false ∧ s.usable p = true ∧ f.fcsOk = true ∧ 60 ≤ f.bytes.length
      ∧ f.bytes.length ≤ 1518 ∧ ((s.prpMember p = false ∨ f.prp = none)) ∧ f.kind = .other ∧ s.forPort (s.nodePort p) f = true
      ∧ s.eth.pool.length < (f.bytes.length + 223) / 224
      ∧ ((get ({} : IntQ) s.disp.queues (48 + s.nodePort p)).producer + 1) % 128 ≠ (get ({} : IntQ) s.disp.queues (48 + s.nodePort p)).consumer % 128) ∧
    (∃ (s : State) (p : Nat) (f : EthFrame) (key : BitVec 48 × Half), p < 5 ∧ s.mode.inReset = false ∧ s.usable p = true ∧ f.fcsOk = true
      ∧ 60 ≤ f.bytes.length ∧ f.bytes.length ≤ 1518 ∧ s.prpMember p = true ∧ f.prp = some key ∧ f.kind ≠ .ptp ∧ s.isDuplicate p key = true) ∧
    (∃ (s : State) (m : Nat) (v : Word), homeMaster m = true ∧ s.eth.pool.length < 1024) ∧
    (∃ (s : State) (m : Nat) (v : Word), homeMaster m = true ∧ 1024 ≤ s.eth.pool.length) ∧
    (∃ (s : State) (r : Req) (t : State) (x : ReplyTo), Granted s r 2 t x ∧ r.index = 0x7730 ∧ r.sub = 1) :=
  ⟨⟨{ act with eth := { ports := [(4, { up := true })] } }, 4, { kind := .other, bytes := List.replicate 59 1, dest := 0xFFFFFFFFFFFF },
    by decide +kernel⟩,
   ⟨{ act with eth := { ports := [(4, { up := true, ip := 5 })] } }, 4, { kind := .xanfil, bytes := List.replicate 60 1, dest := 0xFFFFFFFFFFFF, ipDest := 5, udpPort := 52140 },
     by decide +kernel⟩,
   ⟨{ act with eth := { ports := [(4, { up := true })], pool := [0x44880000, 0x44880100] } }, 4, 0x44880000, { kind := .other, bytes := List.replicate 60 1, dest := 0xFFFFFFFFFFFF }, [0x44880100], by decide +kernel, by decide +kernel, by decide +kernel, by decide +kernel, by decide +kernel, by decide +kernel, by decide +kernel, by decide +kernel, by simp [State.forPort], rfl, by decide +kernel, by unfold MemoryForm; decide +kernel, by decide +kernel⟩,
   ⟨{ act with eth := { ports := [(4, { up := true })] } }, 4, { kind := .other, bytes := List.replicate 60 1, dest := 0xFFFFFFFFFFFF },
     by decide +kernel, by decide +kernel, by decide +kernel, by decide +kernel, by decide +kernel, by decide +kernel, by decide +kernel,
     by decide +kernel, by simp [State.forPort], by decide +kernel⟩,
   ⟨{ act with eth := { ports := [(1, { up := true })], duplicates := [(7, 9, 0, 900000000)] } }, 1, { kind := .other, bytes := List.replicate 60 1, dest := 0xFFFFFFFFFFFF, prp := some (7, 9) },
     (7, 9), by decide +kernel⟩,
   ⟨act, 0, 0x44880000, by decide +kernel⟩,
   ⟨{ act with eth := { ports := [(4, { up := true })], pool := List.replicate 1024 1 } }, 0, 0x44880000, by decide +kernel⟩,
   ⟨act, tagged 5 2 { index := 0x7730, sub := 1, data := be 4 5 }, after (act) 5, replyFor (act) 5 2 { index := 0x7730, sub := 1, data := be 4 5 },
     granted (by decide +kernel) rfl (by decide +kernel), by decide +kernel⟩⟩

/-- The hypotheses of EthernetFramesAreSent are met. -/
theorem witness_ethernetFramesAreSent_1 :
    (∃ (s : State) (m p : Nat) (v : Word), homeMaster m = true ∧ p < 5 ∧ rdLe s.mem (v.toNat + 6) 1 = p + 1
      ∧ s.txRefused p (s.txFrameAt v.toNat) = false) ∧
    (∃ (s : State) (m p : Nat) (v : Word), homeMaster m = true ∧ p < 5 ∧ rdLe s.mem (v.toNat + 6) 1 = p + 1
      ∧ s.txRefused p (s.txFrameAt v.toNat) = true
      ∧ ((get ({} : IntQ) s.disp.queues (53 + p)).producer + 1) % 128 ≠ (get ({} : IntQ) s.disp.queues (53 + p)).consumer % 128) ∧
    (∃ (s : State) (r : Req) (t : State) (x : ReplyTo), Granted s r 2 t x ∧ r.index = 0x7730 ∧ r.sub = 0) ∧
    (∃ (s : State) (p q l : Nat) (f : TxFrame), s.headFrame p q = some f ∧ f.launch = some l ∧ s.time.everValid = true ∧ f.due = 0 ∧ f.passed = false
      ∧ (s.port p).sending ≠ some q ∧ 0 ≤ ((s.time.mono : Int) - ((l : Int) - s.time.align))
      ∧ ((s.time.mono : Int) - ((l : Int) - s.time.align)) ≤ 20000) ∧
    (∃ (s : State) (p q l : Nat) (f : TxFrame), s.headFrame p q = some f ∧ f.launch = some l ∧ s.time.everValid = true ∧ f.due ≠ 2
      ∧ (s.port p).sending ≠ some q ∧ 20000 < ((s.time.mono : Int) - ((l : Int) - s.time.align)) ∧ (s.port p).launchPolicy.getLsbD q = false) ∧
    (∃ (s : State) (p q l : Nat) (f : TxFrame) (rest : List TxFrame), (s.port p).waiting = f :: rest ∧ f.queue = q ∧ f.launch = some l
      ∧ s.time.everValid = true ∧ f.due ≠ 2 ∧ (s.port p).sending ≠ some q ∧ 20000 < ((s.time.mono : Int) - ((l : Int) - s.time.align))
      ∧ (s.port p).launchPolicy.getLsbD q = true) ∧
    (∃ (s : State) (p q l : Nat) (f : TxFrame) (b : Bool), s.headFrame p q = some f ∧ f.launch = some l
      ∧ ((s.time.mono : Int) - ((l : Int) - s.time.align)) < 0) ∧
    (∃ (s : State) (p q : Nat) (f : TxFrame) (rest : List TxFrame), (s.port p).waiting = f :: rest ∧ f.queue = q ∧ f.oneStep = false
      ∧ s.prpMember p = false ∧ s.usable p = true ∧ (s.port p).sending = some q
      ∧ ((get ({} : IntQ) s.disp.queues (53 + p)).producer + 1) % 128 ≠ (get ({} : IntQ) s.disp.queues (53 + p)).consumer % 128) :=
  ⟨⟨{ act with eth := { ports := [(4, { up := true })] }, mem := [(0x44880004, 60), (0x44880006, 5)] }, 0, 4, 0x44880000, by decide +kernel⟩,
   ⟨{ act with eth := { ports := [(4, { up := true })] }, mem := [(0x44880004, 59), (0x44880006, 5)] }, 0, 4, 0x44880000, by decide +kernel⟩,
   ⟨act, tagged 5 2 { index := 0x7730, data := be 4 5 }, after (act) 5, replyFor (act) 5 2 { index := 0x7730, data := be 4 5 },
     granted (by decide +kernel) rfl (by decide +kernel), by decide +kernel⟩,
   ⟨{ act with eth := { ports := [(4, { up := true, launchPolicy := 0, waiting := [{ object := 0x44880000, chain := [0x44880000], queue := 2, launch := some 999980000, timestamp := false, oneStep := false, keep := true, bytes := [1], due := 0 }] })] }, time := { act.time with everValid := true } },
     4, 2, 999980000, { object := 0x44880000, chain := [0x44880000], queue := 2, launch := some 999980000, timestamp := false, oneStep := false, keep := true, bytes := [1], due := 0 },
     by decide +kernel⟩,
   ⟨{ act with eth := { ports := [(4, { up := true, launchPolicy := 0, waiting := [{ object := 0x44880000, chain := [0x44880000], queue := 2, launch := some 999979999, timestamp := false, oneStep := false, keep := true, bytes := [1], due := 0 }] })] }, time := { act.time with everValid := true } },
     4, 2, 999979999, { object := 0x44880000, chain := [0x44880000], queue := 2, launch := some 999979999, timestamp := false, oneStep := false, keep := true, bytes := [1], due := 0 },
     by decide +kernel⟩,
   ⟨{ act with eth := { ports := [(4, { up := true, launchPolicy := 4, waiting := [{ object := 0x44880000, chain := [0x44880000], queue := 2, launch := some 999979999, timestamp := false, oneStep := false, keep := true, bytes := [1], due := 0 }] })] }, time := { act.time with everValid := true } },
     4, 2, 999979999, { object := 0x44880000, chain := [0x44880000], queue := 2, launch := some 999979999, timestamp := false, oneStep := false, keep := true, bytes := [1], due := 0 },
     [], rfl, by decide +kernel⟩,
   ⟨{ act with eth := { ports := [(4, { up := true, launchPolicy := 0, waiting := [{ object := 0x44880000, chain := [0x44880000], queue := 2, launch := some 1000000001, timestamp := false, oneStep := false, keep := true, bytes := [1], due := 0 }] })] }, time := { act.time with everValid := true } },
     4, 2, 1000000001, { object := 0x44880000, chain := [0x44880000], queue := 2, launch := some 1000000001, timestamp := false, oneStep := false, keep := true, bytes := [1], due := 0 },
     false, by decide +kernel⟩,
   ⟨{ act with eth := { ports := [(4, { up := true, sending := some 2, launchPolicy := 0, waiting := [{ object := 0x44880000, chain := [0x44880000], queue := 2, launch := none, timestamp := false, oneStep := false, keep := true, bytes := [1], due := 0 }] })] }, time := { act.time with everValid := true } },
     4, 2, { object := 0x44880000, chain := [0x44880000], queue := 2, launch := none, timestamp := false, oneStep := false, keep := true, bytes := [1], due := 0 },
     [], rfl, by decide +kernel⟩⟩

/-- The hypotheses of EthernetFramesAreSent are met. -/
theorem witness_ethernetFramesAreSent_2 :
    (∃ (s : State) (p q : Nat) (f : TxFrame) (rest : List TxFrame), (s.port p).waiting = f :: rest ∧ f.queue = q
      ∧ (s.nodePorts p).any s.usable = false
      ∧ ((get ({} : IntQ) s.disp.queues (53 + p)).producer + 1) % 128 ≠ (get ({} : IntQ) s.disp.queues (53 + p)).consumer % 128) ∧
    (∃ (s : State) (p : Nat) (a g : Bool), p < 5 ∧ s.mode.inReset = false ∧ (s.port p).up ≠ a ∧ ((a = false ∨ p = 4 ∨ g = true))) ∧
    (∃ (s : State) (k p : Nat), s.mode.inReset = false ∧ s.eth.lastSupervision + 2000000000 ≤ s.time.now ∧ k < 2 ∧ s.eth.prpActive.getLsbD k = true
      ∧ ((p = 2 * k ∨ p = 2 * k + 1)) ∧ s.usable p = true) ∧
    (∃ (s : State), s.time.now < s.eth.lastSupervision + 2000000000) :=
  ⟨⟨{ act with eth := { ports := [(4, { up := false, launchPolicy := 0, waiting := [{ object := 0x44880000, chain := [0x44880000], queue := 2, launch := none, timestamp := false, oneStep := false, keep := true, bytes := [1], due := 0 }] })] }, time := { act.time with everValid := true } },
    4, 2, { object := 0x44880000, chain := [0x44880000], queue := 2, launch := none, timestamp := false, oneStep := false, keep := true, bytes := [1], due := 0 },
    [], rfl, by decide +kernel⟩,
   ⟨act, 4, true, false, by decide +kernel⟩,
   ⟨{ act with time := { act.time with now := 2000000000 }, eth := { ports := [(2, { up := true })], nodes := [{ pair := 1, node := 9, since := 0, lastA := some 0 }] } },
     1, 2, by decide +kernel⟩,
   ⟨act, by decide +kernel⟩⟩

/-- The hypotheses of TheWallClock are met. -/
theorem witness_theWallClock_1 :
    (∃ (s : State) (o : Int) (n : Nat), s.mode.inReset = false ∧ s.time.profile ≠ 0 ∧ s.time.monoRun = true ∧ s.time.servo = 2
      ∧ s.time.wallValid = true ∧ o.natAbs ≤ s.time.stepThreshold.toNat) ∧
    (∃ (s : State) (o : Int) (n : Nat), s.mode.inReset = false ∧ s.time.profile ≠ 0 ∧ s.time.monoRun = true ∧ s.time.servo = 1 ∧ s.time.goodSyncs = 15
      ∧ o.natAbs ≤ 1000) ∧
    (∃ (s : State) (o : Int) (n : Nat), s.mode.inReset = false ∧ s.time.profile ≠ 0 ∧ s.time.monoRun = true ∧ s.time.servo = 1 ∧ 1000 < o.natAbs
      ∧ s.time.stepThreshold.toNat < o.natAbs) ∧
    (∃ (s : State) (o : Int) (n : Nat), s.mode.inReset = false ∧ s.time.profile ≠ 0 ∧ s.time.monoRun = true ∧ s.time.servo = 1 ∧ s.time.goodSyncs < 15
      ∧ o.natAbs ≤ 1000 ∧ 1000 ≤ s.time.stepThreshold.toNat) ∧
    (∃ (s : State) (g : DWord) (o : Int) (b : Bool), s.mode.inReset = false ∧ s.time.profile ≠ 0 ∧ s.time.monoRun = true ∧ s.time.servo ≠ 4) ∧
    (∃ (s : State) (p c : Nat), s.mode.inReset = false ∧ s.time.profile ≠ 0 ∧ s.time.monoRun = true ∧ p < 4 ∧ s.time.ptpPorts.getLsbD p = true ∧ 1 ≤ c
      ∧ c ≤ 9 ∧ ((s.time.clockType ≠ 0 ∨ s.time.activePort = some p))) ∧
    (∃ (s : State), s.mode.inReset = false ∧ s.time.profile ≠ 0 ∧ s.time.monoRun = true ∧ s.time.servo ≠ 4) ∧
    (∃ (s : State) (e : PtpEvent), s.time.profile = 0) :=
  ⟨⟨{ act with time := { act.time with profile := 1, servo := 2, wallValid := true, source := 1 } }, -1000000, 5, by decide +kernel⟩,
   ⟨{ act with time := { act.time with profile := 1, servo := 1, goodSyncs := 15 } }, -1000, 5, by decide +kernel⟩,
   ⟨{ act with time := { act.time with profile := 1, servo := 1, goodSyncs := 3 } }, 1000001, 5, by decide +kernel⟩,
   ⟨{ act with time := { act.time with profile := 1, servo := 1, goodSyncs := 14 } }, 1000, 5, by decide +kernel⟩,
   ⟨{ act with time := { act.time with profile := 1, servo := 1 } }, 7, 37, true, by decide +kernel⟩,
   ⟨{ act with time := { act.time with profile := 1, servo := 1, activePort := some 3 } }, 3, 9, by decide +kernel⟩,
   ⟨{ act with time := { act.time with profile := 1, servo := 1 } }, by decide +kernel⟩,
   ⟨act, .sync 5 5, by decide +kernel⟩⟩

/-- The hypotheses of TheWallClock are met. -/
theorem witness_theWallClock_2 :
    (∃ (s : State) (q : Nat), s.time.servo = 2 ∧ 3 ≤ q ∧ s.time.portStates.any (fun e => e.2 = 9) = false) ∧
    (∃ (s : State) (q : Nat), q < 3) ∧
    (∃ (s : State) (h : Ns), s.time.wallValid = true ∧ s.time.source = 0 ∧ s.time.holdSince = some h
      ∧ h + s.time.holdoverLimit.toNat * 1000000000 ≤ s.time.mono) ∧
    (∃ (s : State) (h : Ns), s.time.holdSince = some h ∧ s.time.mono < h + s.time.holdoverLimit.toNat * 1000000000) ∧
    (∃ (s : State) (r : Req) (t : State) (x : ReplyTo), Granted s r 2 t x ∧ r.index = 0x2101 ∧ r.sub = 0 ∧ s.time.servo ≠ 2) ∧
    (∃ (s : State) (r : Req) (t : State) (x : ReplyTo), Granted s r 2 t x ∧ r.index = 0x2101 ∧ r.sub = 0 ∧ s.time.servo = 2) ∧
    (∃ (s : State), s.time.wallValid = true ∧ ((s.time.stored = none ∨ s.time.storedAt + 1000000000 ≤ s.time.now))) ∧
    (∃ (s : State), s.time.wallValid = false) :=
  ⟨⟨{ act with time := { act.time with profile := 1, servo := 2, wallValid := true, source := 1 } }, 3, by decide +kernel⟩,
   ⟨{ act with time := { act.time with profile := 1, servo := 2 } }, 2, by decide +kernel⟩,
   ⟨{ act with time := { act.time with wallValid := true, holdSince := some 0, holdoverLimit := 1 } }, 0, by decide +kernel⟩,
   ⟨{ act with time := { act.time with wallValid := true, holdSince := some 1, holdoverLimit := 1 } }, 1, by decide +kernel⟩,
   ⟨act, tagged 5 2 { index := 0x2101, data := be 8 1700000000000000000 }, after (act) 5, replyFor (act) 5 2 { index := 0x2101, data := be 8 1700000000000000000 },
     granted (by decide +kernel) rfl (by decide +kernel), by decide +kernel⟩,
   ⟨{ act with time := { act.time with servo := 2 } }, tagged 5 2 { index := 0x2101, data := be 8 1700000000000000000 },
     after ({ act with time := { act.time with servo := 2 } }) 5, replyFor ({ act with time := { act.time with servo := 2 } }) 5 2 { index := 0x2101, data := be 8 1700000000000000000 },
     granted (by decide +kernel) rfl (by decide +kernel), by decide +kernel⟩,
   ⟨{ act with time := { act.time with wallValid := true } }, by decide +kernel⟩,
   ⟨act, by decide +kernel⟩⟩

/-- The hypotheses of TheWallClock are met. -/
theorem witness_theWallClock_3 :
    (∃ (s : State) (r : Req) (t : State) (x : ReplyTo), Granted s r 2 t x ∧ r.index = 0x7720 ∧ [0, 1, 2, 3, 4, 5, 7, 8].contains r.sub.toNat = true
      ∧ s.ptpRange r.sub.toNat r.value = false) ∧
    (∃ (s : State) (r : Req) (t : State) (x : ReplyTo), Granted s r 2 t x ∧ r.index = 0x7720 ∧ [0, 1, 2, 3, 4, 5, 7, 8].contains r.sub.toNat = true
      ∧ s.ptpRange r.sub.toNat r.value = true) :=
  ⟨⟨act, tagged 5 2 { index := 0x7720, sub := 8, data := be 4 0xFFFFFFF9 }, after (act) 5, replyFor (act) 5 2 { index := 0x7720, sub := 8, data := be 4 0xFFFFFFF9 },
    granted (by decide +kernel) rfl (by decide +kernel), by decide +kernel⟩,
   ⟨act, tagged 5 2 { index := 0x7720, sub := 8, data := be 4 5 }, after (act) 5, replyFor (act) 5 2 { index := 0x7720, sub := 8, data := be 4 5 },
     granted (by decide +kernel) rfl (by decide +kernel), by decide +kernel⟩⟩

/-- The hypotheses of CanFramesAreReceived are met. -/
theorem witness_canFramesAreReceived :
    (∃ (s : State) (c m : Nat) (f : CanFrame), s.mode.inReset = false ∧ ((c = 1 ∨ c = 2)) ∧ s.canOnBus c = true ∧ s.abrRuns c = false
      ∧ ((f.fdf = false ∨ (s.canCh c).fdOptions.getLsbD 0 = true)) ∧ f.remote = false ∧ s.xanfilFrame c f = false ∧ s.matchObj c f = some m
      ∧ f.data.length = dlcBytes f.fdf f.dlc.toNat) ∧
    (∃ (s : State) (c : Nat) (f : CanFrame), s.mode.inReset = false ∧ ((c = 1 ∨ c = 2)) ∧ s.canOnBus c = true ∧ s.abrRuns c = false ∧ ((f.fdf = false
      ∨ (s.canCh c).fdOptions.getLsbD 0 = true)) ∧ f.remote = false ∧ s.xanfilFrame c f = false ∧ s.matchObj c f = none) ∧
    (∃ (s : State) (c : Nat) (f : CanFrame), s.mode.inReset = false ∧ ((c = 1 ∨ c = 2)) ∧ s.abrRuns c = true ∧ (s.canCh c).abrTaken = none) ∧
    (∃ (s : State) (c : Nat), ((c = 1 ∨ c = 2)) ∧ s.abrRuns c = true ∧ (s.canCh c).abrTaken = none ∧ (s.canCh c).abrSince + 200000000 ≤ s.time.now) ∧
    (∃ (s : State) (c : Nat), s.time.now < (s.canCh c).abrSince + 200000000) ∧
    (∃ (s : State) (c : Nat) (n d : Word), ((c = 1 ∨ c = 2)) ∧ s.abrRuns c = true ∧ s.abrFound c n d = true) ∧
    (∃ (s : State) (c : Nat) (n d : Word), ((c = 1 ∨ c = 2)) ∧ s.abrRuns c = true
      ∧ (s.canCh c).abrStart + (s.canCh c).abrTimeout.toNat * 1000000000 ≤ s.time.now) :=
  ⟨⟨{ act with can := { chan := [(1, { mode := 1, objects := [(4, { config := 0x88000002, ident := 0x123, mask := 0x7FF, newData := true })] })] } },
    1, 4, { ident := 0x123, dlc := 2, data := [0x11, 0x22] }, by decide +kernel⟩,
   ⟨{ act with can := { chan := [(1, { mode := 1, objects := [(4, { config := 0x88000002, ident := 0x122, mask := 0x7FF })] })] } }, 1,
     { ident := 0x123, dlc := 2, data := [0x11, 0x22] }, by decide +kernel⟩,
   ⟨{ act with can := { chan := [(1, { mode := 3, abrGood := 1 })] } }, 1, { ident := 0x123, dlc := 2, data := [0x11, 0x22] }, by decide +kernel⟩,
   ⟨{ act with can := { chan := [(1, { mode := 3, abrCandidate := 3, abrSince := 800000000 })] } }, 1, by decide +kernel⟩,
   ⟨{ act with can := { chan := [(1, { mode := 3, abrSince := 800000001 })] } }, 1, by decide +kernel⟩,
   ⟨{ act with can := { chan := [(1, { mode := 3, abrCandidate := 1, abrTaken := some 0 })] } }, 1, 500000, 2000000, by decide +kernel⟩,
   ⟨{ act with can := { chan := [(1, { mode := 3, abrTimeout := 1 })] } }, 1, 0, 0, by decide +kernel⟩⟩

/-- The hypotheses of CanObjectsTransmit are met. -/
theorem witness_canObjectsTransmit_1 :
    (∃ (s : State) (r : Req) (t : State) (x : ReplyTo), Granted s r 2 t x ∧ isMo r.index.toNat = true ∧ r.sub.toNat % 0x20 = 3 ∧ r.sub.toNat < 0x40
      ∧ r.value = 1 ∧ (s.msgObj (moOf r.index.toNat r.sub.toNat).1 (moOf r.index.toNat r.sub.toNat).2).transmits = true
      ∧ (s.msgObj (moOf r.index.toNat r.sub.toNat).1 (moOf r.index.toNat r.sub.toNat).2).pending = false
      ∧ (((s.msgObj (moOf r.index.toNat r.sub.toNat).1 (moOf r.index.toNat r.sub.toNat).2).config.getLsbD 26 = false ∨ s.ownerCan = true))) ∧
    (∃ (s : State) (r : Req) (t : State) (x : ReplyTo), Granted s r 2 t x ∧ isMo r.index.toNat = true ∧ r.sub.toNat % 0x20 = 3 ∧ r.sub.toNat < 0x40
      ∧ r.value = 1 ∧ (s.msgObj (moOf r.index.toNat r.sub.toNat).1 (moOf r.index.toNat r.sub.toNat).2).transmits = true
      ∧ (s.msgObj (moOf r.index.toNat r.sub.toNat).1 (moOf r.index.toNat r.sub.toNat).2).pending = false
      ∧ (s.msgObj (moOf r.index.toNat r.sub.toNat).1 (moOf r.index.toNat r.sub.toNat).2).config.getLsbD 26 = true ∧ s.ownerCan = false) ∧
    (∃ (s : State) (r : Req) (t : State) (x : ReplyTo), Granted s r 2 t x ∧ isMo r.index.toNat = true ∧ r.sub.toNat % 0x20 = 3 ∧ r.sub.toNat < 0x40
      ∧ r.value ≠ 1 ∧ r.value ≠ 2) ∧
    (∃ (s : State) (j i b : Nat), homeMaster j = true ∧ isMo i = true ∧ b < 0x40 ∧ b % 0x20 = 3
      ∧ (s.msgObj (moOf i b).1 (moOf i b).2).transmits = true ∧ (s.msgObj (moOf i b).1 (moOf i b).2).pending = false
      ∧ (((s.msgObj (moOf i b).1 (moOf i b).2).config.getLsbD 26 = false ∨ s.ownerCan = true))) ∧
    (∃ (s : State) (r : Req) (t : State) (x : ReplyTo), Granted s r 2 t x ∧ isMo r.index.toNat = true ∧ r.sub.toNat % 0x20 = 3 ∧ r.sub.toNat < 0x40
      ∧ r.value = 2 ∧ (s.msgObj (moOf r.index.toNat r.sub.toNat).1 (moOf r.index.toNat r.sub.toNat).2).pending = true
      ∧ (s.msgObj (moOf r.index.toNat r.sub.toNat).1 (moOf r.index.toNat r.sub.toNat).2).transmitting = false) ∧
    (∃ (s : State) (r : Req) (t : State) (x : ReplyTo), Granted s r 2 t x ∧ isMo r.index.toNat = true ∧ r.sub.toNat % 0x20 = 3 ∧ r.sub.toNat < 0x40
      ∧ r.value = 2 ∧ (s.msgObj (moOf r.index.toNat r.sub.toNat).1 (moOf r.index.toNat r.sub.toNat).2).pending = true
      ∧ (s.msgObj (moOf r.index.toNat r.sub.toNat).1 (moOf r.index.toNat r.sub.toNat).2).transmitting = true) ∧
    (∃ (s : State) (j i b : Nat), homeMaster j = true ∧ isMo i = true ∧ b < 0x40 ∧ b % 0x20 = 3 ∧ (s.msgObj (moOf i b).1 (moOf i b).2).pending = true
      ∧ (s.msgObj (moOf i b).1 (moOf i b).2).transmitting = false) ∧
    (∃ (s : State) (c m : Nat), ((c = 1 ∨ c = 2)) ∧ s.canOnBus c = true ∧ (s.canCh c).mode = 1 ∧ s.attempting c = false ∧ s.firstRanking c = some m
      ∧ m ≠ 128) :=
  ⟨⟨{ act with can := { chan := [(1, { mode := 1, objects := [(4, { config := 0xC0000002, ident := 0x123, data := [(0, 0x11220000)] })] })] } },
    tagged 3 2 { index := 0x7842, sub := 3, data := [1] }, after ({ act with can := { chan := [(1, { mode := 1, objects := [(4, { config := 0xC0000002, ident := 0x123, data := [(0, 0x11220000)] })] })] } }) 3,
    replyFor ({ act with can := { chan := [(1, { mode := 1, objects := [(4, { config := 0xC0000002, ident := 0x123, data := [(0, 0x11220000)] })] })] } }) 3 2 { index := 0x7842, sub := 3, data := [1] },
    granted (by decide +kernel) rfl (by decide +kernel), by decide +kernel⟩,
   ⟨{ inMode .safe with can := { chan := [(1, { mode := 1, objects := [(4, { config := 0xC4000002, ident := 0x123, data := [(0, 0x11220000)] })] })] } },
     tagged 3 2 { index := 0x7842, sub := 3, data := [1] }, after ({ inMode .safe with can := { chan := [(1, { mode := 1, objects := [(4, { config := 0xC4000002, ident := 0x123, data := [(0, 0x11220000)] })] })] } }) 3,
     replyFor ({ inMode .safe with can := { chan := [(1, { mode := 1, objects := [(4, { config := 0xC4000002, ident := 0x123, data := [(0, 0x11220000)] })] })] } }) 3 2 { index := 0x7842, sub := 3, data := [1] },
     granted (by decide +kernel) rfl (by decide +kernel), by decide +kernel⟩,
   ⟨{ act with can := { chan := [(1, { mode := 1, objects := [(4, { config := 0xC0000002, ident := 0x123, data := [(0, 0x11220000)] })] })] } },
     tagged 3 2 { index := 0x7842, sub := 3, data := [3] }, after ({ act with can := { chan := [(1, { mode := 1, objects := [(4, { config := 0xC0000002, ident := 0x123, data := [(0, 0x11220000)] })] })] } }) 3,
     replyFor ({ act with can := { chan := [(1, { mode := 1, objects := [(4, { config := 0xC0000002, ident := 0x123, data := [(0, 0x11220000)] })] })] } }) 3 2 { index := 0x7842, sub := 3, data := [3] },
     granted (by decide +kernel) rfl (by decide +kernel), by decide +kernel⟩,
   ⟨{ act with can := { chan := [(1, { mode := 1, objects := [(4, { config := 0xC0000002, ident := 0x123, data := [(0, 0x11220000)] })] })] } }, 0,
     0x7842, 3, by decide +kernel⟩,
   ⟨{ act with can := { chan := [(1, { mode := 1, objects := [(4, { config := 0xC0000002, ident := 0x123, data := [(0, 0x11220000)], pending := true })] })] } },
     tagged 3 2 { index := 0x7842, sub := 3, data := [2] }, after ({ act with can := { chan := [(1, { mode := 1, objects := [(4, { config := 0xC0000002, ident := 0x123, data := [(0, 0x11220000)], pending := true })] })] } }) 3,
     replyFor ({ act with can := { chan := [(1, { mode := 1, objects := [(4, { config := 0xC0000002, ident := 0x123, data := [(0, 0x11220000)], pending := true })] })] } }) 3 2 { index := 0x7842, sub := 3, data := [2] },
     granted (by decide +kernel) rfl (by decide +kernel), by decide +kernel⟩,
   ⟨{ act with can := { chan := [(1, { mode := 1, objects := [(4, { config := 0xC0000002, ident := 0x123, data := [(0, 0x11220000)], pending := true, transmitting := true })] })] } },
     tagged 3 2 { index := 0x7842, sub := 3, data := [2] }, after ({ act with can := { chan := [(1, { mode := 1, objects := [(4, { config := 0xC0000002, ident := 0x123, data := [(0, 0x11220000)], pending := true, transmitting := true })] })] } }) 3,
     replyFor ({ act with can := { chan := [(1, { mode := 1, objects := [(4, { config := 0xC0000002, ident := 0x123, data := [(0, 0x11220000)], pending := true, transmitting := true })] })] } }) 3 2 { index := 0x7842, sub := 3, data := [2] },
     granted (by decide +kernel) rfl (by decide +kernel), by decide +kernel⟩,
   ⟨{ act with can := { chan := [(1, { mode := 1, objects := [(4, { config := 0xC0000002, ident := 0x123, data := [(0, 0x11220000)], pending := true })] })] } },
     0, 0x7842, 3, by decide +kernel⟩,
   ⟨{ act with can := { chan := [(1, { mode := 1, objects := [(4, { config := 0xC0000002, ident := 0x123, data := [(0, 0x11220000)], pending := true })] })] } },
     1, 4, by decide +kernel⟩⟩

/-- The hypotheses of CanObjectsTransmit are met. -/
theorem witness_canObjectsTransmit_2 :
    (∃ (s : State) (c : Nat), s.attempting c = true) ∧
    (∃ (s : State) (c m : Nat) (x : MsgObj), ((c = 1 ∨ c = 2)) ∧ s.canOnBus c = true ∧ (s.canCh c).mode = 1 ∧ (s.canCh c).sendingReply = false
      ∧ (s.canCh c).objects.find? (fun e => e.2.transmitting) = some (m, x)) ∧
    (∃ (s : State) (c m : Nat) (x : MsgObj), ((c = 1 ∨ c = 2)) ∧ s.canOnBus c = true ∧ (s.canCh c).mode = 1 ∧ (s.canCh c).sendingReply = false
      ∧ (s.canCh c).objects.find? (fun e => e.2.transmitting) = some (m, x) ∧ (s.msgObj c m).abortAsked = false
      ∧ (s.msgObj c m).config.getLsbD 25 = false ∧ s.ownerCan = true) ∧
    (∃ (s : State) (c m : Nat) (x : MsgObj), ((c = 1 ∨ c = 2)) ∧ s.canOnBus c = true ∧ (s.canCh c).mode = 1 ∧ (s.canCh c).sendingReply = false
      ∧ (s.canCh c).objects.find? (fun e => e.2.transmitting) = some (m, x) ∧ (((s.msgObj c m).abortAsked = true
      ∨ (s.msgObj c m).config.getLsbD 25 = true))) :=
  ⟨⟨{ act with can := { chan := [(1, { mode := 1, objects := [(4, { config := 0xC0000002, ident := 0x123, data := [(0, 0x11220000)], pending := true, transmitting := true })] })] } },
    1, by decide +kernel⟩,
   ⟨{ act with can := { chan := [(1, { mode := 1, objects := [(4, { config := 0xC0000002, ident := 0x123, data := [(0, 0x11220000)], pending := true, transmitting := true })] })] } },
     1, 4, { config := 0xC0000002, ident := 0x123, data := [(0, 0x11220000)], pending := true, transmitting := true }, by decide +kernel⟩,
   ⟨{ act with can := { chan := [(1, { mode := 1, objects := [(4, { config := 0xC0000002, ident := 0x123, data := [(0, 0x11220000)], pending := true, transmitting := true })] })] } },
     1, 4, { config := 0xC0000002, ident := 0x123, data := [(0, 0x11220000)], pending := true, transmitting := true }, by decide +kernel⟩,
   ⟨{ act with can := { chan := [(1, { mode := 1, objects := [(4, { config := 0xC2000002, ident := 0x123, data := [(0, 0x11220000)], pending := true, transmitting := true })] })] } },
     1, 4, { config := 0xC2000002, ident := 0x123, data := [(0, 0x11220000)], pending := true, transmitting := true }, by decide +kernel⟩⟩

/-- The hypotheses of CanErrorsAndModes are met. -/
theorem witness_canErrorsAndModes_1 :
    (∃ (s : State) (c : Nat) (v : Half), ((c = 1 ∨ c = 2)) ∧ s.canOnBus c = true ∧ (s.canCh c).mode = 1 ∧ 255 < v.toNat) ∧
    (∃ (s : State) (c : Nat) (v : Half), v.toNat ≤ 255) ∧
    (∃ (s : State) (r : Req) (t : State) (x : ReplyTo), Granted s r 2 t x ∧ r.sub = 0x0A ∧ ((r.index = 0x7810 ∨ r.index = 0x7811)) ∧ r.value = 1
      ∧ (s.canCh (r.index.toNat - 0x780F)).policy = 1 ∧ (s.canCh (r.index.toNat - 0x780F)).error = 2
      ∧ (s.canCh (r.index.toNat - 0x780F)).recovering = false) ∧
    (∃ (s : State) (r : Req) (t : State) (x : ReplyTo), Granted s r 2 t x ∧ r.sub = 0x0A ∧ ((r.index = 0x7810 ∨ r.index = 0x7811)) ∧ r.value = 1
      ∧ (s.canCh (r.index.toNat - 0x780F)).error ≠ 2) ∧
    (∃ (s : State) (c n : Nat), ((c = 1 ∨ c = 2)) ∧ (s.canCh c).error = 2 ∧ (s.canCh c).recovering = true ∧ s.fenced (0x47 + c) = false ∧ 128 ≤ n) ∧
    (∃ (s : State) (c n : Nat), n < 128) ∧
    (∃ (s : State) (c : Nat) (v w : Half), ((c = 1 ∨ c = 2)) ∧ s.canOnBus c = true ∧ (s.canCh c).mode = 1 ∧ (s.canCh c).error = 0 ∧ v.toNat ≤ 255
      ∧ ((127 < v.toNat ∨ 127 < w.toNat))) ∧
    (∃ (s : State) (c : Nat) (v w : Half), ((c = 1 ∨ c = 2)) ∧ s.canOnBus c = true ∧ (s.canCh c).mode = 1 ∧ (s.canCh c).error = 1 ∧ v.toNat ≤ 127
      ∧ w.toNat ≤ 127) :=
  ⟨⟨{ act with can := { chan := [(1, { mode := 1, tec := 250, objects := [(4, { config := 0xC0000002, ident := 0x123, data := [(0, 0x11220000)], pending := true })] })] } },
    1, 256, by decide +kernel⟩,
   ⟨{ act with can := { chan := [(1, { mode := 1, tec := 250 })] } }, 1, 255, by decide +kernel⟩,
   ⟨{ act with can := { chan := [(1, { mode := 1, policy := 1, error := 2 })] } }, tagged 4 2 { index := 0x7810, sub := 0x0A, data := [1] },
     after ({ act with can := { chan := [(1, { mode := 1, policy := 1, error := 2 })] } }) 4, replyFor ({ act with can := { chan := [(1, { mode := 1, policy := 1, error := 2 })] } }) 4 2 { index := 0x7810, sub := 0x0A, data := [1] },
     granted (by decide +kernel) rfl (by decide +kernel), by decide +kernel⟩,
   ⟨{ act with can := { chan := [(1, { mode := 1, policy := 1 })] } }, tagged 4 2 { index := 0x7810, sub := 0x0A, data := [1] },
     after ({ act with can := { chan := [(1, { mode := 1, policy := 1 })] } }) 4, replyFor ({ act with can := { chan := [(1, { mode := 1, policy := 1 })] } }) 4 2 { index := 0x7810, sub := 0x0A, data := [1] },
     granted (by decide +kernel) rfl (by decide +kernel), by decide +kernel⟩,
   ⟨{ act with can := { chan := [(1, { mode := 1, error := 2, recovering := true, tec := 256 })] } }, 1, 128, by decide +kernel⟩,
   ⟨{ act with can := { chan := [(1, { mode := 1, error := 2, recovering := true })] } }, 1, 127, by decide +kernel⟩,
   ⟨{ act with can := { chan := [(1, { mode := 1, tec := 120 })] } }, 1, 128, 0, by decide +kernel⟩,
   ⟨{ act with can := { chan := [(1, { mode := 1, tec := 128, error := 1 })] } }, 1, 127, 127, by decide +kernel⟩⟩

/-- The hypotheses of CanErrorsAndModes are met. -/
theorem witness_canErrorsAndModes_2 :
    (∃ (s : State) (r : Req) (t : State) (x : ReplyTo), Granted s r 2 t x ∧ r.sub = 1 ∧ ((r.index = 0x7810 ∨ r.index = 0x7811)) ∧ r.value ≤ 3) ∧
    (∃ (s : State) (r : Req) (t : State) (x : ReplyTo), Granted s r 2 t x ∧ r.sub = 1 ∧ ((r.index = 0x7810 ∨ r.index = 0x7811)) ∧ 3 < r.value) :=
  ⟨⟨act, tagged 3 2 { index := 0x7811, sub := 1, data := [3] }, after (act) 3, replyFor (act) 3 2 { index := 0x7811, sub := 1, data := [3] },
    granted (by decide +kernel) rfl (by decide +kernel), by decide +kernel⟩,
   ⟨act, tagged 3 2 { index := 0x7811, sub := 1, data := [4] }, after (act) 3, replyFor (act) 3 2 { index := 0x7811, sub := 1, data := [4] },
     granted (by decide +kernel) rfl (by decide +kernel), by decide +kernel⟩⟩

/-- The hypotheses of OutputsAreDrivenAndGuarded are met. -/
theorem witness_outputsAreDrivenAndGuarded_1 :
    (∃ (s : State) (g : Nat), ((g = 1 ∨ g = 2)) ∧ s.mode.inReset = false ∧ s.time.monoRun = true ∧ s.time.mono % 100000 = 0 ∧ s.gateOpen = false) ∧
    (∃ (s : State) (g : Nat) (b : ChannelDecl) (e : Sig), ((g = 1 ∨ g = 2)) ∧ s.mode.inReset = false ∧ s.time.monoRun = true
      ∧ s.time.mono % 100000 = 0 ∧ s.gateOpen = true
      ∧ (s.image.elim [] (fun i => i.channels.filter (fun b => (b.kind = 3 || b.kind = 5) && b.channel < 0x30 && groupOf b.channel = g))) = [b]
      ∧ b.kind = 3 ∧ (s.grp g).switchedOff = false ∧ (s.chan b.channel).overload = false ∧ (s.grp g).watchdogExpired = false
      ∧ s.fenced (0x4B + g) = false ∧ s.unitFenced b.unit = false ∧ s.mode.current ≠ .safe ∧ s.field.trim = none ∧ s.outputSignal b = some e) ∧
    (∃ (s : State) (g : Nat), s.time.mono % 100000 ≠ 0) ∧
    (∃ (s : State) (g : Nat), ((g = 1 ∨ g = 2)) ∧ (s.grp g).gateOpen = true ∧ (s.grp g).watchdogExpired = false
      ∧ (s.grp g).lastOwner + (s.grp g).limit.toNat * 1000000 ≤ s.time.now) ∧
    (∃ (s : State) (g : Nat), s.time.now < (s.grp g).lastOwner + (s.grp g).limit.toNat * 1000000) ∧
    (∃ (s : State) (c n : Nat) (l : Ns) (b : ChannelDecl), s.bound c [3] = some b ∧ (s.chan c).drivenOn = true ∧ ((2000 < n ∨ (600 < n
      ∧ 10000000 < l)))) ∧
    (∃ (s : State) (c n : Nat) (l : Ns), n ≤ 2000 ∧ ((n ≤ 600 ∨ l ≤ 10000000))) ∧
    (∃ (s : State) (c : Nat) (b : ChannelDecl), s.bound c [3] = some b ∧ (s.chan c).overload = true ∧ s.wantsOn b = true
      ∧ (s.grp (groupOf c)).switchedOff = false ∧ (s.chan c).overloadAt + 1000000000 ≤ s.time.now) :=
  ⟨⟨inMode .track |> fun y => { y with pair := { lowSince := none } }, 2, by decide +kernel⟩,
   ⟨{ act with sig := { entries := [(11, { attributes := 0x2000, unit := 20, producer := some 0, quality := 0, value := 1 })] } }, 2,
     { channel := 0x10, unit := 20, signal := some 11, kind := 3 }, { attributes := 0x2000, unit := 20, producer := some 0, quality := 0, value := 1 },
     by decide +kernel⟩,
   ⟨{ act with time := { act.time with mono := 1000000001 } }, 2, by decide +kernel⟩,
   ⟨{ act with field := { chans := [(0x10, { drivenOn := true })], groups := [(2, { gateOpen := true, lastOwner := 980000000 })] } }, 2,
     by decide +kernel⟩,
   ⟨{ act with field := { chans := [(0x10, { drivenOn := true })], groups := [(2, { gateOpen := true, lastOwner := 980000001 })] } }, 2,
     by decide +kernel⟩,
   ⟨{ act with field := { chans := [(0x10, { drivenOn := true })], groups := [(2, { gateOpen := true, storeReady := true })] } }, 0x10, 601, 10000001,
     { channel := 0x10, unit := 20, signal := some 11, kind := 3 }, by decide +kernel⟩,
   ⟨{ act with field := { chans := [(0x10, { drivenOn := true })], groups := [] } }, 0x10, 2000, 10000000, by decide +kernel⟩,
   ⟨{ act with field := { chans := [(0x10, { overload := true })], groups := [(2, { gateOpen := true })] }, sig := { entries := [(11, { attributes := 0x2000, unit := 20, producer := some 0, quality := 0, value := 1 })] } },
     0x10, { channel := 0x10, unit := 20, signal := some 11, kind := 3 }, by decide +kernel⟩⟩

/-- The hypotheses of OutputsAreDrivenAndGuarded are met. -/
theorem witness_outputsAreDrivenAndGuarded_2 :
    ∃ (s : State) (c : Nat) (a : Bool) (b : ChannelDecl), s.bound c [3] = some b ∧ s.samples = true ∧ (s.grp (groupOf c)).switchedOff = false
      ∧ (s.chan c).drivenAt + 1000000 ≤ s.time.mono :=
  ⟨{ act with field := { chans := [(0x10, { drivenOn := true, drivenAt := 999000000 })], groups := [] } }, 0x10, false, { channel := 0x10, unit := 20, signal := some 11, kind := 3 },
    by decide +kernel⟩

/-- The hypotheses of FieldSuppliesSag are met. -/
theorem witness_fieldSuppliesSag_1 :
    (∃ (s : State) (g n : Nat), ((g = 1 ∨ g = 2)) ∧ s.mode.inReset = false ∧ (s.grp g).undervolt = false ∧ 19200 ≤ n) ∧
    (∃ (s : State) (g n : Nat), ((g = 1 ∨ g = 2)) ∧ s.mode.inReset = false ∧ (s.grp g).undervolt = false ∧ n < 19200) ∧
    (∃ (s : State) (g n : Nat) (t : Ns), ((g = 1 ∨ g = 2)) ∧ s.mode.inReset = false ∧ (s.grp g).undervolt = true ∧ 19200 ≤ n
      ∧ (s.grp g).above19 = some t ∧ t + 100000000 ≤ s.time.now) ∧
    (∃ (s : State) (g n : Nat) (t : Ns), ((g = 1 ∨ g = 2)) ∧ s.mode.inReset = false ∧ (s.grp g).undervolt = true ∧ 19200 ≤ n
      ∧ (s.grp g).above19 = some t ∧ s.time.now < t + 100000000) ∧
    (∃ (s : State) (g : Nat) (t : Ns), ((g = 1 ∨ g = 2)) ∧ (s.grp g).below16 = some t ∧ t + 2000000 ≤ s.time.now ∧ (s.grp g).switchedOff = false) ∧
    (∃ (s : State) (g : Nat) (t : Ns), (s.grp g).below16 = some t ∧ s.time.now < t + 2000000) ∧
    (∃ (s : State) (g : Nat) (t : Ns), ((g = 1 ∨ g = 2)) ∧ (s.grp g).switchedOff = true ∧ (s.grp g).restoreReady = false ∧ (s.grp g).above19 = some t
      ∧ t + 100000000 ≤ s.time.now ∧ s.field.restorePolicy.getLsbD (g - 1) = false) ∧
    (∃ (s : State) (g : Nat) (t : Ns), ((g = 1 ∨ g = 2)) ∧ (s.grp g).switchedOff = true ∧ (s.grp g).restoreReady = false ∧ (s.grp g).above19 = some t
      ∧ t + 100000000 ≤ s.time.now ∧ s.field.restorePolicy.getLsbD (g - 1) = true) :=
  ⟨⟨act, 1, 19200, by decide +kernel⟩,
   ⟨act, 1, 15999, by decide +kernel⟩,
   ⟨{ act with field := { chans := [], groups := [(1, { undervolt := true, above19 := some 900000000 })] } }, 1, 19200, 900000000, by decide +kernel⟩,
   ⟨{ act with field := { chans := [], groups := [(1, { undervolt := true, above19 := some 900000001 })] } }, 1, 19200, 900000001, by decide +kernel⟩,
   ⟨{ act with field := { chans := [(0x10, { drivenOn := true })], groups := [(2, { undervolt := true, below16 := some 998000000 })] } }, 2,
     998000000, by decide +kernel⟩,
   ⟨{ act with field := { chans := [], groups := [(2, { undervolt := true, below16 := some 998000001 })] } }, 2, 998000001, by decide +kernel⟩,
   ⟨{ act with field := { chans := [], groups := [(2, { switchedOff := true, above19 := some 900000000 })] } }, 2, 900000000, by decide +kernel⟩,
   ⟨{ act with field := { chans := [], groups := [(2, { switchedOff := true, above19 := some 900000000 })], restorePolicy := 2 } }, 2, 900000000,
     by decide +kernel⟩⟩

/-- The hypotheses of FieldSuppliesSag are met. -/
theorem witness_fieldSuppliesSag_2 :
    (∃ (s : State) (r : Req) (t : State) (x : ReplyTo), Granted s r 2 t x ∧ r.sub = 2 ∧ ((r.index = 0x7901 ∨ r.index = 0x7902)) ∧ r.value = 1
      ∧ (s.grp (r.index.toNat - 0x7900)).restoreReady = true) ∧
    (∃ (s : State) (r : Req) (t : State) (x : ReplyTo), Granted s r 2 t x ∧ r.sub = 2 ∧ ((r.index = 0x7901 ∨ r.index = 0x7902)) ∧ r.value = 1
      ∧ (s.grp (r.index.toNat - 0x7900)).restoreReady = false) ∧
    (∃ (s : State) (g : Nat), ((g = 1 ∨ g = 2)) ∧ s.mode.inReset = false) :=
  ⟨⟨{ act with field := { chans := [], groups := [(2, { switchedOff := true, restoreReady := true })] } }, tagged 2 2 { index := 0x7902, sub := 2, data := [1] },
    after ({ act with field := { chans := [], groups := [(2, { switchedOff := true, restoreReady := true })] } }) 2,
    replyFor ({ act with field := { chans := [], groups := [(2, { switchedOff := true, restoreReady := true })] } }) 2 2 { index := 0x7902, sub := 2, data := [1] },
    granted (by decide +kernel) rfl (by decide +kernel), by decide +kernel⟩,
   ⟨{ act with field := { chans := [], groups := [(2, { switchedOff := true })] } }, tagged 2 2 { index := 0x7902, sub := 2, data := [1] },
     after ({ act with field := { chans := [], groups := [(2, { switchedOff := true })] } }) 2, replyFor ({ act with field := { chans := [], groups := [(2, { switchedOff := true })] } }) 2 2 { index := 0x7902, sub := 2, data := [1] },
     granted (by decide +kernel) rfl (by decide +kernel), by decide +kernel⟩,
   ⟨act, 1, by decide +kernel⟩⟩

/-- The hypotheses of FieldInputsAndHart are met. -/
theorem witness_fieldInputsAndHart_1 :
    (∃ (s : State) (c g tag : Nat) (a : Bool) (b : ChannelDecl), s.bound c [1, 2] = some b ∧ s.samples = true ∧ s.linkWrites = true
      ∧ (s.chan c).on ≠ a ∧ (s.chan c).wireBreak = false ∧ b.signal = some g ∧ s.sigDecl g = true) ∧
    (∃ (s : State) (c tag : Nat) (a : Bool), (s.chan c).on = a) ∧
    (∃ (s : State) (c g : Nat) (b : ChannelDecl), s.bound c [1, 2] = some b ∧ b.wireBreak = true ∧ s.samples = true ∧ s.linkWrites = true
      ∧ (s.grp (groupOf c)).switchedOff = false ∧ (s.chan c).wireBreak = false ∧ b.signal = some g ∧ s.sigDecl g = true) ∧
    (∃ (s : State) (c : Nat) (b : ChannelDecl), s.bound c [1, 2] = some b ∧ b.wireBreak = true ∧ s.samples = true
      ∧ (s.grp (groupOf c)).switchedOff = false ∧ (s.chan c).wireBreak = true) ∧
    (∃ (s : State) (g k : Nat) (l : List Int) (b : ChannelDecl), ((g = 1 ∨ g = 2)) ∧ s.samples = true ∧ l.length = 4 ∧ s.convertDue g = true ∧ k < 4
      ∧ s.bound (0x1C + 4 * g + k) [4] = some b ∧ b.filter = 0 ∧ (s.chan (0x1C + 4 * g + k)).trimZero = 0
      ∧ (s.chan (0x1C + 4 * g + k)).trimSpan = 0) ∧
    (∃ (s : State) (g : Nat) (l : List Int), ((l.length ≠ 4 ∨ s.convertDue g = false))) ∧
    (∃ (s : State) (g : Nat), s.field.convertBase.getLsbD (g - 1) = true ∧ (s.grp g).aligned = true ∧ s.time.mono < (s.grp g).nextStart) ∧
    (∃ (s : State) (c : Nat) (a : Int) (b : ChannelDecl), s.bound c [5] = some b ∧ s.samples = true ∧ (s.grp (groupOf c)).switchedOff = false
      ∧ 200 < (a - (s.chan c).commanded).natAbs ∧ (s.chan c).loopCompliance = false ∧ (s.chan c).drivenAt + 20000000 ≤ s.time.mono) :=
  ⟨⟨act, 0, 10, 1000000, true, { channel := 0x00, unit := 20, signal := some 10, kind := 1, capture := true, group := some 2, trigger := 1, wireBreak := true },
    by decide +kernel⟩,
   ⟨act, 0, 1, false, by decide +kernel⟩,
   ⟨act, 0, 10, { channel := 0x00, unit := 20, signal := some 10, kind := 1, capture := true, group := some 2, trigger := 1, wireBreak := true },
     by decide +kernel⟩,
   ⟨{ act with field := { chans := [(0, { wireBreak := true })], groups := [] } }, 0, { channel := 0x00, unit := 20, signal := some 10, kind := 1, capture := true, group := some 2, trigger := 1, wireBreak := true },
     by decide +kernel⟩,
   ⟨{ act with prog := { act.prog with image := some { img with channels := [{ channel := 0x20, unit := 20, signal := some 12, kind := 4, hart := true }] } }, field := { chans := [], groups := [] } },
     1, 0, [20501, 0, 0, 0], { channel := 0x20, unit := 20, signal := some 12, kind := 4, hart := true }, by decide +kernel⟩,
   ⟨act, 1, [1, 2, 3], by decide +kernel⟩,
   ⟨{ act with field := { chans := [], groups := [(1, { aligned := true, nextStart := 1000000001 })], convertBase := 1 } }, 1, by decide +kernel⟩,
   ⟨{ act with prog := { act.prog with image := some { img with channels := [{ channel := 0x28, unit := 20, signal := some 11, kind := 5 }] } }, field := { chans := [(0x28, { commanded := 4000, drivenAt := 980000000 })], groups := [] } },
     0x28, 4201, { channel := 0x28, unit := 20, signal := some 11, kind := 5 }, by decide +kernel⟩⟩

/-- The hypotheses of FieldInputsAndHart are met. -/
theorem witness_fieldInputsAndHart_2 :
    (∃ (s : State) (c : Nat) (a : Int), (a - (s.chan c).commanded).natAbs ≤ 200) ∧
    (∃ (s : State) (c : Nat) (a : Int) (b : ChannelDecl), s.bound c [5] = some b ∧ s.samples = true ∧ (s.grp (groupOf c)).switchedOff = false
      ∧ (a - (s.chan c).commanded).natAbs ≤ 200 ∧ (s.chan c).loopCompliance = true ∧ (s.chan c).drivenAt + 20000000 ≤ s.time.mono) ∧
    (∃ (s : State) (r : Req) (t : State) (x : ReplyTo), Granted s r 5 t x ∧ r.sub = 1 ∧ 0x7940 ≤ r.index.toNat ∧ r.index.toNat ≤ 0x794F ∧ r.select = 0
      ∧ r.offset = 0 ∧ State.writeLength r = true ∧ at_ r.bytes 0 1 = 0 ∧ at_ r.bytes 1 1 ≤ 63 ∧ s.hartOn (r.index.toNat - 0x7940) = true
      ∧ (s.hartOf (r.index.toNat - 0x7940)).result ≠ 1) ∧
    (∃ (s : State) (r : Req) (t : State) (x : ReplyTo), Granted s r 5 t x ∧ r.sub = 1 ∧ 0x7940 ≤ r.index.toNat ∧ r.index.toNat ≤ 0x794F ∧ r.select = 0
      ∧ r.offset = 0 ∧ State.writeLength r = true ∧ at_ r.bytes 0 1 = 0 ∧ at_ r.bytes 1 1 ≤ 63 ∧ (s.hartOf (r.index.toNat - 0x7940)).result = 1) ∧
    (∃ (s : State) (h : Nat) (r : HartResult), (s.hartOf h).result = 1 ∧ r.result = 2 ∧ s.fenced (0x4B + groupOf (h + 0x20)) = false
      ∧ (s.grp (groupOf (h + 0x20))).switchedOff = false ∧ 1 ≤ r.tries ∧ r.tries ≤ 3) ∧
    (∃ (s : State) (h : Nat) (r : HartResult), (s.hartOf h).result = 1 ∧ r.result = 3 ∧ 1 ≤ r.tries ∧ r.tries ≤ 3) ∧
    (∃ (s : State) (h : Nat) (l : List Byte), s.hartOn h = true ∧ s.samples = true) :=
  ⟨⟨{ act with prog := { act.prog with image := some { img with channels := [{ channel := 0x28, unit := 20, signal := some 11, kind := 5 }] } }, field := { chans := [(0x28, { commanded := 4000 })], groups := [] } },
    0x28, 4200, by decide +kernel⟩,
   ⟨{ act with prog := { act.prog with image := some { img with channels := [{ channel := 0x28, unit := 20, signal := some 11, kind := 5 }] } }, field := { chans := [(0x28, { commanded := 4000, drivenAt := 980000000, loopCompliance := true })], groups := [] } },
     0x28, 4200, { channel := 0x28, unit := 20, signal := some 11, kind := 5 }, by decide +kernel⟩,
   ⟨{ act with prog := { act.prog with image := some { img with channels := [{ channel := 0x20, unit := 20, signal := some 12, kind := 4, hart := true }] } }, field := { chans := [], groups := [], harts := [(0, {  })] } },
     tagged 4 5 { index := 0x7940, sub := 1, data := be 8 0 ++ [0, 5, 0, 0, 0, 0, 3, 0] },
     after ({ act with prog := { act.prog with image := some { img with channels := [{ channel := 0x20, unit := 20, signal := some 12, kind := 4, hart := true }] } }, field := { chans := [], groups := [], harts := [(0, {  })] } }) 4,
     replyFor ({ act with prog := { act.prog with image := some { img with channels := [{ channel := 0x20, unit := 20, signal := some 12, kind := 4, hart := true }] } }, field := { chans := [], groups := [], harts := [(0, {  })] } }) 4 5 { index := 0x7940, sub := 1, data := be 8 0 ++ [0, 5, 0, 0, 0, 0, 3, 0] },
     granted (by decide +kernel) rfl (by decide +kernel), by decide +kernel⟩,
   ⟨{ act with prog := { act.prog with image := some { img with channels := [{ channel := 0x20, unit := 20, signal := some 12, kind := 4, hart := true }] } }, field := { chans := [], groups := [], harts := [(0, { result := 1 })] } },
     tagged 4 5 { index := 0x7940, sub := 1, data := be 8 0 ++ [0, 5, 0, 0, 0, 0, 3, 0] },
     after ({ act with prog := { act.prog with image := some { img with channels := [{ channel := 0x20, unit := 20, signal := some 12, kind := 4, hart := true }] } }, field := { chans := [], groups := [], harts := [(0, { result := 1 })] } }) 4,
     replyFor ({ act with prog := { act.prog with image := some { img with channels := [{ channel := 0x20, unit := 20, signal := some 12, kind := 4, hart := true }] } }, field := { chans := [], groups := [], harts := [(0, { result := 1 })] } }) 4 5 { index := 0x7940, sub := 1, data := be 8 0 ++ [0, 5, 0, 0, 0, 0, 3, 0] },
     granted (by decide +kernel) rfl (by decide +kernel), by decide +kernel⟩,
   ⟨{ act with prog := { act.prog with image := some { img with channels := [{ channel := 0x20, unit := 20, signal := some 12, kind := 4, hart := true }] } }, field := { chans := [], groups := [], harts := [(0, { result := 1 })] } },
     0, { result := 2, tries := 3, data := [7] }, by decide +kernel⟩,
   ⟨{ act with prog := { act.prog with image := some { img with channels := [{ channel := 0x20, unit := 20, signal := some 12, kind := 4, hart := true }] } }, field := { chans := [], groups := [], harts := [(0, { result := 1 })] } },
     0, { result := 3, tries := 3 }, by decide +kernel⟩,
   ⟨{ act with prog := { act.prog with image := some { img with channels := [{ channel := 0x20, unit := 20, signal := some 12, kind := 4, hart := true }] } }, field := { chans := [], groups := [], harts := [(0, {  })] } },
     0, [1], by decide +kernel⟩⟩

/-- The hypotheses of AnalogChannelsAreTrimmed are met. -/
theorem witness_analogChannelsAreTrimmed_1 :
    (∃ (s : State) (r : Req) (t : State) (x : ReplyTo), Granted s r 2 t x ∧ r.index = 0x7903 ∧ r.sub = 0 ∧ 0x20 ≤ r.value % 64 ∧ ((r.value % 64 < 0x28
      ∨ (r.value % 64 < 0x30 ∧ s.pair.ownSelf = true))) ∧ ((r.value = r.value % 64 ∨ r.value = r.value % 64 + 256)) ∧ s.field.trim = none
      ∧ s.inService = true) ∧
    (∃ (s : State) (r : Req) (t : State) (x : ReplyTo), Granted s r 2 t x ∧ r.index = 0x7903 ∧ r.sub = 0 ∧ 0x20 ≤ r.value ∧ r.value < 0x30
      ∧ s.field.trim = none ∧ s.inService = false) ∧
    (∃ (s : State) (r : Req) (t : State) (x : ReplyTo) (m : Trim) (y : Chan), Granted s r 2 t x ∧ r.index = 0x7903 ∧ r.sub = 1 ∧ s.field.trim = some m
      ∧ (sgn (BitVec.ofNat 32 r.value)).natAbs ≤ 1000 ∧ s.stepped m (sgn (BitVec.ofNat 32 r.value)) = some y) ∧
    (∃ (s : State) (r : Req) (t : State) (x : ReplyTo) (m : Trim), Granted s r 2 t x ∧ r.index = 0x7903 ∧ r.sub = 1 ∧ s.field.trim = some m
      ∧ ((1000 < (sgn (BitVec.ofNat 32 r.value)).natAbs ∨ s.stepped m (sgn (BitVec.ofNat 32 r.value)) = none))) ∧
    (∃ (s : State) (t : Trim) (y : Chan) (p : Bool), s.keysAct = some t ∧ s.stepped t (if p = true then 1 else -1) = some y) ∧
    (∃ (s : State) (p : Bool), s.keysAct = none) ∧
    (∃ (s : State) (t : Trim) (y : Chan) (p : Bool) (n : Ns), 1000000000 < n ∧ s.keysAct = some t
      ∧ s.stepped t (if p = true then 1 else -1) = some y) ∧
    (∃ (s : State) (p : Bool) (n : Ns), n ≤ 1000000000) :=
  ⟨⟨inMode .service, tagged 4 2 { index := 0x7903, data := be 4 0x127 }, after (inMode .service) 4, replyFor (inMode .service) 4 2 { index := 0x7903, data := be 4 0x127 },
    granted (by decide +kernel) rfl (by decide +kernel), by decide +kernel⟩,
   ⟨act, tagged 4 2 { index := 0x7903, data := be 4 0x20 }, after (act) 4, replyFor (act) 4 2 { index := 0x7903, data := be 4 0x20 },
     granted (by decide +kernel) rfl (by decide +kernel), by decide +kernel⟩,
   ⟨{ inMode .service with prog := { act.prog with image := some { img with channels := [{ channel := 0x20, unit := 20, signal := some 12, kind := 4, hart := true }] } }, field := { chans := [(0x20, { trimZero := 1000, trimSpan := 3 })], groups := [], trim := some { channel := 0x20, span := false, steps := 2, zero := 100, spanBefore := 3, session := 4, last := 1000000000 } } },
     tagged 4 2 { index := 0x7903, sub := 1, data := be 4 0xFFFFFFFF },
     after ({ inMode .service with prog := { act.prog with image := some { img with channels := [{ channel := 0x20, unit := 20, signal := some 12, kind := 4, hart := true }] } }, field := { chans := [(0x20, { trimZero := 1000, trimSpan := 3 })], groups := [], trim := some { channel := 0x20, span := false, steps := 2, zero := 100, spanBefore := 3, session := 4, last := 1000000000 } } }) 4,
     replyFor ({ inMode .service with prog := { act.prog with image := some { img with channels := [{ channel := 0x20, unit := 20, signal := some 12, kind := 4, hart := true }] } }, field := { chans := [(0x20, { trimZero := 1000, trimSpan := 3 })], groups := [], trim := some { channel := 0x20, span := false, steps := 2, zero := 100, spanBefore := 3, session := 4, last := 1000000000 } } }) 4 2 { index := 0x7903, sub := 1, data := be 4 0xFFFFFFFF },
     { channel := 0x20, span := false, steps := 2, zero := 100, spanBefore := 3, session := 4, last := 1000000000 }, { trimZero := 500, trimSpan := 3 },
     granted (by decide +kernel) rfl (by decide +kernel), by decide +kernel⟩,
   ⟨{ inMode .service with prog := { act.prog with image := some { img with channels := [{ channel := 0x20, unit := 20, signal := some 12, kind := 4, hart := true }] } }, field := { chans := [(0x20, { trimZero := 1000, trimSpan := 3 })], groups := [], trim := some { channel := 0x20, span := false, steps := 2, zero := 100, spanBefore := 3, session := 4, last := 1000000000 } } },
     tagged 4 2 { index := 0x7903, sub := 1, data := be 4 1001 },
     after ({ inMode .service with prog := { act.prog with image := some { img with channels := [{ channel := 0x20, unit := 20, signal := some 12, kind := 4, hart := true }] } }, field := { chans := [(0x20, { trimZero := 1000, trimSpan := 3 })], groups := [], trim := some { channel := 0x20, span := false, steps := 2, zero := 100, spanBefore := 3, session := 4, last := 1000000000 } } }) 4,
     replyFor ({ inMode .service with prog := { act.prog with image := some { img with channels := [{ channel := 0x20, unit := 20, signal := some 12, kind := 4, hart := true }] } }, field := { chans := [(0x20, { trimZero := 1000, trimSpan := 3 })], groups := [], trim := some { channel := 0x20, span := false, steps := 2, zero := 100, spanBefore := 3, session := 4, last := 1000000000 } } }) 4 2 { index := 0x7903, sub := 1, data := be 4 1001 },
     { channel := 0x20, span := false, steps := 2, zero := 100, spanBefore := 3, session := 4, last := 1000000000 },
     granted (by decide +kernel) rfl (by decide +kernel), by decide +kernel⟩,
   ⟨{ inMode .service with prog := { act.prog with image := some { img with channels := [{ channel := 0x20, unit := 20, signal := some 12, kind := 4, hart := true }] } }, field := { chans := [(0x20, { trimZero := 1000, trimSpan := 3 })], groups := [], trim := some { channel := 0x20, span := false, steps := 2, zero := 100, spanBefore := 3, session := 4, last := 1000000000 } }, sess := { act.sess with presenceUntil := some 2000000000 } },
     { channel := 0x20, span := false, steps := 2, zero := 100, spanBefore := 3, session := 4, last := 1000000000 }, { trimZero := 1500, trimSpan := 3 },
     true, by decide +kernel⟩,
   ⟨act, true, by decide +kernel⟩,
   ⟨{ inMode .service with prog := { act.prog with image := some { img with channels := [{ channel := 0x20, unit := 20, signal := some 12, kind := 4, hart := true }] } }, field := { chans := [(0x20, { trimZero := 1000, trimSpan := 3 })], groups := [], trim := some { channel := 0x20, span := false, steps := 2, zero := 100, spanBefore := 3, session := 4, last := 1000000000 } }, sess := { act.sess with presenceUntil := some 2000000000 } },
     { channel := 0x20, span := false, steps := 2, zero := 100, spanBefore := 3, session := 4, last := 1000000000 }, { trimZero := 500, trimSpan := 3 },
     false, 1000000001, by decide +kernel⟩,
   ⟨{ inMode .service with prog := { act.prog with image := some { img with channels := [{ channel := 0x20, unit := 20, signal := some 12, kind := 4, hart := true }] } }, field := { chans := [(0x20, { trimZero := 1000, trimSpan := 3 })], groups := [], trim := some { channel := 0x20, span := false, steps := 2, zero := 100, spanBefore := 3, session := 4, last := 1000000000 } }, sess := { act.sess with presenceUntil := some 2000000000 } },
     false, 1000000000, by decide +kernel⟩⟩

/-- The hypotheses of AnalogChannelsAreTrimmed are met. -/
theorem witness_analogChannelsAreTrimmed_2 :
    (∃ (s : State) (r : Req) (t : State) (x : ReplyTo) (m : Trim), Granted s r 2 t x ∧ r.index = 0x7903 ∧ r.sub = 2 ∧ r.value = 1
      ∧ s.field.trim = some m) ∧
    (∃ (s : State) (m : Trim), s.keysAct = some m) ∧
    (∃ (s : State) (r : Req) (t : State) (x : ReplyTo) (m : Trim), Granted s r 2 t x ∧ r.index = 0x7903 ∧ r.sub = 2 ∧ r.value = 2
      ∧ s.field.trim = some m) ∧
    (∃ (s : State) (r : Req) (t : State) (x : ReplyTo), Granted s r 2 t x ∧ r.index = 0x7903 ∧ r.sub = 2 ∧ r.value = 2 ∧ s.field.trim = none) ∧
    (∃ (s : State) (m : Trim), s.field.trim = some m ∧ m.last + 900000000000 ≤ s.time.now) ∧
    (∃ (s : State) (m : Trim), s.field.trim = some m ∧ s.time.now < m.last + 900000000000) :=
  ⟨⟨{ inMode .service with prog := { act.prog with image := some { img with channels := [{ channel := 0x20, unit := 20, signal := some 12, kind := 4, hart := true }] } }, field := { chans := [(0x20, { trimZero := 1000, trimSpan := 3 })], groups := [], trim := some { channel := 0x20, span := false, steps := 2, zero := 100, spanBefore := 3, session := 4, last := 1000000000 } } },
    tagged 4 2 { index := 0x7903, sub := 2, data := [1] },
    after ({ inMode .service with prog := { act.prog with image := some { img with channels := [{ channel := 0x20, unit := 20, signal := some 12, kind := 4, hart := true }] } }, field := { chans := [(0x20, { trimZero := 1000, trimSpan := 3 })], groups := [], trim := some { channel := 0x20, span := false, steps := 2, zero := 100, spanBefore := 3, session := 4, last := 1000000000 } } }) 4,
    replyFor ({ inMode .service with prog := { act.prog with image := some { img with channels := [{ channel := 0x20, unit := 20, signal := some 12, kind := 4, hart := true }] } }, field := { chans := [(0x20, { trimZero := 1000, trimSpan := 3 })], groups := [], trim := some { channel := 0x20, span := false, steps := 2, zero := 100, spanBefore := 3, session := 4, last := 1000000000 } } }) 4 2 { index := 0x7903, sub := 2, data := [1] },
    { channel := 0x20, span := false, steps := 2, zero := 100, spanBefore := 3, session := 4, last := 1000000000 },
    granted (by decide +kernel) rfl (by decide +kernel), by decide +kernel⟩,
   ⟨{ inMode .service with prog := { act.prog with image := some { img with channels := [{ channel := 0x20, unit := 20, signal := some 12, kind := 4, hart := true }] } }, field := { chans := [(0x20, { trimZero := 1000, trimSpan := 3 })], groups := [], trim := some { channel := 0x20, span := false, steps := 2, zero := 100, spanBefore := 3, session := 4, last := 1000000000 } }, sess := { act.sess with presenceUntil := some 2000000000 } },
     { channel := 0x20, span := false, steps := 2, zero := 100, spanBefore := 3, session := 4, last := 1000000000 }, by decide +kernel⟩,
   ⟨{ inMode .service with prog := { act.prog with image := some { img with channels := [{ channel := 0x20, unit := 20, signal := some 12, kind := 4, hart := true }] } }, field := { chans := [(0x20, { trimZero := 1000, trimSpan := 3 })], groups := [], trim := some { channel := 0x20, span := false, steps := 2, zero := 100, spanBefore := 3, session := 4, last := 1000000000 } } },
     tagged 4 2 { index := 0x7903, sub := 2, data := [2] },
     after ({ inMode .service with prog := { act.prog with image := some { img with channels := [{ channel := 0x20, unit := 20, signal := some 12, kind := 4, hart := true }] } }, field := { chans := [(0x20, { trimZero := 1000, trimSpan := 3 })], groups := [], trim := some { channel := 0x20, span := false, steps := 2, zero := 100, spanBefore := 3, session := 4, last := 1000000000 } } }) 4,
     replyFor ({ inMode .service with prog := { act.prog with image := some { img with channels := [{ channel := 0x20, unit := 20, signal := some 12, kind := 4, hart := true }] } }, field := { chans := [(0x20, { trimZero := 1000, trimSpan := 3 })], groups := [], trim := some { channel := 0x20, span := false, steps := 2, zero := 100, spanBefore := 3, session := 4, last := 1000000000 } } }) 4 2 { index := 0x7903, sub := 2, data := [2] },
     { channel := 0x20, span := false, steps := 2, zero := 100, spanBefore := 3, session := 4, last := 1000000000 },
     granted (by decide +kernel) rfl (by decide +kernel), by decide +kernel⟩,
   ⟨inMode .service, tagged 4 2 { index := 0x7903, sub := 2, data := [2] }, after (inMode .service) 4,
     replyFor (inMode .service) 4 2 { index := 0x7903, sub := 2, data := [2] }, granted (by decide +kernel) rfl (by decide +kernel),
     by decide +kernel⟩,
   ⟨{ inMode .service with prog := { act.prog with image := some { img with channels := [{ channel := 0x20, unit := 20, signal := some 12, kind := 4, hart := true }] } }, field := { chans := [(0x20, { trimZero := 1000, trimSpan := 3 })], groups := [], trim := some { channel := 0x20, span := false, steps := 2, zero := 100, spanBefore := 3, session := 4, last := 0 } }, time := { act.time with now := 900000000000 } },
     { channel := 0x20, span := false, steps := 2, zero := 100, spanBefore := 3, session := 4, last := 0 }, by decide +kernel⟩,
   ⟨{ inMode .service with prog := { act.prog with image := some { img with channels := [{ channel := 0x20, unit := 20, signal := some 12, kind := 4, hart := true }] } }, field := { chans := [(0x20, { trimZero := 1000, trimSpan := 3 })], groups := [], trim := some { channel := 0x20, span := false, steps := 2, zero := 100, spanBefore := 3, session := 4, last := 101000000000 } } },
     { channel := 0x20, span := false, steps := 2, zero := 100, spanBefore := 3, session := 4, last := 101000000000 }, by decide +kernel⟩⟩

/-- The hypotheses of StepTakesTheFrontCommand are met. -/
theorem witness_stepTakesTheFrontCommand :
    ∃ (s : State) (c : Instr) (rest : List Instr), s.pending = c :: rest :=
  ⟨{ act with pending := [.aliveToggle] }, .aliveToggle, [], rfl⟩

/-- The hypotheses of TheQueueIsFirstInFirstOut are met. -/
theorem witness_theQueueIsFirstInFirstOut :
    ∃ (s t : State) (c : Instr) (rest : List Instr), s.pending = c :: rest ∧ step s = .next t :=
  ⟨{ act with pending := [.idcode, .bypass] }, _, .idcode, [.bypass], rfl, rfl⟩

/-- The hypotheses of AnEmptyQueueLetsTimePass are met. -/
theorem witness_anEmptyQueueLetsTimePass :
    ∃ s : State, s.pending = [] ∧ s.time.monoRun = true ∧ s.tracks = false :=
  ⟨act, rfl, rfl, by decide +kernel⟩

/-- The hypotheses of EveryStepKeepsTheMemoryForm are met. -/
theorem witness_everyStepKeepsTheMemoryForm :
    ∃ s t : State, MemoryForm s ∧ s.mem ≠ [] ∧ step s = .next t :=
  ⟨{ act with mem := [(0x41000000, 7)], pending := [.idcode] }, _, by unfold MemoryForm; decide +kernel, by decide +kernel, rfl⟩

/-- The hypotheses of TheLifeCycleMovesOnlyForward are met. -/
theorem witness_theLifeCycleMovesOnlyForward :
    ∃ s t : State, LifeForm s ∧ s.mode.lifePending = some .retired ∧ step s = .next t :=
  ⟨{ inMode .cold with mode := { (inMode .cold).mode with lifePending := some .retired }, pending := [.idcode] }, _, by intro l h; cases h; decide, rfl, rfl⟩

/-- The hypotheses of TheMonotonicClockNeverStepsBack are met. -/
theorem witness_theMonotonicClockNeverStepsBack :
    ∃ s t : State, s.time.monoRun = true ∧ step s = .next t :=
  ⟨{ act with pending := [.idcode] }, _, rfl, rfl⟩

/-- The hypotheses of CountersAreConsumed are met. -/
theorem witness_countersAreConsumed :
    (∃ (s : State) (r : Req) (op : Nat) (ses : Session) (a : Auth), ReachesCheck8 s r op ses a ∧ ses.counter.toNat < a.counter.toNat) ∧
    (∃ (s : State) (r : Req) (op : Nat) (ses : Session) (a : Auth), ReachesCheck8 s r op ses a ∧ a.counter.toNat ≤ ses.counter.toNat) :=
  ⟨⟨act, wr 5 0x2101 0 (be 8 0), 2, sessions.getD 4 { number := 0, role := 0, port := 0, scope := 0 }, ⟨5, 1, 5, 5, false, 0, 0, false⟩,
    reaches (by decide +kernel), by decide +kernel⟩,
   ⟨act, tagged 5 2 { index := 0x2101, data := be 8 0 } 0, 2, sessions.getD 4 { number := 0, role := 0, port := 0, scope := 0 }, ⟨5, 0, 5, 5, false,
     0, 0, false⟩, reaches (by decide +kernel), by decide +kernel⟩⟩

/-- The hypotheses of RefusedRequestsHaveNoEffect are met. -/
theorem witness_refusedRequestsHaveNoEffect :
    (∃ (s t : State) (r : Req) (op : Nat), s.judge r op = .over t) ∧
    (∃ range busy conflict : Bool, (range || busy || conflict) = true) :=
  ⟨⟨act, _, { index := 0x2001, length := 4, data := be 4 1 }, 2, rfl⟩,
   ⟨true, false, false, rfl⟩⟩

/-- The hypotheses of TheDecidingRegionJudges are met. -/
theorem witness_theDecidingRegionJudges :
    (∃ (s : State) (x : Access) (r : Nat), (mapEntry x.address).isSome = true ∧ lockedTo x.master x.address = false ∧ Region s x.master r x.address
      ∧ (∀ j, Region s x.master j x.address → j ≠ r → regionRank s x.master j < regionRank s x.master r
      ∨ (regionRank s x.master j = regionRank s x.master r ∧ r < j))) ∧
    (∃ (s : State) (x : Access), (mapEntry x.address).isSome = true ∧ lockedTo x.master x.address = false ∧ (∀ j, ¬Region s x.master j x.address)) :=
  ⟨⟨twoRegions, { master := 0, kind := 1, address := 0x41000000, privileged := true }, 3, by decide +kernel, by decide +kernel, by unfold Region; decide +kernel, by intro j ⟨h, m⟩; revert j; decide +kernel⟩,
   ⟨act, { master := 0, kind := 1, address := 0x41000000, privileged := true }, by decide +kernel, by decide +kernel, by intro j ⟨h, m⟩; revert j; decide +kernel⟩⟩

/-- The hypotheses of TheEffectiveValue are met. -/
theorem witness_theEffectiveValue :
    ∃ i k : Nat, i < 256 ∧ k < 256 :=
  ⟨0, 0, by decide, by decide⟩

/-- The hypotheses of PassRepresentationsDecode are met. -/
theorem witness_passRepresentationsDecode :
    (∃ (p t : Nat) (v : Word), p < 3 ∧ t < 4 ∧ (t = 0 → v.toNat ≤ 1) ∧ (t = 3 → normReal v = v)) ∧
    (∃ (t k : Nat), (t = 1 ∨ t = 2) ∧ k < 64) :=
  ⟨⟨2, 3, 0x3F800000, by decide, by decide, by decide, by decide⟩,
   ⟨1, 63, Or.inl rfl, by decide⟩⟩

/-- The hypotheses of FramesOfTheServiceParts are met. -/
theorem witness_framesOfTheServiceParts :
    ∃ (c : Instr) (s t : State), exec c s = .next t :=
  ⟨.idcode, act, _, rfl⟩

/-- The hypotheses of FramesOfTheControlParts are met. -/
theorem witness_framesOfTheControlParts :
    ∃ (c : Instr) (s t : State), exec c s = .next t :=
  ⟨.idcode, act, _, rfl⟩

/-- The hypotheses of FramesOfTheSignalParts are met. -/
theorem witness_framesOfTheSignalParts :
    ∃ (c : Instr) (s t : State), exec c s = .next t :=
  ⟨.idcode, act, _, rfl⟩

end Sys2Proof.Tests
end

section
/-! PROOF. A request that reaches check 8 consumes its counter or is refused with REPLAYED (R82, R108, Table 3.7). -/
namespace Sys2Proof.Machine
namespace State

/-! ## What the session table holds after check 8 and after a reply -/

/-- Check 8 changes the sessions of its number only, in place (R82). -/
theorem consume_sessionOf (s : State) (n m : Word) (c : DWord) : (s.consume n c).sessionOf m
    = (s.sessionOf m).map (fun x => if x.number = n then { x with counter := c, lastReq := s.time.mono } else x) := by
  have hnum : ∀ x : Session,
      (if x.number = n then { x with counter := c, lastReq := s.time.mono } else x).number = x.number := by
    intro x; split <;> rfl
  simp only [sessionOf, consume, List.find?_map, Function.comp_def, hnum]

/-- An open session whose counter check 8 consumes holds that counter (R82). -/
theorem consume_sessionOf_counter {s : State} {n : Word} {ses : Session} (h : s.sessionOf n = some ses) (c : DWord) :
    ((s.consume n c).sessionOf n).map (·.counter) = some c := by
  have hn : ses.number = n := by simpa using List.find?_some h
  simp [consume_sessionOf, h, hn]

/-- A session that has ended is open no longer (R111). -/
theorem endSession_sessionOf (s : State) (n : Word) : (s.endSession n).sessionOf n = none := by
  unfold endSession
  split
  next hclosed => exact Option.isNone_iff_eq_none.mp hclosed
  next => simp [sessionOf]

/-- A reply to a request that has not used the last counter leaves every session as it is (R108). -/
theorem answer_sessionOf_of_not_last {s : State} {x : ReplyTo} (h : x.auth.elim false (·.last) = false) (status : Nat) (data : List Byte)
    (sub : Byte) (n : Word) : (s.answer x status data sub).sessionOf n = s.sessionOf n := by
  have hsess : (s.answer x status data sub).sess = s.sess := by simp [answer, h]
  simp only [sessionOf, hsess]

/-- The reply to the request of the last counter ends its session (R108). -/
theorem answer_sessionOf_of_last {s : State} {x : ReplyTo} (h : x.auth.elim false (·.last) = true) (status : Nat) (data : List Byte)
    (sub : Byte) : (s.answer x status data sub).sessionOf x.session = none := by
  simp only [answer, h, if_true, endSession_sessionOf]

/-! ## Checks 7 and 8 -/

/-- A request that check 7 passes names an open session, and its reply is tagged with what it authenticates (R77, R106). -/
theorem authOf_ok {s : State} {r : Req} {op : Nat} {ses : Session} {a : Auth} (h : s.authOf r op = .ok (ses, a)) :
    s.sessionOf a.session = some ses ∧ (s.replyTo r op).auth = some a := by
  unfold authOf at h
  split at h
  next => cases h
  next t ht =>
    split at h
    next => cases h
    next hs =>
      split at h
      next => cases h; exact ⟨hs, by simp [replyTo, ht, hs]⟩
      next => cases h

/-- Check 8 onwards: a counter that is not above the session's is refused; any other is consumed before checks 9 to 13 judge (Table 3.7). -/
theorem judge_of_reachesCheck8 {s : State} {r : Req} {op : Nat} {ses : Session} {a : Auth} (h : ReachesCheck8 s r op ses a) :
    s.judge r op =
      if a.counter.toNat ≤ ses.counter.toNat then .over (s.answer (s.replyTo r op) 0x0B)
      else (s.lateFault (some ses.role) (some ses.scope) r op).elim
        (.passed (s.consume a.session a.counter) (accepted (s.replyTo r op) a.counter))
        (fun st => .over ((s.consume a.session a.counter).answer (accepted (s.replyTo r op) a.counter) st []
          (s.lateSub (some ses.scope) r op st))) := by
  obtain ⟨⟨hhears, hfits, hframe⟩, hvendor, ⟨hobj, hsub⟩, haccess, htype, hneeded, htag⟩ := h
  have hvendor' : ¬ (0xF000 ≤ r.index.toNat ∧ s.vendorAllowed = false) := by
    intro hc; simp [hvendor hc.1] at hc
  cases hlate : s.lateFault (some ses.role) (some ses.scope) r op <;>
    simp [judge, hhears, hfits, hframe, hvendor', hobj, hsub, haccess, htype, hneeded, htag, hlate]

/-- A refusal after check 8 leaves the counter consumed, or the session ended when the counter was the last (R82, R108). -/
theorem answer_accepted_consume {s : State} {x : ReplyTo} {a : Auth} {ses : Session} (hx : x.auth = some a)
    (hs : s.sessionOf a.session = some ses) (status : Nat) (data : List Byte) (sub : Byte) :
    (a.counter ≠ 0xFFFFFFFFFFFFFFFF → (((s.consume a.session a.counter).answer (accepted x a.counter) status data sub).sessionOf
      a.session).map (·.counter) = some a.counter) ∧
    (a.counter = 0xFFFFFFFFFFFFFFFF → ((s.consume a.session a.counter).answer (accepted x a.counter) status data sub).sessionOf
      a.session = none) := by
  have hlast : (accepted x a.counter).auth.elim false (·.last) = decide (a.counter = 0xFFFFFFFFFFFFFFFF) := by simp [accepted, hx]
  have hsession : (accepted x a.counter).session = a.session := by simp [accepted, ReplyTo.session, hx]
  constructor
  · intro hc
    rw [answer_sessionOf_of_not_last (hlast.trans (decide_eq_false hc))]
    exact consume_sessionOf_counter hs a.counter
  · intro hc
    rw [← hsession]
    exact answer_sessionOf_of_last (hlast.trans (decide_eq_true hc)) status data sub

end State

/-- Settles O53: check 8 consumes the counter before checks 9 to 13 judge, and only the reply to the last counter ends the session. -/
theorem countersAreConsumed : Obligations.CountersAreConsumed := by
  unfold Obligations.CountersAreConsumed
  constructor
  · intro s r op ses a h hlt
    obtain ⟨hs, hx⟩ := State.authOf_ok h.tag
    have hj := State.judge_of_reachesCheck8 h
    rw [if_neg (Nat.not_le.mpr hlt)] at hj
    cases hlate : s.lateFault (some ses.role) (some ses.scope) r op with
    | none =>
      rw [hlate] at hj
      exact .inl ⟨_, _, hj, State.consume_sessionOf_counter hs a.counter⟩
    | some st =>
      rw [hlate] at hj
      exact .inr ⟨_, hj, State.answer_accepted_consume hx hs st [] _⟩
  · intro s r op ses a h hle
    rw [State.judge_of_reachesCheck8 h, if_pos hle]

end Sys2Proof.Machine
end

section
/-! PROOF. The effective value of a signal and what its value object reads as (R147, R148). -/
namespace Sys2Proof.Machine

/-! ## The three branches of R147 -/

/-- First of the order: a force decides, substituted or not. -/
@[simp] theorem Sig.effective_of_forced {g : Sig} (h : g.forced = true) : g.effective = g.forceValue := if_pos h

/-- Second: without a force, the substitute decides. -/
@[simp] theorem Sig.effective_of_substituted {g : Sig} (hf : g.forced = false) (hs : g.substituted = true) : g.effective = g.fallback := by
  simp [Sig.effective, hf, hs]

/-- Third: nothing overrides the value. -/
@[simp] theorem Sig.effective_of_neither {g : Sig} (hf : g.forced = false) (hs : g.substituted = false) : g.effective = g.value := by
  simp [Sig.effective, hf, hs]

/-! ## The value objects -/

/-- The object 60hh.ll is that of signal hhll, for its index ends in hh (R148). -/
theorem sigNo_valueObject {i : Nat} (hi : i < 256) (k : Nat) : sigNo (0x6000 + i) k = i * 256 + k := by
  have hlow : (0x6000 + i) % 256 = i := by omega
  simp only [sigNo, hlow]

/-- An object from 6000 to 60FF reads the effective value of its signal, whichever session reads it. -/
theorem State.readObj_valueObject (s : State) (ses : Word) {i : Nat} (hi : i < 256) (k : Nat) :
    readObj s ses (0x6000 + i) k = (s.sigOf (sigNo (0x6000 + i) k)).effective.toNat := by
  have hbelow : ∀ b ≤ 0x6000, ¬ 0x6000 + i < b := by omega
  have hvalue : 0x6000 + i < 0x6100 := by omega
  unfold readObj
  rw [if_neg (hbelow 0x1300 (by decide)), if_neg (hbelow 0x2400 (by decide)), if_neg (hbelow 0x2410 (by decide)),
    if_neg (hbelow 0x4000 (by decide)), if_pos hvalue]

/-- Settles O56: the three branches of R147, and the value objects' place among the objects that can be read. -/
theorem theEffectiveValue : Obligations.TheEffectiveValue := by
  unfold Obligations.TheEffectiveValue
  constructor
  · intro g
    exact ⟨Sig.effective_of_forced, Sig.effective_of_substituted, Sig.effective_of_neither⟩
  · intro s n i k hi _
    rw [State.readObj_valueObject s n hi k, sigNo_valueObject hi k]

end Sys2Proof.Machine
end

section
/-! PROOF. Why no region opens a core's address space to another master (R220), against R383 read alone. -/
namespace Sys2Proof.Machine

/-! ## The address space of the cores -/

/-- Below 0x4002_0000 lie two entries of Table 7.9 alone: the program virtual space and a core's own memories. -/
theorem mapEntry_coreSpace {a : Nat} (ha : a < 0x40020000) : mapEntry a = some 0 ∨ mapEntry a = some 0x40000000 := by
  by_cases hv : a < 0x40000000
  · exact .inl (by simp [mapEntry, mapEntries, hv])
  · exact .inr (by simp [mapEntry, mapEntries, hv, Nat.not_lt.mp hv, ha])

/-- There Table 12.3 gives nothing to a master that is no core. -/
theorem defaultBits_coreSpace {m a : Nat} (hm : 8 ≤ m) (ha : a < 0x40020000) : defaultBits m a = 0 := by
  have hcore : ¬ m < 8 := Nat.not_lt.mpr hm
  rcases mapEntry_coreSpace ha with he | he <;> simp [defaultBits, he, hcore]

/-- Whatever regions are live, no access of a master that is no core is allowed there (R220). -/
theorem State.verdict_coreSpace (s : State) {x : Access} (hm : 8 ≤ x.master) (ha : x.address < 0x40020000) :
    s.verdict x ≠ .allowed := by
  have hmap : (mapEntry x.address).isNone = false := by
    rcases mapEntry_coreSpace ha with he | he <;> rw [he] <;> rfl
  have hlock : lockedTo x.master x.address = false := by
    rcases mapEntry_coreSpace ha with he | he <;> simp [lockedTo, he]
  cases hp : x.privileged <;>
    simp [State.verdict, hmap, hlock, hm, ha, hp, defaultBits_coreSpace hm ha, tb]

/-! ## A region that would open it -/

/-- Master 10 with one live region: the first 256 bytes of the map, for privileged reads. -/
def dmaOverVirtualSpace : State := { State.reset with guard.live := [(641, 0x80FF0001)] }

/-- A privileged read of address 0 by master 10. -/
def dmaReadOfVirtualSpace : Access := { master := 10, address := 0, kind := 0, privileged := true }

/-- Region 0 matches that read, and no other region of the master does. -/
theorem region_dmaOverVirtualSpace (j : Nat) : Region dmaOverVirtualSpace 10 j 0 ↔ j = 0 := by
  constructor
  · intro ⟨hj, hmatch⟩
    revert j
    decide
  · rintro rfl
    exact ⟨by decide, by decide⟩

/-- Refutes O55: a matching region that allows the read decides alone, but the read is of the program virtual space, which
R220 withholds from every master that is no core; the statement shuts out gaps and locked ranges alone. -/
theorem not_theDecidingRegionJudges : ¬ Obligations.TheDecidingRegionJudges := by
  unfold Obligations.TheDecidingRegionJudges
  intro ⟨hdecides, _⟩
  have hallows : regionAllows dmaOverVirtualSpace dmaReadOfVirtualSpace 0 = true := by decide
  have hverdict := hdecides dmaOverVirtualSpace dmaReadOfVirtualSpace 0 (by decide) (by decide)
    ((region_dmaOverVirtualSpace 0).mpr rfl)
    (fun j hj hne => absurd ((region_dmaOverVirtualSpace j).mp hj) hne)
  rw [if_pos hallows] at hverdict
  exact State.verdict_coreSpace _ (by decide) (by decide) hverdict

end Sys2Proof.Machine
end

section
/-! PROOF. The representations of the three passes: what decodes, and why no flipped bit does (R222 to R224). -/
namespace Sys2Proof.Machine

/-- A bit that is set leaves a difference of its weight when it is cleared. -/
theorem toNat_xor_twoPow_of_set {x : DWord} {k : Nat} (hk : k < 64) (h : x.getLsbD k = true) :
    (x ^^^ BitVec.twoPow 64 k).toNat + 2 ^ k = x.toNat := by
  have hand : (x ^^^ BitVec.twoPow 64 k) &&& BitVec.twoPow 64 k = 0#64 := by
    refine BitVec.eq_of_getLsbD_eq fun i _ => ?_
    by_cases hik : k = i
    · subst hik; simp [h, hk]
    · simp [BitVec.getLsbD_twoPow, hik]
  have hor : (x ^^^ BitVec.twoPow 64 k) ||| BitVec.twoPow 64 k = x := by
    refine BitVec.eq_of_getLsbD_eq fun i _ => ?_
    by_cases hik : k = i
    · subst hik; simp [h, hk]
    · simp [BitVec.getLsbD_twoPow, hik]
  have hadd := BitVec.toNat_add_of_and_eq_zero hand
  rw [BitVec.add_eq_or_of_and_eq_zero _ _ hand, hor, BitVec.toNat_twoPow_of_lt hk] at hadd
  exact hadd.symm

/-- One bit flipped changes a number by the bit's weight, down or up. -/
theorem toNat_xor_twoPow (x : DWord) {k : Nat} (hk : k < 64) :
    (x ^^^ BitVec.twoPow 64 k).toNat + 2 ^ k = x.toNat ∨ x.toNat + 2 ^ k = (x ^^^ BitVec.twoPow 64 k).toNat := by
  cases h : x.getLsbD k with
  | true => exact .inl (toNat_xor_twoPow_of_set hk h)
  | false =>
    have hset : (x ^^^ BitVec.twoPow 64 k).getLsbD k = true := by
      rw [BitVec.getLsbD_xor, BitVec.getLsbD_twoPow, h]
      simp [hk]
    have := toNat_xor_twoPow_of_set hk hset
    rw [BitVec.xor_assoc, BitVec.xor_self, BitVec.xor_zero] at this
    exact .inr this

/-- One bit flipped changes a two's complement number by the bit's weight, up or down. -/
theorem toInt_xor_twoPow (x : DWord) {k : Nat} (hk : k < 64) :
    (x ^^^ BitVec.twoPow 64 k).toInt = x.toInt + 2 ^ k ∨ (x ^^^ BitVec.twoPow 64 k).toInt = x.toInt - 2 ^ k := by
  have hmsb : (x ^^^ BitVec.twoPow 64 k).msb = (x.msb ^^ decide (k = 63)) := by simp [hk]
  have hnat := toNat_xor_twoPow x hk
  generalize x ^^^ BitVec.twoPow 64 k = y at hnat hmsb ⊢
  by_cases h63 : k = 63
  · subst h63
    rw [BitVec.toInt_eq_toNat_cond, BitVec.toInt_eq_toNat_cond]
    split <;> split <;> omega
  · have hcast : ((2 ^ k : Nat) : Int) = 2 ^ k := by norm_num
    rw [BitVec.toInt_eq_msb_cond, BitVec.toInt_eq_msb_cond, hmsb]
    cases x.msb <;> simp [h63] <;> omega

/-- No power of two is a multiple of the code's factor A = 61,441, which is odd (R224). -/
theorem factor_not_dvd_two_pow (k : Nat) : ¬ (61441 : Int) ∣ 2 ^ k := by
  intro h
  have hnat : (61441 : Nat) ∣ 2 ^ k := by exact_mod_cast h
  have hcop : Nat.Coprime 61441 (2 ^ k) := Nat.Coprime.pow_right k (by decide)
  exact absurd (Nat.Coprime.eq_one_of_dvd hcop hnat) (by decide)

/-- A multiple of the factor is none with one bit flipped. -/
theorem factor_not_dvd_of_flip {x : DWord} (hx : (61441 : Int) ∣ x.toInt) {k : Nat} (hk : k < 64) :
    ¬ (61441 : Int) ∣ (x ^^^ BitVec.twoPow 64 k).toInt := by
  intro hy
  have hsub := Int.dvd_sub hy hx
  rcases toInt_xor_twoPow x hk with h | h <;> rw [h] at hsub
  · exact factor_not_dvd_two_pow k (by simpa using hsub)
  · exact factor_not_dvd_two_pow k (by simpa using hsub)

/-- Pass C holds a signed integer as 61,441 times its value, exactly. -/
theorem toInt_encode_signed (v : Word) : (encode 2 1 v).toInt = v.toInt * 61441 := by
  have hlo := BitVec.le_toInt v
  have hhi := BitVec.toInt_lt (x := v)
  simp only [encode, BitVec.toInt_ofInt]
  rw [Int.bmod_eq_of_le] <;> norm_num at * <;> omega

/-- Pass C holds an unsigned integer as 61,441 times its value, exactly. -/
theorem toNat_encode_unsigned (v : Word) : (encode 2 2 v).toNat = v.toNat * 61441 := by
  have := v.isLt
  simp only [encode, BitVec.toNat_ofNat]
  omega

/-- REAL32 words that the range rules leave alone: zeros, normal numbers within Table 8.2's range, and the one NaN. -/
theorem normReal_fixed {v : Word} (h : normReal v = v) :
    v.toNat % 2 ^ 31 = 0 ∨ (0x00800000 ≤ v.toNat % 2 ^ 31 ∧ v.toNat % 2 ^ 31 ≤ 0x7DFFFFFF) ∨ v = 0x7FC00000 := by
  have hv := v.isLt
  unfold normReal at h
  simp only at h
  split at h
  · exact .inr (.inr h.symm)
  · have h' := congrArg BitVec.toNat h
    split at h
    · rw [if_pos (by assumption)] at h'
      simp only [BitVec.toNat_ofNat] at h'
      omega
    · split at h
      · rw [if_neg (by assumption), if_pos (by assumption)] at h'
        simp only [BitVec.toNat_ofNat] at h'
        omega
      · omega

/-- An entry that holds a word unchanged is that number. -/
theorem toNat_entry (w : Word) : (w.zeroExtend 64).toNat = w.toNat := by
  have := w.isLt
  simp; omega

/-- A word that the range rules leave alone is one that pass A may hold (Table 8.2). -/
theorem realForm_of_normReal {v : Word} (h : normReal v = v) : realForm v = true := by
  rcases normReal_fixed h with h0 | h1 | rfl
  · simp only [realForm, h0, decide_true, Bool.true_or]
  · simp only [realForm, Bool.or_eq_true, Bool.and_eq_true, decide_eq_true_eq]; omega
  · decide

/-- A BOOL decodes from every pass's form of it to itself (R222). -/
theorem decode_encode_bool {p : Nat} (hp : p < 3) {v : Word} (hv : v.toNat ≤ 1) : decode p 0 (encode p 0 v) = some v := by
  have hcases : v = 0 ∨ v = 1 := by bv_omega
  interval_cases p <;> rcases hcases with rfl | rfl <;> decide

/-- A signed integer decodes from every pass's form of it to itself (R222, R224). -/
theorem decode_encode_signed {p : Nat} (hp : p < 3) (v : Word) : decode p 1 (encode p 1 v) = some v := by
  interval_cases p
  · simp only [encode, decode, toNat_entry, BitVec.isLt, BitVec.ofNat_toNat, BitVec.setWidth_eq, if_true]
  · simp only [encode, decode, toNat_entry, BitVec.isLt, BitVec.ofNat_toNat, BitVec.setWidth_eq, if_true, BitVec.neg_neg]
  · have hlo := BitVec.le_toInt v
    have hhi := BitVec.toInt_lt (x := v)
    have hquot : v.toInt * 61441 / 61441 = v.toInt := by omega
    have hok : v.toInt * 61441 % 61441 = 0 ∧ -2147483648 ≤ v.toInt ∧ v.toInt ≤ 2147483647 := by norm_num at *; omega
    simp only [decode, toInt_encode_signed, hquot, if_pos hok, BitVec.ofInt_toInt]

/-- A coded unsigned integer decodes to the value it codes (R224). -/
theorem decode_of_coded {d : DWord} {v : Word} (h : d.toNat = v.toNat * 61441) : decode 2 2 d = some v := by
  have hquot : d.toNat / 61441 = v.toNat := by omega
  have hok : d.toNat % 61441 = 0 ∧ d.toNat / 61441 < 2 ^ 32 := ⟨by omega, hquot ▸ v.isLt⟩
  simp only [decode]
  rw [if_pos hok, hquot, BitVec.ofNat_toNat, BitVec.setWidth_eq]

/-- An unsigned integer decodes from every pass's form of it to itself (R222, R224). -/
theorem decode_encode_unsigned {p : Nat} (hp : p < 3) (v : Word) : decode p 2 (encode p 2 v) = some v := by
  interval_cases p
  · simp only [encode, decode, toNat_entry, BitVec.isLt, BitVec.ofNat_toNat, BitVec.setWidth_eq, if_true]
  · simp only [encode, decode, toNat_entry, BitVec.isLt, BitVec.ofNat_toNat, BitVec.setWidth_eq, if_true, BitVec.neg_neg]
  · exact decode_of_coded (toNat_encode_unsigned v)

/-- A REAL32 word of pass C's form outside its zeros, infinities and NaNs lies three powers of two above the value (R223). -/
theorem toNat_add_offset {v : Word} (hlo : 0x00800000 ≤ v.toNat % 2 ^ 31) (hhi : v.toNat % 2 ^ 31 ≤ 0x7DFFFFFF) :
    (v + 0x01800000).toNat % 2 ^ 31 = v.toNat % 2 ^ 31 + 0x01800000 := by
  rw [BitVec.toNat_add, show (0x01800000 : Word).toNat = 0x01800000 by simp]
  omega

/-- A REAL32 word that the range rules leave alone decodes from every pass's form of it to itself (R222, R223). -/
theorem decode_encode_real {p : Nat} (hp : p < 3) {v : Word} (h : normReal v = v) : decode p 3 (encode p 3 v) = some v := by
  have hform := realForm_of_normReal h
  interval_cases p
  · simp only [encode, decode, toNat_entry, BitVec.isLt, BitVec.ofNat_toNat, BitVec.setWidth_eq, hform, and_self, if_true]
  · simp only [encode, decode, toNat_entry, BitVec.isLt, BitVec.ofNat_toNat, BitVec.setWidth_eq, BitVec.xor_assoc, BitVec.xor_self, BitVec.xor_zero, hform, and_self, if_true]
  · rcases normReal_fixed h with h0 | ⟨hlo, hhi⟩ | rfl
    · simp only [encode, decode, h0, true_or, if_true, toNat_entry, BitVec.isLt, BitVec.ofNat_toNat, BitVec.setWidth_eq, decide_true, Bool.not_true, Bool.false_eq_true, if_false]
    · have hmid : ¬(v.toNat % 2 ^ 31 = 0 ∨ 0x7F800000 ≤ v.toNat % 2 ^ 31) := by omega
      have hoff := toNat_add_offset hlo hhi
      have hnan : ¬((v + 0x01800000).toNat % 2 ^ 31 = 0 ∨ v + 0x01800000 = 0x7FC00000) := by
        rintro (hz | hn)
        · omega
        · rw [hn] at hoff; simp at hoff; omega
      have hrange : 0x02000000 ≤ (v + 0x01800000).toNat % 2 ^ 31 ∧ (v + 0x01800000).toNat % 2 ^ 31 < 0x7F800000 := by omega
      simp only [encode, if_neg hmid, decode, toNat_entry, BitVec.isLt, BitVec.ofNat_toNat, BitVec.setWidth_eq, decide_true, Bool.not_true, Bool.false_eq_true, if_false,
        if_neg hnan, if_pos hrange, BitVec.add_sub_cancel]
    · decide

/-- No coded signed integer decodes with one bit flipped (R224). -/
theorem decode_flip_signed (v : Word) {k : Nat} (hk : k < 64) : decode 2 1 (encode 2 1 v ^^^ BitVec.twoPow 64 k) = none := by
  have hcode : (61441 : Int) ∣ (encode 2 1 v).toInt := toInt_encode_signed v ▸ Int.dvd_mul_left _ _
  have hflip := factor_not_dvd_of_flip hcode hk
  simp only [decode]
  exact if_neg fun h => hflip (Int.dvd_of_emod_eq_zero h.1)

/-- No coded unsigned integer decodes with one bit flipped (R224). -/
theorem decode_flip_unsigned (v : Word) {k : Nat} (hk : k < 64) : decode 2 2 (encode 2 2 v ^^^ BitVec.twoPow 64 k) = none := by
  have hnat := toNat_encode_unsigned v
  simp only [decode]
  refine if_neg fun ⟨hmod, _⟩ => ?_
  rcases toNat_xor_twoPow (encode 2 2 v) hk with h | h
  · exact factor_not_dvd_two_pow k (by exact_mod_cast (show 61441 ∣ 2 ^ k by omega))
  · exact factor_not_dvd_two_pow k (by exact_mod_cast (show 61441 ∣ 2 ^ k by omega))

/-- Settles O57, type by type; a flipped bit changes a multiple of A = 61,441 by a power of two, which is no multiple of it. -/
theorem passRepresentationsDecode : Obligations.PassRepresentationsDecode := by
  unfold Obligations.PassRepresentationsDecode
  refine ⟨fun p t v hp ht hbool hreal => ?_, fun t k v ht hk => ?_⟩
  · interval_cases t
    · exact decode_encode_bool hp (hbool rfl)
    · exact decode_encode_signed hp v
    · exact decode_encode_unsigned hp v
    · exact decode_encode_real hp (hreal rfl)
  · rw [← BitVec.twoPow_eq]
    rcases ht with rfl | rfl
    · exact decode_flip_signed v hk
    · exact decode_flip_unsigned v hk

end Sys2Proof.Machine
end

section
/-! PROOF. What a step is: the front command, or a nanosecond on an empty queue; and the state after reset. -/
namespace Sys2Proof.Machine

/-- Every command has a meaning: it answers a next state, whatever the state. -/
theorem exec_answers (c : Instr) (s : State) : ∃ t, exec c s = .next t := by
  cases c <;> exact ⟨_, rfl⟩

/-- With a command at the front, a step runs it on the rest of the queue. -/
theorem step_of_pending {s : State} {c : Instr} {rest : List Instr} (h : s.pending = c :: rest) :
    step s = exec c { s with pending := rest } := by
  unfold step
  rw [h]

/-- With nothing waiting, a step is a nanosecond. -/
theorem step_of_empty {s : State} (h : s.pending = []) : step s = .next s.tick := by
  unfold step
  rw [h]

/-- Settles O46. -/
theorem stepTakesTheFrontCommand : Obligations.StepTakesTheFrontCommand := by
  unfold Obligations.StepTakesTheFrontCommand
  exact ⟨fun _ _ _ h => step_of_pending h, exec_answers⟩

/-- Settles O49: every field of the state after reset stands in its definition. -/
theorem theStateAfterReset : Obligations.TheStateAfterReset := by
  unfold Obligations.TheStateAfterReset
  refine ⟨by decide, wf_reset, fun l hl => ?_⟩
  have hnone : State.reset.mode.lifePending = none := rfl
  simp [hnone] at hl

/-- A change within the clocks, the pair's state and the model's draws alone. -/
theorem keeps_clocks {s t : State} (h : t = { s with time := t.time, pair := t.pair, draws := t.draws }) :
    Keeps [.time, .pair, .draws] s t := by
  intro p hp
  rw [h]
  cases p <;> simp at hp <;> rfl

namespace State

/-- A standby's slew moves its clock by at most a nanosecond either way, and the wall clock not at all (R312). -/
theorem slewMono_time (s : State) : ∃ m, s.slewMono.time = { s.time with mono := m } ∧ s.time.mono - 1 ≤ m ∧ m ≤ s.time.mono + 1 := by
  unfold slewMono
  dsimp only
  split_ifs
  · exact ⟨s.time.mono, rfl, Nat.sub_le _ _, Nat.le_succ _⟩
  · exact ⟨s.time.mono, rfl, Nat.sub_le _ _, Nat.le_succ _⟩
  · exact ⟨s.time.mono - 1, rfl, le_rfl, Nat.le_succ_of_le (Nat.sub_le _ _)⟩
  · exact ⟨s.time.mono, rfl, Nat.sub_le _ _, Nat.le_succ _⟩
  · exact ⟨s.time.mono + 1, rfl, Nat.le_succ_of_le (Nat.sub_le _ _), le_rfl⟩

/-- A module that does not track its partner has no such slew (R312). -/
theorem slewMono_of_not_tracks {s : State} (h : s.tracks = false) : s.slewMono = s := by simp [slewMono, h]

/-- A slew of the monotonic clock reaches the clocks, the offset to the partner and a draw. -/
theorem slewMono_eq (s : State) : s.slewMono = { s with time := s.slewMono.time, pair := s.slewMono.pair, draws := s.slewMono.draws } := by
  unfold slewMono
  dsimp only
  split_ifs <;> rfl

/-- A slew of the wall clock leaves physical time and the monotonic clock, and reaches nothing beyond the clocks but a draw. -/
theorem slewWall_frame (s : State) : s.slewWall.time.now = s.time.now ∧ s.slewWall.time.mono = s.time.mono
    ∧ s.slewWall = { s with time := s.slewWall.time, draws := s.slewWall.draws } := by
  unfold slewWall
  split
  · exact ⟨rfl, rfl, rfl⟩
  · split_ifs <;> exact ⟨rfl, rfl, rfl⟩

/-- A nanosecond before the monotonic clock has started (R314). -/
theorem tick_stopped {s : State} (h : s.time.monoRun = false) : s.tick = { s with time.now := s.time.now + 1 } := by
  simp [tick, h]

/-- A nanosecond on a running clock: physical time and the monotonic clock count, then the two slews (R312, R488). -/
theorem tick_running {s : State} (h : s.time.monoRun = true) :
    s.tick = ({ s with time.now := s.time.now + 1, time.mono := s.time.mono + 1 } : State).slewMono.slewWall := by
  simp [tick, h]

/-- A nanosecond on a running clock moves it by at most two forward and never back, by exactly one without a partner to follow. -/
theorem tick_running_time {s : State} (h : s.time.monoRun = true) : s.tick.time.now = s.time.now + 1
    ∧ s.time.mono ≤ s.tick.time.mono ∧ s.tick.time.mono ≤ s.time.mono + 2 ∧ (s.tracks = false → s.tick.time.mono = s.time.mono + 1) := by
  rw [tick_running h]
  obtain ⟨hnow, hmono, -⟩ := slewWall_frame ({ s with time.now := s.time.now + 1, time.mono := s.time.mono + 1 } : State).slewMono
  obtain ⟨m, htime, hlo, hhi⟩ := slewMono_time { s with time.now := s.time.now + 1, time.mono := s.time.mono + 1 }
  rw [hnow, hmono, htime]
  simp only [Nat.add_sub_cancel] at hlo hhi ⊢
  refine ⟨trivial, hlo, hhi, fun hfree => ?_⟩
  have hsame := slewMono_of_not_tracks (s := { s with time.now := s.time.now + 1, time.mono := s.time.mono + 1 }) hfree
  rw [hsame] at htime
  exact (congrArg TimeSt.mono htime).symm

/-- A nanosecond leaves everything but the clocks, the pair's offset and the draws. -/
theorem tick_keeps (s : State) : Keeps [.time, .pair, .draws] s s.tick := by
  apply keeps_clocks
  cases h : s.time.monoRun with
  | false => rw [tick_stopped h]
  | true =>
    rw [tick_running h, (slewWall_frame _).2.2, slewMono_eq]

end State

/-- Settles O48. -/
theorem anEmptyQueueLetsTimePass : Obligations.AnEmptyQueueLetsTimePass := by
  unfold Obligations.AnEmptyQueueLetsTimePass
  intro s hempty
  refine ⟨_, step_of_empty hempty, ?_⟩
  cases h : s.time.monoRun with
  | false => exact ⟨by rw [State.tick_stopped h], fun _ => by rw [State.tick_stopped h], by simp, s.tick_keeps⟩
  | true =>
    obtain ⟨hnow, hlo, hhi, hfree⟩ := State.tick_running_time h
    exact ⟨hnow, by simp, fun _ => ⟨hlo, hhi, hfree⟩, s.tick_keeps⟩

end Sys2Proof.Machine
end

section
/-! PROOF. Why a refusal by check 14 may do more than count, record and reply (R85, R108). -/
namespace Sys2Proof.Machine

/-- A state with one open session. -/
def oneSession : State := { State.reset with sess.table := [{ number := 1, role := 5, port := 1, scope := 0 }] }

/-- A WRITE under that session's last counter, as its reply is tagged. -/
def lastWrite : ReplyTo :=
  { req := {}, opcode := 2, auth := some { session := 1, counter := 0xFFFFFFFFFFFFFFFF, key := 0, role := 5, last := true } }

/-- A refusal of such a request by check 14 ends its session, whatever the operation refused (R108). -/
theorem check14_lastWrite_sessionOf (f : State → State) : (oneSession.check14 lastWrite true false false f).sessionOf 1 = none := by
  rw [(State.check14_refuses oneSession lastWrite false false f (by decide)).1]
  exact State.answer_sessionOf_of_last rfl 6 [] _

/-- Refutes O54: a request that check 14 refuses under the last counter ends its session with the reply, as R108 says of
every final reply, so that more than records, counters and the reply changes; the statement shuts no such request out. -/
theorem not_refusedRequestsHaveNoEffect : ¬ Obligations.RefusedRequestsHaveNoEffect := by
  unfold Obligations.RefusedRequestsHaveNoEffect
  intro ⟨_, hlate⟩
  obtain ⟨hkeeps, -⟩ := hlate oneSession lastWrite true false false id rfl
  have hsess : (oneSession.check14 lastWrite true false false id).sess = oneSession.sess := hkeeps .sess (by decide)
  have hended := check14_lastWrite_sessionOf id
  rw [State.sessionOf, hsess] at hended
  exact absurd hended (by decide)

end Sys2Proof.Machine
end

section
/-! PROOF. The anti-rollback floor under a home-address write (O51) -/
namespace Sys2Proof.Machine

/-- A module whose running package bears security version 3 while the anti-rollback floor stands at 5, with a write of FW_ACTIVATE's home
address waiting whose first byte is OP 2. -/
def belowFloorModule : State :=
  { State.reset with sedge := { State.reset.sedge with floor := 5, slotA := some { securityVersion := 3 } }
                     pending := [.objectWrite (.home 0 (0x50000000 + 0x7A20 * 0x400) 0x02000000)] }

/-- Refutes O51: a home-address write passes check 14 (R68), so OP 2 of FW_ACTIVATE takes the running package's version although it is below the floor. -/
theorem not_theLifeCycleMovesOnlyForward : ¬ Obligations.TheLifeCycleMovesOnlyForward := by
  intro h
  have hform : LifeForm belowFloorModule := by intro l hl; cases hl
  obtain ⟨-, -, -, hfloor⟩ := h belowFloorModule _ hform rfl
  exact absurd hfloor (by decide +kernel)

end Sys2Proof.Machine
end

section
/-! PROOF. Changes confined to a list of facets, and how confined changes compose -/
namespace Sys2Proof.Machine

/-- What a frame speaks of: each part of the state and, within its times, the monotonic clock, which outlasts many changes of the other times. -/
inductive Facet where
  | mode | time | xan | sess | sig | disp | drift | firn | prog | pair | hub | guard | moraine | capture | link | eth | can | field | sedge | mem | draws
  | pending | clock
  deriving DecidableEq

/-- A facet is the same in two states. -/
def Facet.same (f : Facet) (s t : State) : Prop :=
  match f with
  | .mode => t.mode = s.mode | .time => t.time = s.time | .xan => t.xan = s.xan | .sess => t.sess = s.sess | .sig => t.sig = s.sig
  | .disp => t.disp = s.disp | .drift => t.drift = s.drift | .firn => t.firn = s.firn | .prog => t.prog = s.prog | .pair => t.pair = s.pair
  | .hub => t.hub = s.hub | .guard => t.guard = s.guard | .moraine => t.moraine = s.moraine | .capture => t.capture = s.capture
  | .link => t.link = s.link | .eth => t.eth = s.eth | .can => t.can = s.can | .field => t.field = s.field | .sedge => t.sedge = s.sedge
  | .mem => t.mem = s.mem | .draws => t.draws = s.draws | .pending => t.pending = s.pending
  | .clock => t.time.mono = s.time.mono ∧ t.time.monoRun = s.time.monoRun

/-- What a fault reaction reaches through the units it fences and the mode it enters. -/
abbrev Facet.reacting : List Facet :=
  [.mode, .xan, .sess, .sig, .disp, .drift, .firn, .prog, .pair, .hub, .guard, .moraine, .link, .can, .field, .draws]
/-- The same with the captures, which the end of a session and a settled signal also reach: the model's `reaction`. -/
abbrev Facet.settling : List Facet := .capture :: reacting
/-- What answering a request reaches: its counters, the end of its session, and the ports. -/
abbrev Facet.answering : List Facet := [.xan, .sess, .moraine, .capture, .can]

/-- A change that reaches no facet but those of a list. -/
def Within (L : List Facet) (s t : State) : Prop := ∀ f, f ∉ L → f.same s t

namespace Within
variable {L M : List Facet} {s t u : State}

/-- Lets `simp` leave the inclusion of two written lists to its discharger. -/
theorem subset_iff_true {A B : List Facet} (h : A ⊆ B) : A ⊆ B ↔ True := by simp [h]

/-- No change reaches nothing. -/
@[simp ↓] theorem refl (L : List Facet) (s : State) : Within L s s := by
  intro f _; cases f <;> simp [Facet.same]

theorem symm (h : Within L s t) : Within L t s := by
  intro f hf; have := h f hf; cases f <;> simp_all [Facet.same]

theorem trans (h : Within L s t) (k : Within L t u) : Within L s u := by
  intro f hf; have := h f hf; have := k f hf; cases f <;> simp_all [Facet.same]

theorem mono (h : Within M s t) (hml : M ⊆ L) : Within L s t := fun f hf => h f fun hm => hf (hml hm)

/-- One more change within the list neither adds to what has changed nor takes from it. -/
theorem step_iff (h : Within M t u) (hml : M ⊆ L) : Within L s u ↔ Within L s t :=
  ⟨fun k => k.trans (h.mono hml).symm, fun k => k.trans (h.mono hml)⟩

theorem of_keeping {op : State → State} (h : ∀ v, Within L v (op v)) (v : State) : Within L s (op v) ↔ Within L s v :=
  step_iff (h v) (List.Subset.refl L)

/-! ## Branches, optional steps and repetition -/

@[simp ↓] theorem ite (c : Prop) [Decidable c] (a b : State) : Within L s (if c then a else b) ↔ if c then Within L s a else Within L s b := by
  split <;> rfl

@[simp ↓] theorem elim {α : Type} (o : Option α) (a : State) (f : α → State) :
    Within L s (o.elim a f) ↔ o.elim (Within L s a) (fun x => Within L s (f x)) := by cases o <;> rfl

@[simp] theorem elim_const {α : Type} (o : Option α) (p : Prop) : o.elim p (fun _ => p) ↔ p := by cases o <;> rfl

@[simp ↓] theorem foldl {α : Type} (f : State → α → State) (l : List α) (h : ∀ v a, Within L v (f v a)) : Within L s (l.foldl f t) ↔ Within L s t := by
  refine step_iff ?_ (List.Subset.refl L)
  induction l generalizing t with
  | nil => exact refl L t
  | cons a l ih => exact (h t a).trans ih

/-- A rewriting of parts is within a list that names each part it changes, and each facet that it changes there. -/
@[simp ↓] theorem update {m : ModeSt} {ti : TimeSt} {xa : XanSt} {se : SessSt} {si : SigSt} {di : DispSt} {dr : DriftSt} {fi : FirnSt} {pr : ProgSt}
    {pa : PairSt} {hu : HubSt} {gu : GuardSt} {mo : MoraineSt} {ca : CaptureSt} {li : LinkSt} {et : EthSt} {cn : CanSt} {fd : FieldSt} {sg : SedgeSt}
    {me : List Host.Cell} {dw : Nat}
    (hm : m = t.mode ∨ .mode ∈ L)
    (hti : ti = t.time ∨ .time ∈ L ∧ (ti.mono = t.time.mono ∧ ti.monoRun = t.time.monoRun ∨ .clock ∈ L)) (hxa : xa = t.xan ∨ .xan ∈ L)
    (hse : se = t.sess ∨ .sess ∈ L) (hsi : si = t.sig ∨ .sig ∈ L) (hdi : di = t.disp ∨ .disp ∈ L)
    (hdr : dr = t.drift ∨ .drift ∈ L) (hfi : fi = t.firn ∨ .firn ∈ L) (hpr : pr = t.prog ∨ .prog ∈ L)
    (hpa : pa = t.pair ∨ .pair ∈ L) (hhu : hu = t.hub ∨ .hub ∈ L) (hgu : gu = t.guard ∨ .guard ∈ L)
    (hmo : mo = t.moraine ∨ .moraine ∈ L) (hca : ca = t.capture ∨ .capture ∈ L) (hli : li = t.link ∨ .link ∈ L)
    (het : et = t.eth ∨ .eth ∈ L) (hcn : cn = t.can ∨ .can ∈ L) (hfd : fd = t.field ∨ .field ∈ L)
    (hsg : sg = t.sedge ∨ .sedge ∈ L) (hme : me = t.mem ∨ .mem ∈ L) (hdw : dw = t.draws ∨ .draws ∈ L) :
    Within L s (State.mk m ti xa se si di dr fi pr pa hu gu mo ca li et cn fd sg me dw t.pending) ↔ Within L s t := by
  refine step_iff ?_ (List.Subset.refl L)
  intro f hf
  cases f <;> simp_all [Facet.same]
  case clock => rcases hti with rfl | ⟨-, h⟩ <;> simp_all

end Within

end Sys2Proof.Machine
end

section
/-! PROOF. How far the operations reach: output drive and fences on signals (Drive.lean) -/
namespace Sys2Proof.Machine

namespace State
set_option maxRecDepth 8000
set_option Elab.async false
variable {L : List Facet} {s u : State}

@[simp ↓] theorem redriveGroup_within (g : Nat) (fresh : optParam Bool false) (h : [.sig, .field] ⊆ L) :
    Within L s (u.redriveGroup g fresh) ↔ Within L s u := by
  simp at h; unfold State.redriveGroup; simp [h]
@[simp ↓] theorem redrive_within (h : [.sig, .field] ⊆ L) : Within L s (u.redrive) ↔ Within L s u := by
  simp at h; unfold State.redrive; simp [h]
@[simp ↓] theorem setSig_within (g : Nat) (f : Sig → Sig) (h : [.sig] ⊆ L) : Within L s (u.setSig g f) ↔ Within L s u := by
  simp at h; unfold State.setSig; split <;> simp [h]
@[simp ↓] theorem refence_within (old : State) (h : [.sig] ⊆ L) : Within L s (u.refence old) ↔ Within L s u := by
  simp at h; unfold State.refence; simp [h]
@[simp ↓] theorem countStatus_within (h : [.sig] ⊆ L) : Within L s (u.countStatus) ↔ Within L s u := by
  simp at h; unfold State.countStatus; simp [h]
@[simp ↓] theorem settle_within (h : [.sig, .capture] ⊆ L) : Within L s (u.settle) ↔ Within L s u := by
  simp at h; unfold State.settle; simp [h]

end State

end Sys2Proof.Machine
end

section
/-! PROOF. How far the operations reach: link frames (LinkOps.lean) -/
namespace Sys2Proof.Machine

namespace State
set_option maxRecDepth 8000
set_option Elab.async false
variable {L : List Facet} {s u : State}

@[simp ↓] theorem setLnk_within (k : Nat) (f : Link → Link) (h : [.link] ⊆ L) : Within L s (u.setLnk k f) ↔ Within L s u := by
  simp at h; unfold State.setLnk; simp [h]
@[simp ↓] theorem setPos_within (k m : Nat) (f : Position → Position) (h : [.link] ⊆ L) : Within L s (u.setPos k m f) ↔ Within L s u := by
  simp at h; unfold State.setPos; simp [h]
@[simp ↓] theorem sendFrame_within (f : LinkFrame) (ns : Nat) (h : [.link] ⊆ L) : Within L s (u.sendFrame f ns) ↔ Within L s u := by
  simp at h; unfold State.sendFrame; simp [h]
@[simp ↓] theorem configure_within (k m : Nat) (h : [.link] ⊆ L) : Within L s (u.configure k m) ↔ Within L s u := by
  simp at h; unfold State.configure; simp [h]
@[simp ↓] theorem sendRequest_within (k m : Nat) (h : [.link] ⊆ L) : Within L s (u.sendRequest k m) ↔ Within L s u := by
  simp at h; unfold State.sendRequest; simp [h]
@[simp ↓] theorem request_within (k m : Nat) (h : [.link] ⊆ L) : Within L s (u.request k m) ↔ Within L s u := by
  simp at h; unfold State.request; simp [h]
@[simp ↓] theorem sendRetries_within (k : Nat) (h : [.link] ⊆ L) : Within L s (u.sendRetries k) ↔ Within L s u := by
  simp at h; unfold State.sendRetries; simp [h]
@[simp ↓] theorem grant_within (n : Nat) (h : [.link] ⊆ L) : Within L s (grant n u) ↔ Within L s u := by
  simp at h
  induction n generalizing u with
  | zero => simp [grant]
  | succ n ih => unfold grant; split <;> [rfl; (split <;> simp [h, ih])]
@[simp ↓] theorem endTransaction_within (k m : Nat) (h : [.link] ⊆ L) : Within L s (u.endTransaction k m) ↔ Within L s u := by
  simp at h; unfold State.endTransaction; simp [h]
@[simp ↓] theorem resetLink_within (k : Nat) (h : [.link] ⊆ L) : Within L s (u.resetLink k) ↔ Within L s u := by
  simp at h; unfold State.resetLink; simp [h]
@[simp ↓] theorem coldLinks_within (h : [.link] ⊆ L) : Within L s (u.coldLinks) ↔ Within L s u := by
  simp at h; unfold State.coldLinks; simp [h]

end State

end Sys2Proof.Machine
end

section
/-! PROOF. How far the operations reach: the named operations that commands share (Ops.lean) -/
namespace Sys2Proof.Machine

namespace State
set_option maxRecDepth 8000
set_option Elab.async false
variable {L : List Facet} {s u : State}

@[simp ↓] theorem triggerFrom_within (code severity source unit : Nat) (words : List Word) (post : optParam (Option Nat) none) (h : [.moraine] ⊆ L) :
    Within L s (u.triggerFrom code severity source unit words post) ↔ Within L s u := by
  simp at h; unfold State.triggerFrom; simp [h]
@[simp ↓] theorem trigger_within (code : Nat) (words : List Nat) (unit : optParam Nat 0) (h : [.moraine] ⊆ L) :
    Within L s (u.trigger code words unit) ↔ Within L s u := by
  simp at h; unfold State.trigger; simp [h]
@[simp ↓] theorem produce_within (q : Nat) (entry : List Word) (h : [.disp, .moraine] ⊆ L) : Within L s (u.produce q entry) ↔ Within L s u := by
  simp at h; unfold State.produce; simp [h]
@[simp ↓] theorem produceOpen_within (q : Nat) (h : [.disp, .moraine, .draws] ⊆ L) : Within L s (u.produceOpen q) ↔ Within L s u := by
  simp at h; unfold State.produceOpen; simp [h]
@[simp ↓] theorem sendSync_within (m : SyncOut) (h : [.pair] ⊆ L) : Within L s (u.sendSync m) ↔ Within L s u := by
  simp at h; unfold State.sendSync; simp [h]
@[simp ↓] theorem canEntry_within (c obj kind ident dlc flags : Nat) (h : [.disp, .moraine] ⊆ L) :
    Within L s (u.canEntry c obj kind ident dlc flags) ↔ Within L s u := by
  simp at h; unfold State.canEntry; simp [h]
@[simp ↓] theorem setObj_within (c m : Nat) (x : MsgObj) (h : [.can] ⊆ L) : Within L s (u.setObj c m x) ↔ Within L s u := by
  simp at h; unfold State.setObj; simp [h]
@[simp ↓] theorem objEntry_within (c m kind : Nat) (h : [.disp, .moraine] ⊆ L) : Within L s (u.objEntry c m kind) ↔ Within L s u := by
  simp at h; unfold State.objEntry; simp [h]
@[simp ↓] theorem endNotOwner_within (c m : Nat) (h : [.disp, .moraine, .can] ⊆ L) : Within L s (u.endNotOwner c m) ↔ Within L s u := by
  simp at h; unfold State.endNotOwner; simp [h]
@[simp ↓] theorem cancelOwnerOnly_within (h : [.disp, .moraine, .can] ⊆ L) : Within L s (u.cancelOwnerOnly) ↔ Within L s u := by
  simp at h; unfold State.cancelOwnerOnly; simp [h]
@[simp ↓] theorem dropAttempts_within (c : Nat) (h : [.disp, .moraine, .can] ⊆ L) : Within L s (u.dropAttempts c) ↔ Within L s u := by
  simp at h; unfold State.dropAttempts; simp [h]
@[simp ↓] theorem fenceCan_within (c : Nat) (h : [.disp, .moraine, .can] ⊆ L) : Within L s (u.fenceCan c) ↔ Within L s u := by
  simp at h; unfold State.fenceCan; simp [h]
@[simp ↓] theorem leaveCold_within (h : [.mode, .can] ⊆ L) : Within L s (u.leaveCold) ↔ Within L s u := by
  simp at h; unfold State.leaveCold; simp [h]
@[simp ↓] theorem trimRecord_within (t : Trim) (session : Word) (h : [.moraine] ⊆ L) : Within L s (u.trimRecord t session) ↔ Within L s u := by
  simp at h; unfold State.trimRecord; simp [h]
@[simp ↓] theorem cancelTrim_within (session : optParam (Option Word) none) (h : [.sig, .moraine, .field] ⊆ L) :
    Within L s (u.cancelTrim session) ↔ Within L s u := by
  simp at h; unfold State.cancelTrim; simp [h]
@[simp ↓] theorem cancelOutputTrim_within (h : [.sig, .moraine, .field] ⊆ L) : Within L s (u.cancelOutputTrim) ↔ Within L s u := by
  simp at h; unfold State.cancelOutputTrim; simp [h]
@[simp ↓] theorem cancelGroupTrim_within (g : Nat) (h : [.sig, .moraine, .field] ⊆ L) : Within L s (u.cancelGroupTrim g) ↔ Within L s u := by
  simp at h; unfold State.cancelGroupTrim; simp [h]
@[simp ↓] theorem gatesChanged_within (h : [.sig, .disp, .moraine, .can, .field] ⊆ L) : Within L s (u.gatesChanged) ↔ Within L s u := by
  simp at h; unfold State.gatesChanged; simp [h]
@[simp ↓] theorem pin_within (t : Nat) (h : [.drift] ⊆ L) : Within L s (u.pin t) ↔ Within L s u := by
  simp at h; unfold State.pin; simp [h]
@[simp ↓] theorem modeRecord_within (step : Nat) (old target : Mode) (result : Nat) (session : Word) (h : [.moraine] ⊆ L) :
    Within L s (u.modeRecord step old target result session) ↔ Within L s u := by
  simp at h; unfold State.modeRecord; simp [h]
@[simp ↓] theorem endDebug_within (h : [.disp, .drift, .firn, .guard, .moraine, .draws] ⊆ L) : Within L s (u.endDebug) ↔ Within L s u := by
  simp at h; unfold State.endDebug; simp [h]
@[simp ↓] theorem leaveService_within (now : Bool) (h : [.sess, .disp, .drift, .firn, .guard, .moraine, .draws] ⊆ L) :
    Within L s (u.leaveService now) ↔ Within L s u := by
  simp at h; unfold State.leaveService; simp [h]
@[simp ↓] theorem safeLeft_within (old : Mode) (h : [.hub, .moraine] ⊆ L) : Within L s (u.safeLeft old) ↔ Within L s u := by
  simp at h; unfold State.safeLeft; simp [h]
@[simp ↓] theorem immediate_within (m : Mode) (session : optParam Word 0) (h : [.mode, .sess, .sig, .disp, .drift, .firn, .pair, .hub, .guard, .moraine, .link, .can, .field, .draws] ⊆ L) :
    Within L s (u.immediate m session) ↔ Within L s u := by
  simp at h; unfold State.immediate; simp [h]
@[simp ↓] theorem tellEpoch_within (commit : Ns) (immediate : Bool) (h : [.pair] ⊆ L) : Within L s (u.tellEpoch commit immediate) ↔ Within L s u := by
  simp at h; unfold State.tellEpoch; simp [h]

end State

end Sys2Proof.Machine
end

section
/-! PROOF. How far the operations reach: releases and working sets (DispOps.lean) -/
namespace Sys2Proof.Machine

namespace State
set_option maxRecDepth 8000
set_option Elab.async false
variable {L : List Facet} {s u : State}

@[simp ↓] theorem setTask_within (t : Nat) (f : TaskSt → TaskSt) (h : [.disp] ⊆ L) : Within L s (u.setTask t f) ↔ Within L s u := by
  simp at h; unfold State.setTask; simp [h]
@[simp ↓] theorem setRelease_within (t : Nat) (f : Release → Release) (h : [.disp] ⊆ L) : Within L s (u.setRelease t f) ↔ Within L s u := by
  simp at h; unfold State.setRelease; simp [h]
@[simp ↓] theorem clearAreas_within (t : Nat) (h : [.firn] ⊆ L) : Within L s (u.clearAreas t) ↔ Within L s u := by
  simp at h; unfold State.clearAreas; simp [h]
@[simp ↓] theorem runNext_within (c : Nat) (h : [.disp, .firn] ⊆ L) : Within L s (u.runNext c) ↔ Within L s u := by
  simp at h; unfold State.runNext; (repeat' split) <;> simp [h]
@[simp ↓] theorem message_within (c q : Nat) (h : [.disp] ⊆ L) : Within L s (u.message c q) ↔ Within L s u := by
  simp at h; unfold State.message; simp [h]
@[simp ↓] theorem beginFetch_within (f t p : Nat) (h : [.drift] ⊆ L) : Within L s (u.beginFetch f t p) ↔ Within L s u := by
  simp at h; unfold State.beginFetch; simp [h]
@[simp ↓] theorem withFrame_within (want : Nat) (fetch : Nat → State) (h : [.drift] ⊆ L) (hf : ∀ f, Within L s (fetch f) ↔ Within L s u) :
    Within L s (u.withFrame want fetch) ↔ Within L s u := by
  simp at h
  unfold withFrame
  split
  · rfl
  · split
    · exact hf _
    · split <;> simp [h, hf]
@[simp ↓] theorem takeFrame_within (t p : Nat) (h : [.drift] ⊆ L) : Within L s (u.takeFrame t p) ↔ Within L s u := by
  simp at h; unfold State.takeFrame; simp [h]
@[simp ↓] theorem rob_within (u' : Nat) (h : [.drift] ⊆ L) : Within L s (u.rob u') ↔ Within L s u := by
  simp at h; unfold State.rob; simp [h]
@[simp ↓] theorem fetchPage_within (t p : Nat) (h : [.drift] ⊆ L) : Within L s (u.fetchPage t p) ↔ Within L s u := by
  simp at h; unfold State.fetchPage; simp [h]
@[simp ↓] theorem serveOne_within (r : State × Bool) (t : Nat) (h : [.drift] ⊆ L) : Within L s (serveOne r t).1 ↔ Within L s r.1 := by
  simp at h; unfold serveOne; split <;> [rfl; (split <;> simp [h])]
/-- Serving a list of requests in turn stays within what serving one does. -/
theorem serveOnes_within (l : List Nat) (r : State × Bool) (h : [.drift] ⊆ L) : Within L s (l.foldl serveOne r).1 ↔ Within L s r.1 := by
  simp at h
  induction l generalizing r with
  | nil => rfl
  | cons t l ih => rw [List.foldl_cons, ih]; simp [h]
@[simp ↓] theorem serveDrift_within (h : [.drift] ⊆ L) : Within L s (u.serveDrift) ↔ Within L s u := serveOnes_within _ _ h
@[simp ↓] theorem unpin_within (t : Nat) (h : [.drift] ⊆ L) : Within L s (u.unpin t) ↔ Within L s u := by
  simp at h; unfold State.unpin; simp [h]
@[simp ↓] theorem endRequest_within (t : Nat) (h : [.drift] ⊆ L) : Within L s (u.endRequest t) ↔ Within L s u := by
  simp at h; unfold State.endRequest; simp [h]
@[simp ↓] theorem dropPrefetch_within (t : Nat) (h : [.drift] ⊆ L) : Within L s (u.dropPrefetch t) ↔ Within L s u := by
  simp at h; unfold State.dropPrefetch; simp [h]
@[simp ↓] theorem requestPages_within (t : Nat) (h : [.drift] ⊆ L) : Within L s (u.requestPages t) ↔ Within L s u := by
  simp at h; unfold State.requestPages; simp [h]
@[simp ↓] theorem sendDelta_within (t : Nat) (instant : Ns) (outcome : Nat) (digest : DWord) (writes : List PlainWrite) (h : [.pair] ⊆ L) :
    Within L s (u.sendDelta t instant outcome digest writes) ↔ Within L s u := by
  simp at h; unfold State.sendDelta; simp [h]
@[simp ↓] theorem setFirn_within (t : Nat) (f : FirnTask → FirnTask) (h : [.firn] ⊆ L) : Within L s (u.setFirn t f) ↔ Within L s u := by
  simp at h; unfold State.setFirn; simp [h]
@[simp ↓] theorem unvote_within (t : Nat) (h : [.firn] ⊆ L) : Within L s (u.unvote t) ↔ Within L s u := by
  simp at h; unfold State.unvote; split <;> simp [h]
@[simp ↓] theorem abandon_within (t : Nat) (h : [.disp, .drift, .firn, .pair] ⊆ L) : Within L s (u.abandon t) ↔ Within L s u := by
  simp at h; unfold State.abandon; simp [h]
@[simp ↓] theorem placeAgain_within (t : Nat) (r : Release) (h : [.disp, .drift, .firn, .pair] ⊆ L) :
    Within L s (u.placeAgain t r) ↔ Within L s u := by
  simp at h; unfold State.placeAgain; dsimp only; split <;> simp [h]
@[simp ↓] theorem discardReleases_within (safe : optParam Bool false) (h : [.disp, .drift, .firn, .pair] ⊆ L) :
    Within L s (u.discardReleases safe) ↔ Within L s u := by
  simp at h; unfold State.discardReleases; simp [h]
@[simp ↓] theorem setUndispatchable_within (t : Nat) (on : Bool) (h : [.disp, .moraine] ⊆ L) :
    Within L s (u.setUndispatchable t on) ↔ Within L s u := by
  simp at h; unfold State.setUndispatchable; simp [h]
@[simp ↓] theorem judgeUndispatchable_within (h : [.disp, .moraine] ⊆ L) : Within L s (u.judgeUndispatchable) ↔ Within L s u := by
  simp at h; unfold State.judgeUndispatchable; simp [h]
@[simp ↓] theorem moveQueues_within (old : State) (h : [.moraine] ⊆ L) : Within L s (u.moveQueues old) ↔ Within L s u := by
  simp at h; unfold State.moveQueues; simp [h]
@[simp ↓] theorem fenceCore_within (old : State) (c : Nat) (h : [.disp, .drift, .firn, .pair, .moraine] ⊆ L) :
    Within L s (u.fenceCore old c) ↔ Within L s u := by
  simp at h; unfold State.fenceCore; simp [h]
@[simp ↓] theorem replaced_within (i sub : Nat) (h : [.xan] ⊆ L) : Within L s (u.replaced i sub) ↔ Within L s u := by
  simp at h; unfold State.replaced; simp [h]
@[simp ↓] theorem setStaged_within (o : Option Image) (state : Nat) (h : [.xan, .prog] ⊆ L) : Within L s (u.setStaged o state) ↔ Within L s u := by
  simp at h; unfold State.setStaged; simp [h]
@[simp ↓] theorem dropTransferred_within (h : [.xan, .drift, .prog] ⊆ L) : Within L s (u.dropTransferred) ↔ Within L s u := by
  simp at h; unfold State.dropTransferred; simp [h]
@[simp ↓] theorem abortExchange_within (cause : Nat) (h : [.xan, .drift, .prog, .moraine] ⊆ L) :
    Within L s (u.abortExchange cause) ↔ Within L s u := by
  simp at h; unfold State.abortExchange; simp [h]
@[simp ↓] theorem abortBoth_within (cause : Nat) (h : [.xan, .drift, .prog, .pair, .moraine] ⊆ L) :
    Within L s (u.abortBoth cause) ↔ Within L s u := by
  simp at h; unfold State.abortBoth; simp [h]
@[simp ↓] theorem abortHandover_within (h : [.prog, .pair, .moraine] ⊆ L) : Within L s (u.abortHandover) ↔ Within L s u := by
  simp at h; unfold State.abortHandover; simp [h]
@[simp ↓] theorem startPhase_within (phase : Nat) (h : [.disp, .drift, .firn, .pair, .moraine] ⊆ L) :
    Within L s (u.startPhase phase) ↔ Within L s u := by
  simp at h; unfold State.startPhase; simp [h]
@[simp ↓] theorem leaveStep_within (cause phase : Nat) (h : [.xan, .disp, .drift, .firn, .prog, .pair, .moraine] ⊆ L) :
    Within L s (u.leaveStep cause phase) ↔ Within L s u := by
  simp at h; unfold State.leaveStep; simp [h]
@[simp ↓] theorem finishCheck_within (h : [.pair, .moraine] ⊆ L) : Within L s (u.finishCheck) ↔ Within L s u := by
  simp at h; unfold State.finishCheck; simp [h]
@[simp ↓] theorem pathOver_within (d : Nat) (h : [.pair, .moraine] ⊆ L) : Within L s (u.pathOver d) ↔ Within L s u := by
  simp at h; unfold State.pathOver; simp [h]
@[simp ↓] theorem dropOwn_within (reason : Nat) (h : [.xan, .sig, .disp, .drift, .prog, .pair, .moraine, .can, .field] ⊆ L) :
    Within L s (u.dropOwn reason) ↔ Within L s u := by
  simp at h; unfold State.dropOwn; simp [h]
@[simp ↓] theorem abortPrepare_within (result : Byte) (h : [.mode, .moraine] ⊆ L) : Within L s (u.abortPrepare result) ↔ Within L s u := by
  simp at h; unfold State.abortPrepare; simp [h]

end State

end Sys2Proof.Machine
end

section
/-! PROOF. How far the operations reach: occurrences and their reactions (HubOps.lean) -/
namespace Sys2Proof.Machine

namespace State
set_option maxRecDepth 8000
set_option Elab.async false
variable {L : List Facet} {s u : State}

@[simp ↓] theorem hubRecord_within (code severity : Nat) (words : List Word) (h : [.hub, .moraine] ⊆ L) :
    Within L s (u.hubRecord code severity words) ↔ Within L s u := by
  simp at h; unfold State.hubRecord; simp [h]
@[simp ↓] theorem hubEntry_within (d cls domain : Nat) (info : Word) (h : [.disp, .moraine] ⊆ L) :
    Within L s (u.hubEntry d cls domain info) ↔ Within L s u := by
  simp at h; unfold State.hubEntry; simp [h]
@[simp ↓] theorem sendSafe_within (ks : List Nat) (h : [.moraine, .link] ⊆ L) : Within L s (u.sendSafe ks) ↔ Within L s u := by
  simp at h; unfold State.sendSafe; simp [h]
@[simp ↓] theorem loseRing_within (h : [.moraine] ⊆ L) : Within L s (u.loseRing) ↔ Within L s u := by
  simp at h; unfold State.loseRing; simp [h]
@[simp ↓] theorem haltTransfers_within (of' : Frame → Bool) (h : [.drift] ⊆ L) : Within L s (u.haltTransfers of') ↔ Within L s u := by
  simp at h; unfold State.haltTransfers; simp [h]
@[simp ↓] theorem fenceEffect_within (old : State) (c : Nat) (h : [.sig, .disp, .drift, .firn, .pair, .moraine, .link, .can, .field] ⊆ L) :
    Within L s (u.fenceEffect old c) ↔ Within L s u := by
  simp at h; unfold State.fenceEffect; simp [h]
@[simp ↓] theorem startShadow_within (c parent : Nat) (h : [.hub] ⊆ L) : Within L s (u.startShadow c parent) ↔ Within L s u := by
  simp at h; unfold State.startShadow; simp [h]
@[simp ↓] theorem fence_within (c d : Nat) (info : Word) (h : [.sig, .disp, .drift, .firn, .pair, .hub, .moraine, .link, .can, .field] ⊆ L) :
    Within L s (u.fence c d info) ↔ Within L s u := by
  simp at h; unfold State.fence; simp [h]
@[simp ↓] theorem enterSafe_within (d : Nat) (h : Facet.reacting ⊆ L) : Within L s (u.enterSafe d) ↔ Within L s u := by
  simp at h; unfold State.enterSafe; simp [h]
@[simp ↓] theorem safeReaction_within (d : Nat) (a : DetAttr) (info : Word) (h : Facet.reacting ⊆ L) :
    Within L s (u.safeReaction d a info) ↔ Within L s u := by
  simp at h; unfold State.safeReaction; simp [h]
@[simp ↓] theorem occurMasked_within (d : Nat) (a : DetAttr) (info session : Word) (h : [.hub, .moraine] ⊆ L) :
    Within L s (u.occurMasked d a info session) ↔ Within L s u := by
  simp at h; unfold State.occurMasked; simp [h]
@[simp ↓] theorem occurLatching_within (d : Nat) (a : DetAttr) (info session : Word) (h : Facet.reacting ⊆ L) :
    Within L s (u.occurLatching d a info session) ↔ Within L s u := by
  simp at h; unfold State.occurLatching; simp [h]
@[simp ↓] theorem occurBy_within (d : Nat) (info session : Word) (h : Facet.reacting ⊆ L) : Within L s (u.occurBy d info session) ↔ Within L s u := by
  simp at h; unfold State.occurBy; split <;> simp [h]
@[simp ↓] theorem occur_within (d : Nat) (info : optParam Nat 0) (h : Facet.reacting ⊆ L) : Within L s (u.occur d info) ↔ Within L s u := by
  simp at h; unfold State.occur; simp [h]
@[simp ↓] theorem rise_within (d : Nat) (info : optParam Nat 0) (h : Facet.reacting ⊆ L) : Within L s (u.rise d info) ↔ Within L s u := by
  simp at h; unfold State.rise; simp [h]
@[simp ↓] theorem fall_within (d : Nat) (h : [.hub] ⊆ L) : Within L s (u.fall d) ↔ Within L s u := by
  simp at h; unfold State.fall; simp [h]

end State

end Sys2Proof.Machine
end

section
/-! PROOF. How far the operations reach: the Responder (Judge.lean) -/
namespace Sys2Proof.Machine

namespace State
set_option maxRecDepth 8000
set_option Elab.async false
variable {L : List Facet} {s u : State}

@[simp ↓] theorem endSession_within (n : Word) (h : [.sess, .moraine, .capture] ⊆ L) : Within L s (u.endSession n) ↔ Within L s u := by
  simp at h; unfold State.endSession; simp [h]
@[simp ↓] theorem endSessions_within (ns : List Word) (h : [.sess, .moraine, .capture] ⊆ L) : Within L s (u.endSessions ns) ↔ Within L s u := by
  simp at h; unfold State.endSessions; simp [h]
@[simp ↓] theorem endAllSessions_within (h : [.sess, .moraine, .capture] ⊆ L) : Within L s (u.endAllSessions) ↔ Within L s u := by
  simp at h; unfold State.endAllSessions; simp [h]
@[simp ↓] theorem send_within (y : Reply) (h : [.xan, .can] ⊆ L) : Within L s (u.send y) ↔ Within L s u := by
  simp at h; unfold State.send; simp [h]
@[simp ↓] theorem answer_within (x : ReplyTo) (status : Nat) (data : optParam (List Byte) []) (sub : optParam Byte x.req.sub) (h : Facet.answering ⊆ L) :
    Within L s (u.answer x status data sub) ↔ Within L s u := by
  simp at h; unfold State.answer; simp [h]
@[simp ↓] theorem tagFailure_within (r : Req) (check : Nat) (h : [.sess, .moraine] ⊆ L) : Within L s (u.tagFailure r check) ↔ Within L s u := by
  simp at h; unfold State.tagFailure; simp [h]
@[simp ↓] theorem consume_within (n : Word) (c : DWord) (h : [.sess] ⊆ L) : Within L s (u.consume n c) ↔ Within L s u := by
  simp at h; unfold State.consume; simp [h]
@[simp ↓] theorem enqueue_within (x : ReplyTo) (h : .disp :: .draws :: Facet.answering ⊆ L) : Within L s (u.enqueue x) ↔ Within L s u := by
  simp at h; unfold State.enqueue; simp [h]
/-- What a refusal by checks 1 to 13 reaches. -/
theorem judge_over_within {r : Req} {op : Nat} {t : State} (h : u.judge r op = .over t) : Within [.xan, .sess, .moraine, .capture, .can] u t := by
  unfold judge at h
  dsimp only at h
  (repeat' split at h) <;> cases h <;> simp
/-- A request that checks 1 to 13 pass has changed its session's counter at most. -/
theorem judge_passed_within {r : Req} {op : Nat} {t : State} {x : ReplyTo} (h : u.judge r op = .passed t x) : Within [.sess] u t := by
  unfold judge at h
  dsimp only at h
  (repeat' split at h) <;> cases h <;> simp
@[simp ↓] theorem forwarded_within (r : Req) (op : Nat) (complete : State → ReplyTo → State) (h : .disp :: .draws :: Facet.answering ⊆ L)
    (hc : ∀ v x, Within L v (complete v x)) : Within L s (u.forwarded r op complete) ↔ Within L s u := by
  simp at h
  unfold forwarded
  split
  · rfl
  · exact Within.step_iff (judge_over_within ‹_›) (by simp [h])
  · split
    · rw [Within.of_keeping (hc · _)]
      simp [h, Within.step_iff (judge_passed_within ‹_›)]
    · simp [h, Within.step_iff (judge_passed_within ‹_›)]
@[simp ↓] theorem completed_within (r : Req) (op : Nat) (complete : State → ReplyTo → State) (h : Facet.answering ⊆ L)
    (hc : ∀ v x, Within L v (complete v x)) : Within L s (u.completed r op complete) ↔ Within L s u := by
  unfold completed
  split
  · rfl
  · exact Within.step_iff (judge_over_within ‹_›) h
  · exact (Within.of_keeping (hc · _) _).trans (Within.step_iff (judge_passed_within ‹_›) (by simp at h ⊢; simp [h]))
@[simp ↓] theorem check14_within (x : ReplyTo) (range busy conflict : Bool) (op : State → State) (h : Facet.answering ⊆ L)
    (hop : ∀ v, Within L v (op v)) : Within L s (u.check14 x range busy conflict op) ↔ Within L s u := by
  simp at h; unfold check14; simp [h, Within.of_keeping hop]
@[simp ↓] theorem check14Later_within (x : ReplyTo) (range busy conflict : Bool) (op : State → State) (h : Facet.answering ⊆ L)
    (hop : ∀ v, Within L v (op v)) : Within L s (u.check14Later x range busy conflict op) ↔ Within L s u := by
  simp at h; unfold check14Later; simp [h, Within.of_keeping hop]
/-- The oldest request leaves the queue. -/
theorem takeSigned_within {i : Nat} {f : Fwd} {t : State} (h : u.takeSigned i = some (f, t)) : Within [.xan] u t := by
  unfold takeSigned at h
  (repeat' split at h) <;> cases h <;> simp
@[simp ↓] theorem onSigned_within (i : Nat) (op : State → Fwd → State) (h : [.xan] ⊆ L) (hop : ∀ v f, Within L v (op v f)) :
    Within L s (u.onSigned i op) ↔ Within L s u := by
  unfold onSigned
  split
  · rfl
  · exact (Within.of_keeping (hop · _) _).trans (Within.step_iff (takeSigned_within ‹_›) h)
theorem onSigned_within_of {i : Nat} {op : State → Fwd → State} (h : .xan ∈ L) (hop : ∀ t f, Within L u t → Within L u (op t f)) :
    Within L s (u.onSigned i op) ↔ Within L s u := by
  refine Within.step_iff ?_ (List.Subset.refl L)
  unfold onSigned
  split
  · exact Within.refl L u
  · exact hop _ _ ((takeSigned_within ‹_›).mono (by simp [h]))

end State

end Sys2Proof.Machine
end

section
/-! PROOF. How far the operations reach: the Fault Hub (Hub.lean) -/
namespace Sys2Proof.Machine

namespace State
set_option maxRecDepth 8000
set_option Elab.async false
variable {L : List Facet} {s u : State}

@[simp ↓] theorem occurOpen_within (d : Nat) (h : Facet.reacting ⊆ L) : Within L s (u.occurOpen d) ↔ Within L s u := by
  simp at h; unfold State.occurOpen; simp [h]
@[simp ↓] theorem riseOpen_within (d : Nat) (h : Facet.reacting ⊆ L) : Within L s (u.riseOpen d) ↔ Within L s u := by
  simp at h; unfold State.riseOpen; simp [h]
@[simp ↓] theorem damage_within (info : Word) (h : [.xan, .capture] ⊆ L) : Within L s (u.damage info) ↔ Within L s u := by
  simp at h; unfold State.damage; simp [h]
@[simp ↓] theorem spoil_within (info : Word) (h : [.moraine] ⊆ L) : Within L s (u.spoil info) ↔ Within L s u := by
  simp at h; unfold State.spoil; simp [h]
@[simp ↓] theorem opOccurrence_within (d : Nat) (info : Word) (h : Facet.settling ⊆ L) : Within L s (u.opOccurrence d info) ↔ Within L s u := by
  simp at h; unfold State.opOccurrence; simp [h]
@[simp ↓] theorem reoccur_within (domain : Nat) (h : Facet.reacting ⊆ L) : Within L s (u.reoccur domain) ↔ Within L s u := by
  simp at h; unfold State.reoccur; simp [h]
@[simp ↓] theorem judgeUnobtainable_within (h : Facet.reacting ⊆ L) : Within L s (u.judgeUnobtainable) ↔ Within L s u := by
  simp at h; unfold State.judgeUnobtainable; simp [h]
@[simp ↓] theorem opShadowEnd_within (c : Nat) (h : Facet.settling ⊆ L) : Within L s (u.opShadowEnd c) ↔ Within L s u := by
  simp at h; unfold State.opShadowEnd; simp [h]
@[simp ↓] theorem clearLatch_within (session : Word) (d : Nat) (h : [.hub, .moraine] ⊆ L) : Within L s (u.clearLatch session d) ↔ Within L s u := by
  simp at h; unfold State.clearLatch; simp [h]
@[simp ↓] theorem aliveInCold_within (h : [.hub] ⊆ L) : Within L s (u.aliveInCold) ↔ Within L s u := by
  simp at h; unfold State.aliveInCold; simp [h]
@[simp ↓] theorem opCauseLatch_within (x : ReplyTo) (h : .sig :: .hub :: Facet.answering ⊆ L) : Within L s (u.opCauseLatch x) ↔ Within L s u := by
  simp at h; unfold opCauseLatch; dsimp only; split <;> [simp [h]; exact check14_within _ _ _ _ _ (by simp [h]) fun v => by simp [h]]
@[simp ↓] theorem sendConfigure_within (k : Nat) (h : [.link] ⊆ L) : Within L s (u.sendConfigure k) ↔ Within L s u := by
  simp at h; unfold State.sendConfigure; simp [h]
@[simp ↓] theorem opFenceRestore_within (x : ReplyTo) (h : .disp :: .hub :: .link :: .draws :: Facet.answering ⊆ L) :
    Within L s (u.opFenceRestore x) ↔ Within L s u := by
  simp at h; unfold State.opFenceRestore; simp [h]
@[simp ↓] theorem rejoin_within (c : Nat) (h : [.sig, .disp, .drift, .firn, .hub, .moraine, .link, .can, .field] ⊆ L) :
    Within L s (u.rejoin c) ↔ Within L s u := by
  simp at h; unfold State.rejoin; simp [h]
@[simp ↓] theorem latchHit_within (h' : Nat × Word) (h : [.hub] ⊆ L) : Within L s (u.latchHit h') ↔ Within L s u := by
  simp at h; unfold State.latchHit; simp [h]
@[simp ↓] theorem opRestoreEnd_within (h : Facet.settling ⊆ L) : Within L s (u.opRestoreEnd) ↔ Within L s u := by
  simp at h; unfold State.opRestoreEnd; split <;> simp [h]
@[simp ↓] theorem raise_within (v : Nat) (session : Word) (h : Facet.settling ⊆ L) : Within L s (u.raise v session) ↔ Within L s u := by
  simp at h; unfold State.raise; split <;> simp [h]
@[simp ↓] theorem opRaise_within (x : ReplyTo) (h : Facet.settling ⊆ L) : Within L s (u.opRaise x) ↔ Within L s u := by
  simp at h; unfold State.opRaise; simp [h]
@[simp ↓] theorem homeRaise_within (v : Nat) (h : Facet.settling ⊆ L) : Within L s (u.homeRaise v) ↔ Within L s u := by
  simp at h; unfold State.homeRaise; simp [h]
@[simp ↓] theorem opDetRaise_within (w : ObjWrite) (off : Bool) (h : Facet.settling ⊆ L) : Within L s (u.opDetRaise w off) ↔ Within L s u := by
  simp at h; unfold State.opDetRaise; split <;> simp [h]
@[simp ↓] theorem abortPrepareIfOwned_within (result : Byte) (h : [.mode, .moraine] ⊆ L) :
    Within L s (u.abortPrepareIfOwned result) ↔ Within L s u := by
  simp at h; unfold State.abortPrepareIfOwned; simp [h]
@[simp ↓] theorem leafStop_within (missing : Nat) (h : Facet.settling ⊆ L) : Within L s (u.leafStop missing) ↔ Within L s u := by
  simp at h; unfold State.leafStop; simp [h]
@[simp ↓] theorem homeKick_within (v : Word) (h : Facet.settling ⊆ L) : Within L s (u.homeKick v) ↔ Within L s u := by
  simp at h; unfold State.homeKick; simp [h]
@[simp ↓] theorem opLeafKick_within (w : ObjWrite) (h : Facet.settling ⊆ L) : Within L s (u.opLeafKick w) ↔ Within L s u := by
  simp at h; unfold State.opLeafKick; split <;> simp [h]
@[simp ↓] theorem opLeafStop_within (missing : Nat) (h : Facet.settling ⊆ L) : Within L s (u.opLeafStop missing) ↔ Within L s u := by
  simp at h; unfold State.opLeafStop; simp [h]
@[simp ↓] theorem opAlive_within (h : [.hub] ⊆ L) : Within L s (u.opAlive) ↔ Within L s u := by
  simp at h; unfold State.opAlive; simp [h]

end State

end Sys2Proof.Machine
end

section
/-! PROOF. How far the operations reach: sessions and signed commands (Sessions.lean) -/
namespace Sys2Proof.Machine

namespace State
set_option maxRecDepth 8000
set_option Elab.async false
variable {L : List Facet} {s u : State}

@[simp ↓] theorem refuseOpen_within (x : ReplyTo) (check status : Nat) (h : [.xan, .sess, .moraine, .can, .draws] ⊆ L) :
    Within L s (u.refuseOpen x check status) ↔ Within L s u := by
  simp at h; unfold State.refuseOpen; simp [h]
@[simp ↓] theorem sessionFrame_within (r : Req) (op : Nat) (ok : ReplyTo → State) (h : Facet.answering ⊆ L)
    (hok : ∀ x, Within L s (ok x) ↔ Within L s u) : Within L s (u.sessionFrame r op ok) ↔ Within L s u := by
  simp at h; unfold sessionFrame; simp [h, hok]
@[simp ↓] theorem opSessionOpen_within (r : Req) (salt : BitVec 512) (h : .draws :: Facet.answering ⊆ L) :
    Within L s (u.opSessionOpen r salt) ↔ Within L s u := by
  simp at h
  refine sessionFrame_within _ _ _ (by simp [h]) fun x => ?_
  (repeat' split) <;> simp [h]
@[simp ↓] theorem opSessionOpenReply_within (key : BitVec 256) (number : Word) (h : .draws :: Facet.answering ⊆ L) :
    Within L s (u.opSessionOpenReply key number) ↔ Within L s u := by
  simp at h; unfold State.opSessionOpenReply; split <;> simp [h]
@[simp ↓] theorem opSessionClose_within (r : Req) (h : Facet.answering ⊆ L) : Within L s (u.opSessionClose r) ↔ Within L s u := by
  simp at h
  refine sessionFrame_within _ _ _ (by simp [h]) fun x => ?_
  (repeat' split) <;> simp [h]
@[simp ↓] theorem opSessionIdle_within (n : Word) (h : [.sess, .moraine, .capture] ⊆ L) : Within L s (u.opSessionIdle n) ↔ Within L s u := by
  simp at h; unfold State.opSessionIdle; simp [h]
@[simp ↓] theorem opSessionValidity_within (n : Word) (h : [.sess, .moraine, .capture] ⊆ L) : Within L s (u.opSessionValidity n) ↔ Within L s u := by
  simp at h; unfold State.opSessionValidity; simp [h]
@[simp ↓] theorem opSessionKill_within (x : ReplyTo) (h : Facet.answering ⊆ L) : Within L s (u.opSessionKill x) ↔ Within L s u := by
  simp at h; unfold State.opSessionKill; simp [h]
@[simp ↓] theorem opRevokedNonces_within (x : ReplyTo) (h : Facet.answering ⊆ L) : Within L s (u.opRevokedNonces x) ↔ Within L s u := by
  simp at h; unfold State.opRevokedNonces; simp [h]
@[simp ↓] theorem opIdleTimeout_within (x : ReplyTo) (h : Facet.answering ⊆ L) : Within L s (u.opIdleTimeout x) ↔ Within L s u := by
  simp at h; unfold State.opIdleTimeout; simp [h]
@[simp ↓] theorem opSignedWrite_within (r : Req) (h : .disp :: .draws :: Facet.answering ⊆ L) : Within L s (u.opSignedWrite r) ↔ Within L s u := by
  simp at h
  unfold opSignedWrite
  split
  · rfl
  · exact Within.step_iff (judge_over_within ‹_›) (by simp [h])
  · simp [h, Within.step_iff (judge_passed_within ‹_›)]
@[simp ↓] theorem opSignatureVerified_within (salt : BitVec 512) (h : Facet.answering ⊆ L) :
    Within L s (u.opSignatureVerified salt) ↔ Within L s u := by
  simp at h; unfold State.opSignatureVerified; split <;> simp [h]
@[simp ↓] theorem grantPresence_within (f : Fwd) (h : Facet.answering ⊆ L) : Within L s (u.grantPresence f) ↔ Within L s u := by
  simp at h; unfold State.grantPresence; simp [h]
@[simp ↓] theorem opPresencePermit_within (h : Facet.answering ⊆ L) : Within L s (u.opPresencePermit) ↔ Within L s u := by
  simp at h; unfold State.opPresencePermit; simp [h]
@[simp ↓] theorem opPresenceExpiry_within (h : [.sess] ⊆ L) : Within L s (u.opPresenceExpiry) ↔ Within L s u := by
  simp at h; unfold State.opPresenceExpiry; simp [h]
@[simp ↓] theorem reseal_within (h : [.sess] ⊆ L) : Within L s (u.reseal) ↔ Within L s u := by
  simp at h; unfold State.reseal; simp [h]
@[simp ↓] theorem emptyStage_within (h : [.xan, .sess] ⊆ L) : Within L s (u.emptyStage) ↔ Within L s u := by
  simp at h; unfold State.emptyStage; simp [h]
@[simp ↓] theorem replaceAuthority_within (h : [.xan, .sess] ⊆ L) : Within L s (u.replaceAuthority) ↔ Within L s u := by
  simp at h; unfold State.replaceAuthority; simp [h]
@[simp ↓] theorem replaceDeviceCert_within (l : List Byte) (h : [.xan, .sess] ⊆ L) : Within L s (u.replaceDeviceCert l) ↔ Within L s u := by
  simp at h; unfold State.replaceDeviceCert; simp [h]
@[simp ↓] theorem keystore_within (op : Nat) (refused : State → Bool) (install : State → State) (f : Fwd) (h : Facet.answering ⊆ L) (hinstall : ∀ v, Within L v (install v)) :
    Within L s (u.keystore op refused install f) ↔ Within L s u := by
  simp at h; unfold State.keystore; simp [h, hinstall]
@[simp ↓] theorem opKeystore_within (op : Nat) (refused : State → Bool) (install : State → State) (h : Facet.answering ⊆ L)
    (hi : ∀ v, Within L v (install v)) : Within L s (u.opKeystore op refused install) ↔ Within L s u := by
  refine onSigned_within_of (h (by simp)) fun t f ht => ?_
  dsimp only
  split <;> simp [h, hi, ht]
@[simp ↓] theorem keystoreAny_within (f : Fwd) (h : [.xan, .sess] ⊆ L) : Within L s (u.keystoreAny f) ↔ Within L s u := by
  simp at h; unfold State.keystoreAny; split <;> simp [h]
@[simp ↓] theorem opKeystoreStage_within (x : ReplyTo) (h : Facet.answering ⊆ L) : Within L s (u.opKeystoreStage x) ↔ Within L s u := by
  simp at h; unfold State.opKeystoreStage; simp [h]
@[simp ↓] theorem opQuoteNonce_within (x : ReplyTo) (h : Facet.answering ⊆ L) : Within L s (u.opQuoteNonce x) ↔ Within L s u := by
  simp at h; unfold State.opQuoteNonce; simp [h]
@[simp ↓] theorem opQuoteComplete_within (h : [.sess, .draws] ⊆ L) : Within L s (u.opQuoteComplete) ↔ Within L s u := by
  simp at h; unfold State.opQuoteComplete; simp [h]

end State

end Sys2Proof.Machine
end

section
/-! PROOF. How far the operations reach: Moraine (Moraine.lean) -/
namespace Sys2Proof.Machine

namespace State
set_option maxRecDepth 8000
set_option Elab.async false
variable {L : List Facet} {s u : State}

@[simp ↓] theorem opTrigger_within (code unit : Nat) (words : List Word) (h : [.moraine] ⊆ L) :
    Within L s (u.opTrigger code unit words) ↔ Within L s u := by
  simp at h; unfold State.opTrigger; simp [h]
@[simp ↓] theorem enterRing_within (r : Rec) (h : [.disp, .moraine] ⊆ L) : Within L s (u.enterRing r) ↔ Within L s u := by
  simp at h; unfold State.enterRing; simp [h]
@[simp ↓] theorem opAccept_within (h : [.disp, .moraine] ⊆ L) : Within L s (u.opAccept) ↔ Within L s u := by
  simp at h; unfold State.opAccept; split <;> simp [h]
@[simp ↓] theorem opPost_within (port code unit : Nat) (words : List Word) (h : [.moraine] ⊆ L) :
    Within L s (u.opPost port code unit words) ↔ Within L s u := by
  simp at h; unfold State.opPost; simp [h]
@[simp ↓] theorem flashResult_within (ok1 ok2 : Bool) (h : [.disp, .drift, .hub, .moraine] ⊆ L) :
    Within L s (u.flashResult ok1 ok2) ↔ Within L s u := by
  refine Within.step_iff (M := [.disp, .drift, .hub, .moraine]) (fun f hf => ?_) h
  cases f <;> simp_all [Facet.same]
@[simp ↓] theorem opPersistTick_within (h : Facet.reacting ⊆ L) : Within L s (u.opPersistTick) ↔ Within L s u := by
  simp at h; unfold State.opPersistTick; simp [h]
@[simp ↓] theorem opPersistComplete_within (ok1 ok2 : Bool) (h : Facet.reacting ⊆ L) : Within L s (u.opPersistComplete ok1 ok2) ↔ Within L s u := by
  simp at h; unfold State.opPersistComplete; simp [h]
@[simp ↓] theorem clearRecords_within (upTo : DWord) (a : Auth) (h : [.moraine] ⊆ L) : Within L s (u.clearRecords upTo a) ↔ Within L s u := by
  simp at h; unfold State.clearRecords; simp [h]
@[simp ↓] theorem clearMoraine_within (f : Fwd) (h : Facet.answering ⊆ L) : Within L s (u.clearMoraine f) ↔ Within L s u := by
  simp at h; unfold State.clearMoraine; simp [h]
@[simp ↓] theorem opMoraineClear_within (h : Facet.answering ⊆ L) : Within L s (u.opMoraineClear) ↔ Within L s u := by
  refine onSigned_within_of (h (by simp)) fun t f ht => ?_
  simp at h
  split <;> simp [h, ht]
@[simp ↓] theorem opMoraineCursor_within (x : ReplyTo) (h : Facet.answering ⊆ L) : Within L s (u.opMoraineCursor x) ↔ Within L s u := by
  simp at h; unfold State.opMoraineCursor; simp [h]
@[simp ↓] theorem limitRecord_within (x : ReplyTo) (code old : Nat) (h : [.moraine] ⊆ L) : Within L s (u.limitRecord x code old) ↔ Within L s u := by
  simp at h; unfold State.limitRecord; simp [h]
@[simp ↓] theorem opRateLimit_within (x : ReplyTo) (h : Facet.answering ⊆ L) : Within L s (u.opRateLimit x) ↔ Within L s u := by
  simp at h; unfold State.opRateLimit; simp [h]
@[simp ↓] theorem opSnapList_within (x : ReplyTo) (h : Facet.answering ⊆ L) : Within L s (u.opSnapList x) ↔ Within L s u := by
  simp at h; unfold State.opSnapList; simp [h]
@[simp ↓] theorem opNotify_within (x : ReplyTo) (h : Facet.answering ⊆ L) : Within L s (u.opNotify x) ↔ Within L s u := by
  simp at h; unfold State.opNotify; simp [h]

end State

end Sys2Proof.Machine
end

section
/-! PROOF. How far the operations reach: mode changes (Modes.lean) -/
namespace Sys2Proof.Machine

namespace State
set_option maxRecDepth 8000
set_option Elab.async false
variable {L : List Facet} {s u : State}

@[simp ↓] theorem assertReset_within (session : optParam Word 0) (h : Facet.settling ⊆ L) : Within L s (u.assertReset session) ↔ Within L s u := by
  simp at h; unfold State.assertReset; simp [h]
@[simp ↓] theorem beginResync_within (h : [.disp, .drift, .firn, .pair, .moraine] ⊆ L) : Within L s (u.beginResync) ↔ Within L s u := by
  simp at h; unfold State.beginResync; simp [h]
@[simp ↓] theorem accept_within (x : ReplyTo) (v : Nat) (h : [.mode, .moraine] ⊆ L) : Within L s (u.accept x v) ↔ Within L s u := by
  simp at h; unfold State.accept; simp [h]
@[simp ↓] theorem opModeRequest_within (x : ReplyTo) (h : .mode :: Facet.answering ⊆ L) : Within L s (u.opModeRequest x) ↔ Within L s u := by
  simp at h; unfold State.opModeRequest; simp [h]
@[simp ↓] theorem goTrack_within (x : ReplyTo) (h : Facet.settling ⊆ L) : Within L s (u.goTrack x) ↔ Within L s u := by
  simp at h; unfold State.goTrack; simp [h]
@[simp ↓] theorem opServiceRequest_within (x : ReplyTo) (h : Facet.settling ⊆ L) : Within L s (u.opServiceRequest x) ↔ Within L s u := by
  simp at h; unfold State.opServiceRequest; simp [h]
@[simp ↓] theorem opPowerUpPolicy_within (x : ReplyTo) (h : .mode :: Facet.answering ⊆ L) : Within L s (u.opPowerUpPolicy x) ↔ Within L s u := by
  simp at h; unfold State.opPowerUpPolicy; simp [h]
@[simp ↓] theorem opPrepareTimeout_within (x : ReplyTo) (h : .mode :: Facet.answering ⊆ L) : Within L s (u.opPrepareTimeout x) ↔ Within L s u := by
  simp at h; unfold State.opPrepareTimeout; simp [h]
@[simp ↓] theorem completeMode_within (h : [.mode, .xan, .disp, .drift, .firn, .prog, .pair, .hub, .moraine] ⊆ L) :
    Within L s (u.completeMode) ↔ Within L s u := by
  simp at h; unfold State.completeMode; simp [h]
@[simp ↓] theorem commitMode_within (target : Mode) (release : Bool) (session : Word) (h : .mode :: .sig :: .disp :: .drift :: .firn :: .prog :: .pair :: .hub :: .guard :: .field :: .draws :: Facet.answering ⊆ L) :
    Within L s (u.commitMode target release session) ↔ Within L s u := by
  simp at h; unfold State.commitMode; simp [h]
@[simp ↓] theorem opPrepareComplete_within (h : .mode :: .sig :: .disp :: .drift :: .firn :: .prog :: .pair :: .hub :: .guard :: .field :: .draws :: Facet.answering ⊆ L) :
    Within L s (u.opPrepareComplete) ↔ Within L s u := by
  simp at h; unfold State.opPrepareComplete; (repeat' split) <;> simp [h]
@[simp ↓] theorem opPrepareTimeoutEnd_within (h : [.mode, .moraine] ⊆ L) : Within L s (u.opPrepareTimeoutEnd) ↔ Within L s u := by
  simp at h; unfold State.opPrepareTimeoutEnd; simp [h]

end State

end Sys2Proof.Machine
end

section
/-! PROOF. How far the operations reach: signal writes and forces (Signals.lean) -/
namespace Sys2Proof.Machine

namespace State
set_option maxRecDepth 8000
set_option Elab.async false
variable {L : List Facet} {s u : State}

@[simp ↓] theorem streamSig_within (g : Nat) (h : [.pair] ⊆ L) : Within L s (u.streamSig g) ↔ Within L s u := by
  simp at h; unfold State.streamSig; simp [h]
@[simp ↓] theorem sourceSig_within (g : Nat) (f : Sig → Sig) (h : [.sig, .pair] ⊆ L) : Within L s (u.sourceSig g f) ↔ Within L s u := by
  simp at h; unfold State.sourceSig; simp [h]
@[simp ↓] theorem opSignalValue_within (x : ReplyTo) (h : .sig :: .pair :: Facet.answering ⊆ L) : Within L s (u.opSignalValue x) ↔ Within L s u := by
  simp at h; unfold State.opSignalValue; simp [h]
@[simp ↓] theorem queueForce_within (g : Nat) (h : [.pair] ⊆ L) : Within L s (u.queueForce g) ↔ Within L s u := by
  simp at h; unfold State.queueForce; simp [h]
@[simp ↓] theorem forceRecord_within (code g : Nat) (session : Word) (h : [.moraine] ⊆ L) :
    Within L s (u.forceRecord code g session) ↔ Within L s u := by
  simp at h; unfold State.forceRecord; simp [h]
@[simp ↓] theorem opForceValue_within (x : ReplyTo) (h : .sig :: .pair :: Facet.answering ⊆ L) : Within L s (u.opForceValue x) ↔ Within L s u := by
  simp at h; unfold State.opForceValue; simp [h]
@[simp ↓] theorem releaseForce_within (g : Nat) (session : Word) (h : [.sig, .pair, .moraine] ⊆ L) :
    Within L s (u.releaseForce g session) ↔ Within L s u := by
  simp at h; unfold State.releaseForce; simp [h]
@[simp ↓] theorem opForceState_within (x : ReplyTo) (h : .sig :: .pair :: Facet.answering ⊆ L) : Within L s (u.opForceState x) ↔ Within L s u := by
  simp at h; unfold State.opForceState; simp [h]
@[simp ↓] theorem opReleaseAll_within (x : ReplyTo) (h : .sig :: .pair :: Facet.answering ⊆ L) : Within L s (u.opReleaseAll x) ↔ Within L s u := by
  simp at h; unfold opReleaseAll; exact check14_within _ _ _ _ _ (by simp [h]) fun v => by simp [h]

end State

end Sys2Proof.Machine
end

section
/-! PROOF. How far the operations reach: the Capture Engine, shared (CapOps.lean) -/
namespace Sys2Proof.Machine

namespace State
set_option maxRecDepth 8000
set_option Elab.async false
variable {L : List Facet} {s u : State}

@[simp ↓] theorem setCap_within (g : Nat) (f : CapGroup → CapGroup) (h : [.capture] ⊆ L) : Within L s (u.setCap g f) ↔ Within L s u := by
  simp at h; unfold State.setCap; simp [h]
@[simp ↓] theorem indexChanged_within (h : [.xan] ⊆ L) : Within L s (u.indexChanged) ↔ Within L s u := by
  simp at h; unfold State.indexChanged; simp [h]
@[simp ↓] theorem tellArm_within (g : Nat) (on : Bool) (h : [.pair] ⊆ L) : Within L s (u.tellArm g on) ↔ Within L s u := by
  simp at h; unfold State.tellArm; simp [h]
@[simp ↓] theorem setArm_within (g : Nat) (on : Bool) (h : [.pair, .moraine, .capture] ⊆ L) : Within L s (u.setArm g on) ↔ Within L s u := by
  simp at h; unfold State.setArm; simp [h]
@[simp ↓] theorem swapGroups_within (old new : Image) (h : [.pair, .moraine, .capture] ⊆ L) : Within L s (u.swapGroups old new) ↔ Within L s u := by
  simp at h; unfold State.swapGroups; simp [h]
@[simp ↓] theorem capMarker_within (time code payload b : Nat) (h : [.capture] ⊆ L) :
    Within L s (u.capMarker time code payload b) ↔ Within L s u := by
  simp at h; unfold State.capMarker; simp [h]
@[simp ↓] theorem offsetPair_within (time : Nat) (offset : ℤ) (b : Nat) (h : [.capture] ⊆ L) :
    Within L s (u.offsetPair time offset b) ↔ Within L s u := by
  simp at h; unfold State.offsetPair; simp [h]
@[simp ↓] theorem stepPairs_within (old new : ℤ) (h : [.capture] ⊆ L) : Within L s (u.stepPairs old new) ↔ Within L s u := by
  simp at h; unfold State.stepPairs; simp [h]
@[simp ↓] theorem endCapture_within (c : Capture) (stop : Nat) (h : [.xan, .disp, .pair, .moraine, .capture, .draws] ⊆ L) :
    Within L s (u.endCapture c stop) ↔ Within L s u := by
  simp at h; unfold State.endCapture; simp [h]
@[simp ↓] theorem extendCaptures_within (x : CapItem) (h : Facet.settling ⊆ L) : Within L s (u.extendCaptures x) ↔ Within L s u := by
  simp at h; unfold State.extendCaptures; simp [h]
@[simp ↓] theorem pushItem_within (x : CapItem) (h : Facet.settling ⊆ L) : Within L s (u.pushItem x) ↔ Within L s u := by
  simp at h; unfold State.pushItem; simp [h]
@[simp ↓] theorem timeHigh_within (time : Nat) (h : Facet.settling ⊆ L) : Within L s (u.timeHigh time) ↔ Within L s u := by
  simp at h; unfold State.timeHigh; simp [h]
@[simp ↓] theorem seqMarkers_within (time : Nat) (changed : Bool) (h : Facet.settling ⊆ L) :
    Within L s (u.seqMarkers time changed) ↔ Within L s u := by
  simp at h; unfold State.seqMarkers; simp [h]
@[simp ↓] theorem writeItem_within (x : CapItem) (h : Facet.settling ⊆ L) : Within L s (u.writeItem x) ↔ Within L s u := by
  simp at h; unfold State.writeItem; simp [h]
@[simp ↓] theorem fire_within (g : Nat) (x : CapItem) (h : Facet.settling ⊆ L) : Within L s (u.fire g x) ↔ Within L s u := by
  simp at h; unfold State.fire; simp [h]
@[simp ↓] theorem stored_within (x : CapItem) (h : Facet.settling ⊆ L) : Within L s (u.stored x) ↔ Within L s u := by
  simp at h; unfold State.stored; dsimp only; (repeat' split) <;> simp [h]
@[simp ↓] theorem enqueueCap_within (at' : Nat) (x : CapItem) (h : Facet.settling ⊆ L) : Within L s (u.enqueueCap at' x) ↔ Within L s u := by
  simp at h; unfold State.enqueueCap; simp [h]
@[simp ↓] theorem drain_within (n : Nat) (h : Facet.settling ⊆ L) : Within L s (drain n u) ↔ Within L s u := by
  simp at h
  induction n generalizing u with
  | zero => rfl
  | succ n ih =>
    unfold drain
    split
    · simp [h, ↓ih]
    · split <;> simp [h, ↓ih]
@[simp ↓] theorem drainAll_within (h : Facet.settling ⊆ L) : Within L s (u.drainAll) ↔ Within L s u := by
  simp at h; unfold State.drainAll; simp [h]

end State

end Sys2Proof.Machine
end

section
/-! PROOF. How far the operations reach: the Capture Engine (Capture.lean) -/
namespace Sys2Proof.Machine

namespace State
set_option maxRecDepth 8000
set_option Elab.async false
variable {L : List Facet} {s u : State}

@[simp ↓] theorem opCapArrival_within (c : CaptureRec) (h : Facet.settling ⊆ L) : Within L s (u.opCapArrival c) ↔ Within L s u := by
  simp at h; unfold State.opCapArrival; simp [h]
@[simp ↓] theorem opCaptureEnd_within (g : Nat) (h : Facet.settling ⊆ L) : Within L s (u.opCaptureEnd g) ↔ Within L s u := by
  simp at h; unfold State.opCaptureEnd; dsimp only; (repeat' split) <;> simp [h]
@[simp ↓] theorem opGroupArm_within (x : ReplyTo) (h : .pair :: Facet.answering ⊆ L) : Within L s (u.opGroupArm x) ↔ Within L s u := by
  simp at h; unfold State.opGroupArm; simp [h]
@[simp ↓] theorem opArmSignal_within (g : Nat) (h : [.pair, .moraine, .capture] ⊆ L) : Within L s (u.opArmSignal g) ↔ Within L s u := by
  simp at h; unfold State.opArmSignal; split <;> simp [h]
@[simp ↓] theorem opArm_within (b : ArmBy) (h : .disp :: .pair :: .draws :: Facet.answering ⊆ L) : Within L s (u.opArm b) ↔ Within L s u := by
  simp at h; unfold State.opArm; split <;> simp [h]
@[simp ↓] theorem opCaptureRelease_within (x : ReplyTo) (h : .pair :: Facet.answering ⊆ L) : Within L s (u.opCaptureRelease x) ↔ Within L s u := by
  simp at h
  unfold opCaptureRelease
  refine check14_within _ _ _ _ _ (by simp [h]) fun v => ?_
  dsimp only
  split <;> simp [h]
@[simp ↓] theorem opCaptureCursor_within (x : ReplyTo) (h : Facet.answering ⊆ L) : Within L s (u.opCaptureCursor x) ↔ Within L s u := by
  simp at h; unfold State.opCaptureCursor; simp [h]
@[simp ↓] theorem opReorderDelay_within (x : ReplyTo) (h : Facet.answering ⊆ L) : Within L s (u.opReorderDelay x) ↔ Within L s u := by
  simp at h; unfold State.opReorderDelay; simp [h]
@[simp ↓] theorem opCaptureShare_within (x : ReplyTo) (h : Facet.answering ⊆ L) : Within L s (u.opCaptureShare x) ↔ Within L s u := by
  simp at h; unfold State.opCaptureShare; simp [h]
@[simp ↓] theorem opCapSetting_within (x : ReplyTo) (h : Facet.answering ⊆ L) : Within L s (u.opCapSetting x) ↔ Within L s u := by
  simp at h; unfold State.opCapSetting; split <;> simp [h]

end State

end Sys2Proof.Machine
end

section
/-! PROOF. How far the operations reach: Firn and the Commit Unit (Firn.lean) -/
namespace Sys2Proof.Machine

namespace State
set_option maxRecDepth 8000
set_option Elab.async false
variable {L : List Facet} {s u : State}

@[simp ↓] theorem dirty_within (page : Nat) (h : [.drift] ⊆ L) : Within L s (u.dirty page) ↔ Within L s u := by
  simp at h; unfold State.dirty; simp [h]
@[simp ↓] theorem setCopy_within (p w type : Nat) (v : Word) (h : [.drift, .firn] ⊆ L) : Within L s (u.setCopy p w type v) ↔ Within L s u := by
  simp at h; unfold State.setCopy; split <;> simp [h]
@[simp ↓] theorem setWord_within (w type : Nat) (v : Word) (h : [.drift, .firn] ⊆ L) : Within L s (u.setWord w type v) ↔ Within L s u := by
  simp at h; unfold State.setWord; simp [h]
@[simp ↓] theorem setArea_within (t p : Nat) (a : Area) (h : [.firn] ⊆ L) : Within L s (u.setArea t p a) ↔ Within L s u := by
  simp at h; unfold State.setArea; simp [h]
@[simp ↓] theorem overflowed_within (t p c : Nat) (h : Facet.reacting ⊆ L) : Within L s (u.overflowed t p c) ↔ Within L s u := by
  simp at h; unfold State.overflowed; simp [h]
@[simp ↓] theorem passOver_within (t : Nat) (r : Release) (h : [.disp, .drift, .firn, .pair] ⊆ L) : Within L s (u.passOver t r) ↔ Within L s u := by
  simp at h; unfold State.passOver; simp [h]
@[simp ↓] theorem opPassEnd_within (c : Nat) (acts : List PassAct) (blockNs gapNs : Ns) (h : Facet.reacting ⊆ L) :
    Within L s (u.opPassEnd c acts blockNs gapNs) ↔ Within L s u := by
  simp at h; unfold State.opPassEnd; split <;> simp [h]
@[simp ↓] theorem opBlockBoundary_within (c : Nat) (acts : List PassAct) (blockNs : Ns) (h : Facet.reacting ⊆ L) :
    Within L s (u.opBlockBoundary c acts blockNs) ↔ Within L s u := by
  simp at h; unfold State.opBlockBoundary; split <;> simp [h]
@[simp ↓] theorem opStashOverflow_within (c : Nat) (w : PassAct) (h : Facet.reacting ⊆ L) : Within L s (u.opStashOverflow c w) ↔ Within L s u := by
  simp at h; unfold State.opStashOverflow; split <;> simp [h]
@[simp ↓] theorem commitWrite_within (ws : List PlainWrite) (w : PlainWrite) (h : [.sig, .drift, .firn] ⊆ L) :
    Within L s (State.commitWrite ws u w) ↔ Within L s u := by
  simp at h; unfold State.commitWrite; simp [h]
@[simp ↓] theorem commitProduced_within (t : Nat) (h : [.sig] ⊆ L) : Within L s (u.commitProduced t) ↔ Within L s u := by
  simp at h; unfold State.commitProduced; simp [h]
@[simp ↓] theorem skewEnds_within (h : [.hub] ⊆ L) : Within L s (u.skewEnds) ↔ Within L s u := by
  simp at h; unfold State.skewEnds; simp [h]
@[simp ↓] theorem commit_within (t : Nat) (ws : List PlainWrite) (h : [.sig, .drift, .firn, .hub] ⊆ L) :
    Within L s (u.commit t ws) ↔ Within L s u := by
  simp at h; unfold State.commit; simp [h]
@[simp ↓] theorem skewHold_within (t : Nat) (h : Facet.reacting ⊆ L) : Within L s (u.skewHold t) ↔ Within L s u := by
  simp at h; unfold State.skewHold; simp [h]
@[simp ↓] theorem logChange_within (c : Change) (h : [.prog, .moraine] ⊆ L) : Within L s (u.logChange c) ↔ Within L s u := by
  simp at h; unfold State.logChange; simp [h]
@[simp ↓] theorem applyParam_within (q : ParamQ) (h : .drift :: .firn :: .prog :: .pair :: Facet.answering ⊆ L) :
    Within L s (u.applyParam q) ↔ Within L s u := by
  simp at h; unfold State.applyParam; simp [h]
@[simp ↓] theorem applyParams_within (t : Nat) (h : .drift :: .firn :: .prog :: .pair :: Facet.answering ⊆ L) :
    Within L s (u.applyParams t) ↔ Within L s u := by
  simp at h; unfold State.applyParams; simp [h]
@[simp ↓] theorem touch_within (t : Nat) (h : [.drift] ⊆ L) : Within L s (u.touch t) ↔ Within L s u := by
  simp at h; unfold State.touch; simp [h]
@[simp ↓] theorem spanned_within (t : Nat) (r : Release) (h : [.disp, .moraine, .draws] ⊆ L) : Within L s (u.spanned t r) ↔ Within L s u := by
  simp at h; unfold State.spanned; simp [h]
@[simp ↓] theorem repaired_within (t : Nat) (h : .disp :: .drift :: .firn :: .prog :: .pair :: Facet.answering ⊆ L) :
    Within L s (u.repaired t) ↔ Within L s u := by
  simp at h; unfold State.repaired; simp [h]
@[simp ↓] theorem follow_within (t outcome odd : Nat) (h : [.drift, .firn] ⊆ L) : Within L s (u.follow t outcome odd) ↔ Within L s u := by
  simp at h; unfold State.follow; simp [h]
@[simp ↓] theorem completed'_within (t : Nat) (r : Release) (outcome : Nat) (h : [.disp, .drift, .firn, .moraine, .draws] ⊆ L) :
    Within L s (u.completed' t r outcome) ↔ Within L s u := by
  simp at h; unfold State.completed'; simp [h]
@[simp ↓] theorem taintStep_within (t outcome : Nat) (h : [.sig, .disp, .firn, .moraine] ⊆ L) :
    Within L s (u.taintStep t outcome) ↔ Within L s u := by
  simp at h; unfold State.taintStep; simp [h]
@[simp ↓] theorem traceSkew_within (a b c : Area) (h : [.firn] ⊆ L) : Within L s (u.traceSkew a b c) ↔ Within L s u := by
  simp at h; unfold State.traceSkew; simp [h]
@[simp ↓] theorem recordVote_within (t : Nat) (r : Release) (a b c : Area) (outcome odd : Nat) (h : [.firn, .moraine] ⊆ L) :
    Within L s (u.recordVote t r a b c outcome odd) ↔ Within L s u := by
  simp at h; unfold State.recordVote; simp [h]
@[simp ↓] theorem voteDetectors_within (r : Release) (a b c : Area) (outcome : Nat) (h : Facet.reacting ⊆ L) :
    Within L s (u.voteDetectors r a b c outcome) ↔ Within L s u := by
  simp at h; unfold State.voteDetectors; simp [h]
@[simp ↓] theorem heldRelease_within (t : Nat) (r : Release) (outcome : Nat) (detect : State → State) (hd : ∀ v, Within L v (detect v))
    (h : Facet.reacting ⊆ L) : Within L s (u.heldRelease t r outcome detect) ↔ Within L s u := by
  simp at h; unfold heldRelease; simp [h, Within.of_keeping hd]
@[simp ↓] theorem testCommit_within (t : Nat) (as : List Area) (l : List (Target × Option (Shown × Nat))) (h : [.firn, .moraine] ⊆ L) :
    Within L s (u.testCommit t as l).1 ↔ Within L s u := by
  simp at h; unfold testCommit; dsimp only; (repeat' split) <;> simp [h]
@[simp ↓] theorem opVoteEnd_within (t : Nat) (h : Facet.reacting ⊆ L) : Within L s (u.opVoteEnd t) ↔ Within L s u := by
  simp at h
  unfold opVoteEnd
  dsimp only
  split
  · rfl
  · have hdetect : ∀ (r : Release) (a b c : Area) (o : Nat) (v : State), Within L s (v.voteDetectors r a b c o) ↔ Within L s v := fun r a b c o v => by simp [h]
    have hheld : ∀ (r : Release) (a b c : Area) (o : Nat) (v : State), Within L s (v.heldRelease t r o (fun v => v.voteDetectors r a b c o)) ↔ Within L s v :=
      fun r a b c o v => heldRelease_within _ _ _ _ (fun v => by simp [h]) (by simp [h])
    (repeat' split) <;> simp [h, hdetect, hheld]
@[simp ↓] theorem captureTask_within (t : Nat) (h : [.drift] ⊆ L) : Within L s (u.captureTask t) ↔ Within L s u := by
  simp at h; unfold State.captureTask; split <;> simp [h]
@[simp ↓] theorem opCommitComplete_within (t : Nat) (h : [.sig, .disp, .drift, .firn, .pair, .hub, .moraine, .capture, .draws] ⊆ L) :
    Within L s (u.opCommitComplete t) ↔ Within L s u := by
  simp at h; unfold State.opCommitComplete; split <;> simp [h]
@[simp ↓] theorem rebuildWord_within (odd w : Nat) (h : Facet.reacting ⊆ L) : Within L s (u.rebuildWord odd w) ↔ Within L s u := by
  simp at h; unfold State.rebuildWord; dsimp only; split <;> simp [h]
@[simp ↓] theorem opResyncEnd_within (t : Nat) (h : Facet.settling ⊆ L) : Within L s (u.opResyncEnd t) ↔ Within L s u := by
  simp at h; unfold State.opResyncEnd; simp [h]
@[simp ↓] theorem compareWord_within (t w : Nat) (h : Facet.reacting ⊆ L) : Within L s (State.compareWord t u w) ↔ Within L s u := by
  simp at h; unfold State.compareWord; dsimp only; split <;> simp [h]
@[simp ↓] theorem opCompareEnd_within (t : Nat) (h : Facet.settling ⊆ L) : Within L s (u.opCompareEnd t) ↔ Within L s u := by
  simp at h; unfold State.opCompareEnd; simp [h]
@[simp ↓] theorem opTaintRebuilt_within (t : Nat) (h : .disp :: .drift :: .firn :: .prog :: .pair :: Facet.answering ⊆ L) :
    Within L s (u.opTaintRebuilt t) ↔ Within L s u := by
  simp at h; unfold State.opTaintRebuilt; simp [h]
@[simp ↓] theorem opFirnReset_within (x : ReplyTo) (h : .firn :: Facet.answering ⊆ L) : Within L s (u.opFirnReset x) ↔ Within L s u := by
  simp at h; unfold State.opFirnReset; simp [h]
@[simp ↓] theorem opTraceTask_within (x : ReplyTo) (h : .firn :: Facet.answering ⊆ L) : Within L s (u.opTraceTask x) ↔ Within L s u := by
  simp at h; unfold State.opTraceTask; simp [h]

end State

end Sys2Proof.Machine
end

section
/-! PROOF. How far the operations reach: the Task Dispatcher (Tasks.lean) -/
namespace Sys2Proof.Machine

namespace State
set_option maxRecDepth 8000
set_option Elab.async false
variable {L : List Facet} {s u : State}

@[simp ↓] theorem judgeAlign_within (d : TaskDecl) (h : [.disp, .moraine] ⊆ L) : Within L s (u.judgeAlign d) ↔ Within L s u := by
  simp at h; unfold State.judgeAlign; simp [h]
@[simp ↓] theorem judgeAligns_within (h : [.disp, .moraine] ⊆ L) : Within L s (u.judgeAligns) ↔ Within L s u := by
  simp at h; unfold State.judgeAligns; simp [h]
@[simp ↓] theorem overrun_within (t : Nat) (r : Release) (h : Facet.reacting ⊆ L) : Within L s (u.overrun t r) ↔ Within L s u := by
  simp at h; unfold State.overrun; simp [h]
@[simp ↓] theorem opDeadline_within (t : Nat) (h : Facet.reacting ⊆ L) : Within L s (u.opDeadline t) ↔ Within L s u := by
  simp at h; unfold State.opDeadline; split <;> simp [h]
@[simp ↓] theorem adopt_within (t : Nat) (h : [.mode, .xan, .sig, .disp, .drift, .firn, .prog, .pair, .hub, .moraine, .can, .field] ⊆ L) :
    Within L s (u.adopt t) ↔ Within L s u := by
  simp at h; unfold State.adopt; simp [h]
@[simp ↓] theorem switchPage_within (t : Nat) (h : [.prog, .pair] ⊆ L) : Within L s (u.switchPage t) ↔ Within L s u := by
  simp at h; unfold State.switchPage; split <;> simp [h]
@[simp ↓] theorem place_within (d : TaskDecl) (c : Nat) (h : Facet.reacting ⊆ L) : Within L s (u.place d c) ↔ Within L s u := by
  simp at h; unfold State.place; simp [h]
@[simp ↓] theorem missed_within (t : Nat) (h : [.disp, .moraine] ⊆ L) : Within L s (u.missed t) ↔ Within L s u := by
  simp at h; unfold State.missed; simp [h]
@[simp ↓] theorem unhalt_within (t : Nat) (h : [.disp, .firn] ⊆ L) : Within L s (u.unhalt t) ↔ Within L s u := by
  simp at h; unfold State.unhalt; simp [h]
@[simp ↓] theorem stampRelease_within (d : TaskDecl) (h : [.disp] ⊆ L) : Within L s (u.stampRelease d) ↔ Within L s u := by
  simp at h; unfold State.stampRelease; simp [h]
@[simp ↓] theorem releaseAt_within (d : TaskDecl) (h : Facet.settling ⊆ L) : Within L s (u.releaseAt d) ↔ Within L s u := by
  simp at h; unfold State.releaseAt; dsimp only; (repeat' split) <;> simp [h]
@[simp ↓] theorem opPrefetch_within (t : Nat) (h : [.drift] ⊆ L) : Within L s (u.opPrefetch t) ↔ Within L s u := by
  simp at h; unfold State.opPrefetch; split <;> simp [h]
@[simp ↓] theorem opResident_within (t : Nat) (h : [.disp, .drift, .firn] ⊆ L) : Within L s (u.opResident t) ↔ Within L s u := by
  simp at h; unfold State.opResident; (repeat' split) <;> simp [h]
@[simp ↓] theorem opIdle_within (c : Nat) (h : [.disp] ⊆ L) : Within L s (u.opIdle c) ↔ Within L s u := by
  simp at h; unfold State.opIdle; simp [h]
@[simp ↓] theorem notify_within (n : Nat) (h : [.disp] ⊆ L) : Within L s (u.notify n) ↔ Within L s u := by
  simp at h; unfold State.notify; simp [h]
@[simp ↓] theorem opNotify'_within (n : Nat) (h : [.disp] ⊆ L) : Within L s (u.opNotify' n) ↔ Within L s u := by
  simp at h; unfold State.opNotify'; simp [h]
@[simp ↓] theorem opCoalesce_within (n : Nat) (h : [.disp] ⊆ L) : Within L s (u.opCoalesce n) ↔ Within L s u := by
  simp at h; unfold State.opCoalesce; simp [h]
@[simp ↓] theorem opConsume_within (n k : Nat) (h : [.disp] ⊆ L) : Within L s (u.opConsume n k) ↔ Within L s u := by
  simp at h; unfold State.opConsume; simp [h]
@[simp ↓] theorem opProduce_within (n : Nat) (entry : List Word) (h : [.disp, .moraine] ⊆ L) : Within L s (u.opProduce n entry) ↔ Within L s u := by
  simp at h; unfold State.opProduce; simp [h]
@[simp ↓] theorem writeQueueReg_within (a : Nat) (v : Word) (h : [.disp, .moraine] ⊆ L) : Within L s (u.writeQueueReg a v) ↔ Within L s u := by
  simp at h; unfold State.writeQueueReg; split <;> simp [h]
@[simp ↓] theorem opStatsReset_within (x : ReplyTo) (h : .disp :: Facet.answering ⊆ L) : Within L s (u.opStatsReset x) ↔ Within L s u := by
  simp at h; unfold State.opStatsReset; simp [h]
@[simp ↓] theorem opBudgetWarn_within (x : ReplyTo) (h : .disp :: Facet.answering ⊆ L) : Within L s (u.opBudgetWarn x) ↔ Within L s u := by
  simp at h; unfold State.opBudgetWarn; simp [h]

end State

end Sys2Proof.Machine
end

section
/-! PROOF. How far the operations reach: Drift (Drift.lean) -/
namespace Sys2Proof.Machine

namespace State
set_option maxRecDepth 8000
set_option Elab.async false
variable {L : List Facet} {s u : State}

@[simp ↓] theorem judgeLoaded_within (h : [.drift] ⊆ L) : Within L s (u.judgeLoaded) ↔ Within L s u := by
  simp at h; unfold State.judgeLoaded; simp [h]
@[simp ↓] theorem armFetch_within (h : [.drift] ⊆ L) : Within L s (u.armFetch) ↔ Within L s u := by
  simp at h
  unfold armFetch
  split
  · rfl
  · refine Within.foldl _ _ fun v p => ?_
    dsimp only
    split <;> simp [h]
@[simp ↓] theorem placeCopy_within (h : [.drift, .prog] ⊆ L) : Within L s (u.placeCopy) ↔ Within L s u := by
  simp at h; unfold State.placeCopy; split <;> simp [h]
@[simp ↓] theorem driftDone_within (h : [.disp, .drift, .prog, .moraine, .draws] ⊆ L) : Within L s (u.driftDone) ↔ Within L s u := by
  simp at h; unfold State.driftDone; simp [h]
@[simp ↓] theorem opFetched_within (page : Nat) (duration : Ns) (crcOk : Bool) (h : Facet.reacting ⊆ L) :
    Within L s (u.opFetched page duration crcOk) ↔ Within L s u := by
  simp at h; unfold State.opFetched; split <;> simp [h]
@[simp ↓] theorem opWrittenBack_within (f : Nat) (h : [.disp, .drift, .prog, .moraine, .draws] ⊆ L) :
    Within L s (u.opWrittenBack f) ↔ Within L s u := by
  simp at h; unfold State.opWrittenBack; simp [h]
@[simp ↓] theorem opAlloc_within (h : [.drift, .draws] ⊆ L) : Within L s (u.opAlloc) ↔ Within L s u := by
  simp at h; unfold State.opAlloc; dsimp only; split <;> simp [h]
@[simp ↓] theorem opFree_within (a : Nat) (h : [.drift, .moraine] ⊆ L) : Within L s (u.opFree a) ↔ Within L s u := by
  simp at h; unfold State.opFree; simp [h]
@[simp ↓] theorem beginCkpt_within (h : [.drift] ⊆ L) : Within L s (u.beginCkpt) ↔ Within L s u := by
  simp at h; unfold State.beginCkpt; simp [h]
@[simp ↓] theorem opCkptTick_within (h : [.drift] ⊆ L) : Within L s (u.opCkptTick) ↔ Within L s u := by
  simp at h; unfold State.opCkptTick; simp [h]
@[simp ↓] theorem opCkptComplete_within (ok1 ok2 : Bool) (h : Facet.settling ⊆ L) : Within L s (u.opCkptComplete ok1 ok2) ↔ Within L s u := by
  simp at h; unfold State.opCkptComplete; dsimp only; (repeat' split) <;> simp [h]
@[simp ↓] theorem opWaive_within (x : ReplyTo) (h : .drift :: Facet.answering ⊆ L) : Within L s (u.opWaive x) ↔ Within L s u := by
  simp at h; unfold State.opWaive; simp [h]
@[simp ↓] theorem opEcc_within (k : Nat) (h : Facet.reacting ⊆ L) : Within L s (u.opEcc k) ↔ Within L s u := by
  simp at h; unfold State.opEcc; simp [h]
@[simp ↓] theorem opDriftReset_within (x : ReplyTo) (h : .drift :: Facet.answering ⊆ L) : Within L s (u.opDriftReset x) ↔ Within L s u := by
  simp at h; unfold State.opDriftReset; simp [h]
@[simp ↓] theorem opEccThreshold_within (x : ReplyTo) (h : .drift :: Facet.answering ⊆ L) : Within L s (u.opEccThreshold x) ↔ Within L s u := by
  simp at h; unfold State.opEccThreshold; simp [h]

end State

end Sys2Proof.Machine
end

section
/-! PROOF. How far the operations reach: Region Guard and the debug master (Guard.lean) -/
namespace Sys2Proof.Machine

namespace State
set_option maxRecDepth 8000
set_option Elab.async false
variable {L : List Facet} {s u : State}

@[simp ↓] theorem report_within (x : Access) (info : Nat) (h : [.guard, .moraine] ⊆ L) : Within L s (u.report x info) ↔ Within L s u := by
  simp at h; unfold State.report; simp [h]
@[simp ↓] theorem markFaulted_within (t p : Nat) (h : [.firn] ⊆ L) : Within L s (u.markFaulted t p) ↔ Within L s u := by
  simp at h; unfold State.markFaulted; simp [h]
@[simp ↓] theorem violation_within (x : Access) (info : Nat) (h : Facet.settling ⊆ L) : Within L s (u.violation x info) ↔ Within L s u := by
  simp at h; unfold State.violation; dsimp only; (repeat' split) <;> simp [h]
@[simp ↓] theorem opViolation_within (x : Access) (h : Facet.settling ⊆ L) : Within L s (u.opViolation x) ↔ Within L s u := by
  simp at h; unfold State.opViolation; (repeat' split) <;> simp [h]
@[simp ↓] theorem opUndeclared_within (c : Nat) (a : Word) (kind : Nat) (badEntry : Bool) (h : Facet.settling ⊆ L) :
    Within L s (u.opUndeclared c a kind badEntry) ↔ Within L s u := by
  simp at h; unfold State.opUndeclared; split <;> simp [h]
@[simp ↓] theorem opNonresident_within (c : Nat) (a : Word) (kind : Nat) (h : [.moraine] ⊆ L) :
    Within L s (u.opNonresident c a kind) ↔ Within L s u := by
  simp at h; unfold State.opNonresident; simp [h]
@[simp ↓] theorem writeRegion_within (by' m w : Nat) (v : Word) (h : [.guard] ⊆ L) : Within L s (u.writeRegion by' m w v) ↔ Within L s u := by
  simp at h; unfold State.writeRegion; simp [h]
@[simp ↓] theorem opGuardSync_within (by' : Nat) (mask : Half) (h : [.guard] ⊆ L) : Within L s (u.opGuardSync by' mask) ↔ Within L s u := by
  simp at h; unfold State.opGuardSync; (repeat' split) <;> simp [h]
@[simp ↓] theorem loadTap_within (code : Byte) (refused boundary : Bool) (h : [.guard] ⊆ L) :
    Within L s (u.loadTap code refused boundary) ↔ Within L s u := by
  simp at h; unfold State.loadTap; simp [h]
@[simp ↓] theorem opScan_within (code : Byte) (h : [.guard] ⊆ L) : Within L s (u.opScan code) ↔ Within L s u := by
  simp at h; unfold State.opScan; simp [h]
@[simp ↓] theorem refuseDebug_within (h : [.guard] ⊆ L) : Within L s (u.refuseDebug) ↔ Within L s u := by
  simp at h; unfold State.refuseDebug; simp [h]
@[simp ↓] theorem acceptDebug_within (h : [.guard] ⊆ L) : Within L s (u.acceptDebug) ↔ Within L s u := by
  simp at h; unfold State.acceptDebug; simp [h]
@[simp ↓] theorem opAttach_within (h : [.guard, .moraine, .draws] ⊆ L) : Within L s (u.opAttach) ↔ Within L s u := by
  simp at h; unfold State.opAttach; simp [h]
@[simp ↓] theorem taint_within (t : Nat) (h : [.sig, .disp, .firn, .moraine] ⊆ L) : Within L s (u.taint t) ↔ Within L s u := by
  simp at h; unfold State.taint; dsimp only; (repeat' split) <;> simp [h]
@[simp ↓] theorem opHalt_within (t : Nat) (h : [.sig, .disp, .firn, .guard, .moraine, .capture] ⊆ L) : Within L s (u.opHalt t) ↔ Within L s u := by
  simp at h; unfold State.opHalt; simp [h]
@[simp ↓] theorem stepBlock_within (t : Nat) (acts : List PassAct) (blockNs : Ns) (last : Bool) (h : Facet.reacting ⊆ L) :
    Within L s (u.stepBlock t acts blockNs last) ↔ Within L s u := by
  simp at h; unfold State.stepBlock; split <;> simp [h]
@[simp ↓] theorem opStep_within (t : Nat) (acts : List PassAct) (blockNs : Ns) (last : Bool) (h : Facet.settling ⊆ L) :
    Within L s (u.opStep t acts blockNs last) ↔ Within L s u := by
  simp at h; unfold State.opStep; dsimp only; (repeat' split) <;> simp [h]
@[simp ↓] theorem opResume_within (t : Nat) (h : [.disp, .firn, .guard] ⊆ L) : Within L s (u.opResume t) ↔ Within L s u := by
  simp at h; unfold State.opResume; simp [h]
@[simp ↓] theorem opDetach_within (h : [.disp, .drift, .firn, .guard, .moraine, .draws] ⊆ L) : Within L s (u.opDetach) ↔ Within L s u := by
  simp at h; unfold State.opDetach; simp [h]
@[simp ↓] theorem opTapReset_within (h : [.disp, .drift, .firn, .guard, .moraine, .draws] ⊆ L) : Within L s (u.opTapReset) ↔ Within L s u := by
  simp at h; unfold State.opTapReset; simp [h]
@[simp ↓] theorem openWord_within (h : [.draws] ⊆ L) : Within L s u.openWord.2 ↔ Within L s u := by
  simp at h; unfold openWord; simp [h]
@[simp ↓] theorem homeLive_within (m a i sub : Nat) (h : [.xan] ⊆ L) : Within L s (u.homeLive m a i sub).2 ↔ Within L s u := by
  simp at h; unfold homeLive; dsimp only; (repeat' split) <;> simp [h]
@[simp ↓] theorem homeRead_within (m a : Nat) (h : [.xan] ⊆ L) : Within L s (u.homeRead m a).2 ↔ Within L s u := by
  simp at h; unfold homeRead; (repeat' split) <;> simp [h]
@[simp ↓] theorem busWord_within (a : Nat) (h : [.xan, .draws] ⊆ L) : Within L s (u.busWord a).2 ↔ Within L s u := by
  simp at h
  have helim : ∀ o : Option Word, Within L s (o.elim u.openWord (fun w => (w, u))).2 ↔ Within L s u := fun o => by cases o <;> simp [h]
  unfold busWord; (repeat' split) <;> simp [h, helim]
@[simp ↓] theorem dbgResult_within (st : BitVec 2) (v : Word) (h : [.guard] ⊆ L) : Within L s (u.dbgResult st v) ↔ Within L s u := by
  simp at h; unfold State.dbgResult; simp [h]
@[simp ↓] theorem dbgGate_within (h : [.guard] ⊆ L) : Within L s (u.dbgGate) ↔ Within L s u := by
  simp at h; unfold State.dbgGate; simp [h]
@[simp ↓] theorem opDbgRead_within (a : Nat) (h : Facet.settling ⊆ L) : Within L s (u.opDbgRead a) ↔ Within L s u := by
  simp at h; unfold State.opDbgRead; (repeat' split) <;> simp [h]
@[simp ↓] theorem dbgRecord_within (a : Nat) (old new : Word) (outcome : Nat) (h : [.moraine] ⊆ L) :
    Within L s (u.dbgRecord a old new outcome) ↔ Within L s u := by
  simp at h; unfold State.dbgRecord; simp [h]
@[simp ↓] theorem dbgState_within (a w : Nat) (v : Word) (h : [.sig, .disp, .drift, .firn, .guard, .moraine, .capture] ⊆ L) :
    Within L s (u.dbgState a w v) ↔ Within L s u := by
  simp at h; unfold State.dbgState; simp [h]
@[simp ↓] theorem dbgSignal_within (a : Nat) (v : Word) (h : [.sig, .guard, .moraine, .capture] ⊆ L) :
    Within L s (u.dbgSignal a v) ↔ Within L s u := by
  simp at h; unfold State.dbgSignal; simp [h]
@[simp ↓] theorem opDbgWrite_within (a : Nat) (v : Word) (h : .mem :: Facet.settling ⊆ L) : Within L s (u.opDbgWrite a v) ↔ Within L s u := by
  simp at h; unfold State.opDbgWrite; (repeat' split) <;> simp [h]
@[simp ↓] theorem opDebugPermit_within (x : ReplyTo) (h : .guard :: Facet.answering ⊆ L) : Within L s (u.opDebugPermit x) ↔ Within L s u := by
  simp at h; unfold State.opDebugPermit; simp [h]
@[simp ↓] theorem opPermitExpiry_within (h : [.disp, .drift, .firn, .guard, .moraine, .draws] ⊆ L) :
    Within L s (u.opPermitExpiry) ↔ Within L s u := by
  simp at h; unfold State.opPermitExpiry; simp [h]

end State

end Sys2Proof.Machine
end

section
/-! PROOF. How far the operations reach: the I/O links (Links.lean) -/
namespace Sys2Proof.Machine

namespace State
set_option maxRecDepth 8000
set_option Elab.async false
variable {L : List Facet} {s u : State}

@[simp ↓] theorem linkEvent_within (k info : Nat) (h : Facet.reacting ⊆ L) : Within L s (u.linkEvent k info) ↔ Within L s u := by
  simp at h; unfold State.linkEvent; simp [h]
@[simp ↓] theorem markInputs_within (k m : Nat) (f : Sig → Sig) (h : [.sig, .pair] ⊆ L) : Within L s (u.markInputs k m f) ↔ Within L s u := by
  simp at h; unfold State.markInputs; simp [h]
@[simp ↓] theorem missOnce_within (k m : Nat) (h : Facet.reacting ⊆ L) : Within L s (u.missOnce k m) ↔ Within L s u := by
  simp at h; unfold State.missOnce; simp [h]
@[simp ↓] theorem judgeMissing_within (k m : Nat) (h : Facet.reacting ⊆ L) : Within L s (u.judgeMissing k m) ↔ Within L s u := by
  simp at h; unfold State.judgeMissing; simp [h]
@[simp ↓] theorem failTransaction_within (k m : Nat) (h : Facet.reacting ⊆ L) : Within L s (u.failTransaction k m) ↔ Within L s u := by
  simp at h; unfold State.failTransaction; simp [h]
@[simp ↓] theorem linkFails_within (k cause : Nat) (h : Facet.reacting ⊆ L) : Within L s (u.linkFails k cause) ↔ Within L s u := by
  simp at h; unfold State.linkFails; simp [h]
@[simp ↓] theorem unansweredConfigs_within (k : Nat) (h : Facet.reacting ⊆ L) : Within L s (u.unansweredConfigs k) ↔ Within L s u := by
  simp at h; unfold State.unansweredConfigs; simp [h]
@[simp ↓] theorem closeCycle_within (k : Nat) (overrun : Bool) (h : Facet.reacting ⊆ L) : Within L s (u.closeCycle k overrun) ↔ Within L s u := by
  simp at h; unfold State.closeCycle; simp [h]
@[simp ↓] theorem overrunCycle_within (k : Nat) (h : Facet.reacting ⊆ L) : Within L s (u.overrunCycle k) ↔ Within L s u := by
  simp at h; unfold State.overrunCycle; simp [h]
@[simp ↓] theorem startCycle_within (k : Nat) (h : [.link] ⊆ L) : Within L s (u.startCycle k) ↔ Within L s u := by
  simp at h; unfold State.startCycle; simp [h]
@[simp ↓] theorem linkSound_within (k : Nat) (h : [.hub] ⊆ L) : Within L s (u.linkSound k) ↔ Within L s u := by
  simp at h; unfold State.linkSound; simp [h]
@[simp ↓] theorem parkNow_within (k : Nat) (h : Facet.reacting ⊆ L) : Within L s (u.parkNow k) ↔ Within L s u := by
  simp at h; unfold State.parkNow; simp [h]
@[simp ↓] theorem opCycle_within (k : Nat) (h : Facet.settling ⊆ L) : Within L s (u.opCycle k) ↔ Within L s u := by
  simp at h; unfold State.opCycle; split <;> simp [h]
@[simp ↓] theorem takeInputs_within (k : Nat) (p : LinkReply) (h : [.sig, .pair] ⊆ L) : Within L s (u.takeInputs k p) ↔ Within L s u := by
  simp at h; unfold State.takeInputs; simp [h]
@[simp ↓] theorem judgeEcho_within (k : Nat) (p : LinkReply) (c : Nat) (h : Facet.reacting ⊆ L) : Within L s (u.judgeEcho k p c) ↔ Within L s u := by
  simp at h; unfold State.judgeEcho; simp [h]
@[simp ↓] theorem takeSoe_within (k : Nat) (p : LinkReply) (h : Facet.settling ⊆ L) : Within L s (u.takeSoe k p) ↔ Within L s u := by
  simp at h; unfold State.takeSoe; simp [h]
@[simp ↓] theorem firstReports_within (k : Nat) (old : Byte) (p : LinkReply) (h : Facet.reacting ⊆ L) :
    Within L s (u.firstReports k old p) ↔ Within L s u := by
  simp at h; unfold State.firstReports; simp [h]
@[simp ↓] theorem goodReply_within (k : Nat) (p : LinkReply) (h : Facet.settling ⊆ L) : Within L s (u.goodReply k p) ↔ Within L s u := by
  simp at h; unfold State.goodReply; simp [h]
@[simp ↓] theorem opLinkReply_within (k : Nat) (p : LinkReply) (h : Facet.settling ⊆ L) : Within L s (u.opLinkReply k p) ↔ Within L s u := by
  simp at h; unfold State.opLinkReply; simp [h]
@[simp ↓] theorem opReplyWindow_within (k m : Nat) (h : Facet.settling ⊆ L) : Within L s (u.opReplyWindow k m) ↔ Within L s u := by
  simp at h; unfold State.opReplyWindow; simp [h]
@[simp ↓] theorem opCycleEnd_within (k : Nat) (h : Facet.settling ⊆ L) : Within L s (u.opCycleEnd k) ↔ Within L s u := by
  simp at h; unfold State.opCycleEnd; simp [h]
@[simp ↓] theorem opConfigReply_within (k : Nat) (p : ConfigReply) (h : Facet.settling ⊆ L) : Within L s (u.opConfigReply k p) ↔ Within L s u := by
  simp at h; unfold State.opConfigReply; simp [h]
@[simp ↓] theorem opConfigRetry_within (k m : Nat) (h : [.link] ⊆ L) : Within L s (u.opConfigRetry k m) ↔ Within L s u := by
  simp at h; unfold State.opConfigRetry; simp [h]
@[simp ↓] theorem opLinkLost_within (k : Nat) (h : Facet.settling ⊆ L) : Within L s (u.opLinkLost k) ↔ Within L s u := by
  simp at h; unfold State.opLinkLost; simp [h]
@[simp ↓] theorem opLinkTrained_within (k : Nat) (delay : Word) (h : [.sig, .hub, .moraine, .capture, .link] ⊆ L) :
    Within L s (u.opLinkTrained k delay) ↔ Within L s u := by
  simp at h; unfold State.opLinkTrained; simp [h]
@[simp ↓] theorem opLinkPark_within (x : ReplyTo) (h : .link :: Facet.answering ⊆ L) : Within L s (u.opLinkPark x) ↔ Within L s u := by
  simp at h; unfold State.opLinkPark; simp [h]
@[simp ↓] theorem opLinkSetting_within (x : ReplyTo) (h : .link :: Facet.answering ⊆ L) : Within L s (u.opLinkSetting x) ↔ Within L s u := by
  simp at h; unfold State.opLinkSetting; simp [h]

end State

end Sys2Proof.Machine
end

section
/-! PROOF. How far the operations reach: program images, loading (Load.lean) -/
namespace Sys2Proof.Machine

namespace State
set_option maxRecDepth 8000
set_option Elab.async false
variable {L : List Facet} {s u : State}

@[simp ↓] theorem rebuildCopies_within (h : [.firn] ⊆ L) : Within L s (u.rebuildCopies) ↔ Within L s u := by
  simp at h; unfold State.rebuildCopies; simp [h]
@[simp ↓] theorem freshFirn_within (h : [.firn] ⊆ L) : Within L s (u.freshFirn) ↔ Within L s u := by
  simp at h; unfold State.freshFirn; simp [h]
@[simp ↓] theorem appendBoot_within (e : BootEntry) (h : [.sedge] ⊆ L) : Within L s (u.appendBoot e) ↔ Within L s u := by
  simp at h; unfold State.appendBoot; simp [h]
@[simp ↓] theorem appendMeasured_within (component result slot : Nat) (digest : BitVec 512) (h : [.sedge, .draws] ⊆ L) :
    Within L s (u.appendMeasured component result slot digest) ↔ Within L s u := by
  simp at h; unfold State.appendMeasured; simp [h]
@[simp ↓] theorem untaintGone_within (i : Image) (h : [.moraine] ⊆ L) : Within L s (u.untaintGone i) ↔ Within L s u := by
  simp at h; unfold State.untaintGone; simp [h]
@[simp ↓] theorem taintSignals_within (h : [.sig] ⊆ L) : Within L s (u.taintSignals) ↔ Within L s u := by
  simp at h; unfold State.taintSignals; simp [h]
@[simp ↓] theorem execute_within (i : Image) (area : Nat) (slots : Tab Nat) (words : Tab Word) (h : [.xan, .sig, .disp, .drift, .firn, .prog, .moraine, .capture, .sedge, .draws] ⊆ L) :
    Within L s (u.execute i area slots words) ↔ Within L s u := by
  simp at h; unfold State.execute; simp [h]
@[simp ↓] theorem fetchResident_within (h : [.drift] ⊆ L) : Within L s (u.fetchResident) ↔ Within L s u := by
  simp at h; unfold State.fetchResident; simp [h]
@[simp ↓] theorem applyRecord_within (h : [.prog] ⊆ L) : Within L s (u.applyRecord) ↔ Within L s u := by
  simp at h; unfold State.applyRecord; simp [h]
@[simp ↓] theorem loadImage_within (i : Image) (area : Nat) (h : [.xan, .sig, .disp, .drift, .firn, .prog, .moraine, .capture, .sedge, .draws] ⊆ L) :
    Within L s (u.loadImage i area) ↔ Within L s u := by
  simp at h; unfold State.loadImage; simp [h]
@[simp ↓] theorem fillReport_within (l : List (Nat × Nat × Option Nat)) (h : [.prog, .draws] ⊆ L) : Within L s (u.fillReport l) ↔ Within L s u := by
  simp at h; unfold State.fillReport; simp [h]
@[simp ↓] theorem swapIn_within (new : Image) (h : [.xan, .sig, .disp, .drift, .firn, .prog, .pair, .moraine, .capture, .field, .sedge, .draws] ⊆ L) :
    Within L s (u.swapIn new) ↔ Within L s u := by
  simp at h; unfold State.swapIn; split <;> simp [h]
@[simp ↓] theorem swapBack_within (old : Image) (slots : Tab Nat) (words : Tab Word) (h : [.xan, .sig, .disp, .drift, .firn, .prog, .pair, .moraine, .capture, .field, .sedge, .draws] ⊆ L) :
    Within L s (u.swapBack old slots words) ↔ Within L s u := by
  simp at h; unfold State.swapBack; simp [h]

end State

end Sys2Proof.Machine
end

section
/-! PROOF. How far the operations reach: image files (ImageFile.lean) -/
namespace Sys2Proof.Machine

namespace State
set_option maxRecDepth 8000
set_option Elab.async false
variable {L : List Facet} {s u : State}

@[simp ↓] theorem putStage_within (f : ImageFile) (h : [.prog] ⊆ L) : Within L s (u.putStage f) ↔ Within L s u := by
  simp at h; unfold State.putStage; simp [h]
@[simp ↓] theorem dropStage_within (h : [.prog] ⊆ L) : Within L s (u.dropStage) ↔ Within L s u := by
  simp at h; unfold State.dropStage; simp [h]

end State

end Sys2Proof.Machine
end

section
/-! PROOF. How far the operations reach: images, changes and exchanges (Images.lean) -/
namespace Sys2Proof.Machine

namespace State
set_option maxRecDepth 8000
set_option Elab.async false
variable {L : List Facet} {s u : State}

@[simp ↓] theorem judgeCheckpoint_within (h : [.drift, .moraine] ⊆ L) : Within L s (u.judgeCheckpoint) ↔ Within L s u := by
  simp at h; unfold State.judgeCheckpoint; simp [h]
@[simp ↓] theorem arbitrate_within (h : [.pair] ⊆ L) : Within L s (u.arbitrate) ↔ Within L s u := by
  simp at h; unfold State.arbitrate; (repeat' split) <;> simp [h]
@[simp ↓] theorem opWaived_within (x : ReplyTo) (h : .drift :: .pair :: Facet.answering ⊆ L) : Within L s (u.opWaived x) ↔ Within L s u := by
  simp at h; unfold State.opWaived; simp [h]
@[simp ↓] theorem stageAt_within (o : Nat) (b : List Byte) (h : [.prog, .mem] ⊆ L) : Within L s (u.stageAt o b) ↔ Within L s u := by
  simp at h; unfold State.stageAt; simp [h]
@[simp ↓] theorem opImageStage_within (x : ReplyTo) (h : .prog :: .mem :: Facet.answering ⊆ L) : Within L s (u.opImageStage x) ↔ Within L s u := by
  simp at h; unfold State.opImageStage; simp [h]
@[simp ↓] theorem opStageCommand_within (x : ReplyTo) (h : .prog :: Facet.answering ⊆ L) : Within L s (u.opStageCommand x) ↔ Within L s u := by
  simp at h; unfold State.opStageCommand; simp [h]
@[simp ↓] theorem takeStaged_within (i : Image) (h : [.xan, .sig, .disp, .drift, .firn, .prog, .pair, .moraine, .capture, .sedge, .draws] ⊆ L) :
    Within L s (u.takeStaged i) ↔ Within L s u := by
  simp at h; unfold State.takeStaged; simp [h]
@[simp ↓] theorem judgeStaged_within (i : Image) (k : ImageSalts) (h : [.xan, .sig, .disp, .drift, .firn, .prog, .pair, .moraine, .capture, .sedge, .draws] ⊆ L) :
    Within L s (u.judgeStaged i k) ↔ Within L s u := by
  simp at h; unfold State.judgeStaged; simp [h]
@[simp ↓] theorem opImageVerified_within (i : Image) (k : ImageSalts) (ok1 ok2 : Bool) (h : [.xan, .sig, .disp, .drift, .firn, .prog, .pair, .hub, .moraine, .capture, .sedge, .draws] ⊆ L) :
    Within L s (u.opImageVerified i k ok1 ok2) ↔ Within L s u := by
  simp at h; unfold State.opImageVerified; simp [h]
@[simp ↓] theorem opInstanceParams_within (x : ReplyTo) (h : .prog :: Facet.answering ⊆ L) : Within L s (u.opInstanceParams x) ↔ Within L s u := by
  simp at h; unfold State.opInstanceParams; split <;> simp [h]
@[simp ↓] theorem opConstantDone_within (h : .drift :: .prog :: Facet.answering ⊆ L) : Within L s (u.opConstantDone) ↔ Within L s u := by
  simp at h; unfold State.opConstantDone; split <;> simp [h]
@[simp ↓] theorem opConstantPool_within (x : ReplyTo) (h : .drift :: .prog :: Facet.answering ⊆ L) :
    Within L s (u.opConstantPool x) ↔ Within L s u := by
  simp at h; unfold State.opConstantPool; simp [h]
@[simp ↓] theorem beginExchange_within (i : Option Image) (phase : Nat) (lone : Bool) (limit : Option Ns) (h : [.prog] ⊆ L) :
    Within L s (u.beginExchange i phase lone limit) ↔ Within L s u := by
  simp at h; unfold State.beginExchange; simp [h]
@[simp ↓] theorem exchangeStart_within (f : Fwd) (h : .prog :: .pair :: Facet.answering ⊆ L) : Within L s (u.exchangeStart f) ↔ Within L s u := by
  simp at h
  unfold exchangeStart
  refine check14_within _ _ _ _ _ (by simp [h]) fun v => ?_
  dsimp only
  split <;> simp [h]
@[simp ↓] theorem opExchangeStart_within (h : .prog :: .pair :: Facet.answering ⊆ L) : Within L s (u.opExchangeStart) ↔ Within L s u := by
  simp at h; unfold State.opExchangeStart; simp [h]
@[simp ↓] theorem setPhase_within (n : Nat) (h : [.prog] ⊆ L) : Within L s (u.setPhase n) ↔ Within L s u := by
  simp at h; unfold State.setPhase; simp [h]
@[simp ↓] theorem opTransferEnd_within (e : Nat) (h : [.xan, .drift, .prog, .pair, .moraine] ⊆ L) :
    Within L s (u.opTransferEnd e) ↔ Within L s u := by
  simp at h; unfold State.opTransferEnd; simp [h]
@[simp ↓] theorem opMappingEnd_within (h : [.xan, .drift, .prog, .pair, .moraine] ⊆ L) : Within L s (u.opMappingEnd) ↔ Within L s u := by
  simp at h; unfold State.opMappingEnd; (repeat' split) <;> simp [h]
@[simp ↓] theorem opBulkCopyEnd_within (h : [.prog] ⊆ L) : Within L s (u.opBulkCopyEnd) ↔ Within L s u := by
  simp at h; unfold State.opBulkCopyEnd; simp [h]
@[simp ↓] theorem arm_within (h : [.disp, .drift, .firn, .prog, .pair] ⊆ L) : Within L s (u.arm) ↔ Within L s u := by
  simp at h; unfold State.arm; simp [h]
@[simp ↓] theorem opNewInStep_within (h : [.disp, .drift, .firn, .prog, .pair] ⊆ L) : Within L s (u.opNewInStep) ↔ Within L s u := by
  simp at h; unfold State.opNewInStep; simp [h]
@[simp ↓] theorem fixSwap_within (at' : Ns) (h : [.prog, .pair] ⊆ L) : Within L s (u.fixSwap at') ↔ Within L s u := by
  simp at h; unfold State.fixSwap; simp [h]
@[simp ↓] theorem fixSwapLater_within (h : [.prog, .pair] ⊆ L) : Within L s (u.fixSwapLater) ↔ Within L s u := by
  simp at h; unfold State.fixSwapLater; simp [h]
@[simp ↓] theorem opStandbyReady_within (ok : Bool) (h : [.xan, .drift, .prog, .pair, .moraine] ⊆ L) :
    Within L s (u.opStandbyReady ok) ↔ Within L s u := by
  simp at h; unfold State.opStandbyReady; simp [h]
@[simp ↓] theorem opExchangeAbort_within (x : ReplyTo) (h : .drift :: .prog :: .pair :: Facet.answering ⊆ L) :
    Within L s (u.opExchangeAbort x) ↔ Within L s u := by
  simp at h; unfold State.opExchangeAbort; simp [h]
@[simp ↓] theorem opPrepareLimit_within (h : [.xan, .drift, .prog, .pair, .moraine] ⊆ L) : Within L s (u.opPrepareLimit) ↔ Within L s u := by
  simp at h; unfold State.opPrepareLimit; simp [h]
@[simp ↓] theorem swapRecord_within (claim : Option Ns) (h : [.moraine, .draws] ⊆ L) : Within L s (u.swapRecord claim) ↔ Within L s u := by
  simp at h; unfold State.swapRecord; split <;> simp [h]
@[simp ↓] theorem flushParams_within (h : .drift :: .firn :: .prog :: .pair :: Facet.answering ⊆ L) : Within L s (u.flushParams) ↔ Within L s u := by
  simp at h; unfold State.flushParams; simp [h]
@[simp ↓] theorem opLoneExecute_within (h : .sig :: .disp :: .drift :: .firn :: .prog :: .pair :: .field :: .sedge :: .draws :: Facet.answering ⊆ L) :
    Within L s (u.opLoneExecute) ↔ Within L s u := by
  simp at h; unfold State.opLoneExecute; split <;> simp [h]
@[simp ↓] theorem opLoneRevert_within (h : .sig :: .disp :: .drift :: .firn :: .prog :: .pair :: .field :: .sedge :: .draws :: Facet.answering ⊆ L) :
    Within L s (u.opLoneRevert) ↔ Within L s u := by
  simp at h; unfold State.opLoneRevert; split <;> simp [h]
@[simp ↓] theorem exchangeRevert_within (f : Fwd) (h : .prog :: .pair :: Facet.answering ⊆ L) : Within L s (u.exchangeRevert f) ↔ Within L s u := by
  simp at h; unfold State.exchangeRevert; simp [h]
@[simp ↓] theorem opExchangeRevert_within (h : .prog :: .pair :: Facet.answering ⊆ L) : Within L s (u.opExchangeRevert) ↔ Within L s u := by
  simp at h; unfold State.opExchangeRevert; simp [h]
@[simp ↓] theorem endWindow_within (h : [.xan, .sig, .disp, .drift, .firn, .prog, .pair, .moraine, .capture, .sedge, .draws] ⊆ L) :
    Within L s (u.endWindow) ↔ Within L s u := by
  simp at h; unfold State.endWindow; (repeat' split) <;> simp [h]
@[simp ↓] theorem opExchangeConfirm_within (x : ReplyTo) (h : .sig :: .disp :: .drift :: .firn :: .prog :: .pair :: .sedge :: .draws :: Facet.answering ⊆ L) :
    Within L s (u.opExchangeConfirm x) ↔ Within L s u := by
  simp at h; unfold State.opExchangeConfirm; simp [h]
@[simp ↓] theorem opWindowExpiry_within (h : [.xan, .sig, .disp, .drift, .firn, .prog, .pair, .moraine, .capture, .sedge, .draws] ⊆ L) :
    Within L s (u.opWindowExpiry) ↔ Within L s u := by
  simp at h; unfold State.opWindowExpiry; simp [h]
@[simp ↓] theorem opRevertWindow_within (x : ReplyTo) (h : .prog :: Facet.answering ⊆ L) : Within L s (u.opRevertWindow x) ↔ Within L s u := by
  simp at h; unfold State.opRevertWindow; simp [h]

end State

end Sys2Proof.Machine
end

section
/-! PROOF. How far the operations reach: the wall clock's sources (TimeOps.lean) -/
namespace Sys2Proof.Machine

namespace State
set_option maxRecDepth 8000
set_option Elab.async false
variable {L : List Facet} {s u : State}

@[simp ↓] theorem sourceRecord_within (h : [.moraine] ⊆ L) : Within L s (u.sourceRecord) ↔ Within L s u := by
  simp at h; unfold State.sourceRecord; simp [h]
@[simp ↓] theorem stepRecord_within (old : Wall) (h : [.moraine] ⊆ L) : Within L s (u.stepRecord old) ↔ Within L s u := by
  simp at h; unfold State.stepRecord; simp [h]
@[simp ↓] theorem moveLaunches_within (before : ℤ) (h : [.eth] ⊆ L) : Within L s (u.moveLaunches before) ↔ Within L s u := by
  simp at h; unfold State.moveLaunches; simp [h]
@[simp ↓] theorem takeTime_within (offset : ℤ) (source : Nat) (threshold : ℤ) (h : [.time, .disp, .hub, .moraine, .capture, .eth] ⊆ L) :
    Within L s (u.takeTime offset source threshold) ↔ Within L s u := by
  simp at h; unfold State.takeTime; simp [h]
@[simp ↓] theorem takeSource_within (offset : ℤ) (source : Nat) (h : [.time, .disp, .hub, .moraine, .capture, .eth] ⊆ L) :
    Within L s (u.takeSource offset source) ↔ Within L s u := by
  simp at h; unfold State.takeSource; simp [h]
@[simp ↓] theorem loseTime_within (h : [.time, .disp, .moraine] ⊆ L) : Within L s (u.loseTime) ↔ Within L s u := by
  simp at h; unfold State.loseTime; simp [h]
@[simp ↓] theorem nextSource_within (h : [.time, .disp, .hub, .moraine, .capture, .eth] ⊆ L) : Within L s (u.nextSource) ↔ Within L s u := by
  simp at h; unfold State.nextSource; split <;> simp [h]

end State

end Sys2Proof.Machine
end

section
/-! PROOF. How far the operations reach: the Ownership Interlock (PairOps.lean) -/
namespace Sys2Proof.Machine

namespace State
set_option maxRecDepth 8000
set_option Elab.async false
variable {L : List Facet} {s u : State}

@[simp ↓] theorem syncRecord_within (kind : Nat) (h : [.moraine] ⊆ L) : Within L s (u.syncRecord kind) ↔ Within L s u := by
  simp at h; unfold State.syncRecord; simp [h]
@[simp ↓] theorem setExch_within (f : Exch → Exch) (h : [.prog] ⊆ L) : Within L s (u.setExch f) ↔ Within L s u := by
  simp at h; unfold State.setExch; simp [h]
@[simp ↓] theorem newRecord_within (h : [.pair] ⊆ L) : Within L s (u.newRecord) ↔ Within L s u := by
  simp at h; unfold State.newRecord; simp [h]
@[simp ↓] theorem assertOwn_within (kind : Nat) (m : Mode) (h : [.disp, .firn, .prog, .pair, .moraine] ⊆ L) :
    Within L s (u.assertOwn kind m) ↔ Within L s u := by
  simp at h; unfold State.assertOwn; simp [h]
@[simp ↓] theorem openAgain_within (old : State) (h : [.mode, .sig, .disp] ⊆ L) : Within L s (u.openAgain old) ↔ Within L s u := by
  simp at h; unfold State.openAgain; simp [h]
@[simp ↓] theorem unstale_within (h : [.sig] ⊆ L) : Within L s (u.unstale) ↔ Within L s u := by
  simp at h; unfold State.unstale; simp [h]
@[simp ↓] theorem beginWindow_within (h : [.prog, .moraine, .draws] ⊆ L) : Within L s (u.beginWindow) ↔ Within L s u := by
  simp at h; unfold State.beginWindow; simp [h]
@[simp ↓] theorem backToOld_within (planned : Bool) (h : [.xan, .prog, .moraine, .draws] ⊆ L) : Within L s (u.backToOld planned) ↔ Within L s u := by
  simp at h; unfold State.backToOld; simp [h]
@[simp ↓] theorem takeover_within (h : .sedge :: Facet.settling ⊆ L) : Within L s (u.takeover) ↔ Within L s u := by
  simp at h; unfold State.takeover; simp [h]
@[simp ↓] theorem coldClaim_within (h : [.mode, .sess, .sig, .disp, .drift, .firn, .prog, .pair, .hub, .guard, .moraine, .capture, .link, .can, .field, .draws] ⊆ L) :
    Within L s (u.coldClaim) ↔ Within L s u := by
  simp at h; unfold State.coldClaim; (repeat' split) <;> simp [h]
@[simp ↓] theorem opClaimTimer_within (h : [.pair] ⊆ L) : Within L s (u.opClaimTimer) ↔ Within L s u := by
  simp at h; unfold State.opClaimTimer; simp [h]
@[simp ↓] theorem opClaim_within (h : .sedge :: Facet.settling ⊆ L) : Within L s (u.opClaim) ↔ Within L s u := by
  simp at h; unfold State.opClaim; split <;> simp [h]
@[simp ↓] theorem failSwap_within (h : [.xan, .sig, .disp, .drift, .firn, .prog, .moraine, .capture, .sedge, .draws] ⊆ L) :
    Within L s (u.failSwap) ↔ Within L s u := by
  simp at h; unfold State.failSwap; simp [h]
@[simp ↓] theorem loseTie_within (h : .sedge :: Facet.settling ⊆ L) : Within L s (u.loseTie) ↔ Within L s u := by
  simp at h; unfold State.loseTie; simp [h]
@[simp ↓] theorem swapDone_within (h : [.xan, .sig, .disp, .drift, .firn, .prog, .pair, .moraine, .capture, .sedge, .draws] ⊆ L) :
    Within L s (u.swapDone) ↔ Within L s u := by
  simp at h; unfold State.swapDone; simp [h]
@[simp ↓] theorem joinPartner_within (h : [.mode, .sess, .sig, .disp, .drift, .firn, .pair, .hub, .guard, .moraine, .link, .can, .field, .draws] ⊆ L) :
    Within L s (u.joinPartner) ↔ Within L s u := by
  simp at h; unfold State.joinPartner; simp [h]
@[simp ↓] theorem partnerReclaimed_within (h : [.xan, .sig, .disp, .drift, .firn, .prog, .pair, .moraine, .capture, .sedge, .draws] ⊆ L) :
    Within L s (u.partnerReclaimed) ↔ Within L s u := by
  simp at h; unfold State.partnerReclaimed; simp [h]
@[simp ↓] theorem takenBack_within (h : [.prog, .moraine] ⊆ L) : Within L s (u.takenBack) ↔ Within L s u := by
  simp at h; unfold State.takenBack; simp [h]
@[simp ↓] theorem peerOwns_within (h : [.xan, .sig, .disp, .drift, .firn, .prog, .pair, .moraine, .capture, .sedge, .draws] ⊆ L) :
    Within L s (u.peerOwns) ↔ Within L s u := by
  simp at h; unfold State.peerOwns; simp [h]
@[simp ↓] theorem closeInterlock_within (h : [.pair, .hub, .moraine] ⊆ L) : Within L s (u.closeInterlock) ↔ Within L s u := by
  simp at h; unfold State.closeInterlock; simp [h]
@[simp ↓] theorem peerRises_within (h : .sedge :: Facet.settling ⊆ L) : Within L s (u.peerRises) ↔ Within L s u := by
  simp at h; unfold State.peerRises; simp [h]
@[simp ↓] theorem opOwnPeer_within (high : Bool) (h : .sedge :: Facet.settling ⊆ L) : Within L s (u.opOwnPeer high) ↔ Within L s u := by
  simp at h; unfold State.opOwnPeer; simp [h]
@[simp ↓] theorem opConflict_within (h : Facet.settling ⊆ L) : Within L s (u.opConflict) ↔ Within L s u := by
  simp at h; unfold State.opConflict; split <;> simp [h]
@[simp ↓] theorem opInterlockOpen_within (h : Facet.reacting ⊆ L) : Within L s (u.opInterlockOpen) ↔ Within L s u := by
  simp at h; unfold State.opInterlockOpen; simp [h]
@[simp ↓] theorem opGateCheck_within (ok : Bool) (h : Facet.settling ⊆ L) : Within L s (u.opGateCheck ok) ↔ Within L s u := by
  simp at h; unfold State.opGateCheck; simp [h]
@[simp ↓] theorem pathFailed_within (d : Nat) (h : Facet.settling ⊆ L) : Within L s (u.pathFailed d) ↔ Within L s u := by
  simp at h; unfold State.pathFailed; simp [h]
@[simp ↓] theorem opPathCheck_within (d : Nat) (ok : Bool) (h : Facet.settling ⊆ L) : Within L s (u.opPathCheck d ok) ↔ Within L s u := by
  simp at h; unfold State.opPathCheck; simp [h]
@[simp ↓] theorem opSwapInstant_within (h : [.disp, .drift, .firn, .prog, .pair] ⊆ L) : Within L s (u.opSwapInstant) ↔ Within L s u := by
  simp at h; unfold State.opSwapInstant; simp [h]
@[simp ↓] theorem opLastDelta_within (h : Facet.reacting ⊆ L) : Within L s (u.opLastDelta) ↔ Within L s u := by
  simp at h; unfold State.opLastDelta; simp [h]
@[simp ↓] theorem swapFailed_within (h : [.prog, .pair, .moraine] ⊆ L) : Within L s (u.swapFailed) ↔ Within L s u := by
  simp at h; unfold State.swapFailed; simp [h]
@[simp ↓] theorem opReclaim_within (h : [.mode, .sess, .sig, .disp, .drift, .firn, .prog, .pair, .hub, .guard, .moraine, .capture, .link, .can, .field, .draws] ⊆ L) :
    Within L s (u.opReclaim) ↔ Within L s u := by
  simp at h; unfold State.opReclaim; simp [h]
@[simp ↓] theorem opHandover_within (x : ReplyTo) (h : .pair :: Facet.answering ⊆ L) : Within L s (u.opHandover x) ↔ Within L s u := by
  simp at h; unfold State.opHandover; simp [h]

end State

end Sys2Proof.Machine
end

section
/-! PROOF. How far the operations reach: the Sync Link (Pair.lean) -/
namespace Sys2Proof.Machine

namespace State
set_option maxRecDepth 8000
set_option Elab.async false
variable {L : List Facet} {s u : State}

@[simp ↓] theorem startClock_within (m : Ns) (h : [.time, .clock] ⊆ L) : Within L s (u.startClock m) ↔ Within L s u := by
  simp at h; unfold State.startClock; simp [h]
@[simp ↓] theorem sayHello_within (h : [.pair] ⊆ L) : Within L s (u.sayHello) ↔ Within L s u := by
  simp at h; unfold State.sayHello; simp [h]
@[simp ↓] theorem noteHello_within (m : HelloMsg) (h : [.pair] ⊆ L) : Within L s (u.noteHello m) ↔ Within L s u := by
  simp at h; unfold State.noteHello; simp [h]
@[simp ↓] theorem acceptPartner_within (m : HelloMsg) (h : .sedge :: Facet.settling ⊆ L) : Within L s (u.acceptPartner m) ↔ Within L s u := by
  simp at h; unfold State.acceptPartner; simp [h]
@[simp ↓] theorem refusePartner_within (h : Facet.reacting ⊆ L) : Within L s (u.refusePartner) ↔ Within L s u := by
  simp at h; unfold State.refusePartner; simp [h]
@[simp ↓] theorem opHello_within (m : HelloMsg) (h : .time :: .sedge :: .clock :: Facet.settling ⊆ L) : Within L s (u.opHello m) ↔ Within L s u := by
  simp at h; unfold State.opHello; simp [h]
@[simp ↓] theorem opHelloTimer_within (h : [.pair] ⊆ L) : Within L s (u.opHelloTimer) ↔ Within L s u := by
  simp at h; unfold State.opHelloTimer; simp [h]
@[simp ↓] theorem opHelloDefer_within (h : [.drift, .pair, .moraine] ⊆ L) : Within L s (u.opHelloDefer) ↔ Within L s u := by
  simp at h; unfold State.opHelloDefer; simp [h]
@[simp ↓] theorem heartTime_within (m : HeartbeatMsg) (h : [.time, .disp, .pair, .hub, .moraine, .capture, .eth] ⊆ L) :
    Within L s (u.heartTime m) ↔ Within L s u := by
  simp at h; unfold State.heartTime; simp [h]
@[simp ↓] theorem heartOwner_within (m : HeartbeatMsg) (h : [.xan, .drift, .prog, .pair, .moraine] ⊆ L) :
    Within L s (u.heartOwner m) ↔ Within L s u := by
  simp at h; unfold State.heartOwner; simp [h]
@[simp ↓] theorem opHeartbeat_within (m : HeartbeatMsg) (h : .time :: .eth :: Facet.settling ⊆ L) : Within L s (u.opHeartbeat m) ↔ Within L s u := by
  simp at h; unfold State.opHeartbeat; simp [h]
@[simp ↓] theorem opGoodbye_within (reason : Nat) (h : [.pair] ⊆ L) : Within L s (u.opGoodbye reason) ↔ Within L s u := by
  simp at h; unfold State.opGoodbye; simp [h]
@[simp ↓] theorem opEpoch_within (epoch : Word) (target : Nat) (commit : Ns) (now : Bool) (h : [.mode, .sig, .disp, .drift, .firn, .pair, .capture] ⊆ L) :
    Within L s (u.opEpoch epoch target commit now) ↔ Within L s u := by
  simp at h; unfold State.opEpoch; simp [h]
@[simp ↓] theorem streamGap_within (h : [.xan, .disp, .drift, .firn, .prog, .pair, .moraine] ⊆ L) : Within L s (u.streamGap) ↔ Within L s u := by
  simp at h; unfold State.streamGap; simp [h]
@[simp ↓] theorem applyInput_within (c : StreamChange) (h : [.sig] ⊆ L) : Within L s (u.applyInput c) ↔ Within L s u := by
  simp at h; unfold State.applyInput; simp [h]
@[simp ↓] theorem opInputChange_within (c : StreamChange) (h : [.xan, .sig, .disp, .drift, .firn, .prog, .pair, .moraine, .capture] ⊆ L) :
    Within L s (u.opInputChange c) ↔ Within L s u := by
  simp at h; unfold State.opInputChange; simp [h]
@[simp ↓] theorem applyForce_within (f : ForceMsg) (h : [.sig] ⊆ L) : Within L s (u.applyForce f) ↔ Within L s u := by
  simp at h; unfold State.applyForce; simp [h]
@[simp ↓] theorem applyPartnerParam_within (p : ParamWrite) (h : [.drift, .firn, .prog, .moraine, .draws] ⊆ L) :
    Within L s (u.applyPartnerParam p) ↔ Within L s u := by
  simp at h; unfold State.applyPartnerParam; split <;> simp [h]
@[simp ↓] theorem applyPartnerPage_within (c : Nat × List (Nat × Word)) (h : [.xan, .prog, .moraine, .draws] ⊆ L) :
    Within L s (u.applyPartnerPage c) ↔ Within L s u := by
  simp at h; unfold State.applyPartnerPage; simp [h]
@[simp ↓] theorem applyArm_within (a : Nat × Bool) (h : [.pair, .moraine, .capture] ⊆ L) : Within L s (u.applyArm a) ↔ Within L s u := by
  simp at h; unfold State.applyArm; simp [h]
@[simp ↓] theorem mapIntoNew_within (ws : List PlainWrite) (h : [.prog] ⊆ L) : Within L s (u.mapIntoNew ws) ↔ Within L s u := by
  simp at h; unfold State.mapIntoNew; split <;> simp [h]
@[simp ↓] theorem compareVote_within (d : Delta) (own : Option Vote) (h : Facet.reacting ⊆ L) :
    Within L s (u.compareVote d own).1 ↔ Within L s u := by
  simp at h; unfold compareVote; dsimp only; (repeat' split) <;> simp [h]
@[simp ↓] theorem followVote_within (t : Nat) (own : Option Vote) (h : [.drift, .firn] ⊆ L) : Within L s (u.followVote t own) ↔ Within L s u := by
  simp at h; unfold State.followVote; simp [h]
@[simp ↓] theorem reachStep_within (h : [.prog, .pair, .hub, .moraine] ⊆ L) : Within L s (u.reachStep) ↔ Within L s u := by
  simp at h; unfold State.reachStep; simp [h]
@[simp ↓] theorem judgeStep_within (d : Delta) (own : Option Vote) (bad : Bool) (h : [.prog, .pair, .hub, .moraine] ⊆ L) :
    Within L s (u.judgeStep d own bad) ↔ Within L s u := by
  simp at h; unfold State.judgeStep; simp [h]
@[simp ↓] theorem applyDelta_within (d : Delta) (h : Facet.settling ⊆ L) : Within L s (u.applyDelta d) ↔ Within L s u := by
  simp at h; unfold applyDelta; simp [h]
@[simp ↓] theorem applyReceived_within (h : Facet.settling ⊆ L) : Within L s (u.applyReceived) ↔ Within L s u := by
  simp at h; unfold State.applyReceived; simp [h]
@[simp ↓] theorem opDelta_within (d : Delta) (h : Facet.settling ⊆ L) : Within L s (u.opDelta d) ↔ Within L s u := by
  simp at h; unfold State.opDelta; simp [h]
@[simp ↓] theorem opRelease_within (t : Nat) (h : Facet.settling ⊆ L) : Within L s (u.opRelease t) ↔ Within L s u := by
  simp at h; unfold State.opRelease; split <;> simp [h]
@[simp ↓] theorem opHandoverMsg_within (m : HandoverMsg) (h : Facet.reacting ⊆ L) : Within L s (u.opHandoverMsg m) ↔ Within L s u := by
  simp at h; unfold State.opHandoverMsg; (repeat' split) <;> simp [h]
@[simp ↓] theorem opExchangeMsg_within (m : ExchangeMsg) (h : [.xan, .sig, .disp, .drift, .firn, .prog, .pair, .moraine, .capture, .sedge, .draws] ⊆ L) :
    Within L s (u.opExchangeMsg m) ↔ Within L s u := by
  simp at h; unfold State.opExchangeMsg; (repeat' split) <;> simp [h]
@[simp ↓] theorem opBulk_within (p : BulkPart) (h : .sedge :: Facet.settling ⊆ L) : Within L s (u.opBulk p) ↔ Within L s u := by
  simp at h; unfold State.opBulk; (repeat' split) <;> simp [h]
@[simp ↓] theorem opCopyEnd_within (h : [.drift, .firn, .pair, .moraine] ⊆ L) : Within L s (u.opCopyEnd) ↔ Within L s u := by
  simp at h; unfold State.opCopyEnd; simp [h]
@[simp ↓] theorem opDrained_within (h : Facet.settling ⊆ L) : Within L s (u.opDrained) ↔ Within L s u := by
  simp at h; unfold State.opDrained; simp [h]
@[simp ↓] theorem opBufferFull_within (h : Facet.reacting ⊆ L) : Within L s (u.opBufferFull) ↔ Within L s u := by
  simp at h; unfold State.opBufferFull; simp [h]
@[simp ↓] theorem opRestartWait_within (h : [.disp, .drift, .firn, .pair, .moraine] ⊆ L) : Within L s (u.opRestartWait) ↔ Within L s u := by
  simp at h; unfold State.opRestartWait; simp [h]
@[simp ↓] theorem opOffsetExcess_within (h : [.xan, .disp, .drift, .firn, .prog, .pair, .moraine] ⊆ L) :
    Within L s (u.opOffsetExcess) ↔ Within L s u := by
  simp at h; unfold State.opOffsetExcess; simp [h]
@[simp ↓] theorem opRetransmit_within (_sequence : Nat) (h : [.pair] ⊆ L) : Within L s (u.opRetransmit _sequence) ↔ Within L s u := by
  simp at h; unfold State.opRetransmit; simp [h]
@[simp ↓] theorem setLane_within (k : Nat) (on : Bool) (h : [.pair] ⊆ L) : Within L s (u.setLane k on) ↔ Within L s u := by
  simp at h; unfold State.setLane; simp [h]
@[simp ↓] theorem opLaneDown_within (k : Nat) (h : Facet.reacting ⊆ L) : Within L s (u.opLaneDown k) ↔ Within L s u := by
  simp at h; unfold State.opLaneDown; simp [h]
@[simp ↓] theorem opLaneRetrain_within (k : Nat) (h : [.pair] ⊆ L) : Within L s (u.opLaneRetrain k) ↔ Within L s u := by
  simp at h; unfold State.opLaneRetrain; simp [h]
@[simp ↓] theorem opLaneUp_within (k : Nat) (h : [.pair, .hub, .moraine] ⊆ L) : Within L s (u.opLaneUp k) ↔ Within L s u := by
  simp at h; unfold State.opLaneUp; simp [h]
@[simp ↓] theorem partApart_within (h : [.xan, .disp, .drift, .firn, .prog, .pair, .moraine] ⊆ L) : Within L s (u.partApart) ↔ Within L s u := by
  simp at h; unfold State.partApart; simp [h]
@[simp ↓] theorem opSyncFailure_within (_cause : Nat) (h : .time :: .eth :: Facet.settling ⊆ L) :
    Within L s (u.opSyncFailure _cause) ↔ Within L s u := by
  simp at h; unfold State.opSyncFailure; simp [h]
@[simp ↓] theorem opSyncUp_within (h : Facet.settling ⊆ L) : Within L s (u.opSyncUp) ↔ Within L s u := by
  simp at h; unfold State.opSyncUp; simp [h]
@[simp ↓] theorem opStale_within (h : [.sig, .pair, .moraine, .capture] ⊆ L) : Within L s (u.opStale) ↔ Within L s u := by
  simp at h; unfold State.opStale; simp [h]

end State

end Sys2Proof.Machine
end

section
/-! PROOF. How far the operations reach: Ethernet and PTP (Ether.lean) -/
namespace Sys2Proof.Machine

namespace State
set_option maxRecDepth 8000
set_option Elab.async false
variable {L : List Facet} {s u : State}

@[simp ↓] theorem setPort_within (p : Nat) (f : Port → Port) (h : [.eth] ⊆ L) : Within L s (u.setPort p f) ↔ Within L s u := by
  simp at h; unfold State.setPort; simp [h]
@[simp ↓] theorem sendEth_within (p : Nat) (y : Nat → EthOut) (h : [.eth] ⊆ L) : Within L s (u.sendEth p y) ↔ Within L s u := by
  simp at h; unfold State.sendEth; simp [h]
@[simp ↓] theorem judgeLink_within (p : Nat) (h : Facet.reacting ⊆ L) : Within L s (u.judgeLink p) ↔ Within L s u := by
  simp at h; unfold State.judgeLink; simp [h]
@[simp ↓] theorem judgePorts_within (h : Facet.reacting ⊆ L) : Within L s (u.judgePorts) ↔ Within L s u := by
  simp at h; unfold State.judgePorts; simp [h]
@[simp ↓] theorem rxDrop_within (p : Nat) (h : .eth :: Facet.settling ⊆ L) : Within L s (u.rxDrop p) ↔ Within L s u := by
  simp at h; unfold State.rxDrop; simp [h]
@[simp ↓] theorem deliver_within (p : Nat) (f : EthFrame) (h : .eth :: .mem :: Facet.settling ⊆ L) : Within L s (u.deliver p f) ↔ Within L s u := by
  simp at h; unfold State.deliver; simp [h]
@[simp ↓] theorem remember_within (p : Nat) (key : BitVec 48 × Half) (h : [.eth] ⊆ L) : Within L s (u.remember p key) ↔ Within L s u := by
  simp at h; unfold State.remember; simp [h]
@[simp ↓] theorem seeNode_within (p : Nat) (node : BitVec 48) (h : [.eth] ⊆ L) : Within L s (u.seeNode p node) ↔ Within L s u := by
  simp at h; unfold State.seeNode; simp [h]
@[simp ↓] theorem echo_within (q : Nat) (h : [.eth] ⊆ L) : Within L s (u.echo q) ↔ Within L s u := by
  simp at h; unfold State.echo; simp [h]
@[simp ↓] theorem takeFrame'_within (p : Nat) (f : EthFrame) (h : .eth :: .mem :: Facet.settling ⊆ L) :
    Within L s (u.takeFrame' p f) ↔ Within L s u := by
  simp at h; unfold State.takeFrame'; split <;> simp [h]
@[simp ↓] theorem opFrame_within (p : Nat) (f : EthFrame) (h : .eth :: .mem :: Facet.settling ⊆ L) : Within L s (u.opFrame p f) ↔ Within L s u := by
  simp at h; unfold State.opFrame; dsimp only; (repeat' split) <;> simp [h]
@[simp ↓] theorem homeSupply_within (v : Word) (h : [.moraine, .eth] ⊆ L) : Within L s (u.homeSupply v) ↔ Within L s u := by
  simp at h; unfold State.homeSupply; simp [h]
@[simp ↓] theorem opHomeOnly_within (x : ReplyTo) (h : Facet.answering ⊆ L) : Within L s (u.opHomeOnly x) ↔ Within L s u := by
  simp at h; unfold State.opHomeOnly; simp [h]
@[simp ↓] theorem endFrame_within (p : Nat) (f : TxFrame) (status : Nat) (stamp : DWord) (h : [.disp, .drift, .moraine] ⊆ L) :
    Within L s (u.endFrame p f status stamp) ↔ Within L s u := by
  simp at h; unfold State.endFrame; simp [h]
@[simp ↓] theorem startTx_within (p : Nat) (h : [.eth] ⊆ L) : Within L s (u.startTx p) ↔ Within L s u := by
  simp at h; unfold State.startTx; simp [h]
@[simp ↓] theorem homeSubmit_within (v : Word) (h : [.disp, .drift, .moraine, .eth] ⊆ L) : Within L s (u.homeSubmit v) ↔ Within L s u := by
  simp at h; unfold State.homeSubmit; simp [h]
@[simp ↓] theorem opDma_within (w : ObjWrite) (sub : Nat) (act : State → Word → State) (h : .disp :: .draws :: Facet.answering ⊆ L)
    (hact : ∀ v x, Within L v (act v x)) : Within L s (u.opDma w sub act) ↔ Within L s u := by
  simp at h; unfold opDma; split <;> simp [h, fun v x => Within.of_keeping (s := s) (hact · x) v]
@[simp ↓] theorem setHead_within (p q : Nat) (f : Option TxFrame) (h : [.eth] ⊆ L) : Within L s (u.setHead p q f) ↔ Within L s u := by
  simp at h; unfold State.setHead; simp [h]
@[simp ↓] theorem lateFrame_within (p q : Nat) (f : TxFrame) (lateness : Nat) (h : .eth :: Facet.settling ⊆ L) :
    Within L s (u.lateFrame p q f lateness) ↔ Within L s u := by
  simp at h; unfold State.lateFrame; simp [h]
@[simp ↓] theorem opLaunch_within (p q : Nat) (late : Bool) (h : .eth :: Facet.settling ⊆ L) : Within L s (u.opLaunch p q late) ↔ Within L s u := by
  simp at h; unfold State.opLaunch; (repeat' split) <;> simp [h]
@[simp ↓] theorem opTxComplete_within (p q : Nat) (down : Bool) (h : [.disp, .drift, .moraine, .eth, .draws] ⊆ L) :
    Within L s (u.opTxComplete p q down) ↔ Within L s u := by
  simp at h; unfold State.opTxComplete; split <;> simp [h]
@[simp ↓] theorem choosePort_within (h : [.time, .moraine] ⊆ L) : Within L s (u.choosePort) ↔ Within L s u := by
  simp at h; unfold State.choosePort; simp [h]
@[simp ↓] theorem opLinkChange_within (p : Nat) (up gig : Bool) (h : .time :: .eth :: Facet.settling ⊆ L) :
    Within L s (u.opLinkChange p up gig) ↔ Within L s u := by
  simp at h; unfold State.opLinkChange; simp [h]
@[simp ↓] theorem opPortSetting_within (x : ReplyTo) (h : .eth :: Facet.settling ⊆ L) : Within L s (u.opPortSetting x) ↔ Within L s u := by
  simp at h; unfold State.opPortSetting; split <;> simp [h]
@[simp ↓] theorem opMulticast_within (x : ReplyTo) (h : .eth :: Facet.answering ⊆ L) : Within L s (u.opMulticast x) ↔ Within L s u := by
  simp at h; unfold State.opMulticast; simp [h]
@[simp ↓] theorem opPrpPairs_within (x : ReplyTo) (h : .eth :: Facet.settling ⊆ L) : Within L s (u.opPrpPairs x) ↔ Within L s u := by
  simp at h; unfold State.opPrpPairs; simp [h]
@[simp ↓] theorem opTimeSetting_within (x : ReplyTo) (h : .time :: Facet.answering ⊆ L) : Within L s (u.opTimeSetting x) ↔ Within L s u := by
  simp at h; unfold State.opTimeSetting; simp [h]
@[simp ↓] theorem opSupervision_within (h : .eth :: Facet.settling ⊆ L) : Within L s (u.opSupervision) ↔ Within L s u := by
  simp at h; unfold State.opSupervision; simp [h]
@[simp ↓] theorem correct_within (offset : ℤ) (h : [.time, .moraine, .capture, .eth] ⊆ L) : Within L s (u.correct offset) ↔ Within L s u := by
  simp at h; unfold State.correct; simp [h]
@[simp ↓] theorem setServo_within (servo : Nat) (h : .time :: Facet.reacting ⊆ L) : Within L s (u.setServo servo) ↔ Within L s u := by
  simp at h; unfold State.setServo; simp [h]
@[simp ↓] theorem lockedSync_within (offset : ℤ) (h : .time :: .eth :: Facet.settling ⊆ L) : Within L s (u.lockedSync offset) ↔ Within L s u := by
  simp at h; unfold State.lockedSync; simp [h]
@[simp ↓] theorem acquiringSync_within (offset : ℤ) (h : .time :: .eth :: Facet.settling ⊆ L) :
    Within L s (u.acquiringSync offset) ↔ Within L s u := by
  simp at h; unfold State.acquiringSync; simp [h]
@[simp ↓] theorem opPtp_within (e : PtpEvent) (h : .time :: .eth :: Facet.settling ⊆ L) : Within L s (u.opPtp e) ↔ Within L s u := by
  simp at h; unfold State.opPtp; (repeat' split) <;> simp [h]
@[simp ↓] theorem opPtpHoldover_within (quiet : Nat) (h : .time :: .eth :: Facet.settling ⊆ L) :
    Within L s (u.opPtpHoldover quiet) ↔ Within L s u := by
  simp at h; unfold State.opPtpHoldover; simp [h]
@[simp ↓] theorem opHoldoverLimit_within (h : .time :: Facet.settling ⊆ L) : Within L s (u.opHoldoverLimit) ↔ Within L s u := by
  simp at h; unfold State.opHoldoverLimit; simp [h]
@[simp ↓] theorem restartPtp_within (h : .time :: .eth :: Facet.settling ⊆ L) : Within L s (u.restartPtp) ↔ Within L s u := by
  simp at h; unfold State.restartPtp; simp [h]
@[simp ↓] theorem storePtp_within (sub v : Nat) (h : [.time] ⊆ L) : Within L s (u.storePtp sub v) ↔ Within L s u := by
  simp at h; unfold State.storePtp; split <;> simp [h]
@[simp ↓] theorem opPtpSetting_within (x : ReplyTo) (h : .time :: .eth :: Facet.settling ⊆ L) : Within L s (u.opPtpSetting x) ↔ Within L s u := by
  simp at h; unfold State.opPtpSetting; simp [h]
@[simp ↓] theorem opWallSet_within (x : ReplyTo) (h : .time :: .sig :: .disp :: .hub :: .eth :: Facet.answering ⊆ L) :
    Within L s (u.opWallSet x) ↔ Within L s u := by
  simp at h; unfold State.opWallSet; simp [h]
@[simp ↓] theorem opWallStore_within (h : [.time] ⊆ L) : Within L s (u.opWallStore) ↔ Within L s u := by
  simp at h; unfold State.opWallStore; simp [h]

end State

end Sys2Proof.Machine
end

section
/-! PROOF. How far the operations reach: CAN FD (Can.lean) -/
namespace Sys2Proof.Machine

namespace State
set_option maxRecDepth 8000
set_option Elab.async false
variable {L : List Facet} {s u : State}

@[simp ↓] theorem setCan_within (c : Nat) (f : Can → Can) (h : [.can] ⊆ L) : Within L s (u.setCan c f) ↔ Within L s u := by
  simp at h; unfold State.setCan; simp [h]
@[simp ↓] theorem frameEntry_within (c m kind : Nat) (f : CanFrame) (h : [.disp, .moraine] ⊆ L) :
    Within L s (u.frameEntry c m kind f) ↔ Within L s u := by
  simp at h; unfold State.frameEntry; simp [h]
@[simp ↓] theorem channelEntry_within (c kind : Nat) (h : [.disp, .moraine] ⊆ L) : Within L s (u.channelEntry c kind) ↔ Within L s u := by
  simp at h; unfold State.channelEntry; simp [h]
@[simp ↓] theorem takeCan_within (c m : Nat) (f : CanFrame) (h : Facet.settling ⊆ L) : Within L s (u.takeCan c m f) ↔ Within L s u := by
  simp at h; unfold State.takeCan; simp [h]
@[simp ↓] theorem hearAbr_within (c : Nat) (h : [.can] ⊆ L) : Within L s (u.hearAbr c) ↔ Within L s u := by
  simp at h; unfold State.hearAbr; simp [h]
@[simp ↓] theorem recGood_within (c : Nat) (h : [.can, .draws] ⊆ L) : Within L s (u.recGood c) ↔ Within L s u := by
  simp at h; unfold State.recGood; simp [h]
@[simp ↓] theorem opCanFrame_within (c : Nat) (f : CanFrame) (h : Facet.settling ⊆ L) : Within L s (u.opCanFrame c f) ↔ Within L s u := by
  simp at h; unfold State.opCanFrame; dsimp only; (repeat' split) <;> simp [h]
@[simp ↓] theorem requestMo_within (c m : Nat) (h : [.disp, .moraine, .can] ⊆ L) : Within L s (u.requestMo c m) ↔ Within L s u := by
  simp at h; unfold State.requestMo; simp [h]
@[simp ↓] theorem endMo_within (c m result kind : Nat) (h : [.disp, .moraine, .can] ⊆ L) : Within L s (u.endMo c m result kind) ↔ Within L s u := by
  simp at h; unfold State.endMo; simp [h]
@[simp ↓] theorem abortMo_within (c m : Nat) (h : [.disp, .moraine, .can] ⊆ L) : Within L s (u.abortMo c m) ↔ Within L s u := by
  simp at h; unfold State.abortMo; simp [h]
@[simp ↓] theorem opMoCommand_within (x : ReplyTo) (h : .disp :: Facet.answering ⊆ L) : Within L s (u.opMoCommand x) ↔ Within L s u := by
  simp at h; unfold State.opMoCommand; simp [h]
@[simp ↓] theorem opMoRow_within (w : ObjWrite) (abort : Bool) (h : .disp :: .draws :: Facet.answering ⊆ L) :
    Within L s (u.opMoRow w abort) ↔ Within L s u := by
  simp at h; unfold State.opMoRow; split <;> simp [h]
@[simp ↓] theorem opTxStart_within (c : Nat) (h : [.can] ⊆ L) : Within L s (u.opTxStart c) ↔ Within L s u := by
  simp at h; unfold State.opTxStart; (repeat' split) <;> simp [h]
@[simp ↓] theorem tecAfter_within (c : Nat) (ok : Bool) (h : [.can, .draws] ⊆ L) : Within L s (u.tecAfter c ok) ↔ Within L s u := by
  simp at h; unfold State.tecAfter; simp [h]
@[simp ↓] theorem sentFrame_within (c : Nat) (f : CanFrame) (h : [.can] ⊆ L) : Within L s (u.sentFrame c f) ↔ Within L s u := by
  simp at h; unfold State.sentFrame; simp [h]
@[simp ↓] theorem endAttempt_within (c m : Nat) (ok : Bool) (h : [.disp, .moraine, .can] ⊆ L) : Within L s (u.endAttempt c m ok) ↔ Within L s u := by
  simp at h; unfold State.endAttempt; simp [h]
@[simp ↓] theorem opTxEnd_within (c : Nat) (ok : Bool) (h : [.disp, .moraine, .can, .draws] ⊆ L) : Within L s (u.opTxEnd c ok) ↔ Within L s u := by
  simp at h; unfold State.opTxEnd; (repeat' split) <;> simp [h]
@[simp ↓] theorem opBusOff_within (c : Nat) (tec : Half) (h : Facet.settling ⊆ L) : Within L s (u.opBusOff c tec) ↔ Within L s u := by
  simp at h; unfold State.opBusOff; simp [h]
@[simp ↓] theorem opRecover_within (x : ReplyTo) (h : Facet.answering ⊆ L) : Within L s (u.opRecover x) ↔ Within L s u := by
  simp at h; unfold State.opRecover; simp [h]
@[simp ↓] theorem opRecovered_within (c occurrences : Nat) (h : [.sig, .disp, .hub, .moraine, .capture, .can] ⊆ L) :
    Within L s (u.opRecovered c occurrences) ↔ Within L s u := by
  simp at h; unfold State.opRecovered; simp [h]
@[simp ↓] theorem opErrorState_within (c : Nat) (tec rec' : Half) (h : Facet.settling ⊆ L) :
    Within L s (u.opErrorState c tec rec') ↔ Within L s u := by
  simp at h; unfold State.opErrorState; simp [h]
@[simp ↓] theorem opChannelMode_within (x : ReplyTo) (h : .disp :: Facet.answering ⊆ L) : Within L s (u.opChannelMode x) ↔ Within L s u := by
  simp at h; unfold State.opChannelMode; simp [h]
@[simp ↓] theorem opAbrNext_within (c : Nat) (h : [.can] ⊆ L) : Within L s (u.opAbrNext c) ↔ Within L s u := by
  simp at h; unfold State.opAbrNext; simp [h]
@[simp ↓] theorem opAbrResult_within (c : Nat) (ok : Bool) (nominal dataRate : Word) (h : [.moraine, .can] ⊆ L) :
    Within L s (u.opAbrResult c ok nominal dataRate) ↔ Within L s u := by
  simp at h; unfold State.opAbrResult; simp [h]
@[simp ↓] theorem opCanSetting_within (x : ReplyTo) (h : Facet.answering ⊆ L) : Within L s (u.opCanSetting x) ↔ Within L s u := by
  simp at h; unfold State.opCanSetting; split <;> simp [h]
@[simp ↓] theorem opCanModule_within (x : ReplyTo) (h : Facet.answering ⊆ L) : Within L s (u.opCanModule x) ↔ Within L s u := by
  simp at h; unfold State.opCanModule; simp [h]
@[simp ↓] theorem opMoSlot_within (x : ReplyTo) (h : Facet.answering ⊆ L) : Within L s (u.opMoSlot x) ↔ Within L s u := by
  simp at h; unfold State.opMoSlot; split <;> simp [h]

end State

end Sys2Proof.Machine
end

section
/-! PROOF. How far the operations reach: the Field Block (Field.lean) -/
namespace Sys2Proof.Machine

namespace State
set_option maxRecDepth 8000
set_option Elab.async false
variable {L : List Facet} {s u : State}

@[simp ↓] theorem setGrp_within (g : Nat) (f : Group → Group) (h : [.field] ⊆ L) : Within L s (u.setGrp g f) ↔ Within L s u := by
  simp at h; unfold State.setGrp; simp [h]
@[simp ↓] theorem setChan_within (c : Nat) (f : Chan → Chan) (h : [.field] ⊆ L) : Within L s (u.setChan c f) ↔ Within L s u := by
  simp at h; unfold State.setChan; simp [h]
@[simp ↓] theorem writeInput_within (b : ChannelDecl) (f : Sig → Sig) (h : [.sig, .pair] ⊆ L) : Within L s (u.writeInput b f) ↔ Within L s u := by
  simp at h; unfold State.writeInput; simp [h]
@[simp ↓] theorem flagInput_within (b : ChannelDecl) (f : Sig → Sig) (h : [.sig, .pair] ⊆ L) : Within L s (u.flagInput b f) ↔ Within L s u := by
  simp at h; unfold State.flagInput; simp [h]
@[simp ↓] theorem markSupply_within (g : Nat) (h : [.sig, .pair] ⊆ L) : Within L s (u.markSupply g) ↔ Within L s u := by
  simp at h; unfold State.markSupply; simp [h]
@[simp ↓] theorem markUndervolt_within (g : Nat) (h : [.sig] ⊆ L) : Within L s (u.markUndervolt g) ↔ Within L s u := by
  simp at h; unfold State.markUndervolt; simp [h]
@[simp ↓] theorem chanFault_within (c d : Nat) (h : Facet.reacting ⊆ L) : Within L s (u.chanFault c d) ↔ Within L s u := by
  simp at h; unfold State.chanFault; simp [h]
@[simp ↓] theorem opOutputUpdate_within (g : Nat) (h : [.sig, .capture, .field] ⊆ L) : Within L s (u.opOutputUpdate g) ↔ Within L s u := by
  simp at h; unfold State.opOutputUpdate; simp [h]
@[simp ↓] theorem opWatchdog_within (g : Nat) (h : Facet.settling ⊆ L) : Within L s (u.opWatchdog g) ↔ Within L s u := by
  simp at h; unfold State.opWatchdog; simp [h]
@[simp ↓] theorem opSupply_within (g mv : Nat) (h : Facet.settling ⊆ L) : Within L s (u.opSupply g mv) ↔ Within L s u := by
  simp at h; unfold State.opSupply; simp [h]
@[simp ↓] theorem opSwitchOff_within (g : Nat) (h : Facet.settling ⊆ L) : Within L s (u.opSwitchOff g) ↔ Within L s u := by
  simp at h; unfold State.opSwitchOff; simp [h]
@[simp ↓] theorem resume_within (g : Nat) (h : [.sig, .hub, .moraine, .capture, .field] ⊆ L) : Within L s (u.resume g) ↔ Within L s u := by
  simp at h; unfold State.resume; simp [h]
@[simp ↓] theorem opRestoreReady_within (g : Nat) (h : [.sig, .hub, .moraine, .capture, .field] ⊆ L) :
    Within L s (u.opRestoreReady g) ↔ Within L s u := by
  simp at h; unfold State.opRestoreReady; simp [h]
@[simp ↓] theorem opGroupRestore_within (x : ReplyTo) (h : .sig :: .hub :: .field :: Facet.answering ⊆ L) :
    Within L s (u.opGroupRestore x) ↔ Within L s u := by
  simp at h; unfold State.opGroupRestore; simp [h]
@[simp ↓] theorem opStoreCharged_within (g : Nat) (h : [.field] ⊆ L) : Within L s (u.opStoreCharged g) ↔ Within L s u := by
  simp at h; unfold State.opStoreCharged; simp [h]
@[simp ↓] theorem opInputEdge_within (c : Nat) (on : Bool) (tag : Nat) (h : Facet.settling ⊆ L) :
    Within L s (u.opInputEdge c on tag) ↔ Within L s u := by
  simp at h; unfold State.opInputEdge; split <;> simp [h]
@[simp ↓] theorem opWireBreak_within (c : Nat) (broken : Bool) (h : Facet.settling ⊆ L) : Within L s (u.opWireBreak c broken) ↔ Within L s u := by
  simp at h; unfold State.opWireBreak; split <;> simp [h]
@[simp ↓] theorem opOverload_within (c ma lasted : Nat) (h : Facet.settling ⊆ L) : Within L s (u.opOverload c ma lasted) ↔ Within L s u := by
  simp at h; unfold State.opOverload; split <;> simp [h]
@[simp ↓] theorem opOverloadRetry_within (c : Nat) (ok : Bool) (h : Facet.settling ⊆ L) : Within L s (u.opOverloadRetry c ok) ↔ Within L s u := by
  simp at h; unfold State.opOverloadRetry; split <;> simp [h]
@[simp ↓] theorem opReadback_within (c : Nat) (state : Bool) (h : Facet.settling ⊆ L) : Within L s (u.opReadback c state) ↔ Within L s u := by
  simp at h; unfold State.opReadback; split <;> simp [h]
@[simp ↓] theorem convert_within (c : Nat) (raw : ℤ) (h : Facet.settling ⊆ L) : Within L s (u.convert c raw) ↔ Within L s u := by
  simp at h; unfold State.convert; split <;> simp [h]
@[simp ↓] theorem stampStart_within (g : Nat) (h : [.field] ⊆ L) : Within L s (u.stampStart g) ↔ Within L s u := by
  simp at h; unfold State.stampStart; simp [h]
@[simp ↓] theorem opConversion_within (g : Nat) (l : List ℤ) (h : Facet.settling ⊆ L) : Within L s (u.opConversion g l) ↔ Within L s u := by
  simp at h; unfold State.opConversion; simp [h]
@[simp ↓] theorem markLoop_within (b : ChannelDecl) (ua : ℤ) (bad : Bool) (h : [.sig, .pair, .field] ⊆ L) :
    Within L s (u.markLoop b ua bad) ↔ Within L s u := by
  simp at h; unfold State.markLoop; simp [h]
@[simp ↓] theorem opLoop_within (c : Nat) (ua : ℤ) (bad : Bool) (h : Facet.settling ⊆ L) : Within L s (u.opLoop c ua bad) ↔ Within L s u := by
  simp at h; unfold State.opLoop; split <;> simp [h]
@[simp ↓] theorem opHartRequest_within (x : ReplyTo) (h : .field :: Facet.answering ⊆ L) : Within L s (u.opHartRequest x) ↔ Within L s u := by
  simp at h; unfold State.opHartRequest; simp [h]
@[simp ↓] theorem opHartDone_within (h' : Nat) (r : HartResult) (h : [.moraine, .field] ⊆ L) : Within L s (u.opHartDone h' r) ↔ Within L s u := by
  simp at h; unfold State.opHartDone; simp [h]
@[simp ↓] theorem opHartBurst_within (h' : Nat) (bytes : List Byte) (h : [.xan, .field] ⊆ L) :
    Within L s (u.opHartBurst h' bytes) ↔ Within L s u := by
  simp at h; unfold State.opHartBurst; simp [h]
@[simp ↓] theorem opTrimSelect_within (x : ReplyTo) (h : .sig :: .field :: Facet.answering ⊆ L) : Within L s (u.opTrimSelect x) ↔ Within L s u := by
  simp at h; unfold State.opTrimSelect; simp [h]
@[simp ↓] theorem adjust_within (t : Trim) (n : ℤ) (y : Chan) (h : [.sig, .field] ⊆ L) : Within L s (u.adjust t n y) ↔ Within L s u := by
  simp at h; unfold State.adjust; simp [h]
@[simp ↓] theorem opTrimAdjust_within (x : ReplyTo) (h : .sig :: .field :: Facet.answering ⊆ L) : Within L s (u.opTrimAdjust x) ↔ Within L s u := by
  simp at h; unfold State.opTrimAdjust; dsimp only; (repeat' split) <;> simp [h]
@[simp ↓] theorem opTrimKey_within (plus : Bool) (h : [.sig, .moraine, .field] ⊆ L) : Within L s (u.opTrimKey plus) ↔ Within L s u := by
  simp at h; unfold State.opTrimKey; (repeat' split) <;> simp [h]
@[simp ↓] theorem opTrimRepeat_within (plus : Bool) (held : Ns) (h : [.sig, .field] ⊆ L) : Within L s (u.opTrimRepeat plus held) ↔ Within L s u := by
  simp at h; unfold State.opTrimRepeat; simp [h]
@[simp ↓] theorem storeTrim_within (t : Trim) (session : Word) (h : [.sig, .moraine, .field] ⊆ L) :
    Within L s (u.storeTrim t session) ↔ Within L s u := by
  simp at h; unfold State.storeTrim; simp [h]
@[simp ↓] theorem opTrimEnd_within (x : ReplyTo) (h : .sig :: .field :: Facet.answering ⊆ L) : Within L s (u.opTrimEnd x) ↔ Within L s u := by
  simp at h; unfold State.opTrimEnd; simp [h]
@[simp ↓] theorem opTrimKeys_within (h : [.sig, .moraine, .field, .draws] ⊆ L) : Within L s (u.opTrimKeys) ↔ Within L s u := by
  simp at h; unfold State.opTrimKeys; simp [h]
@[simp ↓] theorem opTrimIdle_within (h : [.sig, .moraine, .field] ⊆ L) : Within L s (u.opTrimIdle) ↔ Within L s u := by
  simp at h; unfold State.opTrimIdle; simp [h]
@[simp ↓] theorem opFieldSetting_within (x : ReplyTo) (h : .sig :: .hub :: .field :: Facet.answering ⊆ L) :
    Within L s (u.opFieldSetting x) ↔ Within L s u := by
  simp at h; unfold State.opFieldSetting; split <;> simp [h]

end State

end Sys2Proof.Machine
end

section
/-! PROOF. How far the operations reach: Sedge (Sedge.lean) -/
namespace Sys2Proof.Machine

namespace State
set_option maxRecDepth 8000
set_option Elab.async false
variable {L : List Facet} {s u : State}

@[simp ↓] theorem logEntry_within (kind subject a b c : Nat) (h : [.moraine, .sedge] ⊆ L) :
    Within L s (u.logEntry kind subject a b c) ↔ Within L s u := by
  simp at h; unfold State.logEntry; simp [h]
@[simp ↓] theorem opStoreRetry_within (ok : Bool) (h : .sedge :: Facet.settling ⊆ L) : Within L s (u.opStoreRetry ok) ↔ Within L s u := by
  simp at h; unfold State.opStoreRetry; simp [h]
@[simp ↓] theorem sampleSensor_within (n : Nat) (v : ℤ) (failed : Bool) (h : [.moraine, .sedge] ⊆ L) :
    Within L s (u.sampleSensor n v failed) ↔ Within L s u := by
  simp at h; unfold State.sampleSensor; simp [h]
@[simp ↓] theorem level_within (d : Nat) (on : Bool) (h : Facet.reacting ⊆ L) : Within L s (u.level d on) ↔ Within L s u := by
  simp at h; unfold State.level; simp [h]
@[simp ↓] theorem judgeSensors_within (h : Facet.reacting ⊆ L) : Within L s (u.judgeSensors) ↔ Within L s u := by
  simp at h; unfold State.judgeSensors; simp [h]
@[simp ↓] theorem noteFeeds_within (a b : Nat) (h : [.sedge] ⊆ L) : Within L s (u.noteFeeds a b) ↔ Within L s u := by
  simp at h; unfold State.noteFeeds; simp [h]
@[simp ↓] theorem opSensors_within (l : List ℤ) (failed : List Nat) (h : .sedge :: Facet.settling ⊆ L) :
    Within L s (u.opSensors l failed) ↔ Within L s u := by
  simp at h; unfold State.opSensors; simp [h]
@[simp ↓] theorem opCover_within (isOpen : Bool) (h : .sedge :: Facet.settling ⊆ L) : Within L s (u.opCover isOpen) ↔ Within L s u := by
  simp at h; unfold State.opCover; simp [h]
@[simp ↓] theorem opUnseated_within (held : Ns) (h : .sedge :: Facet.settling ⊆ L) : Within L s (u.opUnseated held) ↔ Within L s u := by
  simp at h; unfold State.opUnseated; simp [h]
@[simp ↓] theorem opPowerFail_within (a b : Nat) (h : [.moraine, .sedge] ⊆ L) : Within L s (u.opPowerFail a b) ↔ Within L s u := by
  simp at h; unfold State.opPowerFail; simp [h]
@[simp ↓] theorem opSupplyLost_within (h : Facet.settling ⊆ L) : Within L s (u.opSupplyLost) ↔ Within L s u := by
  simp at h; unfold State.opSupplyLost; simp [h]
@[simp ↓] theorem setFeed_within (f : Nat) (x : Feed) (h : [.sedge] ⊆ L) : Within L s (u.setFeed f x) ↔ Within L s u := by
  simp at h; unfold State.setFeed; simp [h]
@[simp ↓] theorem opFeedOff_within (f mv : Nat) (h : [.sedge] ⊆ L) : Within L s (u.opFeedOff f mv) ↔ Within L s u := by
  simp at h; unfold State.opFeedOff; simp [h]
@[simp ↓] theorem opFeedOn_within (f mv : Nat) (below : Ns) (h : [.sedge] ⊆ L) : Within L s (u.opFeedOn f mv below) ↔ Within L s u := by
  simp at h; unfold State.opFeedOn; simp [h]
@[simp ↓] theorem setOther_within (p : Option FwPackage) (h : [.sedge] ⊆ L) : Within L s (u.setOther p) ↔ Within L s u := by
  simp at h; unfold State.setOther; simp [h]
@[simp ↓] theorem opFwStage_within (x : ReplyTo) (h : .sedge :: Facet.answering ⊆ L) : Within L s (u.opFwStage x) ↔ Within L s u := by
  simp at h; unfold State.opFwStage; simp [h]
@[simp ↓] theorem opFwCommand_within (x : ReplyTo) (h : .sedge :: Facet.answering ⊆ L) : Within L s (u.opFwCommand x) ↔ Within L s u := by
  simp at h; unfold State.opFwCommand; simp [h]
@[simp ↓] theorem judgePackage_within (sedgeRelease : Word) (salt : BitVec 512) (h : [.moraine, .sedge] ⊆ L) :
    Within L s (u.judgePackage sedgeRelease salt) ↔ Within L s u := by
  simp at h; unfold State.judgePackage; simp [h]
@[simp ↓] theorem opFwVerified_within (sedgeRelease : Word) (salt : BitVec 512) (ok1 ok2 : Bool) (h : [.disp, .drift, .hub, .moraine, .sedge] ⊆ L) :
    Within L s (u.opFwVerified sedgeRelease salt ok1 ok2) ↔ Within L s u := by
  simp at h; unfold State.opFwVerified; simp [h]
@[simp ↓] theorem takeFwActivate_within (op : Nat) (range conflict : State → List Byte → Bool) (act : State → Word → State)
    (h : Facet.answering ⊆ L) (hact : ∀ v w, Within L v (act v w)) :
    Within L s (u.takeFwActivate op range conflict act) ↔ Within L s u := by
  refine onSigned_within_of (h (by simp)) fun t f ht => ?_
  simp at h
  dsimp only
  split <;> simp [h, hact, ht]
@[simp ↓] theorem loneCkpt_within (h : Facet.settling ⊆ L) : Within L s (u.loneCkpt) ↔ Within L s u := by
  simp at h; unfold State.loneCkpt; simp [h]
@[simp ↓] theorem activate_within (session : Word) (h : .sedge :: Facet.settling ⊆ L) : Within L s (u.activate session) ↔ Within L s u := by
  simp at h; unfold State.activate; simp [h]
@[simp ↓] theorem opFwActivate_within (h : .sedge :: Facet.settling ⊆ L) : Within L s (u.opFwActivate) ↔ Within L s u := by
  simp at h; unfold State.opFwActivate; simp [h]
@[simp ↓] theorem raiseFloor_within (session : Word) (h : [.moraine, .sedge] ⊆ L) : Within L s (u.raiseFloor session) ↔ Within L s u := by
  simp at h; unfold State.raiseFloor; simp [h]
@[simp ↓] theorem opFloorRaise_within (h : .sedge :: Facet.answering ⊆ L) : Within L s (u.opFloorRaise) ↔ Within L s u := by
  simp at h; unfold State.opFloorRaise; simp [h]
@[simp ↓] theorem activateAny_within (f : Fwd) (h : .sedge :: Facet.settling ⊆ L) : Within L s (u.activateAny f) ↔ Within L s u := by
  simp at h; unfold State.activateAny; split <;> simp [h]
@[simp ↓] theorem opReboot_within (h : Facet.settling ⊆ L) : Within L s (u.opReboot) ↔ Within L s u := by
  simp at h; unfold State.opReboot; simp [h]
@[simp ↓] theorem opConfirmed_within (h : [.moraine, .sedge] ⊆ L) : Within L s (u.opConfirmed) ↔ Within L s u := by
  simp at h; unfold State.opConfirmed; simp [h]

end State

end Sys2Proof.Machine
end

section
/-! PROOF. How far the operations reach: power-on reset, boot and the wipe (Boot.lean) -/
namespace Sys2Proof.Machine

namespace State
set_option maxRecDepth 8000
set_option Elab.async false
variable {L : List Facet} {s u : State}

@[simp ↓] theorem withSettings_within (o : State) (h : .mode :: .time :: .disp :: .drift :: .prog :: .pair :: .hub :: .link :: .eth :: .field :: Facet.answering ⊆ L) :
    Within L s (u.withSettings o) ↔ Within L s u := by
  simp at h; unfold State.withSettings; simp [h]
@[simp ↓] theorem clearStores_within (h : .sig :: .disp :: .drift :: .firn :: .prog :: .pair :: .link :: .eth :: .field :: .mem :: Facet.answering ⊆ L) :
    Within L s (u.clearStores) ↔ Within L s u := by
  simp at h; unfold State.clearStores; simp [h]
@[simp ↓] theorem wipe_within (h : .mode :: .sig :: .disp :: .drift :: .firn :: .prog :: .pair :: .link :: .eth :: .field :: .sedge :: .mem :: Facet.answering ⊆ L) :
    Within L s (u.wipe) ↔ Within L s u := by
  simp at h; unfold State.wipe; simp [h]
@[simp ↓] theorem zeroise_within (h : [.mode, .xan, .sess, .moraine, .sedge] ⊆ L) : Within L s (u.zeroise) ↔ Within L s u := by
  simp at h; unfold State.zeroise; simp [h]
@[simp ↓] theorem startWipe_within (h : .mode :: .sig :: .disp :: .drift :: .firn :: .prog :: .pair :: .link :: .eth :: .field :: .sedge :: .mem :: Facet.answering ⊆ L) :
    Within L s (u.startWipe) ↔ Within L s u := by
  simp at h; unfold State.startWipe; simp [h]
@[simp ↓] theorem provision_within (secret : BitVec 4096) (h : [.xan, .sess] ⊆ L) : Within L s (u.provision secret) ↔ Within L s u := by
  simp at h; unfold State.provision; simp [h]
@[simp ↓] theorem beginLife_within (x : ReplyTo) (target : Life) (secret : BitVec 4096) (h : .eth :: .sedge :: .mem :: Facet.settling ⊆ L) :
    Within L s (u.beginLife x target secret) ↔ Within L s u := by
  simp at h; unfold State.beginLife; simp [h]
@[simp ↓] theorem lifecycle_within (secret : BitVec 4096) (f : Fwd) (h : .eth :: .sedge :: .mem :: Facet.settling ⊆ L) :
    Within L s (State.lifecycle secret u f) ↔ Within L s u := by
  simp at h; unfold State.lifecycle; simp [h]
@[simp ↓] theorem opLifecycle_within (secret : BitVec 4096) (h : .eth :: .sedge :: .mem :: Facet.settling ⊆ L) :
    Within L s (u.opLifecycle secret) ↔ Within L s u := by
  simp at h; unfold State.opLifecycle; simp [h]
@[simp ↓] theorem opWiped_within (h : .time :: .eth :: .sedge :: .mem :: Facet.settling ⊆ L) : Within L s (u.opWiped) ↔ Within L s u := by
  simp at h; unfold State.opWiped; split <;> simp [h]
@[simp ↓] theorem opWipeFailed_within (h : .mode :: .sig :: .disp :: .drift :: .firn :: .prog :: .pair :: .link :: .eth :: .field :: .sedge :: .mem :: Facet.answering ⊆ L) :
    Within L s (u.opWipeFailed) ↔ Within L s u := by
  simp at h; unfold State.opWipeFailed; simp [h]
@[simp ↓] theorem fallBack_within (reason : Nat) (h : .sedge :: Facet.reacting ⊆ L) : Within L s (u.fallBack reason) ↔ Within L s u := by
  simp at h; unfold State.fallBack; simp [h]
@[simp ↓] theorem selectSlot_within (okA okB : Bool) (h : .sedge :: Facet.reacting ⊆ L) : Within L s (u.selectSlot okA okB) ↔ Within L s u := by
  simp at h; unfold State.selectSlot; simp [h]
@[simp ↓] theorem bootEntry_within (h : [.moraine, .sedge] ⊆ L) : Within L s (u.bootEntry) ↔ Within L s u := by
  simp at h; unfold State.bootEntry; simp [h]
@[simp ↓] theorem measureFirmware_within (p : PowerUp) (h : [.sedge] ⊆ L) : Within L s (u.measureFirmware p) ↔ Within L s u := by
  simp at h; unfold State.measureFirmware; simp [h]
/-- A power-on reset keeps the queue alone whole. -/
@[simp ↓] theorem kept_within (p : PowerUp) (h : .time :: .eth :: .sedge :: .mem :: .clock :: Facet.settling ⊆ L) :
    Within L s (u.kept p) ↔ Within L s u := by
  refine Within.step_iff (fun f hf => ?_) h
  cases f <;> simp at hf
  rfl
@[simp ↓] theorem powerUp_within (p : PowerUp) (h : .time :: .eth :: .sedge :: .mem :: .clock :: Facet.settling ⊆ L) :
    Within L s (u.powerUp p) ↔ Within L s u := by
  simp at h; unfold State.powerUp; simp [h]
@[simp ↓] theorem opPowerOn_within (p : PowerUp) (h : .time :: .eth :: .sedge :: .mem :: .clock :: Facet.settling ⊆ L) :
    Within L s (u.opPowerOn p) ↔ Within L s u := by
  simp at h; unfold State.opPowerOn; simp [h]
@[simp ↓] theorem opHubTested_within (h : [.mode, .hub] ⊆ L) : Within L s (u.opHubTested) ↔ Within L s u := by
  simp at h; unfold State.opHubTested; simp [h]
@[simp ↓] theorem opClockStart_within (h : [.time, .clock] ⊆ L) : Within L s (u.opClockStart) ↔ Within L s u := by
  simp at h; unfold State.opClockStart; simp [h]
@[simp ↓] theorem loadKeyStore_within (c1 c2 : Nat) (h : [.sess] ⊆ L) : Within L s (u.loadKeyStore c1 c2) ↔ Within L s u := by
  simp at h; unfold State.loadKeyStore; dsimp only; (repeat' split) <;> simp [h]
@[simp ↓] theorem readSlots_within (l : List ImageReading) (h : [.prog] ⊆ L) : Within L s (u.readSlots l) ↔ Within L s u := by
  simp at h; unfold State.readSlots; simp [h]
@[simp ↓] theorem readFlash_within (m : BootMeasure) (h : [.disp, .drift, .prog, .hub, .moraine] ⊆ L) :
    Within L s (u.readFlash m) ↔ Within L s u := by
  simp at h; unfold State.readFlash; simp [h]
@[simp ↓] theorem stage3_within (m : BootMeasure) (h : [.sess, .sedge, .draws] ⊆ L) : Within L s (u.stage3 m) ↔ Within L s u := by
  simp at h; unfold State.stage3; simp [h]
@[simp ↓] theorem opMeasured_within (m : BootMeasure) (h : .time :: .eth :: .sedge :: .mem :: Facet.settling ⊆ L) :
    Within L s (u.opMeasured m) ↔ Within L s u := by
  simp at h; unfold State.opMeasured; simp [h]
@[simp ↓] theorem opEndOfBoot_within (h : .sedge :: Facet.settling ⊆ L) : Within L s (u.opEndOfBoot) ↔ Within L s u := by
  simp at h; unfold State.opEndOfBoot; dsimp only; (repeat' split) <;> simp [h]

end State

end Sys2Proof.Machine
end

section
/-! PROOF. How far the operations reach: requests and home-address writes (Responder.lean) -/
namespace Sys2Proof.Machine

namespace State
set_option maxRecDepth 8000
set_option Elab.async false
variable {L : List Facet} {s u : State}

@[simp ↓] theorem opRead_within (x : ReplyTo) (h : Facet.answering ⊆ L) : Within L s (u.opRead x) ↔ Within L s u := by
  simp at h; unfold State.opRead; simp [h]
@[simp ↓] theorem opReadRange_within (x : ReplyTo) (h : Facet.answering ⊆ L) : Within L s (u.opReadRange x) ↔ Within L s u := by
  simp at h; unfold State.opReadRange; simp [h]
@[simp ↓] theorem obtainCursor_within (x : ReplyTo) (h : [.moraine, .capture] ⊆ L) : Within L s (u.obtainCursor x) ↔ Within L s u := by
  simp at h; unfold State.obtainCursor; simp [h]
@[simp ↓] theorem opWindowRead_within (x : ReplyTo) (h : Facet.answering ⊆ L) : Within L s (u.opWindowRead x) ↔ Within L s u := by
  simp at h; unfold State.opWindowRead; dsimp only; (repeat' split) <;> simp [h]
@[simp ↓] theorem opUdpPort_within (x : ReplyTo) (h : Facet.answering ⊆ L) : Within L s (u.opUdpPort x) ↔ Within L s u := by
  simp at h; unfold State.opUdpPort; simp [h]
@[simp ↓] theorem opLeafTimeout_within (x : ReplyTo) (h : .hub :: Facet.answering ⊆ L) : Within L s (u.opLeafTimeout x) ↔ Within L s u := by
  simp at h; unfold State.opLeafTimeout; simp [h]
@[simp ↓] theorem opVendor_within (x : ReplyTo) (h : Facet.answering ⊆ L) : Within L s (u.opVendor x) ↔ Within L s u := by
  simp at h; unfold State.opVendor; simp [h]
@[simp ↓] theorem writeLow_within (i sub : Nat) (a0 : ReplyTo) (h : .time :: .eth :: .sedge :: .mem :: Facet.settling ⊆ L) :
    Within L s (State.writeLow i sub u a0) ↔ Within L s u := by
  simp at h; unfold State.writeLow; (repeat' split) <;> simp [h]
@[simp ↓] theorem writeSignals_within (i : Nat) (a0 : ReplyTo) (h : .sig :: .pair :: Facet.answering ⊆ L) :
    Within L s (State.writeSignals i u a0) ↔ Within L s u := by
  simp at h; unfold State.writeSignals; (repeat' split) <;> simp [h]
@[simp ↓] theorem writeRecords_within (i sub : Nat) (a0 : ReplyTo) (h : Facet.settling ⊆ L) :
    Within L s (State.writeRecords i sub u a0) ↔ Within L s u := by
  simp at h; unfold State.writeRecords; (repeat' split) <;> simp [h]
@[simp ↓] theorem writeEngines_within (i sub : Nat) (a0 : ReplyTo) (h : .time :: .eth :: Facet.settling ⊆ L) :
    Within L s (State.writeEngines i sub u a0) ↔ Within L s u := by
  simp at h; unfold State.writeEngines; (repeat' split) <;> simp [h]
@[simp ↓] theorem writeField_within (i sub : Nat) (a0 : ReplyTo) (h : .sig :: .disp :: .hub :: .field :: .sedge :: Facet.answering ⊆ L) :
    Within L s (State.writeField i sub u a0) ↔ Within L s u := by
  simp at h; unfold State.writeField; (repeat' split) <;> simp [h]
@[simp ↓] theorem writeOp_within (i sub : Nat) (a0 : ReplyTo) (h : .time :: .eth :: .sedge :: .mem :: Facet.settling ⊆ L) :
    Within L s (State.writeOp i sub u a0) ↔ Within L s u := by
  simp at h; unfold State.writeOp; (repeat' split) <;> simp [h]
@[simp ↓] theorem opWrite_within (r : Req) (op : Nat) (h : .time :: .eth :: .sedge :: .mem :: Facet.settling ⊆ L) :
    Within L s (u.opWrite r op) ↔ Within L s u := by
  simp at h
  unfold opWrite
  split
  · rfl
  · exact Within.step_iff (judge_over_within ‹_›) (by simp [h])
  · simp [h, Within.step_iff (judge_passed_within ‹_›)]
@[simp ↓] theorem opWindowed_within (r : Req) (h : .disp :: .draws :: Facet.answering ⊆ L) : Within L s (u.opWindowed r) ↔ Within L s u := by
  simp at h
  unfold opWindowed
  split
  · rfl
  · exact Within.step_iff (judge_over_within ‹_›) (by simp [h])
  · simp [h, Within.step_iff (judge_passed_within ‹_›)]
@[simp ↓] theorem carryOut_within (x : ReplyTo) (h : .time :: .eth :: .sedge :: .mem :: Facet.settling ⊆ L) :
    Within L s (u.carryOut x) ↔ Within L s u := by
  simp at h; unfold State.carryOut; simp [h]
@[simp ↓] theorem opComplete_within (h : .time :: .eth :: .sedge :: .mem :: Facet.settling ⊆ L) : Within L s (u.opComplete) ↔ Within L s u := by
  simp at h; unfold State.opComplete; split <;> simp [h]
@[simp ↓] theorem signedOp_within (i : Nat) (a0 : Fwd) (h : .eth :: .sedge :: .mem :: Facet.settling ⊆ L) :
    Within L s (State.signedOp i u a0) ↔ Within L s u := by
  simp at h; unfold State.signedOp; split <;> simp [h]
@[simp ↓] theorem homeSigned_within (i : Nat) (v : Word) (h : .eth :: .sedge :: .mem :: Facet.settling ⊆ L) :
    Within L s (u.homeSigned i v) ↔ Within L s u := by
  simp at h; unfold State.homeSigned; simp [h]
@[simp ↓] theorem homePlain_within (i sub : Nat) (o : Obj) (v : Nat) (h : .time :: .eth :: .sedge :: .mem :: Facet.settling ⊆ L) :
    Within L s (u.homePlain i sub o v) ↔ Within L s u := by
  simp at h; unfold State.homePlain; simp [h]
@[simp ↓] theorem homeHigh_within (m a i sub : Nat) (o : Obj) (v : Word) (h : .time :: .eth :: .sedge :: .mem :: Facet.settling ⊆ L) :
    Within L s (u.homeHigh m a i sub o v) ↔ Within L s u := by
  simp at h; unfold State.homeHigh; simp [h]
@[simp ↓] theorem homeObject_within (m a i sub : Nat) (v : Word) (h : .time :: .eth :: .sedge :: .mem :: Facet.settling ⊆ L) :
    Within L s (u.homeObject m a i sub v) ↔ Within L s u := by
  simp at h; unfold State.homeObject; (repeat' split) <;> simp [h]
@[simp ↓] theorem opHomeWrite_within (m a : Nat) (v : Word) (h : .time :: .eth :: .sedge :: .mem :: Facet.settling ⊆ L) :
    Within L s (u.opHomeWrite m a v) ↔ Within L s u := by
  simp at h; unfold State.opHomeWrite; simp [h]
@[simp ↓] theorem opObject_within (w : ObjWrite) (h : .time :: .eth :: .sedge :: .mem :: Facet.settling ⊆ L) :
    Within L s (u.opObject w) ↔ Within L s u := by
  simp at h; unfold State.opObject; split <;> simp [h]

end State

end Sys2Proof.Machine
end

section
/-! PROOF. How far each command reaches: no further than the parts it is listed with -/
namespace Sys2Proof.Machine

/-- The facet that a part is. -/
def Part.facet : Part → Facet
  | .mode => .mode | .time => .time | .xan => .xan | .sess => .sess | .sig => .sig | .disp => .disp | .drift => .drift | .firn => .firn | .prog => .prog
  | .pair => .pair | .hub => .hub | .guard => .guard | .moraine => .moraine | .capture => .capture | .link => .link | .eth => .eth | .can => .can
  | .field => .field | .sedge => .sedge | .mem => .mem | .draws => .draws | .pending => .pending

/-- The commands that may set the monotonic clock. -/
def clockOf (c : Instr) : List Facet :=
  match c with
  | .powerOnResetRelease .. | .monotonicClockStartTimeout | .hello .. => [.clock]
  | _ => []

/-- The facets that a command may reach: the parts it is listed with but for the queue, which no command touches, and the clock. -/
def reached (c : Instr) : List Facet := clockOf c ++ ((touched c).map Part.facet).filter (· ≠ .pending)

set_option Elab.async false
set_option maxRecDepth 8000
/-- A command stays within the parts it is listed with, the queue and the monotonic clock aside. -/
theorem exec_within {c : Instr} {s t : State} (h : exec c s = .next t) : Within (reached c) s t := by
  cases c
  case trimStore by_ =>
    cases h
    delta reached touched clockOf
    cases by_ <;> simp [Part.facet]
  all_goals
    cases h
    delta reached touched clockOf
    dsimp only [reaction]
    simp (disch := (intros; simp (disch := decide) [↓Within.subset_iff_true]))

end Sys2Proof.Machine
end

section
/-! PROOF. The frames of the commands (O58, O59, O60) and the queue (O47) -/
namespace Sys2Proof.Machine

theorem facet_notMem_reached {c : Instr} {p : Part} (h : p ∉ touched c) : p.facet ∉ reached c := by
  have hinj : ∀ q : Part, q.facet = p.facet → q = p := by intro q; cases p <;> cases q <;> simp [Part.facet]
  have hclock : p.facet ∉ clockOf c := by unfold clockOf; split <;> cases p <;> simp [Part.facet]
  simp only [reached, List.mem_append, List.mem_filter, List.mem_map, not_or, hclock, not_false_eq_true, true_and]
  rintro ⟨⟨q, hq, hqp⟩, -⟩
  exact h (hinj q hqp ▸ hq)

theorem Part.same_of_facet {p : Part} {s t : State} (h : p.facet.same s t) : p.same s t := by
  cases p <;> exact h

/-- What O58 to O60 say of each part: a command changes only the parts that `touched` lists for it. -/
theorem exec_changesOnly_touched (c : Instr) : ChangesOnly c (touched c) :=
  fun _ _ h _ hp => Part.same_of_facet (exec_within h _ (facet_notMem_reached hp))

/-- Settles O58. -/
theorem framesOfTheServiceParts : Obligations.FramesOfTheServiceParts :=
  fun c s t h p _ hp => exec_changesOnly_touched c s t h p hp

/-- Settles O59. -/
theorem framesOfTheControlParts : Obligations.FramesOfTheControlParts :=
  fun c s t h p _ hp => exec_changesOnly_touched c s t h p hp

/-- Settles O60. -/
theorem framesOfTheSignalParts : Obligations.FramesOfTheSignalParts :=
  fun c s t h p _ hp => exec_changesOnly_touched c s t h p hp

/-- No command touches the queue. -/
theorem exec_pending {c : Instr} {s t : State} (h : exec c s = .next t) : t.pending = s.pending := by
  refine exec_within h .pending ?_
  unfold reached clockOf
  split <;> simp

/-- Settles O47: a step runs the front command on the rest of the queue, which no command touches. -/
theorem theQueueIsFirstInFirstOut : Obligations.TheQueueIsFirstInFirstOut := by
  intro s t c rest hp hstep
  rw [step_of_pending hp] at hstep
  exact exec_pending hstep

end Sys2Proof.Machine
end

section
/-! PROOF. The monotonic clock (O52) -/
namespace Sys2Proof.Machine

section
set_option maxRecDepth 8000

/-- Once the monotonic clock runs, no HELLO sets it (R314). -/
theorem State.opHello_clock_of_running {u : State} (m : HelloMsg) (h : u.time.monoRun = true) : (u.opHello m).time.mono = u.time.mono := by
  have hin : Within (.time :: .sedge :: Facet.settling) u (u.opHello m) := by
    unfold State.opHello State.startClock; simp [h]
  exact (hin .clock (by simp)).1
end

/-- Once the monotonic clock runs, its start timeout does nothing (R314). -/
theorem State.opClockStart_of_running {u : State} (h : u.time.monoRun = true) : u.opClockStart = u := by
  simp [State.opClockStart, h]

/-- Only a power-on reset sets a running monotonic clock (R484). -/
theorem exec_mono_of_running {c : Instr} {s t : State} (hrun : s.time.monoRun = true) (h : exec c s = .next t) :
    t.time.mono = s.time.mono ∨ ∃ p, c = .powerOnResetRelease p := by
  by_cases hc : .clock ∈ clockOf c
  · unfold clockOf at hc
    split at hc
    case h_1 p => exact .inr ⟨p, rfl⟩
    case h_2 => cases h; exact .inl (by rw [State.opClockStart_of_running hrun])
    case h_3 m => cases h; exact .inl (State.opHello_clock_of_running m hrun)
    case h_4 => cases hc
  · have hreach : .clock ∉ reached c := by
      have hpart : ∀ p : Part, p.facet ≠ .clock := by intro p; cases p <;> simp [Part.facet]
      simp [reached, hc, hpart]
    exact .inl (exec_within h .clock hreach).1

/-- Settles O52: a command at the front of the queue keeps the clock or is a power-on reset, and on an empty queue the tick moves it. -/
theorem theMonotonicClockNeverStepsBack : Obligations.TheMonotonicClockNeverStepsBack := by
  intro s t hrun hstep
  match hp : s.pending with
  | [] =>
    rw [step_of_empty hp] at hstep
    cases hstep
    obtain ⟨-, hlow, hhigh, -⟩ := State.tick_running_time hrun
    exact .inr (.inl ⟨rfl, hlow, hhigh⟩)
  | c :: rest =>
    rw [step_of_pending hp] at hstep
    rcases exec_mono_of_running (s := { s with pending := rest }) hrun hstep with h | ⟨p, rfl⟩
    · exact .inl h
    · exact .inr (.inr ⟨p, rest, rfl⟩)

end Sys2Proof.Machine
end

section
/-! PROOF. The form of the byte memory (O50) -/
namespace Sys2Proof.Machine

set_option maxRecDepth 8000

/-- Every facet but the byte memory. -/
abbrev Facet.besideMemory : List Facet := .time :: .eth :: .sedge :: .pending :: .clock :: Facet.settling

theorem memoryForm_of_mem {s t : State} (hs : MemoryForm s) (h : t.mem = s.mem) : MemoryForm t := by unfold MemoryForm; rwa [h]

theorem memoryForm_of_nil {t : State} (h : t.mem = []) : MemoryForm t := by unfold MemoryForm; rw [h]; rfl

theorem memoryForm_of_within {s t : State} (hs : MemoryForm s) (h : Within Facet.besideMemory s t) : MemoryForm t :=
  memoryForm_of_mem hs (h .mem (by simp))

theorem mem_of_within {s t : State} (h : Within Facet.besideMemory s t) : t.mem = s.mem := h .mem (by simp)

theorem memoryForm_ite {c : Prop} [Decidable c] {a b : State} (ha : MemoryForm a) (hb : MemoryForm b) : MemoryForm (if c then a else b) := by
  split <;> assumption

namespace State
variable {s u : State}

/-! ## What clears the memory -/

theorem wipe_mem : u.wipe.mem = [] := by
  unfold wipe
  exact mem_of_within (s := { u.clearStores with mode.wipeStep := 5 }) (by simp)

theorem startWipe_mem : u.startWipe.mem = [] := wipe_mem

theorem beginLife_mem (x : ReplyTo) (target : Life) (secret : BitVec 4096) : (u.beginLife x target secret).mem = [] := startWipe_mem

/-! ## What writes bytes -/

theorem stageAt_form (o : Nat) (b : List Byte) (h : MemoryForm u) : MemoryForm (u.stageAt o b) := wf_wrBytes b _ _ h

/-- An operation behind check 14 keeps the form where it does so itself. -/
theorem check14_form {x : ReplyTo} {range busy conflict : Bool} {op : State → State} (h : MemoryForm u) (hop : ∀ v, MemoryForm v → MemoryForm (op v)) :
    MemoryForm (u.check14 x range busy conflict op) := by
  unfold check14
  split
  · exact hop u h
  · (repeat' split) <;> [exact memoryForm_of_within h (by simp); exact memoryForm_of_within h (by simp); exact memoryForm_of_within h (by simp);
      exact memoryForm_of_within (hop u h) (by simp)]

theorem check14Later_form {x : ReplyTo} {range busy conflict : Bool} {op : State → State} (h : MemoryForm u) (hop : ∀ v, MemoryForm v → MemoryForm (op v)) :
    MemoryForm (u.check14Later x range busy conflict op) := by
  unfold check14Later
  split
  · exact hop u h
  · (repeat' split) <;> [exact memoryForm_of_within h (by simp); exact memoryForm_of_within h (by simp); exact memoryForm_of_within h (by simp); exact hop u h]

/-- A signed command keeps the form where its operation does. -/
theorem onSigned_form {i : Nat} {op : State → Fwd → State} (h : MemoryForm u) (hop : ∀ v f, MemoryForm v → MemoryForm (op v f)) :
    MemoryForm (u.onSigned i op) := by
  unfold onSigned
  split
  · exact h
  · exact hop _ _ (memoryForm_of_within h ((takeSigned_within ‹_›).mono (by simp)))

theorem lifecycle_form (secret : BitVec 4096) (f : Fwd) (h : MemoryForm u) : MemoryForm (u.lifecycle secret f) := by
  unfold lifecycle
  exact check14Later_form h fun _ hv => memoryForm_ite (memoryForm_of_nil (beginLife_mem _ _ _)) hv

theorem opImageStage_form (x : ReplyTo) (h : MemoryForm u) : MemoryForm (u.opImageStage x) := by
  unfold opImageStage
  refine check14_form h fun _ hv => ?_
  exact memoryForm_of_within (stageAt_form x.req.offset x.req.bytes hv) (by simp)

/-- A debugger's write leaves the memory or writes its word. -/
theorem opDbgWrite_form (a : Nat) (v : Word) (h : MemoryForm u) : MemoryForm (u.opDbgWrite a v) := by
  unfold opDbgWrite
  dsimp only
  split
  · exact memoryForm_of_within h (by simp)
  split
  · exact memoryForm_of_within h (by simp)
  split
  · exact memoryForm_of_within h (by simp)
  split
  · exact memoryForm_of_within h (by simp)
  split
  · exact memoryForm_of_within h (by simp)
  · exact memoryForm_of_within h (by simp)
  · split
    · exact memoryForm_of_within h (by simp)
    · have hwritten : MemoryForm { (u.busWord a).2 with mem := wr32 u.mem a v } := wf_wr32 u.mem a v h
      exact memoryForm_of_within hwritten (by simp)

/-- The objects of a received frame keep the form one by one. -/
theorem rxObjects_form (objs : List Nat) (bytes : List Byte) (port : Nat) (flags : Byte) (launch : DWord) (l : List Nat) {m : List Host.Cell}
    (h : Memory.wf m = true) : Memory.wf (l.foldl (fun m k => rxObject m objs bytes port flags launch k) m) = true := by
  induction l generalizing m with
  | nil => exact h
  | cons k l ih => exact ih (wf_wrBytes _ _ _ h)

theorem deliver_form (p : Nat) (f : EthFrame) (h : MemoryForm u) : MemoryForm (u.deliver p f) := by
  unfold deliver
  dsimp only
  split
  · exact memoryForm_of_within h (by simp)
  split
  · exact memoryForm_of_within h (by simp)
  · unfold MemoryForm
    rw [mem_of_within ((produce_within _ _ (by simp)).2 (Within.refl _ _))]
    exact rxObjects_form _ _ _ _ _ _ h

theorem takeFrame'_form (p : Nat) (f : EthFrame) (h : MemoryForm u) : MemoryForm (u.takeFrame' p f) := by
  have hd := deliver_form p f h
  unfold takeFrame'
  split
  · exact hd
  · exact memoryForm_of_within h (by simp)
  · exact memoryForm_ite (memoryForm_of_within h (by simp)) (memoryForm_ite hd h)
  · exact memoryForm_ite (memoryForm_of_within h (by simp)) (memoryForm_ite hd h)
  · exact memoryForm_ite h (memoryForm_ite hd h)
  · exact memoryForm_ite hd h

theorem opFrame_form (p : Nat) (f : EthFrame) (h : MemoryForm u) : MemoryForm (u.opFrame p f) := by
  unfold opFrame
  dsimp only
  split
  · exact h
  split
  · exact memoryForm_of_within h (by simp)
  split
  · exact takeFrame'_form p f (memoryForm_of_within h (by simp))
  · split
    · exact memoryForm_of_within h (by simp)
    · exact takeFrame'_form p f (memoryForm_of_within h (by simp))

/-! ## Life-cycle changes, power-on reset and boot -/

theorem opLifecycle_form (secret : BitVec 4096) (h : MemoryForm u) : MemoryForm (u.opLifecycle secret) :=
  onSigned_form h fun v f hv => lifecycle_form secret f hv

theorem opWipeFailed_form (h : MemoryForm u) : MemoryForm u.opWipeFailed := by
  unfold opWipeFailed; exact memoryForm_ite (memoryForm_of_nil wipe_mem) h

theorem opWiped_form (h : MemoryForm u) : MemoryForm u.opWiped := by
  unfold opWiped
  split
  · exact h
  · exact memoryForm_ite h (memoryForm_of_nil (mem_of_within ((assertReset_within _ (by simp)).2 (Within.refl _ _))))

theorem powerUp_form (p : PowerUp) : MemoryForm (u.powerUp p) := by
  unfold powerUp
  dsimp only
  refine memoryForm_ite (memoryForm_of_nil startWipe_mem) (memoryForm_of_within (s := u.kept p) (memoryForm_of_nil rfl) (by simp))

theorem opPowerOn_form (p : PowerUp) (h : MemoryForm u) : MemoryForm (u.opPowerOn p) := memoryForm_ite (powerUp_form p) h

theorem opMeasured_form (m : BootMeasure) (h : MemoryForm u) : MemoryForm (u.opMeasured m) := by
  refine memoryForm_of_within h ?_
  unfold opMeasured
  simp

/-! ## Writes of objects -/

theorem writeLow_form (i sub : Nat) (x : ReplyTo) (h : MemoryForm u) : MemoryForm (writeLow i sub u x) := by
  unfold writeLow
  split
  case h_14 => exact opImageStage_form x h
  case h_21 => exact memoryForm_of_within h (by split <;> simp)
  all_goals exact memoryForm_of_within h (by simp)

theorem writeOp_form (i sub : Nat) (x : ReplyTo) (h : MemoryForm u) : MemoryForm (writeOp i sub u x) := by
  unfold writeOp
  split
  · exact writeLow_form i sub x h
  · exact memoryForm_of_within h (by (repeat' split) <;> simp)

theorem opWrite_form (r : Req) (op : Nat) (h : MemoryForm u) : MemoryForm (u.opWrite r op) := by
  unfold opWrite
  split
  · exact h
  · exact memoryForm_of_within h ((judge_over_within ‹_›).mono (by simp))
  · have hp := memoryForm_of_within h ((judge_passed_within ‹_›).mono (by simp))
    exact memoryForm_ite (writeOp_form _ _ _ hp) (memoryForm_of_within hp (by simp))

theorem opComplete_form (h : MemoryForm u) : MemoryForm u.opComplete := by
  unfold opComplete carryOut
  split
  · exact h
  · exact memoryForm_ite (memoryForm_ite (memoryForm_of_within h (by simp)) (writeOp_form _ _ _ h)) h

theorem signedOp_form (i : Nat) (f : Fwd) (h : MemoryForm u) : MemoryForm (signedOp i u f) := by
  unfold signedOp
  split
  case h_1 => exact lifecycle_form _ f h
  all_goals exact memoryForm_of_within h (by simp)

theorem homePlain_form (i sub : Nat) (o : Obj) (v : Nat) (h : MemoryForm u) : MemoryForm (u.homePlain i sub o v) :=
  memoryForm_ite (writeOp_form _ _ _ h) h

theorem homeObject_form (m a i sub : Nat) (v : Word) (h : MemoryForm u) : MemoryForm (u.homeObject m a i sub v) := by
  unfold homeObject
  split
  · refine memoryForm_ite h (memoryForm_ite ?_ (memoryForm_ite ?_ (memoryForm_ite ?_ (memoryForm_ite ?_ (memoryForm_ite ?_ (memoryForm_ite ?_
      (memoryForm_ite ?_ (homePlain_form _ _ _ _ h))))))))
    case refine_6 => exact signedOp_form _ _ h
    all_goals exact memoryForm_of_within h (by simp)
  · split
    · exact memoryForm_ite (homePlain_form _ _ _ _ h) h
    · exact h

theorem opHomeWrite_form (m a : Nat) (v : Word) (h : MemoryForm u) : MemoryForm (u.opHomeWrite m a v) := by
  unfold opHomeWrite
  exact memoryForm_ite h (memoryForm_ite (memoryForm_of_within h (by simp)) (memoryForm_ite (homeObject_form _ _ _ _ _ h) h))

theorem completed_form {r : Req} {op : Nat} {complete : State → ReplyTo → State} (h : MemoryForm u) (hc : ∀ v x, MemoryForm v → MemoryForm (complete v x)) :
    MemoryForm (u.completed r op complete) := by
  unfold completed
  split
  · exact h
  · exact memoryForm_of_within h ((judge_over_within ‹_›).mono (by simp))
  · exact hc _ _ (memoryForm_of_within h ((judge_passed_within ‹_›).mono (by simp)))

theorem forwarded_form {r : Req} {op : Nat} {complete : State → ReplyTo → State} (h : MemoryForm u) (hc : ∀ v x, MemoryForm v → MemoryForm (complete v x)) :
    MemoryForm (u.forwarded r op complete) := by
  unfold forwarded
  split
  · exact h
  · exact memoryForm_of_within h ((judge_over_within ‹_›).mono (by simp))
  · have hp := memoryForm_of_within h ((judge_passed_within ‹_›).mono (by simp))
    refine memoryForm_ite (hc _ _ (memoryForm_of_within hp (by simp))) (memoryForm_of_within hp (by simp))

theorem opObject_form (w : ObjWrite) (h : MemoryForm u) : MemoryForm (u.opObject w) := by
  unfold opObject
  split
  · exact memoryForm_ite (completed_form h fun _ _ => writeOp_form _ _ _) (forwarded_form h fun _ _ => writeOp_form _ _ _)
  · exact opHomeWrite_form _ _ _ h

end State

/-- The commands that may reach the byte memory. -/
inductive ReachesMemory : Instr → Prop where
  | imageStage (r : Req) : ReachesMemory (.imageStage r)
  | wipeVerifyFailed : ReachesMemory .wipeVerifyFailed
  | dbgAccessWrite (a : BitVec 36) (v : Word) : ReachesMemory (.dbgAccessWrite a v)
  | ethFrameReceived (p : Nat) (f : EthFrame) : ReachesMemory (.ethFrameReceived p f)
  | lifecycleRequest (secret : BitVec 4096) : ReachesMemory (.lifecycleRequest secret)
  | write (r : Req) : ReachesMemory (.write r)
  | windowWrite (r : Req) : ReachesMemory (.windowWrite r)
  | forwardedRequestComplete : ReachesMemory .forwardedRequestComplete
  | objectWrite (w : ObjWrite) : ReachesMemory (.objectWrite w)
  | powerOnResetRelease (p : PowerUp) : ReachesMemory (.powerOnResetRelease p)
  | bootMeasurementComplete (m : BootMeasure) : ReachesMemory (.bootMeasurementComplete m)
  | wipeComplete : ReachesMemory .wipeComplete

theorem reachesMemory_of_touched {c : Instr} : .mem ∈ touched c → ReachesMemory c := by
  delta touched
  split <;> simp [reaction]
  all_goals constructor

/-- Every command keeps the form of the memory. -/
theorem exec_memoryForm {c : Instr} {s t : State} (hs : MemoryForm s) (h : exec c s = .next t) : MemoryForm t := by
  by_cases hc : .mem ∈ touched c
  · cases reachesMemory_of_touched hc <;> cases h
    · exact memoryForm_ite (State.forwarded_form hs fun _ => State.opImageStage_form) hs
    · exact State.opWipeFailed_form hs
    · exact State.opDbgWrite_form _ _ hs
    · exact State.opFrame_form _ _ hs
    · exact State.opLifecycle_form _ hs
    · exact State.opWrite_form _ _ hs
    · exact State.opWrite_form _ _ hs
    · exact State.opComplete_form hs
    · exact State.opObject_form _ hs
    · exact State.opPowerOn_form _ hs
    · exact State.opMeasured_form _ hs
    · exact State.opWiped_form hs
  · exact memoryForm_of_mem hs (exec_changesOnly_touched c s t h .mem hc)

/-- Settles O50: a command keeps the form, and the tick leaves the memory. -/
theorem everyStepKeepsTheMemoryForm : Obligations.EveryStepKeepsTheMemoryForm := by
  intro s t hs hstep
  match hp : s.pending with
  | [] =>
    rw [step_of_empty hp] at hstep
    cases hstep
    exact memoryForm_of_mem hs (s.tick_keeps .mem (by decide))
  | c :: rest =>
    rw [step_of_pending hp] at hstep
    exact exec_memoryForm (s := { s with pending := rest }) hs hstep

end Sys2Proof.Machine
end

section
/-! PROOF. What a granted or refused request leaves: its reply, the queue and the checks (chapter 3). -/
namespace Sys2Proof.Machine

/-! ## Commands and frames -/

/-- A command keeps what a longer list than its own leaves out. -/
theorem exec_keeps {c : Instr} {s t : State} {l : List Part} (h : exec c s = .next t) (hl : touched c ⊆ l) : Keeps l s t :=
  fun _ hp => exec_changesOnly_touched c s t h _ fun hc => hp (hl hc)

/-- A change within the facets of a list's parts keeps every other part. -/
theorem keeps_of_within {l : List Part} {s t : State} (h : Within (l.map Part.facet) s t) : Keeps l s t := by
  intro p hp
  refine Part.same_of_facet (h _ fun hm => ?_)
  obtain ⟨q, hq, hqp⟩ := List.mem_map.mp hm
  have hinj : q = p := by cases p <;> cases q <;> simp [Part.facet] at hqp <;> rfl
  exact hp (hinj ▸ hq)

namespace State
variable {s t u : State} {r : Req} {x : ReplyTo} {op : Nat}

/-! ## Replies -/

@[simp] theorem answer_xan_queue (status : Nat) (data : List Byte) (sub : Byte) : (u.answer x status data sub).xan.queue = u.xan.queue := by
  unfold answer send; dsimp only; (repeat' split) <;> simp
@[simp] theorem answer_xan_udpPort (status : Nat) (data : List Byte) (sub : Byte) : (u.answer x status data sub).xan.udpPort = u.xan.udpPort := by
  unfold answer send; dsimp only; (repeat' split) <;> simp
@[simp] theorem send_xan_queue (y : Reply) : (u.send y).xan.queue = u.xan.queue := by
  unfold send; (repeat' split) <;> rfl
@[simp] theorem send_xan_udpPort (y : Reply) : (u.send y).xan.udpPort = u.xan.udpPort := by
  unfold send; (repeat' split) <;> rfl

theorem send_out_of_port (y : Reply) (hp : y.port ≠ 0) : (u.send y).xan.out =
    { y with fromPort := if 6 ≤ y.port then 0 else u.xan.udpPort, onPair := u.prpMember (y.port - 1) } :: u.xan.out := by
  unfold send; rw [if_neg hp]; split <;> rfl

/-- The reply that a status sends (Table 3.4). -/
def replyOut (u : State) (x : ReplyTo) (status : Nat) (data : List Byte) : Reply :=
  { x.frame false status x.req.sub data with fromPort := if 6 ≤ x.req.port then 0 else u.xan.udpPort, onPair := u.prpMember (x.req.port - 1) }

theorem send_frame_out {status : Nat} {data : List Byte} (hp : x.req.port ≠ 0) :
    (u.send (x.frame false status x.req.sub data)).xan.out = u.replyOut x status data :: u.xan.out := by
  rw [send_out_of_port _ hp]; rfl

theorem replyOut_congr {v : State} (hudp : v.xan.udpPort = u.xan.udpPort) (heth : v.eth = u.eth) : v.replyOut = u.replyOut := by
  funext y status data
  simp only [replyOut, prpMember, hudp, heth]

/-- Every answer leaves as one reply: data only with status 0, the mode with STATE_CONFLICT (R76, R79). -/
theorem answer_out (status : Nat) (data : List Byte) (hp : x.req.port ≠ 0) : (u.answer x status data).xan.out =
    u.replyOut x status (if status = 0 then data else if status = 9 then be 4 u.deviceMode.toNat ++ be 1 u.mode.life.code else []) :: u.xan.out := by
  have hclose : ∀ v : State, (if x.auth.elim false (·.last) then v.endSession x.session else v).xan.out = v.xan.out := by
    intro v; split <;> simp
  unfold answer
  rw [hclose]
  by_cases hbusy : status = 0x0A
  · subst hbusy
    exact send_frame_out hp
  · by_cases hconflict : status = 9
    · subst hconflict
      refine (send_frame_out hp).trans ?_
      rw [replyOut_congr (u := u) (by simp) (by simp)]
      simp
    · simp only [hbusy, hconflict, ↓reduceIte]
      exact send_frame_out hp

/-- A reply without STATE_CONFLICT. -/
theorem answer_replied (status : Nat) (data : List Byte) (hp : x.req.port ≠ 0) (h : status ≠ 9) :
    Replied (u.answer x status data) x status (if status = 0 then data else []) := by
  simp only [Replied, Sent, answer_out _ _ hp, List.head?_cons, Option.map_some, h, ↓reduceIte]
  rfl

/-- STATE_CONFLICT carries the mode. -/
theorem answer_replied_conflict (hp : x.req.port ≠ 0) :
    Replied (u.answer x 9) x 9 (be 4 u.deviceMode.toNat ++ be 1 u.mode.life.code) := by
  simp only [Replied, Sent, answer_out _ _ hp, List.head?_cons, Option.map_some]
  rfl
/-- A field of the sessions that the end of a session leaves is as before an answer. -/
theorem answer_sess_field {α : Type} (p : SessSt → α) (hp : ∀ se tab g, p { se with table := tab, generation := g } = p se) (status : Nat)
    (data : List Byte) (sub : Byte) : p (u.answer x status data sub).sess = p u.sess := by
  have hend : ∀ v : State, p (if x.auth.elim false (·.last) then v.endSession x.session else v).sess = p v.sess := by
    intro v; split
    · unfold endSession; split
      · rfl
      · exact hp _ _ _
    · rfl
  unfold answer
  rw [hend]
  (repeat' split) <;> simp

/-! ## What checks 1 to 13 leave -/

/-- A request that checks 1 to 13 pass is the one judged, and has changed the session table at most (R81, R82). -/
theorem judge_passed_state (h : s.judge r op = .passed t x) :
    x.req = r ∧ x.opcode = op ∧ ∃ tab, t = { s with sess := { s.sess with table := tab } } := by
  unfold judge at h
  dsimp only at h
  (repeat' split at h) <;> cases h
  · exact ⟨rfl, rfl, s.sess.table, rfl⟩
  · exact ⟨rfl, rfl, _, rfl⟩

/-- The state on which a granted write runs: its PENDING reply has left, interrupt queue 60 has its entry (R88, R90, R181). -/
def taken (t : State) (x : ReplyTo) : State := (t.send (x.frame true 0 x.req.sub [])).produceOpen 60

@[simp] theorem taken_same (x : ReplyTo) : (u.taken x).mode = u.mode ∧ (u.taken x).time = u.time ∧ (u.taken x).sess = u.sess ∧ (u.taken x).sig = u.sig
    ∧ (u.taken x).drift = u.drift ∧ (u.taken x).firn = u.firn ∧ (u.taken x).prog = u.prog ∧ (u.taken x).pair = u.pair ∧ (u.taken x).hub = u.hub
    ∧ (u.taken x).guard = u.guard ∧ (u.taken x).capture = u.capture ∧ (u.taken x).link = u.link ∧ (u.taken x).eth = u.eth
    ∧ (u.taken x).field = u.field ∧ (u.taken x).sedge = u.sedge ∧ (u.taken x).mem = u.mem ∧ (u.taken x).pending = u.pending := by
  simp [taken]
@[simp] theorem taken_xan_queue (x : ReplyTo) : (u.taken x).xan.queue = u.xan.queue := by simp [taken]
@[simp] theorem taken_xan_udpPort (x : ReplyTo) : (u.taken x).xan.udpPort = u.xan.udpPort := by simp [taken]

theorem forwarded_taken (h : Granted s r op t x) (hw : writes op = true) (f : State → ReplyTo → State) : s.forwarded r op f = f (t.taken x) x := by
  rw [forwarded_granted h, if_pos hw]; rfl

theorem recoveryBarred_congr {v : State} (h : v.sedge = u.sedge) : v.recoveryBarred x = u.recoveryBarred x := by
  simp only [recoveryBarred, h]

theorem Granted_port (h : Granted s r op t x) : x.req.port ≠ 0 := (judge_passed_state h.passed).1 ▸ h.port

section
variable {range busy conflict : Bool} {f : State → State}

/-- Check 14 of a granted write that nothing refuses. -/
theorem check14_granted (h : Granted s r op t x) (hr : range = false) (hb : busy = false) (hc : conflict = false) :
    (t.taken x).check14 x range busy conflict f = (f (t.taken x)).answer x 0 := by
  subst hr hb hc
  exact check14_accepts _ _ _ (Granted_port h) h.session ((recoveryBarred_congr (by simp)).trans h.mode)

theorem check14Later_granted (h : Granted s r op t x) (hr : range = false) (hb : busy = false) (hc : conflict = false) :
    (t.taken x).check14Later x range busy conflict f = f (t.taken x) := by
  subst hr hb hc
  simp [check14Later, Granted_port h, h.session, (recoveryBarred_congr (by simp) : (t.taken x).recoveryBarred x = _).trans h.mode]

theorem check14_range (hp : x.req.port ≠ 0) (hr : range = true) : u.check14 x range busy conflict f = u.answer x 6 := by
  subst hr; exact (check14_refuses u x busy conflict f hp).1
theorem check14_busy (hp : x.req.port ≠ 0) (hr : range = false) (hb : busy = true) : u.check14 x range busy conflict f = u.answer x 0x0A := by
  subst hr hb; exact (check14_refuses u x false conflict f hp).2.1
theorem check14_conflict (hp : x.req.port ≠ 0) (hr : range = false) (hb : busy = false) (hc : conflict = true) :
    u.check14 x range busy conflict f = u.answer x 9 := by
  subst hr hb hc; exact (check14_refuses u x false false f hp).2.2
theorem check14Later_range (hp : x.req.port ≠ 0) (hr : range = true) : u.check14Later x range busy conflict f = u.answer x 6 := by
  simp [check14Later, hp, hr]
theorem check14Later_busy (hp : x.req.port ≠ 0) (hr : range = false) (hb : busy = true) : u.check14Later x range busy conflict f = u.answer x 0x0A := by
  simp [check14Later, hp, hr, hb]
theorem check14Later_conflict (hp : x.req.port ≠ 0) (hr : range = false) (hb : busy = false) (hc : conflict = true) :
    u.check14Later x range busy conflict f = u.answer x 9 := by
  simp [check14Later, hp, hr, hb, hc]
end

end State

end Sys2Proof.Machine
end

section
/-! PROOF. Objects are read at once and plain objects stored. -/
namespace Sys2Proof.Machine

namespace State
variable {s t u : State} {r : Req} {x : ReplyTo} {op : Nat}

/-! ## Reads -/

theorem completed_passed (h : s.judge r op = .passed t x) (f : State → ReplyTo → State) : s.completed r op f = f t x := by simp [completed, h]

/-- SIGNAL_IMAGE is one window of 65,536 entries of 32 bytes (Table 3.6). -/
theorem window_signalImage (ses : Word) (sub : Nat) : window u ses 0x6400 sub 0 = some (entryWindow 0 65536 32 (sigBytes u)) := by
  simp [window]

theorem opWindowRead_signalImage (hi : x.req.index = 0x6400) (hsel : x.req.select = 0) (hoff : x.req.offset ≤ 2097152)
    (hlen : x.req.len ≤ if x.req.overCan then 16 else 1024) :
    u.opWindowRead x = u.answer x 0 (be 4 2097152 ++ be 4 0 ++ (entryWindow 0 65536 32 (sigBytes u)).piece x.req.offset x.req.len) := by
  have hrange : u.windowRange x = false := by
    simp only [windowRange, hi, hsel, show (0x6400 : Half).toNat = 0x6400 from rfl, window_signalImage]
    simp [entryWindow, Nat.not_lt.mpr hoff, hlen]
  have hcursor : u.obtainCursor x = u := by simp [obtainCursor, hi]
  simp only [opWindowRead, hrange, cursorBusy, hi, hcursor, hsel, show (0x6400 : Half).toNat = 0x6400 from rfl, window_signalImage]
  rfl

/-! ## Writes -/

theorem opLeafTimeout_granted (h : Granted s r op t x) (hlo : 10 ≤ x.req.value) (hhi : x.req.value ≤ 500) :
    (t.taken x).opLeafTimeout x = ({ t.taken x with hub.leafTimeout := BitVec.ofNat 16 x.req.value } : State).answer x 0 :=
  check14_granted h (by simp [hlo, hhi]) rfl rfl

theorem opLeafTimeout_range (h : Granted s r op t x) (hv : x.req.value < 10 ∨ 500 < x.req.value) :
    (t.taken x).opLeafTimeout x = (t.taken x).answer x 6 :=
  check14_range (Granted_port h) (by simpa using hv)

/-! ## Home addresses -/

/-- A home address lies in the dictionary's range and names its index and subindex (R64). -/
theorem opHomeWrite_homeAddress {m i sub : Nat} {v : Word} (hm : homeMaster m = true) (hi : i < 0x10000) (hs : sub < 256) :
    u.opHomeWrite m (homeAddress i sub) v = u.homeObject m (homeAddress i sub) i sub v := by
  have hindex : (homeAddress i sub - 0x50000000) / 0x400 = i := by unfold homeAddress; omega
  have hsub : (homeAddress i sub - 0x50000000) % 0x400 / 4 = sub := by unfold homeAddress; omega
  have hin : 0x50000000 ≤ homeAddress i sub ∧ homeAddress i sub < 0x54000000 := by unfold homeAddress; omega
  have haligned : homeAddress i sub % 4 = 0 := by unfold homeAddress; omega
  have hqueue : ¬ (0x48000000 ≤ homeAddress i sub ∧ homeAddress i sub < 0x48001000) := by omega
  rw [opHomeWrite, if_neg (by simp [hm, haligned]), if_neg hqueue, if_pos hin, hindex, hsub]

theorem opHomeWrite_of_not_master {m a : Nat} {v : Word} (hm : homeMaster m = false) : u.opHomeWrite m a v = u := by
  simp [opHomeWrite, hm]

/-- A read-only object or a string takes no home-address write (R65, R66). -/
theorem homeBarred_of_readOnly {i sub : Nat} {o : Obj} (h : o.acc = .r ∨ o.acc = .rs ∨ o.ty = .bytes) : u.homeBarred i sub o = true := by
  rcases h with h | h | h <;> simp [homeBarred, h]

theorem writeOp_leafTimeout (sub : Nat) : writeOp (0x7004 : Half).toNat sub = opLeafTimeout := rfl

/-- The home address of LEAF_TIMEOUT takes what is written, uncut by check 14 (R68). -/
theorem homeObject_leafTimeout (m : Nat) (v : Word) :
    u.homeObject m (homeAddress 0x7004 0) 0x7004 0 v = { u with hub.leafTimeout := BitVec.ofNat 16 v.toNat } := by
  have hlookup : lookup u 0x7004 0 = .found (rw .u16 3) := rfl
  have hbarred : u.homeBarred 0x7004 0 (rw .u16 3) = false := by simp [homeBarred, rw, moHeld, isMo]
  have hcode : homeCode 0x7004 0 (homeValue .u16 v) = true := rfl
  have hvalue : BitVec.ofNat 16 (homeReq 0x7004 0 (be 2 (homeValue .u16 v))).value = BitVec.ofNat 16 v.toNat := by
    rw [show (homeReq 0x7004 0 (be 2 (homeValue .u16 v))).value = fromBe (be 2 (v.toNat % 65536)) from rfl, fromBe_be]
    apply BitVec.eq_of_toNat_eq
    simp
  have hplain : u.homePlain 0x7004 0 (rw .u16 3) (homeValue .u16 v)
      = opLeafTimeout u ⟨homeReq 0x7004 0 (be 2 (homeValue .u16 v)), 2, none⟩ := by rw [homePlain, if_pos hcode]; rfl
  simp only [homeObject, hlookup, hbarred, Bool.false_eq_true, ↓reduceIte]
  refine hplain.trans ?_
  rw [opLeafTimeout, check14_home _ _ _ _ _ _ rfl, hvalue]

theorem opHomeWrite_queueReg {m a : Nat} {v : Word} (hm : homeMaster m = true) (h4 : a % 4 = 0) (hin : 0x48000000 ≤ a ∧ a < 0x48001000) :
    u.opHomeWrite m a v = u.writeQueueReg a v := by
  unfold opHomeWrite
  rw [if_neg (by simp [hm, h4])]
  rw [if_pos hin]

theorem writeQueueReg_of_route {a n : Nat} {v : Word} (hn : (a - 0x48000000) / 16 = n) (hr : (a - 0x48000000) % 16 = 0) :
    u.writeQueueReg a v = State.moveQueues { u with disp.queues := put u.disp.queues n { get ({} : IntQ) u.disp.queues n with route := v &&& 0x8FFFFF77 } } u := by
  unfold writeQueueReg
  rw [hr, hn]
  rfl

theorem writeQueueReg_route {a q : Nat} {v : Word} (ha : a - 0x48000000 = 16 * q) :
    get ({} : IntQ) (u.writeQueueReg a v).disp.queues q = { get ({} : IntQ) u.disp.queues q with route := v &&& 0x8FFFFF77 } := by
  rw [writeQueueReg_of_route (n := q) (by omega) (by omega)]
  simp

end State

/-- Settles O1, clause by clause: each granted command runs its operation on the judged state. -/
theorem objectsAreReadAndStored : Obligations.ObjectsAreReadAndStored := by
  unfold Obligations.ObjectsAreReadAndStored
  refine ⟨?_, ?_, ?_, ?_, ?_, ?_, ?_, ?_, ?_, ?_⟩
  · intro s r t x hp hj
    obtain ⟨rfl, -, tab, rfl⟩ := State.judge_passed_state hj
    refine ⟨_, rfl, ?_, ?_, exec_keeps (c := .read x.req) rfl (List.Subset.refl _)⟩
    · rw [State.completed_passed hj]
      exact State.answer_replied 0 _ hp (by decide)
    · simp [State.completed_passed hj, State.opRead]
  · intro s r t x hp hj hr
    obtain ⟨rfl, -, tab, rfl⟩ := State.judge_passed_state hj
    refine ⟨_, rfl, ?_, ?_, exec_keeps (c := .readRange x.req) rfl (List.Subset.refl _)⟩
    · simp only [State.completed_passed hj, State.opReadRange, hr]
      exact State.answer_replied 0 _ hp (by decide)
    · simp [State.completed_passed hj, State.opReadRange, hr]
  · intro s r t x hp hj hr
    obtain ⟨rfl, -, tab, rfl⟩ := State.judge_passed_state hj
    refine ⟨_, rfl, ?_, exec_keeps (c := .readRange x.req) rfl (List.Subset.refl _)⟩
    simp only [State.completed_passed hj, State.opReadRange, hr]
    exact State.answer_replied 6 _ hp (by decide)
  · intro s r t x hp hj hi hsel hoff hlen
    obtain ⟨rfl, -, tab, rfl⟩ := State.judge_passed_state hj
    refine ⟨_, rfl, ?_, ?_⟩
    · simp only [State.opWindowed, hj, hi, ↓reduceIte, State.opWindowRead_signalImage hi hsel hoff hlen]
      exact State.answer_replied 0 _ hp (by decide)
    · simp only [State.opWindowed, hj, hi, ↓reduceIte, State.opWindowRead_signalImage hi hsel hoff hlen]
      exact keeps_of_within (by simp [Part.facet])
  · intro s r t x h hown
    refine ⟨_, rfl, ?_⟩
    simp only [State.opObject, hown, Bool.false_eq_true, ↓reduceIte]
    exact State.forwarded_taken h rfl _
  · intro s r t x h hi hsub hlo hhi
    obtain ⟨rfl, -, tab, rfl⟩ := State.judge_passed_state h.passed
    refine ⟨_, rfl, ?_⟩
    simp only [State.opObject, hi, show State.ownWrite (0x7004 : Half).toNat = false from rfl, Bool.false_eq_true, ↓reduceIte,
      State.forwarded_taken h rfl, State.writeOp_leafTimeout, State.opLeafTimeout_granted h hlo hhi]
    exact ⟨by simp, State.answer_replied 0 _ h.port (by decide)⟩
  · intro s r t x h hi hsub hv
    obtain ⟨rfl, -, tab, rfl⟩ := State.judge_passed_state h.passed
    refine ⟨_, rfl, ?_⟩
    simp only [State.opObject, hi, show State.ownWrite (0x7004 : Half).toNat = false from rfl, Bool.false_eq_true, ↓reduceIte,
      State.forwarded_taken h rfl, State.writeOp_leafTimeout, State.opLeafTimeout_range h hv]
    exact ⟨by simp, State.answer_replied 6 _ h.port (by decide)⟩
  · intro s m v hm
    refine ⟨_, rfl, ?_⟩
    simp only [State.opObject, State.opHomeWrite_homeAddress hm (by decide : 0x7004 < 0x10000) (by decide : 0 < 256)]
    exact State.homeObject_leafTimeout m v
  · intro s m i sub o v hi hsub hfound hacc
    refine ⟨_, rfl, ?_⟩
    cases hm : homeMaster m with
    | false => exact State.opHomeWrite_of_not_master hm
    | true =>
      simp only [State.opObject, State.opHomeWrite_homeAddress hm hi hsub, State.homeObject, hfound, State.homeBarred_of_readOnly hacc, ↓reduceIte]
  · intro s m q v hm hq
    refine ⟨_, rfl, ?_⟩
    simp only [State.opObject]
    rw [State.opHomeWrite_queueReg hm (by omega) (by omega), State.writeQueueReg_route (Nat.add_sub_cancel_left _ _)]

end Sys2Proof.Machine
end

section
/-! PROOF. Writes and forwarded requests queue in order. -/
namespace Sys2Proof.Machine

namespace State
variable {s t u : State} {r : Req} {x : ReplyTo} {op : Nat}

/-- A reply leaves as it was built, but for the port it comes from. -/
theorem send_replied {y : Reply} (hp : y.port ≠ 0) (hbody : y.body = y) : Sent (u.send y) y := by
  rw [Sent, send_out_of_port _ hp]
  exact congrArg some hbody

theorem enqueue_full (hq : 256 ≤ u.xan.queue.length) : u.enqueue x = u.answer x 0x0A := by rw [enqueue, if_pos hq]

theorem enqueue_queue (hq : u.xan.queue.length < 256) :
    (u.enqueue x).xan.queue = u.xan.queue ++ [{ req := x.req, opcode := BitVec.ofNat 8 x.opcode, auth := x.auth }] := by
  rw [enqueue, if_neg (Nat.not_le.mpr hq)]
  simp

/-- A queued write has its PENDING reply (R88). -/
theorem enqueue_pending (hq : u.xan.queue.length < 256) (hw : writes x.opcode = true) (hp : x.req.port ≠ 0) :
    Sent (u.enqueue x) (x.frame true 0 x.req.sub []) := by
  rw [enqueue, if_neg (Nat.not_le.mpr hq), if_pos hw]
  simpa [Sent] using send_replied (u := u) (y := x.frame true 0 x.req.sub []) hp rfl

/-- A queued read has no PENDING reply (R90). -/
theorem enqueue_silent (hq : u.xan.queue.length < 256) (hw : writes x.opcode = false) : (u.enqueue x).xan.out = u.xan.out := by
  rw [enqueue, if_neg (Nat.not_le.mpr hq)]
  simp [hw]

theorem opWrite_queued (h : s.judge r op = .passed t x) (hown : ownWrite r.index.toNat = false) : s.opWrite r op = t.enqueue x := by
  simp [opWrite, h, hown]
theorem opWrite_own (h : s.judge r op = .passed t x) (hown : ownWrite r.index.toNat = true) :
    s.opWrite r op = writeOp r.index.toNat r.sub.toNat t x := by
  simp [opWrite, h, hown]
theorem opWindowed_queued (h : s.judge r 4 = .passed t x) (hi : r.index ≠ 0x6400) : s.opWindowed r = t.enqueue x := by
  rw [opWindowed, h]
  exact if_neg hi

theorem opComplete_front {f : Fwd} {rest : List Fwd} (hq : s.xan.queue = f :: rest) (hup : s.runtimeUp = true) (hop : f.opcode ≠ 0x12) :
    s.opComplete = ({ s with xan.queue := rest }).carryOut (replyOf f) := by
  rw [opComplete, hq]
  exact if_pos (Bool.and_eq_true_iff.mpr ⟨hup, decide_eq_true hop⟩)

theorem opComplete_idle (h : s.xan.queue = [] ∨ s.runtimeUp = false) : s.opComplete = s := by
  unfold opComplete
  rcases h with h | h <;> split <;> simp_all

theorem carryOut_udpPort {f : Fwd} (hop : f.opcode = 2) (hi : f.req.index = 0x1010) (hsub : f.req.sub = 1) :
    u.carryOut (replyOf f) = u.opUdpPort (replyOf f) := by
  simp only [carryOut, replyOf, hop, hi, hsub]
  rfl

end State

/-- Settles O2, clause by clause: the queue takes requests at its end and gives them from its front. -/
theorem forwardedRequestsQueueInOrder : Obligations.ForwardedRequestsQueueInOrder := by
  unfold Obligations.ForwardedRequestsQueueInOrder
  refine ⟨?_, ?_, ?_, ?_, ?_, ?_, ?_, ?_, ?_⟩
  · intro s r t x hp hj hown hq
    obtain ⟨rfl, hop, tab, rfl⟩ := State.judge_passed_state hj
    refine ⟨_, rfl, ?_⟩
    rw [State.opWrite_queued hj hown]
    refine ⟨(State.enqueue_queue hq).trans ?_, State.enqueue_pending hq (by rw [hop]; rfl) hp⟩
    rw [hop]; rfl
  · intro s r t x hp hj hown hq
    obtain ⟨rfl, -, tab, rfl⟩ := State.judge_passed_state hj
    refine ⟨_, rfl, ?_⟩
    rw [State.opWrite_queued hj hown, State.enqueue_full hq]
    exact ⟨by simp, State.answer_replied 0x0A [] hp (by decide)⟩
  · intro s r t x hp hj hown
    exact ⟨_, rfl, State.opWrite_own hj hown⟩
  · intro s r t x hp hj hown hq
    obtain ⟨rfl, hop, tab, rfl⟩ := State.judge_passed_state hj
    refine ⟨_, rfl, ?_⟩
    rw [State.opWrite_queued hj hown]
    refine ⟨(State.enqueue_queue hq).trans ?_, State.enqueue_pending hq (by rw [hop]; rfl) hp⟩
    rw [hop]; rfl
  · intro s r t x hp hj hi hq
    obtain ⟨rfl, hop, tab, rfl⟩ := State.judge_passed_state hj
    refine ⟨_, rfl, ?_⟩
    rw [State.opWindowed_queued hj hi]
    refine ⟨(State.enqueue_queue hq).trans ?_, State.enqueue_silent hq (by rw [hop]; rfl)⟩
    rw [hop]; rfl
  · intro s f rest hq hup hop
    exact ⟨_, rfl, State.opComplete_front hq hup hop⟩
  · intro s f rest hq hup hop hi hsub hp hv hblank hrec
    refine ⟨_, rfl, ?_⟩
    have hvalue : (State.replyOf f).req.value = f.req.value := rfl
    have hport : (State.replyOf f).req.port ≠ 0 := hp
    rw [State.opComplete_front hq hup (by rw [hop]; decide), State.carryOut_udpPort hop hi hsub, State.opUdpPort]
    have hlow : ¬ f.req.value < 1024 := Nat.not_lt.mpr hv
    have hrec' : ({ s with xan.queue := rest } : State).recoveryBarred (State.replyOf f) = false := hrec
    simp only [State.check14Later, hport, hblank, hrec', hvalue, hlow]
    refine ⟨by simp, rfl, State.answer_replied 0 [] hp (by decide), fun h6 => ?_⟩
    refine (congrArg (fun l : List Reply => l.head?.map (·.fromPort)) (State.answer_out 0 [] hport)).trans ?_
    simp [State.replyOut, State.replyOf, Nat.not_le.mpr h6]
  · intro s f rest hq hup hop hi hsub hp hv
    refine ⟨_, rfl, ?_⟩
    rw [State.opComplete_front hq hup (by rw [hop]; decide), State.carryOut_udpPort hop hi hsub, State.opUdpPort,
      State.check14Later_range (x := State.replyOf f) hp (decide_eq_true (p := (State.replyOf f).req.value < 1024) hv)]
    exact ⟨by simp, by simp, State.answer_replied 6 [] hp (by decide)⟩
  · intro s h
    exact ⟨_, rfl, State.opComplete_idle h⟩

end Sys2Proof.Machine
end

section
/-! PROOF. Sessions open and end. -/
namespace Sys2Proof.Machine

namespace State
variable {s t u : State} {r : Req} {x : ReplyTo} {op : Nat} {n : Word} {y : Session}

/-! ## Rows -/

theorem rowFor_of {i k : Nat} (hi : r.index.toNat = i) (hsub : r.sub.toNat = k) : rowFor r i k = true := by
  simp [rowFor, hi, hsub]

/-- The row of an object's write that the runtime takes runs its operation on the state that has answered PENDING (R88, R90). -/
theorem row_granted {i k : Nat} {op : Nat} {f : State → ReplyTo → State} (h : Granted s r op t x) (hw : writes op = true)
    (hi : r.index.toNat = i) (hsub : r.sub.toNat = k) :
    (.next (if rowFor r i k then s.forwarded r op f else s) : Host.Outcome State Fault Refusal) = .next (f (t.taken x) x) := by
  rw [if_pos (rowFor_of hi hsub), forwarded_taken h hw]

/-- The same of a row that a value selects. -/
theorem row_granted_of {i k : Nat} {op : Nat} {c : Bool} {f : State → ReplyTo → State} (h : Granted s r op t x) (hw : writes op = true)
    (hi : r.index.toNat = i) (hsub : r.sub.toNat = k) (hc : c = true) :
    (.next (if rowFor r i k && c then s.forwarded r op f else s) : Host.Outcome State Fault Refusal) = .next (f (t.taken x) x) := by
  rw [rowFor_of hi hsub, hc, forwarded_taken h hw]
  rfl

/-! ## The session table -/

theorem endSession_open (h : s.sessionOf n = some y) : (s.endSession n).sess.table = s.sess.table.filter (fun z => z.number ≠ n)
    ∧ (s.endSession n).moraine.cursors = s.moraine.cursors.filter (fun c => c.1 ≠ n)
    ∧ (s.endSession n).capture.cursors = s.capture.cursors.filter (fun c => c.1 ≠ n) := by
  simp [endSession, h]

/-- The end of a session takes its number out of the table, and nothing else. -/
theorem mem_endSession : y ∈ (s.endSession n).sess.table ↔ y ∈ s.sess.table ∧ y.number ≠ n := by
  cases h : s.sessionOf n with
  | some z => simp [endSession_open h]
  | none =>
    have hnone : ∀ z ∈ s.sess.table, z.number ≠ n := by simpa [sessionOf] using h
    simp only [endSession, h, Option.isNone_none, ↓reduceIte]
    exact ⟨fun hy => ⟨hy, hnone y hy⟩, And.left⟩

theorem mem_endSessions (ns : List Word) : y ∈ (s.endSessions ns).sess.table ↔ y ∈ s.sess.table ∧ y.number ∉ ns := by
  induction ns generalizing s with
  | nil => simp [endSessions]
  | cons k ks ih =>
    have hcons : s.endSessions (k :: ks) = (s.endSession k).endSessions ks := rfl
    rw [hcons, ih, mem_endSession, List.mem_cons, not_or, and_assoc]

theorem endSession_sess_field {α : Type} (p : SessSt → α) (hp : ∀ se tab g, p { se with table := tab, generation := g } = p se) :
    p (s.endSession n).sess = p s.sess := by
  unfold endSession; split
  · rfl
  · exact hp _ _ _

theorem endSessions_sess_field {α : Type} (p : SessSt → α) (hp : ∀ se tab g, p { se with table := tab, generation := g } = p se) (ns : List Word) :
    p (s.endSessions ns).sess = p s.sess := by
  induction ns generalizing s with
  | nil => rfl
  | cons k ks ih => exact ih.trans (endSession_sess_field p hp)

/-- A request that has not used the last counter of a session leaves the sessions as they are when it is answered. -/
theorem answer_sess (status : Nat) (data : List Byte) (hx : x.auth.elim false (·.last) = false) : (u.answer x status data).sess = u.sess := by
  unfold answer
  simp only [hx, Bool.false_eq_true, ↓reduceIte]
  (repeat' split) <;> simp

/-- An answer adds no session: it may end the one whose last counter it used (R108). -/
theorem mem_table_of_answer {status : Nat} {data : List Byte} (h : y ∈ (u.answer x status data).sess.table) : y ∈ u.sess.table := by
  unfold answer at h
  dsimp only at h
  have hsent : ∀ v : State, y ∈ (if x.auth.elim false (·.last) then v.endSession x.session else v).sess.table → y ∈ v.sess.table := by
    intro v hv; split at hv
    · exact (mem_endSession.mp hv).1
    · exact hv
  have hv := hsent _ h
  split at hv
  · simpa using hv
  · split at hv <;> simpa using hv

theorem replyTo_last (r : Req) (op : Nat) : (s.replyTo r op).auth.elim false (·.last) = false := by
  cases h : (s.replyTo r op).auth with
  | none => rfl
  | some a =>
    simp only [replyTo] at h
    cases hr : r.trailer with
    | none => simp [hr] at h
    | some tr =>
      simp only [hr, Option.elim_some, Option.map_eq_some_iff] at h
      obtain ⟨_, -, rfl⟩ := h
      rfl

theorem taken_sess (x : ReplyTo) : (u.taken x).sess = u.sess := by simp
theorem taken_sessionOf (x : ReplyTo) : (u.taken x).sessionOf n = u.sessionOf n := by simp [sessionOf]

/-! ## Session frames (R112) -/

theorem sessionFrame_ok (hh : s.hears r = true) (hf : fits r = true) (hok : frameOk r = true) (hi : r.index = 0x1200) (hsub : r.sub = 0)
    (f : ReplyTo → State) : s.sessionFrame r op f = f (s.replyTo r op) := by
  have hlookup : lookup s (0x1200 : Half).toNat (0 : Byte).toNat = .found (ro .u8) := rfl
  have hsubOk : subOk s 1 r (0 : Byte).toNat = true := by simp only [subOk, hi, hlookup]; rfl
  unfold sessionFrame
  simp only [hh, hf, hok, hi, hsub, hlookup, hsubOk]
  rfl

theorem opSessionIdle_open (h : s.sessionOf n = some y) : s.opSessionIdle n
    = if decide (y.lastReq + s.idleInForce.toNat * 1000000000 ≤ s.time.mono) then s.endSession n else s := by
  unfold opSessionIdle
  rw [h, Option.elim_some]
theorem opSessionIdle_passed (h : s.sessionOf n = some y) (hl : y.lastReq + s.idleInForce.toNat * 1000000000 ≤ s.time.mono) :
    s.opSessionIdle n = s.endSession n := by
  rw [opSessionIdle_open h, decide_eq_true hl]
  rfl
theorem opSessionIdle_early (h : s.sessionOf n = some y) (hl : s.time.mono < y.lastReq + s.idleInForce.toNat * 1000000000) :
    s.opSessionIdle n = s := by
  rw [opSessionIdle_open h, decide_eq_false (Nat.not_le.mpr hl)]
  rfl

theorem opSessionValidity_passed (h : s.sessionOf n = some y) (hl : y.openedAt + y.validFor ≤ s.time.mono) :
    s.opSessionValidity n = s.endSession n := by simp [opSessionValidity, h, hl]

theorem revoke_one {tab : Tab (BitVec 256)} {k : Nat} {l : List Byte} (h : BitVec.ofNat 256 (at_ l 0 32) ≠ 0) :
    revoke tab k l 1 = put tab k (BitVec.ofNat 256 (at_ l 0 32)) := by
  rw [revoke, revoke]
  exact if_neg h

end State

/-- A big-endian number fits its bytes. -/
theorem fromBe_lt (l : List Byte) : fromBe l < 256 ^ l.length := by
  induction l with
  | nil => decide
  | cons b l ih =>
    rw [fromBe_cons, List.length_cons, Nat.pow_succ]
    have hb : b.toNat * 256 ^ l.length ≤ 255 * 256 ^ l.length := Nat.mul_le_mul_right _ (by have := b.isLt; omega)
    omega

theorem at_lt (l : List Byte) (k n : Nat) : at_ l k n < 256 ^ n :=
  (fromBe_lt _).trans_le (Nat.pow_le_pow_right (by decide) (by simp [slice]))

/-- Settles O3, clause by clause. -/
theorem sessionsOpenAndEnd : Obligations.SessionsOpenAndEnd := by
  unfold Obligations.SessionsOpenAndEnd
  refine ⟨?_, ?_, ?_, ?_, ?_, ?_, ?_, ?_, ?_, ?_, ?_, ?_⟩
  · intro s r k hh hf hok hcan hp hi hsub hfault
    refine ⟨_, rfl, ?_⟩
    rw [State.opSessionOpen, State.sessionFrame_ok hh hf hok hi hsub]
    simp [hcan, hfault]
  · intro s r k f hh hf hok hcan hp hi hsub hfault
    refine ⟨_, rfl, ?_⟩
    rw [State.opSessionOpen, State.sessionFrame_ok hh hf hok hi hsub]
    simp only [hcan, hfault, Bool.false_eq_true, ↓reduceIte, State.refuseOpen]
    refine ⟨by simp, keeps_of_within (by simp [Part.facet]), ?_⟩
    rw [State.send_out_of_port _ (by exact hp)]
    rfl
  · intro s o key n ho hn hnone hp hblank
    refine ⟨_, rfl, ?_⟩
    have hclosed : ¬ (o.blank && !s.sedge.coverOpen) = true := by
      rcases hblank with h | h <;> simp [h]
    simp only [State.opSessionOpenReply, ho, hn, hnone, hclosed, Option.isSome_none, Bool.false_eq_true, or_self, ↓reduceIte]
    rw [State.answer_sess 0 _ rfl]
    exact ⟨_, rfl, rfl, rfl, rfl, rfl, rfl, rfl, rfl, State.answer_replied (x := ⟨o.req, 0x10, none⟩) 0 _ hp (by decide)⟩
  · intro s key n ho
    exact ⟨_, rfl, by simp [State.opSessionOpenReply, ho]⟩
  · intro s r ses a hh hf hok hcan hp hi hsub hauth hc hlen
    refine ⟨_, rfl, ?_⟩
    have hnew : ¬ a.counter.toNat ≤ ses.counter.toNat := Nat.not_le.mpr hc
    rw [State.opSessionClose, State.sessionFrame_ok hh hf hok hi hsub]
    simp only [hcan, hauth, hnew, hlen, Bool.false_eq_true, ↓reduceIte, ne_eq, not_true_eq_false]
    refine ⟨fun y hy => (State.mem_endSession.mp (State.mem_table_of_answer hy)).2, ?_⟩
    rw [State.answer_out _ _ (x := s.replyTo r 0x11) hp]
    rfl
  · intro s r k hh hf hok hcan hp hi hsub hauth
    refine ⟨_, rfl, ?_⟩
    rw [State.opSessionClose, State.sessionFrame_ok hh hf hok hi hsub]
    simp only [hcan, hauth, Bool.false_eq_true, ↓reduceIte]
    refine ⟨?_, ?_⟩
    · rw [State.answer_sess 7 [] (State.replyTo_last r 0x11)]
      simp [State.tagFailure]
    · rw [State.answer_out _ _ (x := s.replyTo r 0x11) hp]
      rfl
  · intro s n y hy hl
    refine ⟨_, rfl, ?_, exec_keeps (c := .sessionIdleTimeout n) rfl (List.Subset.refl _)⟩
    rw [State.opSessionIdle_passed hy hl, (State.endSession_open hy).1]
  · intro s n y hy hl
    exact ⟨_, rfl, State.opSessionIdle_early hy hl⟩
  · intro s n y hy hl
    obtain ⟨htab, hm, hcap⟩ := State.endSession_open hy
    refine ⟨_, rfl, ?_, ?_, ?_, exec_keeps (c := .sessionValidityExpiry n) rfl (List.Subset.refl _)⟩ <;>
      rw [State.opSessionValidity_passed hy hl]
    · exact htab
    · rw [hm]; simp
    · rw [hcap]; simp
  · intro s r t x h hi hsub hopen
    obtain ⟨rfl, -, tab, rfl⟩ := State.judge_passed_state h.passed
    refine ⟨_, State.row_granted h rfl (by rw [hi]; rfl) (by rw [hsub]; rfl), ?_⟩
    rw [State.opSessionKill, State.check14_granted h _ rfl rfl]
    · exact ⟨fun y hy => (State.mem_endSession.mp (State.mem_table_of_answer hy)).2, State.answer_replied 0 [] h.port (by decide)⟩
    · rw [State.taken_sessionOf]; simpa using hopen
  · intro s r t x h hi hsub hopen
    obtain ⟨rfl, -, tab, rfl⟩ := State.judge_passed_state h.passed
    refine ⟨_, State.row_granted h rfl (by rw [hi]; rfl) (by rw [hsub]; rfl), ?_⟩
    rw [State.opSessionKill, State.check14_range h.port]
    · exact State.answer_replied 6 [] h.port (by decide)
    · rw [State.taken_sessionOf]; simpa using hopen
  · intro s r t x h hi hsub hsel hlen hoff hv hcan
    obtain ⟨rfl, -, tab, rfl⟩ := State.judge_passed_state h.passed
    refine ⟨_, State.row_granted h rfl (by rw [hi]; rfl) (by rw [hsub]; rfl), ?_⟩
    rw [State.opRevokedNonces, State.check14_granted h _ rfl rfl]
    · have hlt : at_ x.req.bytes 0 32 < 2 ^ 256 := at_lt x.req.bytes 0 32
      have hne : BitVec.ofNat 256 (at_ x.req.bytes 0 32) ≠ 0 := by
        intro h0
        have h0' := congrArg BitVec.toNat h0
        rw [BitVec.toNat_ofNat, Nat.mod_eq_of_lt hlt] at h0'
        exact hv h0'
      refine ⟨?_, ?_, ?_, State.answer_replied 0 [] h.port (by decide)⟩
      · rw [State.answer_sess_field (·.revoked) (fun _ _ _ => rfl), State.endSessions_sess_field (·.revoked) (fun _ _ _ => rfl), hlen,
          State.revoke_one hne]
        exact get_put_self _ _ _ _
      · intro y hy hnonce
        obtain ⟨hold, hnot⟩ := (State.mem_endSessions _).mp (State.mem_table_of_answer hy)
        refine hnot (List.mem_map.mpr ⟨y, List.mem_filter.mpr ⟨hold, ?_⟩, rfl⟩)
        clear hy hold hnot
        have hzero : y.nonce ≠ 0 := hnonce ▸ hne
        rw [hlen, decide_eq_true hzero, hnonce, BitVec.toNat_ofNat, Nat.mod_eq_of_lt hlt]
        simp
      · rw [State.answer_sess_field (·.revokedGen) (fun _ _ _ => rfl), State.endSessions_sess_field (·.revokedGen) (fun _ _ _ => rfl)]
        simp
    · simp [hsel, hlen, State.writeLength, hcan]; omega

end Sys2Proof.Machine
end

section
/-! PROOF. Signed commands, the key store and the quote. -/
namespace Sys2Proof.Machine

namespace State
variable {s t u : State} {r : Req} {x : ReplyTo} {op i : Nat} {f : Fwd}

/-! ## Signed commands -/

/-- A taken signed command has left the queue, and nothing else has happened (R90, R118). -/
theorem takeSigned_state (h : s.takeSigned i = some (f, t)) : ∃ rest, s.xan.queue = f :: rest ∧ t = { s with xan.queue := rest } := by
  unfold takeSigned at h
  split at h
  case h_1 g rest hq =>
    split at h
    · cases h; exact ⟨rest, hq, rfl⟩
    · cases h
  case h_2 => cases h

theorem onSigned_signed (h : Signed s i f t) (g : State → Fwd → State) : s.onSigned i g = g t f := by
  simp [onSigned, h.taken]

theorem Signed_sess (h : Signed s i f t) : t.sess = s.sess := by
  obtain ⟨rest, -, rfl⟩ := takeSigned_state h.taken; rfl
theorem Signed_mode (h : Signed s i f t) : t.mode = s.mode := by
  obtain ⟨rest, -, rfl⟩ := takeSigned_state h.taken; rfl
theorem Signed_time (h : Signed s i f t) : t.time = s.time := by
  obtain ⟨rest, -, rfl⟩ := takeSigned_state h.taken; rfl

section
variable {range busy conflict : Bool} {g : State → State}

/-- Check 14 of a signed command that nothing refuses. -/
theorem check14_signed (h : Signed s i f t) (hr : range = false) (hb : busy = false) (hc : conflict = false) :
    t.check14 (replyOf f) range busy conflict g = (g t).answer (replyOf f) 0 := by
  subst hr hb hc
  exact check14_accepts _ _ _ h.port h.session h.mode

end

theorem opSignedWrite_passed (h : s.judge r 0x12 = .passed t x) : s.opSignedWrite r = t.enqueue x := by simp [opSignedWrite, h]

/-! ## The key store -/

theorem keyArgument_op {a : List Byte} (h : u.keyArgument a op = true) : at_ a 0 1 = op := by
  simp only [keyArgument, Bool.and_eq_true, decide_eq_true_eq] at h
  exact h.1.1.2

/-- A well-formed KEYSTORE_COMMAND comes to check 14 of its operation (R122). -/
theorem opKeystore_signed {refused : State → Bool} {install : State → State} (h : Signed s 0x1130 f t) (ha : s.keyArgument f.req.arg op = true)
    (hl : s.mode.life = .provisioned ∨ s.mode.life = .inService ∨ s.mode.life = .develop) :
    s.opKeystore op refused install = t.check14 (replyOf f) (refused t) false false (fun u => (install u).reseal.emptyStage) := by
  have hop := keyArgument_op ha
  have harg : t.keyArgument f.req.arg op = true := by
    obtain ⟨rest, -, rfl⟩ := takeSigned_state h.taken; exact ha
  have hlife : (t.mode.life ≠ .provisioned && t.mode.life ≠ .inService && t.mode.life ≠ .develop) = false := by
    rw [Signed_mode h]; rcases hl with hl | hl | hl <;> simp [hl]
  rw [opKeystore, onSigned_signed h]
  simp only [hop, ne_eq, not_true_eq_false, false_and, ↓reduceIte, keystore, harg, Bool.not_true, Bool.false_or]
  rw [hlife]

@[simp] theorem replaced_sess (n k : Nat) : (u.replaced n k).sess = u.sess := by simp [replaced]
@[simp] theorem emptyStage_ks : u.emptyStage.sess.ks = u.sess.ks := by simp [emptyStage]
@[simp] theorem emptyStage_stageTotal : u.emptyStage.sess.stageTotal = 0 := by simp [emptyStage]
@[simp] theorem reseal_ks : u.reseal.sess.ks = { u.sess.ks with version := u.sess.ks.version + 1 } := rfl
@[simp] theorem replaceAuthority_ks : u.replaceAuthority.sess.ks = { u.sess.ks with authority := u.keyStage } := by simp [replaceAuthority]
@[simp] theorem replaceDeviceCert_ks (l : List Byte) : (u.replaceDeviceCert l).sess.ks = { u.sess.ks with deviceCert := l } := by
  simp [replaceDeviceCert]

theorem answer_ks (status : Nat) (data : List Byte) : (u.answer x status data).sess.ks = u.sess.ks :=
  answer_sess_field (·.ks) (fun _ _ _ => rfl) status data _

theorem opSignatureVerified_wrong {rest : List Fwd} {k : BitVec 512}
    (h : takeOut (fun g : Fwd => g.opcode = 0x12 && !g.signedOk) s.xan.queue = some (f, rest)) (hk : commandSigned f k = false) :
    s.opSignatureVerified k = ({ s with xan.queue := rest } : State).answer (replyOf f) 7 := by
  rw [opSignatureVerified, h]
  simp only [hk, Bool.false_eq_true, ↓reduceIte]

theorem trigger_neverSuppressed {code : Nat} (words : List Nat) (hc : neverSuppressed code = true) :
    ((u.trigger code words).moraine.queue.getLast?.map (·.code)) = some code := by
  simp [trigger, triggerFrom, hc]

end State

/-- Settles O4, clause by clause. -/
theorem signedCommandsKeyStoreAndQuote : Obligations.SignedCommandsKeyStoreAndQuote := by
  unfold Obligations.SignedCommandsKeyStoreAndQuote
  refine ⟨?_, ?_, ?_, ?_, ?_, ?_, ?_, ?_, ?_, ?_, ?_, ?_, ?_, ?_⟩
  · intro s r t x hp hj hq
    obtain ⟨rfl, hop, tab, rfl⟩ := State.judge_passed_state hj
    refine ⟨_, rfl, ?_⟩
    rw [State.opSignedWrite_passed hj]
    refine ⟨(State.enqueue_queue hq).trans ?_, State.enqueue_pending hq (by rw [hop]; rfl) hp⟩
    rw [hop]; rfl
  · intro s f rest k h hk hp
    refine ⟨_, rfl, ?_⟩
    rw [State.opSignatureVerified_wrong h hk]
    exact ⟨by simp, State.answer_replied (x := State.replyOf f) 7 [] hp (by decide)⟩
  · intro s f rest k h hk
    refine ⟨_, rfl, ?_⟩
    simp only [State.opSignatureVerified, h, hk, ↓reduceIte]
    exact ⟨by simp, by simp, fun _ => State.trigger_neverSuppressed _ rfl⟩
  · intro s f t h hlen hlo hhi hservice
    refine ⟨_, rfl, ?_⟩
    have hserves : t.inService = true := by
      obtain ⟨rest, -, rfl⟩ := State.takeSigned_state h.taken; exact hservice
    rw [State.opPresencePermit, State.onSigned_signed h, State.grantPresence,
      State.check14_signed h (by simp [hlen, hlo, hhi]) rfl (by simp [hserves])]
    refine ⟨?_, by simp, State.answer_replied (x := State.replyOf f) 0 [] h.port (by decide)⟩
    rw [State.answer_sess_field (·.presenceUntil) (fun _ _ _ => rfl)]
    simp only [State.Signed_time h]
  · intro s f t h hv
    refine ⟨_, rfl, ?_⟩
    rw [State.opPresencePermit, State.onSigned_signed h, State.grantPresence,
      State.check14_range (x := State.replyOf f) h.port (by simpa [or_assoc] using hv)]
    refine ⟨?_, State.answer_replied (x := State.replyOf f) 6 [] h.port (by decide)⟩
    rw [State.answer_sess_field (·.presenceUntil) (fun _ _ _ => rfl), State.Signed_sess h]
  · intro s e he hl
    refine ⟨_, rfl, ?_⟩
    simp [State.opPresenceExpiry, he, hl]
  · intro s e he hl
    refine ⟨_, rfl, ?_⟩
    simp [State.opPresenceExpiry, he, Nat.not_le.mpr hl]
  · intro s f t salt h ha hl
    refine ⟨_, rfl, ?_⟩
    have hmay : t.mayReplaceAuthority salt = s.mayReplaceAuthority salt := by
      obtain ⟨rest, -, rfl⟩ := State.takeSigned_state h.taken; rfl
    rw [State.opKeystore_signed h ha hl, hmay]
    cases hm : s.mayReplaceAuthority salt with
    | true =>
      rw [Bool.not_true, State.check14_signed h rfl rfl rfl]
      beta_reduce
      rw [State.answer_ks]
      refine ⟨?_, ?_, ?_, State.answer_replied (x := State.replyOf f) 0 [] h.port (by decide)⟩ <;>
        simp [State.keyStage, State.Signed_sess h]
    | false =>
      rw [Bool.not_false, State.check14_range (x := State.replyOf f) h.port rfl]
      beta_reduce
      rw [State.answer_ks, State.Signed_sess h]
      exact ⟨rfl, rfl, rfl, State.answer_replied (x := State.replyOf f) 6 [] h.port (by decide)⟩
  · intro s f t salt h ha hl
    refine ⟨_, rfl, ?_⟩
    have hmay : t.mayInstallCert salt = s.mayInstallCert salt := by
      obtain ⟨rest, -, rfl⟩ := State.takeSigned_state h.taken; rfl
    rw [State.opKeystore_signed h ha hl, hmay]
    cases hm : s.mayInstallCert salt with
    | true =>
      rw [Bool.not_true, State.check14_signed h rfl rfl rfl]
      beta_reduce
      rw [State.answer_ks]
      refine ⟨?_, ?_, ?_, State.answer_replied (x := State.replyOf f) 0 [] h.port (by decide)⟩ <;>
        simp [State.keyStage, State.Signed_sess h]
    | false =>
      rw [Bool.not_false, State.check14_range (x := State.replyOf f) h.port rfl]
      beta_reduce
      rw [State.answer_ks, State.Signed_sess h]
      exact ⟨rfl, rfl, rfl, State.answer_replied (x := State.replyOf f) 6 [] h.port (by decide)⟩
  · intro s f t h ha hl
    refine ⟨_, rfl, ?_⟩
    rw [State.opKeystore_signed h ha hl, State.check14_signed h rfl rfl rfl]
    beta_reduce
    rw [State.answer_ks, State.answer_sess_field (·.stageTotal) (fun _ _ _ => rfl)]
    refine ⟨?_, ?_, ?_, ?_, State.answer_replied (x := State.replyOf f) 0 [] h.port (by decide)⟩ <;>
      simp [State.Signed_sess h]
  · intro s r t x h hi hsub hfree
    refine ⟨_, State.row_granted h rfl (by rw [hi]; rfl) (by rw [hsub]; rfl), ?_⟩
    obtain ⟨rfl, -, tab, rfl⟩ := State.judge_passed_state h.passed
    rw [State.opQuoteNonce, State.check14_granted h rfl (by simpa [State.engineBusy] using hfree) rfl,
      State.answer_sess_field (·.quoteBusy) (fun _ _ _ => rfl), State.answer_sess_field (·.quoteNonce) (fun _ _ _ => rfl),
      State.answer_sess_field (·.quote) (fun _ _ _ => rfl)]
    exact ⟨rfl, rfl, rfl, State.answer_replied 0 [] h.port (by decide)⟩
  · intro s r t x h hi hsub hbusy
    refine ⟨_, State.row_granted h rfl (by rw [hi]; rfl) (by rw [hsub]; rfl), ?_⟩
    obtain ⟨rfl, -, tab, rfl⟩ := State.judge_passed_state h.passed
    rw [State.opQuoteNonce, State.check14_busy h.port rfl (by simpa [State.engineBusy] using hbusy),
      State.answer_sess_field (·.quoteNonce) (fun _ _ _ => rfl)]
    exact ⟨by simp, State.answer_replied 0x0A [] h.port (by decide)⟩
  · intro s hb
    refine ⟨_, rfl, ?_, ?_, ?_, exec_keeps (c := .quoteComplete) rfl (List.Subset.refl _)⟩ <;>
      simp [State.opQuoteComplete, hb]
  · intro s hb
    refine ⟨_, rfl, ?_⟩
    simp [State.opQuoteComplete, hb]

end Sys2Proof.Machine
end

section
/-! PROOF. The state of a granted write, and what an occurrence does to the detectors. -/
namespace Sys2Proof.Machine

namespace State
variable {s t u : State} {d e : Nat} {a : DetAttr} {info session : Word}

/-! ## The state on which a granted write runs -/

theorem granted_req {r : Req} {x : ReplyTo} {op : Nat} (h : Granted s r op t x) : x.req = r := (judge_passed_state h.passed).1

/-- But for the session's counter, a request is judged on the state that it met. -/
theorem granted_same {r : Req} {x : ReplyTo} {op : Nat} (h : Granted s r op t x) : t.mode = s.mode ∧ t.time = s.time ∧ t.xan = s.xan ∧ t.sig = s.sig
    ∧ t.disp = s.disp ∧ t.drift = s.drift ∧ t.firn = s.firn ∧ t.prog = s.prog ∧ t.pair = s.pair ∧ t.hub = s.hub ∧ t.guard = s.guard
    ∧ t.moraine = s.moraine ∧ t.capture = s.capture ∧ t.link = s.link ∧ t.eth = s.eth ∧ t.can = s.can ∧ t.field = s.field ∧ t.sedge = s.sedge
    ∧ t.mem = s.mem ∧ t.draws = s.draws ∧ t.pending = s.pending := by
  obtain ⟨-, -, tab, rfl⟩ := judge_passed_state h.passed
  simp

/-- A granted write is answered. -/
theorem granted_replied {r : Req} {x : ReplyTo} {op status : Nat} (h : Granted s r op t x) (hs : status ≠ 9) : Replied (u.answer x status) x status := by
  simpa using answer_replied (u := u) status [] (Granted_port h) hs

/-! ## What leaves every detector as it is -/

theorem hub_of_within {L : List Facet} (h : Within L s t) (hn : Facet.hub ∉ L) : t.hub = s.hub := h .hub hn

theorem det_congr (h : t.hub.dets = s.hub.dets) (e : Nat) : t.det e = s.det e := by rw [det, det, h]

theorem masked_congr (h : t.hub.shadows = s.hub.shadows) (d c : Nat) : t.masked d c = s.masked d c := by rw [masked, masked, h]

@[simp] theorem hubRecord_dets (code severity : Nat) (words : List Word) : (u.hubRecord code severity words).hub.dets = u.hub.dets := by
  unfold hubRecord; split <;> simp

@[simp] theorem safeLeft_dets (m : Mode) : (u.safeLeft m).hub.dets = u.hub.dets := by
  unfold safeLeft; split
  · simp
  · rfl

@[simp] theorem immediate_dets (m : Mode) (session : Word) : (u.immediate m session).hub.dets = u.hub.dets := by
  unfold immediate
  dsimp only
  rw [safeLeft_dets]
  simp only [Frame.modeRecord_same]
  (repeat' split) <;> simp

@[simp] theorem enterSafe_dets (d : Nat) : (u.enterSafe d).hub.dets = u.hub.dets := by
  unfold enterSafe
  simp

@[simp] theorem fence_dets (c d : Nat) (info : Word) : (u.fence c d info).hub.dets = u.hub.dets := by
  unfold fence
  simp [startShadow]

@[simp] theorem safeReaction_dets (d : Nat) (a : DetAttr) (info : Word) : (u.safeReaction d a info).hub.dets = u.hub.dets := by
  unfold safeReaction
  dsimp only
  (repeat' split) <;> simp

/-- The detector's entry after an occurrence (R347, R353, R359). -/
def occurred (s : State) (d : Nat) (a : DetAttr) (info : Word) : Det :=
  if s.masked d (detDomain d info) then
    { counted (s.det d) (!a.event) s.time.mono info with
      consequential := true
      parent := BitVec.ofNat 9 ((leastBy Shadow.start (s.hub.shadows.filter (fun h => h.coversDet d (detDomain d info)))).elim 511 (·.parent)) }
  else
    { counted (s.det d) (!a.event) s.time.mono info with
      latched := true, consequential := false, clearedSince := a.event
      firstTime := if (s.det d).latched then (s.det d).firstTime else s.time.mono
      firstInfo := if (s.det d).latched then (s.det d).firstInfo else info
      latchInfo := info }

theorem occurMasked_dets (d : Nat) (a : DetAttr) (info session : Word) (hm : u.masked d (detDomain d info) = true) :
    (u.occurMasked d a info session).hub.dets = put u.hub.dets d (u.occurred d a info) := by
  simp [occurMasked, occurred, hm]

theorem occurLatching_dets (d : Nat) (a : DetAttr) (info session : Word) (hm : u.masked d (detDomain d info) = false) :
    (u.occurLatching d a info session).hub.dets = put u.hub.dets d (u.occurred d a info) := by
  unfold occurLatching occurred
  rw [if_neg (by simp [hm])]
  simp only [apply_ite (fun v : State => v.hub.dets), safeReaction_dets, fence_dets, ite_self, Frame.hubEntry_same, hubRecord_dets]

/-- An occurrence writes its own detector's entry and no other, whatever its reaction. -/
theorem occurBy_dets (ha : detAttr d = some a) (info session : Word) :
    (u.occurBy d info session).hub.dets = put u.hub.dets d (u.occurred d a info) := by
  cases hm : u.masked d (detDomain d info) with
  | true => simpa [occurBy, ha, hm] using occurMasked_dets d a info session hm
  | false => simpa [occurBy, ha, hm] using occurLatching_dets d a info session hm

theorem occurBy_det_self (ha : detAttr d = some a) (info session : Word) : (u.occurBy d info session).det d = u.occurred d a info := by
  rw [det, occurBy_dets ha, get_put_self]

theorem occurBy_det_ne (h : e ≠ d) (info session : Word) : (u.occurBy d info session).det e = u.det e := by
  cases ha : detAttr d with
  | none => simp [occurBy, ha]
  | some a => rw [det, occurBy_dets ha, get_put_ne _ _ _ _ _ h]; rfl

theorem occurredIn_of_det (ht : t.det d = s.occurred d a info) : OccurredIn s t d a info := by
  unfold OccurredIn
  rw [ht]
  cases hm : s.masked d (detDomain d info) <;> simp [occurred, counted, hm]

/-- An occurrence is one more of its detector (R347, R357, R359). -/
theorem occurBy_occurredIn (ha : detAttr d = some a) (info session : Word) : OccurredIn u (u.occurBy d info session) d a info :=
  occurredIn_of_det (occurBy_det_self ha info session)

/-- What an occurrence is told by is what it finds of the detectors, the shadows and the time. -/
theorem occurredIn_congr {s' t' : State} (h : OccurredIn s t d a info) (hd : s'.hub.dets = s.hub.dets) (hs : s'.hub.shadows = s.hub.shadows)
    (ht : s'.time = s.time) (hu : t'.hub.dets = t.hub.dets) : OccurredIn s' t' d a info := by
  unfold OccurredIn at h ⊢
  rwa [det_congr hd, det_congr hu, masked_congr hs, ht]

/-! ## Occurrences that neither fence nor enter SAFE -/

/-- A detector below class FENCE has no reaction: its entry, its record and its queue entry are all (R346, R358). -/
theorem occurBy_mild_within (ha : detAttr d = some a) (hc : a.cls < 2) (info session : Word) :
    Within [.hub, .moraine, .disp] u (u.occurBy d info session) := by
  have h2 : a.cls ≠ 2 := by omega
  have h3 : a.cls ≠ 3 := by omega
  unfold occurBy
  simp only [ha]
  split
  · simp
  · simp [occurLatching, h2, h3]

/-- Of the Hub such an occurrence leaves all but the detectors, the count of records dropped and the hits of a restore. -/
theorem occurBy_mild_hub (ha : detAttr d = some a) (hc : a.cls < 2) (info session : Word) :
    ∃ dropped restore, (u.occurBy d info session).hub = { u.hub with dets := put u.hub.dets d (u.occurred d a info), dropped := dropped, restore := restore } := by
  have h2 : a.cls ≠ 2 := by omega
  have h3 : a.cls ≠ 3 := by omega
  have hrec : ∀ (v : State) code severity words, ∃ n, (v.hubRecord code severity words).hub = { v.hub with dropped := n } := by
    intro v code severity words
    unfold hubRecord; split
    · exact ⟨v.hub.dropped, by simp⟩
    · exact ⟨_, rfl⟩
  unfold occurBy
  simp only [ha]
  cases hm : u.masked d (detDomain d info) with
  | true =>
    obtain ⟨n, hn⟩ := hrec { u with hub.dets := put u.hub.dets d (u.occurred d a info) } 0x0B4 (a.cls + 1)
      (occurrenceWords d a.cls (detDomain d info) info (u.occurred d a info) session)
    simp only [occurred, hm, ↓reduceIte] at hn ⊢
    simp only [occurMasked, hn]
    exact ⟨_, _, rfl⟩
  | false =>
    obtain ⟨n, hn⟩ := hrec { u with hub.dets := put u.hub.dets d (u.occurred d a info) } (0x0B0 + a.cls) (a.cls + 1)
      (occurrenceWords d a.cls (detDomain d info) info (u.occurred d a info) session)
    simp only [occurred, hm, Bool.false_eq_true, ↓reduceIte] at hn ⊢
    simp only [occurLatching, h2, h3, false_and, ↓reduceIte, Frame.hubEntry_same, hn]
    exact ⟨_, _, rfl⟩

/-! ## The end of a live state -/

theorem fall_live (h : (s.det d).live = true) : s.fall d = { s with hub.dets := put s.hub.dets d { s.det d with live := false, clearedSince := (s.det d).latched } } := by
  simp [fall, h]
theorem fall_still (h : (s.det d).live = false) : s.fall d = s := by simp [fall, h]

theorem fall_det_self : ((s.fall d).det d).live = false ∧ ((s.fall d).det d).count = (s.det d).count ∧ ((s.fall d).det d).latched = (s.det d).latched := by
  cases h : (s.det d).live with
  | true => rw [fall_live h]; simp [det]
  | false => rw [fall_still h]; exact ⟨h, rfl, rfl⟩

theorem fall_det_ne (h : e ≠ d) : (s.fall d).det e = s.det e := by
  cases hl : (s.det d).live with
  | true => rw [fall_live hl, det, get_put_ne _ _ _ _ _ h]; rfl
  | false => rw [fall_still hl]

end State

end Sys2Proof.Machine
end

section
/-! PROOF. Detectors count and latch. -/
namespace Sys2Proof.Machine

namespace State
variable {s t u : State} {d e v : Nat} {a : DetAttr} {info session : Word}

theorem OccurredIn.settled (h : OccurredIn s t d a info) : OccurredIn s t.settle d a info := occurredIn_congr h rfl rfl rfl (by simp)

theorem opOccurrence_risen (ha : detAttr d = some a) (hl : a.event = true ∨ (s.det d).live = false) :
    s.opOccurrence d info = ((if d = 273 then s.damage info else if d = 290 then s.spoil info else s).occurBy d info 0).settle := by
  rcases hl with h | h <;> simp [opOccurrence, ha, h]

theorem raise_occurs (ha : detAttr (raiseDet v) = some a) (hoff : tb v 15 = false) (hl : a.event = true ∨ (u.det (raiseDet v)).live = false) :
    u.raise v session = (u.occurBy (raiseDet v) (BitVec.ofNat 32 (v / 65536)) session).settle := by
  rcases hl with h | h <;> simp [raise, ha, hoff, h]

theorem raise_falls (ha : detAttr (raiseDet v) = some a) (hoff : tb v 15 = true) (hl : a.event = false) :
    u.raise v session = (u.fall (raiseDet v)).settle := by
  simp [raise, ha, hoff, hl]

theorem raise_occurredIn (ha : detAttr (raiseDet v) = some a) (hoff : tb v 15 = false) (hl : a.event = true ∨ (u.det (raiseDet v)).live = false) :
    OccurredIn u (u.raise v session) (raiseDet v) a (BitVec.ofNat 32 (v / 65536)) := by
  rw [raise_occurs ha hoff hl]
  exact OccurredIn.settled (occurBy_occurredIn ha _ _)

theorem raise_fallen (ha : detAttr (raiseDet v) = some a) (hoff : tb v 15 = true) (hl : a.event = false) :
    ((u.raise v session).det (raiseDet v)).live = false ∧ ((u.raise v session).det (raiseDet v)).count = (u.det (raiseDet v)).count := by
  rw [raise_falls ha hoff hl, det_congr (s := u.fall (raiseDet v)) (by simp)]
  exact ⟨fall_det_self.1, fall_det_self.2.1⟩

theorem homeRaise_taken (hok : raiseOk v = true) (ha : detAttr (raiseDet v) = some a) (hlife : u.mode.life = .develop ∨ a.runtime = true) :
    u.homeRaise v = u.raise v 0 := by
  rcases hlife with h | h <;> simp [homeRaise, hok, ha, h]

theorem homeRaise_barred (ha : detAttr (raiseDet v) = some a) (hlife : u.mode.life ≠ .develop) (hr : a.runtime = false) : u.homeRaise v = u := by
  simp [homeRaise, ha, hlife, hr]

theorem opDetRaise_home {m : Nat} {w : Word} {off : Bool} (hm : homeMaster m = true) (hoff : tb w.toNat 15 = off) :
    u.opDetRaise (.home m (homeAddress 0x7006 0) w) off = u.homeRaise w.toNat := by
  simp [opDetRaise, hm, hoff]

theorem opDetRaise_granted {r : Req} {x : ReplyTo} {off : Bool} (h : Granted s r 2 t x) (hi : r.index = 0x7006) (hsub : r.sub = 0)
    (hok : raiseOk r.value = true) (hoff : tb r.value 15 = off) (hlife : s.mode.life = .develop) :
    s.opDetRaise (.xanfil r) off = ((t.taken x).raise r.value x.session).answer x 0 := by
  have hrow : rowFor r 0x7006 0 = true := rowFor_of (by rw [hi]; rfl) (by rw [hsub]; rfl)
  simp only [opDetRaise, hrow, hoff, beq_self_eq_true, Bool.and_self, ↓reduceIte]
  rw [forwarded_taken h rfl, opRaise, check14_granted h (by simp [granted_req h, hok]) rfl (by simp [granted_same h, hlife]), granted_req h]

end State

/-- Settles O8, clause by clause. -/
theorem detectorsCountAndLatch : Obligations.DetectorsCountAndLatch := by
  unfold Obligations.DetectorsCountAndLatch
  refine ⟨?_, ?_, ?_, ?_, ?_, ?_, ?_, ?_⟩
  · intro s d a info ha hl
    refine ⟨_, rfl, ?_⟩
    rw [State.opOccurrence_risen ha hl]
    refine State.OccurredIn.settled ?_
    split
    · exact State.occurredIn_congr (State.occurBy_occurredIn ha info 0) (by simp [State.damage]) (by simp [State.damage]) (by simp [State.damage]) rfl
    · split
      · exact State.occurredIn_congr (State.occurBy_occurredIn (u := s.spoil info) ha info 0) rfl rfl rfl rfl
      · exact State.occurBy_occurredIn ha info 0
  · intro s d hl
    refine ⟨_, rfl, ?_⟩
    refine ⟨State.fall_det_self.1, ?_, State.fall_det_self.2.2, State.fall_det_self.2.1, fun e he => State.fall_det_ne he,
      exec_keeps (c := .detectorLiveFall d) rfl (List.Subset.refl _)⟩
    rw [State.fall_live hl]
    simp [State.det]
  · intro s d hl
    exact ⟨_, rfl, State.fall_still hl⟩
  · intro s m v a hm hok ha hoff hl hlife
    refine ⟨_, rfl, ?_⟩
    rw [State.opDetRaise_home hm hoff, State.homeRaise_taken hok ha hlife]
    exact State.raise_occurredIn ha hoff hl
  · intro s m v a ha hlife hr
    refine ⟨_, rfl, ?_⟩
    simp only [State.opDetRaise, State.homeRaise_barred ha hlife hr, ite_self]
  · intro s r t x a h hi hsub hok ha hoff hl hlife
    refine ⟨_, rfl, ?_⟩
    rw [State.opDetRaise_granted h hi hsub hok hoff hlife]
    have hsame := State.granted_same h
    refine ⟨State.occurredIn_congr (State.raise_occurredIn (u := t.taken x) (session := x.session) ha hoff ?_) (by simp [hsame]) (by simp [hsame])
        (by simp [hsame]) (by simp),
      State.granted_replied h (by decide)⟩
    rwa [State.det_congr (s := s) (by simp [hsame])]
  · intro s m v a hm hok ha hoff hev hlife
    refine ⟨_, rfl, ?_⟩
    rw [State.opDetRaise_home hm hoff, State.homeRaise_taken hok ha hlife]
    exact State.raise_fallen ha hoff hev
  · intro s r t x a h hi hsub hok ha hoff hev hlife
    refine ⟨_, rfl, ?_⟩
    rw [State.opDetRaise_granted h hi hsub hok hoff hlife]
    obtain ⟨hlive, hcount⟩ := State.raise_fallen (u := t.taken x) (session := x.session) ha hoff hev
    rw [State.det_congr (t := t.taken x) (s := s) (by simp [State.granted_same h])] at hcount
    rw [State.det_congr (s := (t.taken x).raise r.value x.session) (by simp)]
    exact ⟨hlive, hcount, State.granted_replied h (by decide)⟩

end Sys2Proof.Machine
end

section
/-! PROOF. Power-on reset and the boot measurement. -/
namespace Sys2Proof.Machine

namespace State
variable {s t u v : State} {d : Nat} {a : DetAttr} {info session : Word}

/-! ## What keeps the boot count -/

@[simp] theorem triggerFrom_boot (code severity source unit : Nat) (words : List Word) (post : Option Nat) :
    (u.triggerFrom code severity source unit words post).moraine.boot = u.moraine.boot := by
  unfold triggerFrom; dsimp only; split <;> rfl
@[simp] theorem trigger_boot (code : Nat) (words : List Nat) (unit : Nat) : (u.trigger code words unit).moraine.boot = u.moraine.boot := by simp [trigger]
@[simp] theorem hubRecord_boot (code severity : Nat) (words : List Word) : (u.hubRecord code severity words).moraine.boot = u.moraine.boot := by
  unfold hubRecord; split <;> simp
@[simp] theorem produce_boot (q : Nat) (entry : List Word) : (u.produce q entry).moraine.boot = u.moraine.boot := by
  unfold produce; dsimp only; split <;> simp
@[simp] theorem hubEntry_boot (d cls domain : Nat) (info : Word) : (u.hubEntry d cls domain info).moraine.boot = u.moraine.boot := by simp [hubEntry]

theorem occurBy_mild_boot (ha : detAttr d = some a) (hc : a.cls < 2) : (u.occurBy d info session).moraine.boot = u.moraine.boot := by
  have h2 : a.cls ≠ 2 := by omega
  have h3 : a.cls ≠ 3 := by omega
  unfold occurBy
  simp only [ha]
  split
  · simp [occurMasked]
  · simp [occurLatching, h2, h3]

@[simp] theorem logEntry_boot (kind subject x y z : Nat) : (u.logEntry kind subject x y z).moraine.boot = u.moraine.boot := by simp [logEntry]
@[simp] theorem logEntry_floor (kind subject x y z : Nat) : (u.logEntry kind subject x y z).sedge.floor = u.sedge.floor := by simp [logEntry]

/-! ## Power-on reset (R56, R57, R578) -/

/-- What a power-on reset leaves, from its first step to its last. -/
structure PoweredUp (s u : State) : Prop where
  cold : u.mode.current = .cold
  released : u.mode.inReset = false
  booting : u.mode.booted = false
  life : u.mode.life = s.mode.life
  mem : u.mem = []
  table : u.sess.table = []
  floor : u.sedge.floor = s.sedge.floor
  port : u.xan.udpPort = s.xan.udpPort
  leaf : u.hub.leafTimeout = s.hub.leafTimeout
  boot : u.moraine.boot = s.moraine.boot + 1
  clock : u.time.monoRun = false
  pending : u.pending = s.pending

theorem PoweredUp.congr (h : PoweredUp s u) (hmode : v.mode.current = u.mode.current ∧ v.mode.inReset = u.mode.inReset ∧ v.mode.booted = u.mode.booted
    ∧ v.mode.life = u.mode.life) (hmem : v.mem = u.mem) (htable : v.sess.table = u.sess.table) (hfloor : v.sedge.floor = u.sedge.floor)
    (hport : v.xan.udpPort = u.xan.udpPort) (hleaf : v.hub.leafTimeout = u.hub.leafTimeout) (hboot : v.moraine.boot = u.moraine.boot)
    (htime : v.time = u.time) (hpending : v.pending = u.pending) : PoweredUp s v := by
  obtain ⟨hcurrent, hreset, hbooted, hlife⟩ := hmode
  constructor <;> simp [*, h.cold, h.released, h.booting, h.life, h.mem, h.table, h.floor, h.port, h.leaf, h.boot, h.clock, h.pending]

theorem PoweredUp.ite {c : Prop} [Decidable c] (h : c → PoweredUp s u) (k : ¬ c → PoweredUp s v) : PoweredUp s (if c then u else v) := by
  split
  · exact h ‹_›
  · exact k ‹_›

theorem PoweredUp.occurBy_mild (h : PoweredUp s u) (ha : detAttr d = some a) (hc : a.cls < 2) : PoweredUp s (u.occurBy d info session) := by
  have hw := occurBy_mild_within (u := u) ha hc info session
  obtain ⟨dropped, restore, hhub⟩ := occurBy_mild_hub (u := u) ha hc info session
  have hmode : (u.occurBy d info session).mode = u.mode := hw .mode (by simp)
  have hsess : (u.occurBy d info session).sess = u.sess := hw .sess (by simp)
  exact h.congr (by simp [hmode]) (by simp) (by simp [hsess]) (by simp) (congrArg (·.udpPort) (hw .xan (by simp))) (by simp [hhub])
    (occurBy_mild_boot ha hc) (by simp) (by simp)

theorem PoweredUp.occurOpen_mild (h : PoweredUp s u) (ha : detAttr d = some a) (hc : a.cls < 2) : PoweredUp s (u.occurOpen d) :=
  PoweredUp.occurBy_mild (h.congr (by simp) rfl rfl rfl rfl rfl rfl rfl rfl) ha hc

theorem PoweredUp.sedge {g : SedgeSt} (h : PoweredUp s u) (hg : g.floor = u.sedge.floor) : PoweredUp s { u with sedge := g } :=
  h.congr (by simp) rfl rfl hg rfl rfl rfl rfl rfl

theorem PoweredUp.logEntry (h : PoweredUp s u) (kind subject x y z : Nat) : PoweredUp s (u.logEntry kind subject x y z) :=
  h.congr (by simp) (by simp) (by simp) (by simp) (by simp) (by simp) (by simp) (by simp) (by simp)

theorem kept_poweredUp (p : PowerUp) : PoweredUp s (s.kept p) := by
  constructor <;> rfl

theorem PoweredUp.fallBack (h : PoweredUp s u) (reason : Nat) : PoweredUp s (u.fallBack reason) :=
  ((h.sedge (by rfl)).logEntry _ _ _ _ _).occurOpen_mild (d := 338) rfl (by decide)

theorem PoweredUp.selectSlot (h : PoweredUp s u) (okA okB : Bool) : PoweredUp s (u.selectSlot okA okB) := by
  unfold State.selectSlot
  refine .ite (fun _ => .ite (fun _ => h.sedge rfl) fun _ => ?_) fun _ => .ite (fun _ => h.sedge rfl) fun _ => .ite (fun _ => h.sedge rfl) fun _ => h.sedge rfl
  exact .ite (fun _ => h.fallBack _) fun _ => (h.fallBack _).sedge rfl

theorem PoweredUp.appendBoot (h : PoweredUp s u) (e : BootEntry) : PoweredUp s (u.appendBoot e) := .ite (fun _ => h.sedge rfl) fun _ => h.sedge rfl

theorem PoweredUp.measureFirmware (h : PoweredUp s u) (p : PowerUp) : PoweredUp s (u.measureFirmware p) :=
  .ite (fun _ => h) fun _ => (h.appendBoot _).appendBoot _

theorem PoweredUp.bootEntry (h : PoweredUp s u) : PoweredUp s u.bootEntry := h.logEntry _ _ _ _ _

theorem PoweredUp.replaced (h : PoweredUp s u) (i sub : Nat) : PoweredUp s (u.replaced i sub) := h.congr (by simp) rfl rfl rfl rfl rfl rfl rfl rfl

theorem PoweredUp.emptyStage (h : PoweredUp s u) : PoweredUp s u.emptyStage := by
  have hstage : PoweredUp s { u with sess.stage := [], sess.stageTotal := 0 } := h.congr (by simp) rfl rfl rfl rfl rfl rfl rfl rfl
  exact hstage.replaced _ _

theorem PoweredUp.zeroise (h : PoweredUp s u) : PoweredUp s u.zeroise := by
  unfold State.zeroise
  refine .ite (fun _ => PoweredUp.logEntry (.replaced (.replaced (.replaced (.emptyStage ?_) _ _) _ _) _ _) _ _ _ _ _) fun _ => h
  exact h.congr ⟨rfl, rfl, rfl, rfl⟩ rfl rfl rfl rfl rfl rfl rfl rfl

theorem PoweredUp.clearStores (h : PoweredUp s u) : PoweredUp s { u.clearStores with mode.wipeStep := 5 } :=
  h.congr ⟨rfl, rfl, rfl, rfl⟩ h.mem.symm rfl rfl rfl rfl rfl rfl rfl

theorem PoweredUp.startWipe (h : PoweredUp s u) : PoweredUp s u.startWipe := by
  unfold State.startWipe State.wipe
  simp only [List.foldl_cons, List.foldl_nil]
  exact (((h.zeroise.clearStores.logEntry _ _ _ _ _).logEntry _ _ _ _ _).logEntry _ _ _ _ _).logEntry _ _ _ _ _

theorem PoweredUp.trims (h : PoweredUp s u) (l : List Nat) : PoweredUp s (l.foldl (fun (w : State) c => w.occur 262 c) u) := by
  induction l generalizing u with
  | nil => exact h
  | cons c l ih => exact ih (h.occurBy_mild (d := 262) rfl (by decide))

theorem powerUp_poweredUp (p : PowerUp) : PoweredUp s (s.powerUp p) := by
  have h0 : PoweredUp s ((s.kept p).trigger 0x0F2 (two (s.moraine.store.head?.elim 0 (fun r => r.seq.toNat)) ++ [s.moraine.boot])) :=
    (kept_poweredUp p).congr (by simp) (by simp) (by simp) (by simp) (by simp) (by simp) (by simp) (by simp) (by simp)
  have h1 := ((h0.selectSlot p.slotAOk p.slotBOk).bootEntry).measureFirmware p
  have h2 : PoweredUp s _ := .ite (c := s.sedge.coverSaved.elim false (fun c => c ≠ p.coverOpen) = true)
    (fun _ => h1.occurOpen_mild (d := 335) rfl (by decide)) fun _ => h1
  have h3 := h2.trims ((s.field.chans.filter (fun e => p.trimBad.contains e.1)).map (·.1))
  exact .ite (fun _ => h3.startWipe) fun _ => h3

/-! ## The boot measurement (R120, R554) -/

theorem appendBoot_log (e : BootEntry) (h : u.sedge.bootLog.length < 800) : (u.appendBoot e).sedge.bootLog = u.sedge.bootLog ++ [e] := by
  rw [appendBoot, if_neg (Nat.not_le.mpr h)]

theorem appendBoot_keeps (e : BootEntry) : (u.appendBoot e).mode = u.mode ∧ (u.appendBoot e).sess = u.sess ∧ (u.appendBoot e).hub = u.hub
    ∧ (u.appendBoot e).xan = u.xan ∧ (u.appendBoot e).prog = u.prog ∧ (u.appendBoot e).drift = u.drift := by
  unfold appendBoot; split <;> simp

theorem appendMeasured_log (c r k : Nat) (g : BitVec 512) (h : u.sedge.bootLog.length < 800) :
    (u.appendMeasured c r k g).sedge.bootLog.length = u.sedge.bootLog.length + 1 := by
  rw [appendMeasured, appendBoot_log _ (by exact h), List.length_append]; rfl

theorem appendMeasured_keeps (c r k : Nat) (g : BitVec 512) : (u.appendMeasured c r k g).mode = u.mode ∧ (u.appendMeasured c r k g).sess = u.sess
    ∧ (u.appendMeasured c r k g).hub = u.hub ∧ (u.appendMeasured c r k g).xan = u.xan ∧ (u.appendMeasured c r k g).prog = u.prog
    ∧ (u.appendMeasured c r k g).drift = u.drift := by
  unfold appendMeasured
  simpa using appendBoot_keeps (u := { u with draws := u.draws + 2 }) _

theorem loadKeyStore_keeps (c1 c2 : Nat) : (u.loadKeyStore c1 c2).mode = u.mode ∧ (u.loadKeyStore c1 c2).hub = u.hub
    ∧ (u.loadKeyStore c1 c2).sedge = u.sedge ∧ (u.loadKeyStore c1 c2).sess.table = u.sess.table := by
  unfold loadKeyStore; dsimp only; (repeat' split) <;> simp

theorem stage3_facts (m : BootMeasure) : (u.stage3 m).mode = u.mode ∧ (u.stage3 m).sess = (u.loadKeyStore m.copy1 m.copy2).sess
    ∧ (u.stage3 m).hub = u.hub := by
  unfold stage3
  simp [appendMeasured_keeps, loadKeyStore_keeps]

theorem stage3_log (m : BootMeasure) (h : u.sedge.bootLog.length < 800) : (u.stage3 m).sedge.bootLog.length = u.sedge.bootLog.length + 1 := by
  unfold stage3
  rw [appendMeasured_log _ _ _ _ (by simp [loadKeyStore_keeps, h])]
  simp [loadKeyStore_keeps]

theorem rise_mild_within (ha : detAttr d = some a) (hc : a.cls < 2) (n : Nat) : Within [.hub, .moraine, .disp] u (u.rise d n) := by
  unfold rise; split
  · exact Within.refl _ _
  · exact occurBy_mild_within ha hc _ _

theorem flashResult_mild_within (ok1 ok2 : Bool) : Within [.hub, .moraine, .disp, .drift] u (u.flashResult ok1 ok2) := by
  have hrise : ∀ (v : State) (d n : Nat) (a : DetAttr), detAttr d = some a → a.cls < 2 → Within [.hub, .moraine, .disp, .drift] v (v.rise d n) :=
    fun v d n a ha hc => (rise_mild_within ha hc n).mono (by simp)
  have h0 : Within [.hub, .moraine, .disp, .drift] u { u with drift.flashFailed := u.drift.flashFailed ||| BitVec.ofNat 2 (bit (!ok1) 0 + bit (!ok2) 1) } := by simp
  unfold flashResult
  cases ok1 <;> cases ok2
  · exact (h0.trans (hrise _ 74 0 _ rfl (by decide))).trans (hrise _ 75 0 _ rfl (by decide))
  · exact h0.trans (hrise _ 74 0 _ rfl (by decide))
  · exact h0.trans (hrise _ 75 0 _ rfl (by decide))
  · exact h0

/-- Reading flash reaches neither the modes, the sessions nor Sedge. -/
theorem readFlash_mild_within (m : BootMeasure) : Within [.hub, .moraine, .disp, .drift, .prog] u (u.readFlash m) := by
  unfold readFlash
  refine Within.trans ?_ ((flashResult_mild_within _ _).mono (by simp))
  simp

end State

end Sys2Proof.Machine
end

section
/-! PROOF. The end of boot. -/
namespace Sys2Proof.Machine

/-- What every step keeps, a repetition keeps. -/
theorem foldl_keeps {α β : Type} (p : State → β) (f : State → α → State) (h : ∀ v a, p (f v a) = p v) (l : List α) (u : State) : p (l.foldl f u) = p u := by
  induction l generalizing u with
  | nil => rfl
  | cons a l ih => exact (ih _).trans (h u a)

namespace State
variable {s t u v : State} {d : Nat} {a : DetAttr} {info session : Word}

/-! ## What leaves the executing area and image alone -/

theorem drift_of_within {L : List Facet} (h : Within L s t) (hn : Facet.drift ∉ L) : t.drift = s.drift := h .drift hn
theorem prog_of_within {L : List Facet} (h : Within L s t) (hn : Facet.prog ∉ L) : t.prog = s.prog := h .prog hn
theorem mode_of_within {L : List Facet} (h : Within L s t) (hn : Facet.mode ∉ L) : t.mode = s.mode := h .mode hn

theorem withFrame_area (want : Nat) (fetch : Nat → State) (h : ∀ f, (fetch f).drift.area = u.drift.area) : (u.withFrame want fetch).drift.area = u.drift.area := by
  unfold withFrame
  dsimp only
  (repeat' split) <;> simp [h]

@[simp] theorem takeFrame_area (t p : Nat) : (u.takeFrame t p).drift.area = u.drift.area := withFrame_area _ _ fun _ => rfl

@[simp] theorem fetchPage_area (t p : Nat) : (u.fetchPage t p).drift.area = u.drift.area := by
  unfold fetchPage
  split
  · rfl
  · split
    · cases u.stealFrom t with
      | none => rfl
      | some w => exact takeFrame_area (u := u.rob w) t p
    · exact takeFrame_area t p

theorem serveOne_area (r : State × Bool) (t : Nat) : (serveOne r t).1.drift.area = r.1.drift.area := by
  unfold serveOne
  split
  · rfl
  · split
    · rfl
    · exact foldl_keeps (·.drift.area) _ (fun v p => fetchPage_area t p) _ _

@[simp] theorem serveDrift_area : u.serveDrift.drift.area = u.drift.area := by
  have hfold : ∀ (l : List Nat) (r : State × Bool), (l.foldl serveOne r).1.drift.area = r.1.drift.area := by
    intro l
    induction l with
    | nil => intro r; rfl
    | cons t l ih => intro r; exact (ih _).trans (serveOne_area r t)
  exact hfold _ (u, false)

@[simp] theorem pin_area (t : Nat) : (u.pin t).drift.area = u.drift.area := by unfold pin; split <;> rfl
@[simp] theorem unpin_area (t : Nat) : (u.unpin t).drift.area = u.drift.area := by unfold unpin; split <;> simp
@[simp] theorem requestPages_area (t : Nat) : (u.requestPages t).drift.area = u.drift.area := by unfold requestPages; split <;> simp

@[simp] theorem startPhase_area (phase : Nat) : (u.startPhase phase).drift.area = u.drift.area := by
  unfold startPhase
  dsimp only
  rw [show ∀ (w : State) (c : Nat) (l : List Nat), (w.trigger c l).drift = w.drift from fun w c l => by simp, foldl_keeps (·.drift.area) _ fun v t => unpin_area t]

@[simp] theorem endDebug_area : u.endDebug.drift.area = u.drift.area := by
  unfold endDebug
  split
  · rfl
  · dsimp only
    rw [show ∀ (w : State) (c : Nat) (l : List Nat), (w.trigger c l).drift = w.drift from fun w c l => by simp, foldl_keeps (·.drift.area) _ fun v t => pin_area t]

@[simp] theorem leaveService_area (now : Bool) : (u.leaveService now).drift.area = u.drift.area := by
  unfold leaveService
  dsimp only
  split <;> simp

@[simp] theorem safeLeft_keeps (m : Mode) : (u.safeLeft m).mode = u.mode ∧ (u.safeLeft m).drift = u.drift := by
  unfold safeLeft; split <;> simp

@[simp] theorem immediate_area (m : Mode) (session : Word) : (u.immediate m session).drift.area = u.drift.area := by
  unfold immediate
  dsimp only
  rw [(safeLeft_keeps _).2]
  simp only [Frame.modeRecord_same]
  (repeat' split) <;> simp

/-- An immediate change of mode keeps what boot has found. -/
theorem immediate_boot (m : Mode) (session : Word) : (u.immediate m session).mode.booted = u.mode.booted
    ∧ (u.immediate m session).mode.noImage = u.mode.noImage := by
  unfold immediate
  dsimp only
  rw [(safeLeft_keeps _).1]
  simp only [Frame.modeRecord_same]
  (repeat' split) <;> simp

/-! ## The end of boot (R25) -/

/-- The end of boot and the pairing that follows leave what was loaded. -/
structure SameLoad (s u : State) : Prop where
  booted : u.mode.booted = s.mode.booted
  noImage : u.mode.noImage = s.mode.noImage
  prog : u.prog = s.prog
  area : u.drift.area = s.drift.area

theorem SameLoad.trans (h : SameLoad s t) (k : SameLoad t u) : SameLoad s u :=
  ⟨k.booted.trans h.booted, k.noImage.trans h.noImage, k.prog.trans h.prog, k.area.trans h.area⟩

theorem SameLoad.refl (s : State) : SameLoad s s := ⟨rfl, rfl, rfl, rfl⟩

theorem sameLoad_of_within {L : List Facet} (h : Within L s u) (hm : Facet.mode ∉ L) (hp : Facet.prog ∉ L) (hd : Facet.drift ∉ L) : SameLoad s u :=
  ⟨by rw [mode_of_within h hm], by rw [mode_of_within h hm], prog_of_within h hp, by rw [drift_of_within h hd]⟩

theorem judgeCheckpoint_sameLoad : SameLoad u u.judgeCheckpoint := by
  unfold judgeCheckpoint
  split
  · exact ⟨by simp, by simp, by simp, by simp⟩
  · exact .refl u

theorem joinPartner_sameLoad : SameLoad u u.joinPartner := by
  refine ⟨?_, ?_, prog_of_within (L := [.mode, .sess, .sig, .disp, .drift, .firn, .pair, .hub, .guard, .moraine, .link, .can, .field, .draws])
    (by simp) (by simp), ?_⟩
  all_goals
    unfold joinPartner
    split
    case isFalse => rfl
    case isTrue =>
      dsimp only [beginResync]
      simp [startPhase_area, leaveCold, immediate_boot, apply_ite State.mode]

theorem riseOpen_mild_within (ha : detAttr d = some a) (hc : a.cls < 2) : Within [.hub, .moraine, .disp, .draws] u (u.riseOpen d) := by
  unfold riseOpen; split
  · exact Within.refl _ _
  · exact Within.trans (t := { u with draws := u.draws + 1 }) (by simp) ((occurBy_mild_within ha hc _ _).mono (by simp))

theorem judgeLink_mild_within (p : Nat) : Within [.hub, .moraine, .disp, .draws] u (u.judgeLink p) := by
  unfold judgeLink
  split
  · exact Within.refl _ _
  · split
    · have hp : p = 0 ∨ p = 1 ∨ p = 2 ∨ p = 3 := by omega
      rcases hp with rfl | rfl | rfl | rfl <;> exact riseOpen_mild_within rfl (by decide)
    · simp

theorem judgePorts_sameLoad : SameLoad u u.judgePorts := by
  have hports : Within [.hub, .moraine, .disp, .draws] u u.judgePorts := by
    unfold judgePorts
    generalize List.range 4 = l
    induction l generalizing u with
    | nil => exact Within.refl _ _
    | cons p l ih => exact (judgeLink_mild_within p).trans ih
  exact sameLoad_of_within hports (by simp) (by simp) (by simp)

theorem foldl_withPage_hash (l : List (Nat × List (Nat × Word))) (i : Image) : (l.foldl (fun j e => withPage j e.1 e.2) i).hash = i.hash := by
  induction l generalizing i with
  | nil => rfl
  | cons e l ih => exact ih _

theorem applyRecord_hash : (u.applyRecord.prog.image.map (·.hash)) = u.prog.image.map (·.hash) := by
  unfold applyRecord
  split
  · simp only [image, Option.map_map]
    congr 1
    funext i
    exact foldl_withPage_hash _ i
  · rfl

theorem execute_image (i : Image) (area : Nat) (slots : Tab Nat) (words : Tab Word) :
    (u.execute i area slots words).prog.image = some i ∧ (u.execute i area slots words).drift.area = area := by
  have hafter : ∀ w : State, Within [.sig, .disp, .firn, .moraine, .sedge, .draws] w
      ((((w.freshFirn.rebuildCopies).taintSignals).appendMeasured 5 0 area i.hash).judgeUndispatchable.moveQueues u) := fun w => by simp
  exact ⟨congrArg (·.image) (prog_of_within (hafter _) (by simp)), congrArg (·.area) (drift_of_within (hafter _) (by simp))⟩

theorem fetchResident_area : u.fetchResident.drift.area = u.drift.area := by
  unfold fetchResident
  dsimp only [judgeLoaded]
  refine foldl_keeps (·.drift.area) _ (fun v d => ?_) _ _
  split <;> simp

theorem fetchResident_prog : u.fetchResident.prog = u.prog := prog_of_within (L := [.drift]) (by simp) (by simp)
theorem applyRecord_drift : u.applyRecord.drift = u.drift := drift_of_within (L := [.prog]) (by simp) (by simp)

theorem loadImage_loads (i : Image) (area : Nat) : (u.loadImage i area).prog.image.map (·.hash) = some i.hash ∧ (u.loadImage i area).drift.area = area := by
  unfold loadImage
  dsimp only
  rw [fetchResident_area, fetchResident_prog, applyRecord_hash, applyRecord_drift, (execute_image _ _ _ _).1, (execute_image _ _ _ _).2]
  exact ⟨rfl, rfl⟩

/-- A trigger reaches the recorder alone. -/
theorem trigger_eq (code : Nat) (words : List Nat) (unit : Nat) : u.trigger code words unit = { u with moraine := (u.trigger code words unit).moraine } := by
  unfold trigger triggerFrom
  dsimp only
  split <;> rfl

/-- The state as END_OF_BOOT judges the slots: booted, with E-0x022 where no key store is loaded. -/
def bootJudged (s : State) : State :=
  if s.sess.ksLoaded then { s with mode.booted := true } else ({ s with mode.booted := true } : State).trigger 0x022 [s.sess.sealedCopy1, s.sess.sealedCopy2]

theorem bootJudged_eq : ∃ m, s.bootJudged = { s with mode.booted := true, moraine := m } := by
  unfold bootJudged
  split
  · exact ⟨s.moraine, rfl⟩
  · exact ⟨_, trigger_eq _ _ _⟩

/-- What END_OF_BOOT loads: the image of the slot that boots, or nothing. -/
def bootLoaded (s : State) : State :=
  match s.bootJudged.bootSlot with
  | some k => ((find s.bootJudged.prog.flash k).bind fileImage).elim s.bootJudged (fun i => s.bootJudged.loadImage i k)
  | none => ({ s.bootJudged with mode.noImage := true }).trigger 0x021 [(s.bootJudged.slotFault 0).getD 0, (s.bootJudged.slotFault 1).getD 0]

theorem opEndOfBoot_boots (hr : s.mode.inReset = false) (hm : s.mode.measured = true) (hb : s.mode.booted = false) :
    s.opEndOfBoot = (((s.bootLoaded.judgeCheckpoint.sendSync .hello).arbitrate).joinPartner).judgePorts.settle := by
  unfold opEndOfBoot
  rw [if_neg (by simp [hr, hm, hb])]
  refine congrArg (fun w : State => (((w.judgeCheckpoint.sendSync .hello).arbitrate).joinPartner).judgePorts.settle) (?_ : _ = s.bootLoaded)
  unfold bootLoaded bootJudged
  rfl

theorem loadImage_mode (i : Image) (area : Nat) : (u.loadImage i area).mode = u.mode :=
  mode_of_within (L := [.xan, .sig, .disp, .drift, .firn, .prog, .moraine, .capture, .sedge, .draws]) (by simp) (by simp)

theorem bootLoaded_facts : s.bootLoaded.mode.booted = true ∧ s.bootLoaded.mode.noImage = (s.mode.noImage || s.bootSlot.isNone)
    ∧ s.bootLoaded.prog.image.map (·.hash) = s.bootImage.elim (s.image.map (·.hash)) (fun e => some e.2.hash)
    ∧ s.bootLoaded.drift.area = s.bootImage.elim s.drift.area (·.1) := by
  obtain ⟨m, hm⟩ := bootJudged_eq (s := s)
  have hslot : s.bootJudged.bootSlot = s.bootSlot := by rw [hm]; rfl
  unfold bootLoaded bootImage
  rw [hslot, hm]
  cases s.bootSlot with
  | none => simp [image]
  | some k =>
    dsimp only [Option.bind_some]
    generalize (find s.prog.flash k).bind fileImage = o
    cases o with
    | none => simp [image]
    | some i => exact ⟨congrArg (·.booted) (loadImage_mode i k), by simp [loadImage_mode], (loadImage_loads i k).1, (loadImage_loads i k).2⟩

/-- Whatever follows the load keeps it. -/
theorem opEndOfBoot_sameLoad (hr : s.mode.inReset = false) (hm : s.mode.measured = true) (hb : s.mode.booted = false) : SameLoad s.bootLoaded s.opEndOfBoot := by
  rw [opEndOfBoot_boots hr hm hb]
  have hhello : ∀ w : State, SameLoad w (w.sendSync .hello) := fun w => sameLoad_of_within (L := [.pair]) (by simp) (by simp) (by simp) (by simp)
  have harbitrate : ∀ w : State, SameLoad w w.arbitrate := fun w => sameLoad_of_within (L := [.pair]) (by simp) (by simp) (by simp) (by simp)
  have hsettle : ∀ w : State, SameLoad w w.settle := fun w => sameLoad_of_within (L := [.sig, .capture]) (by simp) (by simp) (by simp) (by simp)
  exact ((((judgeCheckpoint_sameLoad.trans (hhello _)).trans (harbitrate _)).trans joinPartner_sameLoad).trans judgePorts_sameLoad).trans (hsettle _)

/-! ## The boot measurement -/

theorem occurOpen_mild_keeps (ha : detAttr d = some a) (hc : a.cls < 2) : (u.occurOpen d).mode = u.mode ∧ (u.occurOpen d).sess = u.sess
    ∧ (u.occurOpen d).xan = u.xan ∧ (u.occurOpen d).hub.leafTimeout = u.hub.leafTimeout := by
  have hw := occurBy_mild_within (u := { u with draws := u.draws + 1 }) ha hc (u.freeAt 0) 0
  obtain ⟨dropped, restore, hhub⟩ := occurBy_mild_hub (u := { u with draws := u.draws + 1 }) ha hc (u.freeAt 0) 0
  exact ⟨hw .mode (by simp), hw .sess (by simp), hw .xan (by simp), congrArg (·.leafTimeout) hhub⟩

theorem opMeasured_measures (m : BootMeasure) (hr : s.mode.inReset = false) (hm : s.mode.measured = false) (hrec : s.sedge.recovery = false)
    (hl : s.mode.lifePending = none) : s.opMeasured m
      = { (((if readable m 4 then (s.stage3 m).readFlash m else (((s.stage3 m).readFlash m).withSettings State.reset).occurOpen 337).appendMeasured 4
          (if readable m 4 then 0 else 1) 0 (if readable m 4 then
            (if readable m 4 then (s.stage3 m).readFlash m else (((s.stage3 m).readFlash m).withSettings State.reset).occurOpen 337).configHash
            else m.configDigest)).settle) with mode.measured := true } := by
  simp only [opMeasured, hr, hm, hrec, hl, Bool.false_eq_true, Option.isSome_none, or_self, ↓reduceIte]

end State

/-- Settles O5, clause by clause. -/
theorem powerOnResetAndBoot : Obligations.PowerOnResetAndBoot := by
  unfold Obligations.PowerOnResetAndBoot
  refine ⟨?_, ?_, ?_, ?_, ?_, ?_, ?_⟩
  · intro s p hr hp
    have hrun : s.opPowerOn p = s.powerUp p := by
      unfold State.opPowerOn
      rw [if_pos (by rcases hr with h | h <;> simp [h, hp])]
    refine ⟨s.opPowerOn p, rfl, ?_⟩
    rw [hrun]
    have h := State.powerUp_poweredUp (s := s) p
    exact ⟨h.cold, h.released, h.booting, h.mem, h.table, h.life, h.floor, h.port, h.leaf, h.boot, h.clock, h.pending⟩
  · intro s p h
    refine ⟨s.opPowerOn p, rfl, ?_⟩
    unfold State.opPowerOn
    rw [if_neg]
    rcases h with ⟨hr, hb⟩ | hp
    · simp [hr, hb]
    · simp [hp]
  · intro s hr ht
    refine ⟨_, rfl, ?_⟩
    simp [State.opHubTested, hr, ht]
  · intro s hr hrun hnow
    refine ⟨_, rfl, ?_⟩
    unfold State.opClockStart
    rw [if_neg (by simp only [hr, hrun, Bool.false_eq_true, false_or, Nat.not_lt.mpr hnow, not_false_eq_true])]
    simp [State.startClock, hrun]
  · intro s m hr hm hrec hl hread
    refine ⟨s.opMeasured m, rfl, ?_⟩
    rw [State.opMeasured_measures m hr hm hrec hl, hread]
    have hflash := State.readFlash_mild_within (u := s.stage3 m) m
    have hmode : ((s.stage3 m).readFlash m).mode = s.mode := (hflash .mode (by simp)).trans (State.stage3_facts m).1
    have hsess : ((s.stage3 m).readFlash m).sess = (s.loadKeyStore m.copy1 m.copy2).sess := (hflash .sess (by simp)).trans (State.stage3_facts m).2.1
    have hsedge : ((s.stage3 m).readFlash m).sedge = (s.stage3 m).sedge := hflash .sedge (by simp)
    refine ⟨?_, ?_, ?_, fun hlen => ?_⟩
    · simp [State.appendMeasured_keeps, hmode]
    · simp [State.appendMeasured_keeps, hsess]
    · simp [State.appendMeasured_keeps, hsess, State.loadKeyStore_keeps]
    · have h3 := State.stage3_log (u := s) m (by omega)
      simp only [Frame.settle_same, ↓reduceIte]
      rw [State.appendMeasured_log _ _ _ _ (by rw [hsedge]; omega), hsedge, h3]
  · intro s m hr hm hrec hl hread
    refine ⟨s.opMeasured m, rfl, ?_⟩
    rw [State.opMeasured_measures m hr hm hrec hl, hread]
    have hoccur := fun u : State => State.occurOpen_mild_keeps (u := u) (d := 337) rfl (by decide : (1 : Nat) < 2)
    refine ⟨rfl, ?_, ?_, ?_⟩ <;>
      simp [State.appendMeasured_keeps, hoccur] <;> rfl
  · intro s hr hm hb
    obtain ⟨hbooted, hnone, himage, harea⟩ := State.bootLoaded_facts (s := s)
    have hsame := State.opEndOfBoot_sameLoad hr hm hb
    refine ⟨s.opEndOfBoot, rfl, hsame.booted.trans hbooted, hsame.noImage.trans hnone, ?_, hsame.area.trans harea, ?_⟩
    · rw [State.image, hsame.prog]; exact himage
    · exact exec_within (c := .endOfBoot) rfl .mem (by decide)

end Sys2Proof.Machine
end

section
/-! PROOF. Immediate changes of mode, the loss of ownership and the assertion of power-on reset. -/
namespace Sys2Proof.Machine

namespace State
variable {s t u v : State} {y : Session}

theorem pair_of_within {L : List Facet} (h : Within L s t) (hn : Facet.pair ∉ L) : t.pair = s.pair := h .pair hn
theorem sess_of_within {L : List Facet} (h : Within L s t) (hn : Facet.sess ∉ L) : t.sess = s.sess := h .sess hn
theorem sedge_of_within {L : List Facet} (h : Within L s t) (hn : Facet.sedge ∉ L) : t.sedge = s.sedge := h .sedge hn

/-! ## Immediate changes of mode (R30) -/

@[simp] theorem safeLeft_pair (m : Mode) : (u.safeLeft m).pair = u.pair := by unfold safeLeft; split <;> simp

/-- An immediate change of mode, as the modes themselves tell it. -/
theorem immediate_mode (m : Mode) (session : Word) : (u.immediate m session).mode = { u.mode with
    current := m, target := m, inTransition := false, epoch := u.mode.epoch + 1, pending := 0, commitAt := none, prep := none, leavingSafe := false } := by
  unfold immediate
  dsimp only
  rw [(safeLeft_keeps _).1]
  simp only [Frame.modeRecord_same]
  (repeat' split) <;> simp

theorem immediate_pair (m : Mode) (session : Word) :
    (u.immediate m session).pair = { u.pair with waitUntil := if m = .cold then none else u.pair.waitUntil } := by
  unfold immediate
  dsimp only
  rw [safeLeft_pair]
  simp only [Frame.modeRecord_same]
  (repeat' split) <;> simp

/-! ## The loss of ownership (R306) -/

theorem dropOwn_standby (h : u.pair.ownSelf = false) (reason : Nat) : u.dropOwn reason = u := by simp [dropOwn, h]

@[simp] theorem dropOwn_mode (reason : Nat) : (u.dropOwn reason).mode = u.mode :=
  mode_of_within (L := [.xan, .sig, .disp, .drift, .firn, .prog, .pair, .moraine, .can, .field]) (by simp) (by simp)

@[simp] theorem dropOwn_ownSelf (reason : Nat) : (u.dropOwn reason).pair.ownSelf = false := by
  cases h : u.pair.ownSelf with
  | false => rw [dropOwn_standby h, h]
  | true => simp [dropOwn, h]

theorem dropOwn_lastDrop (h : u.pair.ownSelf = true) (reason : Nat) : (u.dropOwn reason).pair.lastDrop = reason := by simp [dropOwn, h]

/-! ## The end of every session -/

@[simp] theorem endAllSessions_table : u.endAllSessions.sess.table = [] := by
  refine List.eq_nil_iff_forall_not_mem.mpr fun y hy => ?_
  obtain ⟨hold, hnot⟩ := (mem_endSessions _).mp hy
  exact hnot (List.mem_map_of_mem hold)

/-! ## Assertion of power-on reset (R55, R306) -/

/-- What the assertion of power-on reset leaves. -/
structure InReset (s u : State) : Prop where
  ownSelf : u.pair.ownSelf = false
  inReset : u.mode.inReset = true
  resetAt : u.mode.resetAt = s.time.now
  cold : u.mode.current = .cold
  table : u.sess.table = []
  mem : u.mem = s.mem
  sedge : u.sedge = s.sedge

theorem assertReset_inReset (session : Word) : InReset u (u.assertReset session) := by
  have hw : Within Facet.settling u (u.assertReset session) := by simp
  have htime : (u.assertReset session).mode.resetAt = u.time.now := by
    simp only [assertReset, Frame.endAllSessions_same]
    split <;> simp
  refine ⟨?_, rfl, htime, ?_, endAllSessions_table, hw .mem (by simp), hw .sedge (by simp)⟩
  · simp only [assertReset, Frame.endAllSessions_same]
    split
    · simp
    · simp [immediate_pair]
  · simp only [assertReset, Frame.endAllSessions_same]
    split
    case isTrue h => simpa using h
    case isFalse => simp [immediate_mode]

theorem assertReset_lastDrop (session : Word) : (u.assertReset session).pair.lastDrop = if u.pair.ownSelf then 6 else u.pair.lastDrop := by
  have hkeep : (u.assertReset session).pair.lastDrop = (u.dropOwn 6).pair.lastDrop := by
    simp only [assertReset, Frame.endAllSessions_same]
    split
    · simp
    · simp [immediate_pair]
  rw [hkeep]
  cases h : u.pair.ownSelf with
  | false => rw [dropOwn_standby h]; rfl
  | true => rw [dropOwn_lastDrop h]; rfl

@[simp] theorem abortPrepareIfOwned_pair (r : Byte) : (u.abortPrepareIfOwned r).pair = u.pair := by unfold abortPrepareIfOwned; split <;> simp
@[simp] theorem abortPrepareIfOwned_keeps (r : Byte) : (u.abortPrepareIfOwned r).time = u.time ∧ (u.abortPrepareIfOwned r).mem = u.mem
    ∧ (u.abortPrepareIfOwned r).sedge = u.sedge := by unfold abortPrepareIfOwned; split <;> simp

end State

end Sys2Proof.Machine
end

section
/-! PROOF. Supplies, the seat, the sensors and the cover. -/
namespace Sys2Proof.Machine

namespace State
variable {s t u v : State} {d n : Nat} {a : DetAttr} {info session : Word}

/-! ## The Sedge log and the feeds -/

theorem logEntry_sedge (kind subject x y z : Nat) : (u.logEntry kind subject x y z).sedge = { u.sedge with
    log := ({ seq := u.sedge.logNewest + 1, boot := BitVec.ofNat 32 u.moraine.boot, mono := u.time.mono, kind := kind, subject := subject,
              data := [BitVec.ofNat 32 x, BitVec.ofNat 32 y, BitVec.ofNat 32 z] } :: u.sedge.log).take 8192
    logNewest := u.sedge.logNewest + 1 } := by
  simp [logEntry]

theorem opPowerFail_first {a b : Nat} (ha : a < 16000) (hb : b < 16000) (hl : s.sedge.lowSince = none) : s.opPowerFail a b
    = ({ s.noteFeeds a b with sedge.lowSince := some s.time.now, sedge.coverSaved := some s.sedge.coverOpen } : State).logEntry 2 (bit s.sedge.coverOpen 0) a b 0 := by
  unfold opPowerFail
  rw [if_neg (by simp [hl]; omega)]

theorem opPowerFail_not {a b : Nat} (h : 16000 ≤ a ∨ 16000 ≤ b ∨ s.sedge.lowSince.isSome = true) : s.opPowerFail a b = s := by
  unfold opPowerFail
  rw [if_pos h]

theorem setFeed_self (f : Nat) (x : Feed) : (u.setFeed f x).feed f = x := by unfold setFeed feed; split <;> rfl
theorem setFeed_other {f : Nat} (hf : f < 2) (x : Feed) : (u.setFeed f x).feed (1 - f) = u.feed (1 - f) := by
  have h : f = 0 ∨ f = 1 := by omega
  rcases h with rfl | rfl <;> rfl

theorem opFeedOff_high {f mv : Nat} (hf : f < 2) (hv : 33000 < mv) (hd : (s.feed f).disconnected = false) :
    s.opFeedOff f mv = s.setFeed f { millivolts := mv, disconnected := true } := by
  unfold opFeedOff
  rw [if_neg (by simp [hd]; omega)]

theorem opFeedOff_low {f mv : Nat} (hv : mv ≤ 33000) : s.opFeedOff f mv = s := by
  unfold opFeedOff
  rw [if_pos (.inr (.inl hv))]

theorem opFeedOn_back {f mv : Nat} {b : Ns} (hf : f < 2) (hv : mv < 31000) (hb : 10000000 ≤ b) (hd : (s.feed f).disconnected = true) :
    s.opFeedOn f mv b = s.setFeed f { millivolts := mv, disconnected := false } := by
  unfold opFeedOn
  rw [if_neg]
  rintro (h | h | h | h)
  · omega
  · omega
  · exact Nat.not_lt.mpr hb h
  · simp [hd] at h

theorem opFeedOn_not {f mv : Nat} {b : Ns} (h : 31000 ≤ mv ∨ b < 10000000) : s.opFeedOn f mv b = s := by
  unfold opFeedOn
  rw [if_pos (h.elim (fun h => .inr (.inl h)) (fun h => .inr (.inr (.inl h))))]

/-! ## Losing the supply and the seat -/

theorem opSupplyLost_low {k : Ns} (hl : s.sedge.lowSince = some k) (hk : k + 200000 ≤ s.time.now) (hr : s.mode.inReset = false) :
    s.opSupplyLost = (s.abortPrepareIfOwned 7).assertReset := by
  unfold opSupplyLost
  rw [hl, Option.elim_some, decide_eq_true hk, hr]
  rfl

theorem opSupplyLost_early (h : s.sedge.lowSince.elim true (fun k => decide (s.time.now < k + 200000)) = true) : s.opSupplyLost = s := by
  unfold opSupplyLost
  cases hl : s.sedge.lowSince with
  | none => rfl
  | some k =>
    rw [hl, Option.elim_some] at h
    rw [Option.elim_some, decide_eq_false (Nat.not_le.mpr (of_decide_eq_true h))]
    rfl

theorem opUnseated_held {k : Ns} (hk : 4000 ≤ k) (hi : s.sedge.inserted = true) : s.opUnseated k
    = ({ (((s.abortPrepareIfOwned 7).dropOwn 8).occurOpen 336).logEntry 11 0 0 0 0 with sedge.inserted := false } : State).assertReset := by
  unfold opUnseated
  rw [if_neg]
  rintro (h | h)
  · exact Nat.not_lt.mpr hk h
  · simp [hi] at h

theorem opUnseated_short {k : Ns} (hk : k < 4000) : s.opUnseated k = s := by
  unfold opUnseated
  rw [if_pos (.inl hk)]

/-! ## Occurrences whose information no rule defines -/

theorem occurOpen_det_self (ha : detAttr d = some a) : (u.occurOpen d).det d = ({ u with draws := u.draws + 1 } : State).occurred d a (u.freeAt 0) :=
  occurBy_det_self ha _ _

theorem occurOpen_count (ha : detAttr d = some a) : ((u.occurOpen d).det d).count = BitVec.ofNat 32 (sat32 ((u.det d).count.toNat + 1)) := by
  rw [occurOpen_det_self ha]
  unfold occurred
  split <;> rfl

theorem settle_det (e : Nat) : u.settle.det e = u.det e := det_congr (by simp) e

theorem occurOpen_mild_within (ha : detAttr d = some a) (hc : a.cls < 2) : Within [.hub, .moraine, .disp, .draws] u (u.occurOpen d) :=
  Within.trans (t := { u with draws := u.draws + 1 }) (by simp) ((occurBy_mild_within ha hc _ _).mono (by simp))

/-! ## Sensor samples (R550) -/

theorem sampleSensor_sensors (n : Nat) (x : Int) (failed : Bool) :
    (u.sampleSensor n x failed).sedge.sensors = put u.sedge.sensors n ((u.sensor n).sample n x failed) := by
  unfold sampleSensor
  dsimp only
  split
  · rfl
  · rw [logEntry_sedge]

theorem sampleSensor_sampledAt (n : Nat) (x : Int) (failed : Bool) : (u.sampleSensor n x failed).sedge.sampledAt = u.sedge.sampledAt := by
  unfold sampleSensor
  dsimp only
  split
  · rfl
  · rw [logEntry_sedge]

/-- Every reading of a list goes to the sensor of its place, once. -/
theorem sampleAll_sensor (failed : List Nat) (l : List Int) (k n : Nat) :
    ((l.zipIdx k).foldl (fun (w : State) e => w.sampleSensor e.2 e.1 (failed.contains e.2)) u).sensor n
      = if k ≤ n ∧ n < k + l.length then (u.sensor n).sample n (l.getD (n - k) 0) (failed.contains n) else u.sensor n := by
  induction l generalizing u k with
  | nil => rw [if_neg (by simp)]; rfl
  | cons x l ih =>
    rw [List.zipIdx_cons, List.foldl_cons, ih]
    have hput : ∀ j, (u.sampleSensor k x (failed.contains k)).sensor j
        = if j = k then (u.sensor k).sample k x (failed.contains k) else u.sensor j := by
      intro j; rw [sensor, sampleSensor_sensors, get_put]; rfl
    rw [hput]
    by_cases hn : n = k
    · subst hn
      rw [if_neg (by omega), if_pos rfl, if_pos (by simp)]
      simp
    · by_cases hin : k + 1 ≤ n ∧ n < k + 1 + l.length
      · rw [if_pos hin, if_neg hn, if_pos (by simp; omega)]
        obtain ⟨j, rfl⟩ : ∃ j, n = k + 1 + j := ⟨n - (k + 1), by omega⟩
        rw [show k + 1 + j - (k + 1) = j by omega, show k + 1 + j - k = j + 1 by omega, List.getD_cons_succ]
      · rw [if_neg hin, if_neg hn, if_neg (by simp; omega)]

theorem sampleAll_sampledAt (failed : List Nat) (l : List (Int × Nat)) :
    (l.foldl (fun (w : State) e => w.sampleSensor e.2 e.1 (failed.contains e.2)) u).sedge.sampledAt = u.sedge.sampledAt :=
  foldl_keeps (·.sedge.sampledAt) _ (fun _ _ => sampleSensor_sampledAt _ _ _) _ _

theorem sensor_congr (h : t.sedge.sensors = s.sedge.sensors) (n : Nat) : t.sensor n = s.sensor n := by rw [sensor, sensor, h]

theorem judgeSensors_sedge : u.judgeSensors.sedge = u.sedge := sedge_of_within (L := Facet.reacting) (by simp) (by simp)

end State

/-- Settles O6, clause by clause. -/
theorem suppliesSeatSensorsAndCover : Obligations.SuppliesSeatSensorsAndCover := by
  unfold Obligations.SuppliesSeatSensorsAndCover
  refine ⟨?_, ?_, ?_, ?_, ?_, ?_, ?_, ?_, ?_, ?_, ?_, ?_, ?_, ?_, ?_, ?_, ?_⟩
  · intro s a b ha hb hl
    refine ⟨s.opPowerFail a b, rfl, ?_, ?_, ?_, ?_, ?_, exec_keeps (c := .powerFail a b) rfl (List.Subset.refl _)⟩ <;>
      rw [State.opPowerFail_first ha hb hl, State.logEntry_sedge] <;> rfl
  · intro s a b h
    exact ⟨_, rfl, State.opPowerFail_not h⟩
  · intro s k hl hk hr
    refine ⟨s.opSupplyLost, rfl, ?_⟩
    rw [State.opSupplyLost_low hl hk hr]
    have h := State.assertReset_inReset (u := s.abortPrepareIfOwned 7) 0
    refine ⟨h.ownSelf, h.inReset, h.resetAt.trans (by simp), h.cold, h.table, h.mem.trans (by simp), fun hown => ?_⟩
    rw [State.assertReset_lastDrop, State.abortPrepareIfOwned_pair, hown]
    rfl
  · intro s h
    exact ⟨_, rfl, State.opSupplyLost_early h⟩
  · intro s k hk hi
    refine ⟨s.opUnseated k, rfl, ?_⟩
    rw [State.opUnseated_held hk hi]
    have h := State.assertReset_inReset
      (u := { (((s.abortPrepareIfOwned 7).dropOwn 8).occurOpen 336).logEntry 11 0 0 0 0 with sedge.inserted := false }) 0
    have hpair := State.pair_of_within (State.occurOpen_mild_within (u := (s.abortPrepareIfOwned 7).dropOwn 8) (d := 336) rfl (by decide)) (by simp)
    refine ⟨h.ownSelf, h.inReset, h.cold, by rw [h.sedge], h.table, h.mem.trans (by simp), fun hown => ?_⟩
    rw [State.assertReset_lastDrop]
    simp only [Frame.logEntry_same, hpair, State.dropOwn_ownSelf, Bool.false_eq_true, ↓reduceIte]
    exact State.dropOwn_lastDrop (by simpa using hown) 8
  · intro s k hk
    exact ⟨_, rfl, State.opUnseated_short hk⟩
  · intro s f mv hf hv hd
    refine ⟨_, rfl, ?_, ?_, ?_, exec_keeps (c := .feedOvervoltageDisconnect f mv) rfl (List.Subset.refl _)⟩ <;>
      rw [State.opFeedOff_high hf hv hd]
    · rw [State.setFeed_self]
    · rw [State.setFeed_self]
    · rw [State.setFeed_other hf]
  · intro s f mv hv
    exact ⟨_, rfl, State.opFeedOff_low hv⟩
  · intro s f mv b hf hv hb hd
    refine ⟨_, rfl, ?_, ?_, ?_, exec_keeps (c := .feedReconnect f mv b) rfl (List.Subset.refl _)⟩ <;>
      rw [State.opFeedOn_back hf hv hb hd]
    · rw [State.setFeed_self]
    · rw [State.setFeed_self]
    · rw [State.setFeed_other hf]
  · intro s f mv b h
    exact ⟨_, rfl, State.opFeedOn_not h⟩
  · intro s l failed hl ht
    refine ⟨s.opSensors l failed, rfl, ?_⟩
    have hearly : ¬ (l.length ≠ 24 ∨ s.sedge.sampledAt.elim false (fun k => decide (s.time.now < k + 10000000)) = true) := by
      rintro (h | h)
      · exact h hl
      · cases hs : s.sedge.sampledAt with
        | none => rw [hs] at h; cases h
        | some k =>
          rw [hs, Option.elim_some] at h ht
          exact Nat.not_lt.mpr (of_decide_eq_true ht) (of_decide_eq_true h)
    unfold State.opSensors
    rw [if_neg hearly]
    dsimp only
    simp only [Frame.settle_same, State.judgeSensors_sedge, State.noteFeeds, State.sampleAll_sampledAt]
    refine ⟨trivial, fun n hn => ?_, trivial, trivial⟩
    have hn' : n < 24 := List.mem_range.mp hn
    have hall := State.sampleAll_sensor (u := { s with sedge.sampledAt := some s.time.now }) failed l 0 n
    rw [if_pos (by omega)] at hall
    refine (State.sensor_congr ?_ n).trans hall
    simp only [Frame.settle_same, State.judgeSensors_sedge]
  · intro s l failed k hs hk
    refine ⟨s.opSensors l failed, rfl, ?_⟩
    unfold State.opSensors
    rw [if_pos]
    rw [hs, Option.elim_some, decide_eq_true hk]
    exact .inr rfl
  · intro s hc
    refine ⟨s.opCover true, rfl, ?_⟩
    have hrun : s.opCover true = ((({ s with sedge.coverOpen := true } : State).logEntry 4 1 0 0 0).occurOpen 335).settle := by
      unfold State.opCover
      rw [if_neg (by simp [hc])]
      rfl
    rw [hrun]
    have hcount := State.occurOpen_count (u := ({ s with sedge.coverOpen := true } : State).logEntry 4 1 0 0 0) (d := 335) rfl
    refine ⟨?_, ?_, ?_⟩
    · simp [State.logEntry_sedge]
    · rw [State.settle_det, hcount, State.det_congr (s := s) (by simp)]
    · simp [State.logEntry_sedge]
  · intro s hc
    refine ⟨s.opCover false, rfl, ?_⟩
    have hrun : s.opCover false = State.endSessions (({ s with sedge.coverOpen := false } : State).logEntry 4 0 0 0 0)
        ((s.sess.table.filter (fun (y : Session) => y.blank)).map (fun (y : Session) => y.number)) := by
      unfold State.opCover
      rw [if_neg (by simp [hc])]
      dsimp only
      rw [if_neg (by decide), show (State.logEntry _ 4 (bit false 0) 0 0 0).sess = s.sess by simp]
      rfl
    rw [hrun]
    refine ⟨?_, fun y hy => ?_, ?_, ?_⟩
    · simp [State.logEntry_sedge]
    · obtain ⟨hold, hnot⟩ := (State.mem_endSessions _).mp hy
      by_contra hb
      exact hnot (List.mem_map_of_mem (List.mem_filter.mpr ⟨by simpa using hold, by simpa using hb⟩))
    · simp [State.logEntry_sedge]
    · simp
  · intro s b hb
    exact ⟨s.opCover b, rfl, if_pos hb⟩
  · intro s
    exact ⟨_, rfl, rfl⟩
  · intro s
    refine ⟨s.opStoreRetry false, rfl, ?_⟩
    have hrun : s.opStoreRetry false = (({ s with sedge.storeFailed := true } : State).occurOpen 337).settle := rfl
    rw [hrun]
    refine ⟨by simp, ?_⟩
    rw [State.settle_det, State.occurOpen_count rfl]
    rfl

end Sys2Proof.Machine
end

section
/-! PROOF. Firmware staging, verification, activation, the floor and the trial. -/
namespace Sys2Proof.Machine

namespace State
variable {s t u v : State} {r : Req} {x : ReplyTo} {f : Fwd} {i : Nat}

/-- Everything but the waiting requests is as the taken signed command found it. -/
theorem signed_same (h : Signed s i f t) : t.mode = s.mode ∧ t.time = s.time ∧ t.sess = s.sess ∧ t.sig = s.sig ∧ t.disp = s.disp ∧ t.drift = s.drift
    ∧ t.firn = s.firn ∧ t.prog = s.prog ∧ t.pair = s.pair ∧ t.hub = s.hub ∧ t.guard = s.guard ∧ t.moraine = s.moraine ∧ t.capture = s.capture
    ∧ t.link = s.link ∧ t.eth = s.eth ∧ t.can = s.can ∧ t.field = s.field ∧ t.sedge = s.sedge ∧ t.mem = s.mem ∧ t.draws = s.draws
    ∧ t.pending = s.pending := by
  obtain ⟨rest, -, rfl⟩ := takeSigned_state h.taken
  simp

theorem signed_replied (h : Signed s i f t) {status : Nat} (hs : status ≠ 9) : Replied (u.answer (replyOf f) status) (replyOf f) status := by
  simpa using answer_replied (u := u) (x := replyOf f) status [] h.port hs

/-! ## The firmware slots -/

theorem other_congr (h : t.sedge = s.sedge) : t.other = s.other := by rw [other, other, h]
theorem running_congr (h : t.sedge = s.sedge) : t.running = s.running := by rw [running, running, h]

@[simp] theorem setOther_other (p : Option FwPackage) : (u.setOther p).other = p := by
  unfold setOther other
  split <;> simp_all
@[simp] theorem setOther_running (p : Option FwPackage) : (u.setOther p).running = u.running := by
  unfold setOther running
  split <;> simp_all

/-- Of Sedge the other slot alone is rewritten. -/
theorem setOther_sedge (p : Option FwPackage) : (u.setOther p).sedge.stageState = u.sedge.stageState ∧ (u.setOther p).sedge.stageTotal = u.sedge.stageTotal
    ∧ (u.setOther p).sedge.stage = u.sedge.stage ∧ (u.setOther p).sedge.stageError = u.sedge.stageError
    ∧ (u.setOther p).sedge.logNewest = u.sedge.logNewest := by
  unfold setOther; split <;> simp

@[simp] theorem logEntry_other (kind subject a b c : Nat) : (u.logEntry kind subject a b c).other = u.other := by
  simp only [other, logEntry_sedge]
@[simp] theorem logEntry_running (kind subject a b c : Nat) : (u.logEntry kind subject a b c).running = u.running := by
  simp only [running, logEntry_sedge]

@[simp] theorem answer_other (status : Nat) : (u.answer x status).other = u.other := other_congr (by simp)
@[simp] theorem answer_running (status : Nat) : (u.answer x status).running = u.running := running_congr (by simp)

/-! ## Firmware commands -/

/-- A verified FW_ACTIVATE of a row's operation comes to its check 14 (R559). -/
theorem takeFwActivate_signed {op : Nat} {range conflict : State → List Byte → Bool} {act : State → Word → State} (h : Signed s 0x7A20 f t)
    (ha : at_ f.req.arg 0 1 = op) : s.takeFwActivate op range conflict act = t.check14 (replyOf f) (range t f.req.arg) t.fwBusy
      (t.mode.life = .blank || t.mode.life = .retired || conflict t f.req.arg) (fun u => act u (replyOf f).session) := by
  rw [takeFwActivate, onSigned_signed h]
  simp only [ha, ne_eq, not_true_eq_false, false_and, ↓reduceIte]

theorem fwArgument_op {a : List Byte} {op : Nat} {p : Option FwPackage} (h : fwArgument a op p = true) : at_ a 0 1 = op := by
  simp only [fwArgument, Bool.and_eq_true, decide_eq_true_eq] at h
  exact h.1.1.2

theorem fwBusy_signed (h : Signed s i f t) : t.fwBusy = s.fwBusy := by
  obtain ⟨rest, -, rfl⟩ := takeSigned_state h.taken; rfl
theorem partnerAnswers_signed (h : Signed s i f t) : t.partnerAnswers = s.partnerAnswers := by
  obtain ⟨rest, -, rfl⟩ := takeSigned_state h.taken; rfl

theorem loneCkpt_standby (h : u.pair.ownSelf = false) : u.loneCkpt = u := by simp [loneCkpt, h]

theorem activate_standby (h : u.pair.ownSelf = false) (session : Word) :
    (u.activate session).sedge.recordB = (!u.sedge.runningB) ∧ (u.activate session).sedge.trial = true ∧ (u.activate session).sedge.attempts = 2
      ∧ (u.activate session).mode.rebootDue = true ∧ (u.activate session).running = u.running ∧ (u.activate session).xan.queue = u.xan.queue := by
  unfold activate
  dsimp only
  rw [loneCkpt_standby (by exact h)]
  simp [logEntry_sedge, running]

theorem raiseFloor_facts {p : FwPackage} (hp : u.running = some p) (session : Word) : (u.raiseFloor session).sedge.floor = p.securityVersion
    ∧ (u.raiseFloor session).running = u.running ∧ (u.raiseFloor session).xan.queue = u.xan.queue := by
  have hfloor : (u.raiseFloor session).sedge.floor = u.running.elim u.sedge.floor (·.securityVersion) := by simp [raiseFloor]
  refine ⟨by rw [hfloor, hp]; rfl, ?_, ?_⟩ <;> simp [raiseFloor, running, logEntry_sedge]

theorem opFwVerified_verifying {c : Word} {k : BitVec 512} {a b : Bool} (h : s.sedge.stageState = 2) :
    s.opFwVerified c k a b = (s.judgePackage c k).flashResult a b := by simp [opFwVerified, h]

theorem judgePackage_facts (c : Word) (k : BitVec 512) :
    (s.judgePackage c k).sedge.stageState = (if s.packageFault (s.stagedPackage c k) = 0 then 3 else 4)
    ∧ (s.judgePackage c k).sedge.stageError = s.packageFault (s.stagedPackage c k)
    ∧ (s.judgePackage c k).other = (if s.packageFault (s.stagedPackage c k) = 0 then some (s.stagedPackage c k) else s.other)
    ∧ (s.judgePackage c k).running = s.running ∧ (s.judgePackage c k).sedge.logNewest = s.sedge.logNewest + 1 := by
  unfold judgePackage
  dsimp only
  by_cases h : s.packageFault (s.stagedPackage c k) = 0
  · simp only [h, ↓reduceIte, logEntry_sedge, setOther_sedge, logEntry_other, setOther_other, logEntry_running, setOther_running, true_and, and_true]
    rfl
  · simp only [h, ↓reduceIte, logEntry_sedge, logEntry_other, logEntry_running, true_and, and_true]
    exact ⟨rfl, rfl⟩

theorem opFwCommand_granted (h : Granted s r 2 t x) (hv : x.req.value = 1 ∨ x.req.value = 2) :
    (t.taken x).opFwCommand x = (if x.req.value = 1 then { t.taken x with sedge.stageState := 2, sedge.stageError := 0 } else
      (if (t.taken x).sedge.stageState = 0 ∨ (t.taken x).sedge.stageState = 5 then
        ({ t.taken x with sedge.stage := [], sedge.stageTotal := 0, sedge.stageState := 0, sedge.stageError := 0 } : State).replaced 0x7A21 0
       else State.setOther (({ t.taken x with sedge.stage := [], sedge.stageTotal := 0, sedge.stageState := 0, sedge.stageError := 0 } : State).replaced 0x7A21 0)
        none) : State).answer x 0 := by
  unfold opFwCommand
  rw [check14_granted h (by rcases hv with hv | hv <;> simp [hv]) rfl rfl]
  rcases hv with hv | hv <;> simp [hv]

theorem assertReset_rebootDue (session : Word) : (u.assertReset session).mode.rebootDue = u.mode.rebootDue := by
  simp only [assertReset, Frame.endAllSessions_same]
  split
  · simp
  · simp [immediate_mode]

end State

/-- Settles O7, clause by clause. -/
theorem firmwareIsStagedAndActivated : Obligations.FirmwareIsStagedAndActivated := by
  unfold Obligations.FirmwareIsStagedAndActivated
  refine ⟨?_, ?_, ?_, ?_, ?_, ?_, ?_, ?_, ?_, ?_, ?_⟩
  · intro s r t x h hi hsub hsel hoff hlo hhi hsum htrial hmay
    refine ⟨_, State.row_granted h rfl (by rw [hi]; rfl) (by rw [hsub]; rfl), ?_⟩
    have hsame := State.granted_same h
    have hx := State.granted_req h
    have hstage : (t.taken x).mayStageFw = true := by
      simpa only [State.mayStageFw, State.taken_same, hsame] using hmay
    have hrange : (x.req.select ≠ 0 || (t.taken x).sedge.stageTotal < x.req.offset || !State.writeLength x.req
        || 2 ^ 28 < x.req.offset + x.req.bytes.length) = false := by
      simpa [hsame, hx, hsel, State.writeLength, hoff, hlo, hhi] using hsum
    unfold State.opFwStage
    rw [State.check14_granted h hrange (by simp [hsame, htrial]) (by simp [hstage])]
    refine ⟨?_, ?_, ?_, ?_, ?_, State.granted_replied h (by decide)⟩
    · simp [State.setOther_sedge]
    · simp [State.setOther_sedge, hsame, hx]
    · simp [State.setOther_sedge, hsame, hx]
    · rw [State.answer_other, State.setOther_other]
    · rw [State.answer_running, State.setOther_running]; simp [State.running, hsame]
  · intro s r t x h hi hsub hv
    refine ⟨_, State.row_granted_of h rfl (by rw [hi]; rfl) (by rw [hsub]; rfl) (decide_eq_true hv), ?_⟩
    have hx : x.req.value = 1 := by rw [State.granted_req h, hv]
    rw [State.opFwCommand_granted h (.inl hx), if_pos hx]
    exact ⟨by simp [State.granted_same h], State.granted_replied h (by decide)⟩
  · intro s r t x h hi hsub hv
    refine ⟨_, State.row_granted_of h rfl (by rw [hi]; rfl) (by rw [hsub]; rfl) (decide_eq_true hv), ?_⟩
    have hx : x.req.value = 2 := by rw [State.granted_req h, hv]
    have hsame := State.granted_same h
    have hone : ¬ x.req.value = 1 := by rw [hx]; decide
    rw [State.opFwCommand_granted h (.inr hx), if_neg hone]
    by_cases hst : s.sedge.stageState = 0 ∨ s.sedge.stageState = 5
    · rw [if_pos hst, if_pos (by simpa [hsame] using hst)]
      refine ⟨by simp, by simp, by simp, ?_, ?_, State.granted_replied h (by decide)⟩
      · rw [State.answer_other]; simp [State.other, State.replaced, hsame]
      · rw [State.answer_running]; simp [State.running, State.replaced, hsame]
    · rw [if_neg hst, if_neg (by simpa [hsame] using hst)]
      refine ⟨by simp [State.setOther_sedge], by simp [State.setOther_sedge], by simp [State.setOther_sedge], ?_, ?_, State.granted_replied h (by decide)⟩
      · rw [State.answer_other, State.setOther_other]
      · rw [State.answer_running, State.setOther_running]; simp [State.running, State.replaced, hsame]
  · intro s c k a b hst
    obtain ⟨hstate, herror, hother, hrunning, hnewest⟩ := State.judgePackage_facts (s := s) c k
    have hsedge := State.sedge_of_within (State.flashResult_mild_within (u := s.judgePackage c k) a b) (by simp)
    refine ⟨s.opFwVerified c k a b, rfl, ?_, ?_, ?_, ?_, ?_, exec_keeps (c := .fwVerifyComplete c k a b) rfl (by simp [touched])⟩ <;>
      rw [State.opFwVerified_verifying hst]
    · rw [hsedge, hstate]
    · rw [hsedge, herror]
    · rw [State.other_congr hsedge, hother]
    · rw [State.running_congr hsedge, hrunning]
    · rw [hsedge, hnewest]
  · intro s c k a b hst
    exact ⟨s.opFwVerified c k a b, rfl, by simp [State.opFwVerified, hst]⟩
  · intro s f t h hst harg hbusy hlife hown hpartner
    refine ⟨s.opFwActivate, rfl, ?_⟩
    have hsame := State.signed_same h
    have hother : t.other = s.other := State.other_congr (by simp [hsame])
    have hconflict : (t.mode.life = .blank || t.mode.life = .retired || ((t.pair.ownSelf && (t.partnerAnswers || !(t.mode.current = .hold || t.mode.current = .service)))
      || (t.partnerAnswers && t.other.elim 0 (·.syncProtocol) ≠ t.running.elim 0 (·.syncProtocol)))) = false := by
      rw [State.partnerAnswers_signed h, hpartner]
      rcases hlife with hl | hl | hl <;> simp [hsame, hl, hown]
    rw [State.opFwActivate, State.takeFwActivate_signed h (State.fwArgument_op harg),
      State.check14_signed h (by simp [hsame, hst, hother, harg]) (by rw [State.fwBusy_signed h, hbusy]) hconflict]
    obtain ⟨h1, h2, h3, h4, h5, h6⟩ := State.activate_standby (u := t) (by simp [hsame, hown]) (State.replyOf f).session
    refine ⟨by simpa [hsame] using h1, by simpa using h2, by simpa using h3, by simpa using h4, ?_, by simpa using h6, State.signed_replied h (by decide)⟩
    rw [State.answer_running, h5, State.running_congr (s := s) (by simp [hsame])]
  · intro s f t h hst hop
    refine ⟨s.opFwActivate, rfl, ?_⟩
    have hsame := State.signed_same h
    rw [State.opFwActivate, State.takeFwActivate_signed h hop, State.check14_range (x := State.replyOf f) h.port (by simp [hsame, hst])]
    exact ⟨by simp [hsame], by simp [hsame], State.signed_replied h (by decide)⟩
  · intro s hdue
    have hrun : s.opReboot = ({ s with mode.rebootDue := false } : State).assertReset := by simp [State.opReboot, hdue]
    refine ⟨s.opReboot, rfl, ?_⟩
    have h := State.assertReset_inReset (u := { s with mode.rebootDue := false }) 0
    rw [hrun]
    exact ⟨State.assertReset_rebootDue 0, h.cold, h.inReset, by rw [h.sedge], h.mem⟩
  · intro s f t p h hp harg hfloor hbusy hlife
    refine ⟨s.opFloorRaise, rfl, ?_⟩
    have hsame := State.signed_same h
    have hrunning : t.running = some p := (State.running_congr (by simp [hsame])).trans hp
    have hconflict : (t.mode.life = .blank || t.mode.life = .retired || false) = false := by
      rcases hlife with hl | hl | hl <;> simp [hsame, hl]
    rw [State.opFloorRaise, State.takeFwActivate_signed h (State.fwArgument_op harg),
      State.check14_signed h (by simp [hrunning, harg, hsame, hfloor]) (by rw [State.fwBusy_signed h, hbusy]) hconflict]
    obtain ⟨h1, h2, h3⟩ := State.raiseFloor_facts hrunning (State.replyOf f).session
    refine ⟨by simpa using h1, ?_, by simpa using h3, State.signed_replied h (by decide)⟩
    rw [State.answer_running, h2, hrunning, hp]
  · intro s htrial hdue hgood
    refine ⟨s.opConfirmed, rfl, ?_, ?_, ?_, exec_keeps (c := .trialConfirmed) rfl (List.Subset.refl _)⟩ <;>
      simp [State.opConfirmed, htrial, hdue, hgood, State.logEntry_sedge, State.running]
  · intro s h
    refine ⟨s.opConfirmed, rfl, ?_⟩
    rcases h with h | h <;> simp [State.opConfirmed, h]

end Sys2Proof.Machine
end

section
/-! PROOF. Mode requests, PREPARE and COMMIT (O10). -/
namespace Sys2Proof.Machine

namespace State
variable {s t u v : State} {r : Req} {x : ReplyTo} {p : Prep} {n : Nat}

/-! ## What a refused request tells of the mode -/

@[simp] theorem produce_tasks (q : Nat) (entry : List Word) : (u.produce q entry).disp.tasks = u.disp.tasks := by
  unfold produce; dsimp only; split <;> simp
@[simp] theorem produceOpen_tasks (q : Nat) : (u.produceOpen q).disp.tasks = u.disp.tasks := by simp [produceOpen]
@[simp] theorem taken_tasks (x : ReplyTo) : (u.taken x).disp.tasks = u.disp.tasks := by simp [taken]

theorem deviceMode_congr (hm : t.mode = s.mode) (hp : t.pair = s.pair) (hd : t.disp.tasks = s.disp.tasks) : t.deviceMode = s.deviceMode := by
  simp only [deviceMode, hm, hp, hd]

/-- A granted write refused for the mode says which it is (R79). -/
theorem granted_conflict (h : Granted s r 2 t x) : Replied ((t.taken x).answer x 9) x 9 (be 4 s.deviceMode.toNat ++ be 1 s.mode.life.code) := by
  have hsame := granted_same h
  have hreply := answer_replied_conflict (u := t.taken x) (Granted_port h)
  rwa [deviceMode_congr (s := s) (by simp [hsame]) (by simp [hsame]) (by simp [hsame]), show (t.taken x).mode = s.mode by simp [hsame]] at hreply

/-! ## Requests -/

theorem modeBusy_congr (hm : t.mode = s.mode) (hp : t.prog = s.prog) : t.modeBusy = s.modeBusy := by simp only [modeBusy, exchangeOpen, hm, hp]

theorem safeCause_congr (h : t.hub = s.hub) : t.safeCause = s.safeCause := by
  simp only [safeCause, anyLatch, latchedDets, h]

theorem partnerInStep_congr (h : t.pair = s.pair) : t.partnerInStep = s.partnerInStep := by simp only [partnerInStep, partnerAnswers, h]

theorem mayGo_congr (hm : t.mode = s.mode) (hp : t.pair = s.pair) (hh : t.hub = s.hub) : t.mayGo = s.mayGo := by
  funext m release
  simp only [mayGo, hm, hp, safeCause_congr hh, partnerInStep_congr hp]

theorem mayTrack_congr (hm : t.mode = s.mode) (hp : t.pair = s.pair) (hh : t.hub = s.hub) : t.mayTrack = s.mayTrack := by
  simp only [mayTrack, hm, hp, safeCause_congr hh]

/-- The check 14 of a MODE_REQUEST on the state that took it. -/
theorem opModeRequest_taken (h : Granted s r 2 t x) : (t.taken x).opModeRequest x
    = (t.taken x).check14Later x (512 ≤ r.value || !(targetOf r = 2 || targetOf r = 3)) s.modeBusy (!(s.pair.ownSelf && s.mayGo (modeOf (targetOf r)) false))
      (fun w => (w.accept x r.value).answer x 0) := by
  have hsame := granted_same h
  unfold opModeRequest
  dsimp only
  rw [granted_req h, modeBusy_congr (s := s) (by simp [hsame]) (by simp [hsame]), mayGo_congr (s := s) (by simp [hsame]) (by simp [hsame]) (by simp [hsame]),
    show (t.taken x).pair = s.pair by simp [hsame]]
  rfl

/-- The check 14 of a SERVICE_REQUEST on the state that took it. -/
theorem opServiceRequest_taken (h : Granted s r 2 t x) : (t.taken x).opServiceRequest x
    = (t.taken x).check14Later x (1024 ≤ r.value || !(targetOf r = 1 || targetOf r = 3 || targetOf r = 4) || (tb r.value 9 && targetOf r ≠ 4)) s.modeBusy
      (if targetOf r = 1 then !s.mayTrack else if targetOf r = 3 then !(s.mode.current = .service && s.pair.ownSelf) else !s.mayGo .service (tb r.value 9))
      (fun w => if targetOf r = 1 then w.goTrack x else (w.accept x r.value).answer x 0) := by
  have hsame := granted_same h
  unfold opServiceRequest
  dsimp only
  rw [granted_req h, modeBusy_congr (s := s) (by simp [hsame]) (by simp [hsame]), mayGo_congr (s := s) (by simp [hsame]) (by simp [hsame]) (by simp [hsame]),
    mayTrack_congr (s := s) (by simp [hsame]) (by simp [hsame]) (by simp [hsame]), show (t.taken x).pair = s.pair by simp [hsame],
    show (t.taken x).mode = s.mode by simp [hsame]]
  rfl

/-- Bits 9 and up of a value below 512 are clear. -/
theorem tb_low {v k : Nat} (hv : v < 512) (hk : 9 ≤ k) : tb v k = false :=
  Nat.testBit_lt_two_pow (hv.trans_le (Nat.pow_le_pow_right (by decide : 0 < 2) hk))

/-- The modes once a two-phase request of no release is accepted. -/
def preparing (s : State) (x : ReplyTo) (target : Mode) (v : Nat) : ModeSt :=
  { s.mode with
    prep := some { target := target, exclude := tb v 8, release := false, session := x.session, since := s.time.mono }
    reqResult := 1, reqUnit := 0, reqReason := 0, reqSeq := s.mode.reqSeq + 1, reqSession := x.session }

/-- An accepted request answers at once and leaves its PREPARE phase open (R28). -/
theorem accept_granted (h : Granted s r 2 t x) (hv : r.value < 512) : (((t.taken x).accept x r.value).answer x 0).mode
    = s.preparing x (modeOf (targetOf r)) r.value := by
  simp [accept, granted_same h, preparing, tb_low hv, targetOf]

theorem opModeRequest_accepted (h : Granted s r 2 t x) (hn : targetOf r = 2 ∨ targetOf r = 3) (hv : r.value < 512) (hb : s.modeBusy = false)
    (ho : s.pair.ownSelf = true) (hg : s.mayGo (modeOf (targetOf r)) false = true) :
    (t.taken x).opModeRequest x = ((t.taken x).accept x r.value).answer x 0 := by
  rw [opModeRequest_taken h, check14Later_granted h (by rcases hn with hn | hn <;> simp [hn, hv]) hb (by simp [ho, hg])]

theorem opServiceRequest_accepted (h : Granted s r 2 t x) (hn : targetOf r = 4 ∧ s.mayGo .service false = true
      ∨ targetOf r = 3 ∧ s.mode.current = .service ∧ s.pair.ownSelf = true) (hv : r.value < 512) (hb : s.modeBusy = false) :
    (t.taken x).opServiceRequest x = ((t.taken x).accept x r.value).answer x 0 := by
  have h9 := tb_low hv (k := 9) (Nat.le_refl 9)
  have hrange : r.value < 1024 := hv.trans (by decide)
  rcases hn with ⟨hn, hg⟩ | ⟨hn, hm, ho⟩
  · rw [opServiceRequest_taken h, check14Later_granted h (by simp [hn, h9, hrange]) hb (by simp [hn, h9, hg]), hn]
    rfl
  · rw [opServiceRequest_taken h, check14Later_granted h (by simp [hn, h9, hrange]) hb (by simp [hn, hm, ho]), hn]
    rfl

/-! ## TRACK at once -/

theorem opServiceRequest_track (h : Granted s r 2 t x) (hn : targetOf r = 1) (hv : r.value < 512) (hb : s.modeBusy = false) (hm : s.mayTrack = true) :
    (t.taken x).opServiceRequest x = (t.taken x).goTrack x := by
  have h9 := tb_low hv (k := 9) (Nat.le_refl 9)
  have hrange : r.value < 1024 := hv.trans (by decide)
  rw [opServiceRequest_taken h, check14Later_granted h (by simp [hn, h9, hrange]) hb (by simp [hn, hm]), hn]
  rfl

theorem mayTrack_standby (h : s.mayTrack = true) : s.pair.ownSelf = false := by
  simp only [mayTrack, Bool.and_eq_true, Bool.not_eq_true'] at h
  exact h.1.1

/-- On a module that does not own, the assertion of reset sends nothing. -/
theorem assertReset_xan (h : u.pair.ownSelf = false) (session : Word) : (u.assertReset session).xan = u.xan := by
  unfold assertReset
  dsimp only
  rw [dropOwn_standby h]
  simp only [Frame.endAllSessions_same]
  split <;> simp

theorem assertReset_reqResult (session : Word) : (u.assertReset session).mode.reqResult = u.mode.reqResult := by
  simp only [assertReset, Frame.endAllSessions_same]
  split
  · simp
  · simp [immediate_mode]

theorem beginResync_mode : u.beginResync.mode = u.mode := mode_of_within (L := [.disp, .drift, .firn, .pair, .moraine]) (by simp) (by simp)

/-! ## PREPARE and COMMIT -/

theorem opPrepareComplete_refused {k : Nat} (hp : s.mode.prep = some p) (hr : s.refusal p = some (k, n)) : s.opPrepareComplete
    = ({ s with mode.prep := none, mode.reqResult := 4, mode.reqUnit := BitVec.ofNat 12 k, mode.reqReason := BitVec.ofNat 8 n } : State).modeRecord 4
        s.mode.current p.target 4 p.session := by
  simp only [opPrepareComplete, hp, hr]

theorem abortBoth_closed (h : u.exchangeOpen = false) (cause : Nat) : u.abortBoth cause = u := by simp [abortBoth, abortable, h]
theorem abortHandover_none (h : u.pair.handover ≠ 1) : u.abortHandover = u := by simp [abortHandover, h]

theorem opPrepareTimeoutEnd_due (hp : s.mode.prep = some p) (h : p.since + s.mode.prepareTimeout.toNat * 1000000 ≤ s.time.mono) :
    s.opPrepareTimeoutEnd = s.abortPrepare 5 := by
  unfold opPrepareTimeoutEnd
  rw [hp, Option.elim_some, decide_eq_true h, if_pos rfl]

theorem opPrepareTimeoutEnd_early (h : s.mode.prep.elim true (fun p => decide (s.time.mono < p.since + s.mode.prepareTimeout.toNat * 1000000)) = true) :
    s.opPrepareTimeoutEnd = s := by
  unfold opPrepareTimeoutEnd
  cases hp : s.mode.prep with
  | none => rw [Option.elim_none, if_neg Bool.false_ne_true]
  | some p =>
    rw [hp, Option.elim_some, decide_eq_true_iff] at h
    rw [Option.elim_some, decide_eq_false (Nat.not_le.mpr h), if_neg Bool.false_ne_true]

/-- The state that commits: the partner told, the excused units noted. -/
def committing (s : State) (p : Prep) : State :=
  { (if s.pair.ownSelf && s.partnerInStep then s.sendSync (.epoch (s.mode.epoch + 1) p.target.code s.time.mono false) else s) with
    mode.excused := s.unitNumbers.filter (fun u => reasonOf (s.reasons p u) = some 1) }

theorem committing_facts (p : Prep) : (∃ e, (s.committing p).mode = { s.mode with excused := e }) ∧ (s.committing p).prog = s.prog
    ∧ (s.committing p).time = s.time ∧ (s.committing p).pair.handover = s.pair.handover := by
  unfold committing
  split
  · simp only [sendSync]
    split <;> simp
  · simp

theorem opPrepareComplete_commits (hp : s.mode.prep = some p) (hr : s.refusal p = none) (he : s.exchangeOpen = false) (hh : s.pair.handover ≠ 1) :
    s.opPrepareComplete = (s.committing p).commitMode p.target p.release p.session := by
  obtain ⟨-, hprog, -, hpair⟩ := committing_facts (s := s) p
  have hopen : (s.committing p).exchangeOpen = false := by rwa [exchangeOpen, hprog]
  have hrun : s.opPrepareComplete = (((s.committing p).abortBoth 5).abortHandover).commitMode p.target p.release p.session := by
    simp only [opPrepareComplete, hp, hr, committing]
  rw [hrun, abortBoth_closed hopen, abortHandover_none (by rwa [hpair])]

/-- The modes at COMMIT (R33, R36). -/
def committed (s : State) (target : Mode) (session : Word) : ModeSt :=
  { s.mode with
    target := target, inTransition := true, epoch := s.mode.epoch + 1, pending := s.taskMask, commitAt := some s.time.mono
    prep := none, reqResult := 2, reqSession := session, leavingSafe := decide (s.mode.current = Mode.safe) }

/-- The transition completed at once (R36). -/
def transitioned (m : ModeSt) : ModeSt :=
  { m with current := m.target, inTransition := false, commitAt := none, reqResult := 3, leavingSafe := false }

theorem completeMode_mode : u.completeMode.mode = transitioned u.mode := by
  unfold completeMode
  dsimp only
  split <;> simp [transitioned]

theorem leaveService_keeps (now : Bool) : (u.leaveService now).mode = u.mode ∧ (u.leaveService now).prog = u.prog ∧ (u.leaveService now).time = u.time := by
  have h : Within [.sess, .disp, .drift, .firn, .guard, .moraine, .draws] u (u.leaveService now) := by simp
  exact ⟨h .mode (by simp), h .prog (by simp), by simp⟩

theorem commitMode_mode (target : Mode) (release : Bool) (session : Word) : (u.commitMode target release session).mode
    = if u.taskMask = 0 then transitioned (u.committed target session) else u.committed target session := by
  have hs0 : ∀ w : State, w = (if u.mode.current = .service ∧ target ≠ .service then u.leaveService false else u) →
      w.mode = u.mode ∧ w.taskMask = u.taskMask ∧ w.time = u.time := by
    rintro w rfl
    split
    · obtain ⟨hm, hp, ht⟩ := leaveService_keeps (u := u) false
      exact ⟨hm, by simp only [taskMask, tasks, image, hp], ht⟩
    · exact ⟨rfl, rfl, rfl⟩
  unfold commitMode
  dsimp only
  generalize hw : (if u.mode.current = .service ∧ target ≠ .service then u.leaveService false else u) = w
  obtain ⟨hm, hmask, ht⟩ := hs0 w hw.symm
  have hdrop : ∀ a : State, (if release then a.dropOwn 2 else a).mode = a.mode := by
    intro a
    split
    · exact dropOwn_mode 2
    · rfl
  have hend : ∀ a : State, (if u.mode.current = .safe then a.gatesChanged else a.redrive).settle.mode = a.mode := by
    intro a
    split <;> simp
  rw [hend]
  simp only [hm, hmask, ht, committed]
  split
  · simp only [completeMode_mode, hdrop, Frame.modeRecord_same]
  · simp only [hdrop, Frame.modeRecord_same]

/-- A request that checks 1 to 13 pass changes the sessions alone. -/
theorem granted_within {op : Nat} (h : Granted s r op t x) : Within [.sess] s t := by
  obtain ⟨-, -, tab, rfl⟩ := judge_passed_state h.passed
  simp

/-- What an accepted request may change (R28). -/
theorem accept_keeps (h : Granted s r 2 t x) (v : Nat) :
    Keeps [.mode, .xan, .moraine, .can, .sess, .disp, .capture, .draws] s (((t.taken x).accept x v).answer x 0) := by
  have hw := (granted_within h).mono (by simp : _ ⊆ [Facet.mode, .xan, .moraine, .can, .sess, .disp, .capture, .draws])
  exact keeps_of_within (by simpa [Part.facet, taken] using hw)

theorem goTrack_linked (hx : x.req.port ≠ 0) (hk : u.pair.linkKept = true) (hup : u.pair.syncUp = true) :
    (u.goTrack x).mode.current = .track ∧ (u.goTrack x).mode.epoch = u.mode.epoch + 1 ∧ (u.goTrack x).mode.reqResult = 3 ∧ Replied (u.goTrack x) x 0 := by
  simp only [goTrack, hk, hup, Bool.and_self, if_true]
  refine ⟨?_, ?_, ?_, answer_replied 0 [] hx (by decide)⟩ <;> simp [beginResync_mode, immediate_mode]

theorem goTrack_lost (hx : x.req.port ≠ 0) (hk : u.pair.linkKept = false) (ho : u.pair.ownSelf = false) :
    (u.goTrack x).mode.current = .cold ∧ (u.goTrack x).mode.inReset = true ∧ (u.goTrack x).mode.reqResult = 3
      ∧ ((u.goTrack x).xan.out.head?.map (·.status)) = some 0 := by
  simp only [goTrack, hk, Bool.false_and, Bool.false_eq_true, if_false]
  generalize hw : (answer _ x 0) = w
  have hown : w.pair.ownSelf = false := by simp [← hw, ho]
  obtain ⟨-, hreset, -, hcold, -⟩ := assertReset_inReset (u := w) x.session
  refine ⟨hcold, hreset, ?_, ?_⟩
  · rw [assertReset_reqResult]; simp [← hw]
  · rw [assertReset_xan hown, ← hw, answer_out _ _ hx]
    rfl

end State

open State

/-- Settles O10, clause by clause. -/
theorem modesArePreparedAndCommitted : Obligations.ModesArePreparedAndCommitted := by
  unfold Obligations.ModesArePreparedAndCommitted
  refine ⟨?_, ?_, ?_, ?_, ?_, ?_, ?_, ?_, ?_, ?_, ?_, ?_, ?_, ?_, ?_, ?_, ?_⟩
  · intro s r t x h hi hsub hn hv hb ho hg
    refine ⟨_, row_granted_of h rfl (by rw [hi]; rfl) (by rw [hsub]; rfl) (decide_eq_true hn), ?_⟩
    rw [opModeRequest_accepted h (.inl hn) hv hb ho (by rw [hn]; exact hg)]
    exact ⟨by rw [accept_granted h hv, hn]; rfl, accept_keeps h _, granted_replied h (by decide)⟩
  · intro s r t x h hi hsub hn hv hb ho hg
    refine ⟨_, row_granted_of h rfl (by rw [hi]; rfl) (by rw [hsub]; rfl) (decide_eq_true hn), ?_⟩
    rw [opModeRequest_accepted h (.inr hn) hv hb ho (by rw [hn]; exact hg)]
    exact ⟨by rw [accept_granted h hv, hn]; rfl, accept_keeps h _, granted_replied h (by decide)⟩
  · intro s r t x h hi hsub hn hv hb hg
    refine ⟨_, row_granted_of h rfl (by rw [hi]; rfl) (by rw [hsub]; rfl) (decide_eq_true hn), ?_⟩
    rw [opServiceRequest_accepted h (.inl ⟨hn, hg⟩) hv hb]
    exact ⟨by rw [accept_granted h hv, hn]; rfl, accept_keeps h _, granted_replied h (by decide)⟩
  · intro s r t x h hi hsub hn hv hb hm ho
    refine ⟨_, row_granted_of h rfl (by rw [hi]; rfl) (by rw [hsub]; rfl) (decide_eq_true hn), ?_⟩
    rw [opServiceRequest_accepted h (.inr ⟨hn, hm, ho⟩) hv hb]
    exact ⟨by rw [accept_granted h hv, hn]; rfl, accept_keeps h _, granted_replied h (by decide)⟩
  · intro s r t x h hi hsub hn hv hb hm
    refine ⟨_, row_granted_of h rfl (by rw [hi]; rfl) (by rw [hsub]; rfl) (decide_eq_true hn), ?_⟩
    rw [opModeRequest_taken h, check14Later_conflict (Granted_port h) (by simp [hn, hv]) hb (by rw [hn]; simp [modeOf, mayGo, hm])]
    exact ⟨by simp [granted_same h], granted_conflict h⟩
  · intro s r t x h hi hsub hn hv hb hg
    refine ⟨_, row_granted_of h rfl (by rw [hi]; rfl) (by rw [hsub]; rfl) (decide_eq_true hn), ?_⟩
    rw [opModeRequest_taken h, check14Later_conflict (Granted_port h) (by simp [hn, hv]) hb (by rw [hn]; exact congrArg (!·) hg)]
    exact ⟨by simp [granted_same h], granted_conflict h⟩
  · intro s r t x h hi hsub hn hv hb
    refine ⟨_, row_granted_of h rfl (by rw [hi]; rfl) (by rw [hsub]; rfl) (decide_eq_true hn), ?_⟩
    rw [opModeRequest_taken h, check14Later_busy (Granted_port h) (by simp [hn, hv]) hb]
    exact ⟨by simp [granted_same h], granted_replied h (by decide)⟩
  · intro s r t x h hi hsub hn hv
    refine ⟨_, row_granted_of h rfl (by rw [hi]; rfl) (by rw [hsub]; rfl) (decide_eq_true hn), ?_⟩
    rw [opModeRequest_taken h, check14Later_range (Granted_port h) (by simp [hv])]
    exact ⟨by simp [granted_same h], granted_replied h (by decide)⟩
  · intro s r t x h hi hsub hn hv hb hm hk hup
    refine ⟨_, row_granted_of h rfl (by rw [hi]; rfl) (by rw [hsub]; rfl) (decide_eq_true hn), ?_⟩
    rw [opServiceRequest_track h hn hv hb hm]
    have hgo := goTrack_linked (u := t.taken x) (Granted_port h) (by simpa [granted_same h] using hk) (by simpa [granted_same h] using hup)
    rwa [show (t.taken x).mode = s.mode by simp [granted_same h]] at hgo
  · intro s r t x h hi hsub hn hv hb hm hk
    refine ⟨_, row_granted_of h rfl (by rw [hi]; rfl) (by rw [hsub]; rfl) (decide_eq_true hn), ?_⟩
    rw [opServiceRequest_track h hn hv hb hm]
    exact goTrack_lost (Granted_port h) (by simpa [granted_same h] using hk) (by simpa [granted_same h] using mayTrack_standby hm)
  · intro s r t x h hi hsub hn hv hb hm
    refine ⟨_, row_granted_of h rfl (by rw [hi]; rfl) (by rw [hsub]; rfl) (decide_eq_true hn), ?_⟩
    rw [opServiceRequest_taken h, check14Later_conflict (Granted_port h) (by simp [hn, tb_low hv, hv.trans (by decide : 512 < 1024)]) hb (by simp [hn, hm])]
    exact ⟨by simp [granted_same h], granted_conflict h⟩
  · intro s p k n hp hr
    refine ⟨_, rfl, ?_⟩
    rw [opPrepareComplete_refused hp hr]
    exact ⟨by simp, keeps_of_within (by simp [Part.facet])⟩
  · intro s p hp hr he hh hmask
    obtain ⟨⟨e, hmode⟩, hprog, htime, -⟩ := committing_facts (s := s) p
    have hsame : (s.committing p).taskMask = s.taskMask := by simp only [taskMask, tasks, image, hprog]
    refine ⟨_, rfl, ?_⟩
    rw [opPrepareComplete_commits hp hr he hh]
    beta_reduce
    rw [commitMode_mode, if_neg (by rwa [hsame])]
    simp [committed, hmode, hsame, htime]
  · intro s p hp hr he hh hmask
    obtain ⟨⟨e, hmode⟩, hprog, htime, -⟩ := committing_facts (s := s) p
    have hsame : (s.committing p).taskMask = s.taskMask := by simp only [taskMask, tasks, image, hprog]
    refine ⟨_, rfl, ?_⟩
    rw [opPrepareComplete_commits hp hr he hh]
    beta_reduce
    rw [commitMode_mode, if_pos (by rwa [hsame])]
    simp [transitioned, committed, hmode]
  · intro s hp
    exact ⟨s.opPrepareComplete, rfl, by simp only [opPrepareComplete, hp]⟩
  · intro s p hp ht
    refine ⟨s.opPrepareTimeoutEnd, rfl, ?_, exec_keeps (c := .prepareTimeout) rfl (by simp [touched])⟩
    rw [opPrepareTimeoutEnd_due hp ht]
    simp [abortPrepare, hp]
  · intro s hp
    exact ⟨s.opPrepareTimeoutEnd, rfl, opPrepareTimeoutEnd_early hp⟩

end Sys2Proof.Machine
end

section
/-! PROOF. Passes (O12). -/
namespace Sys2Proof.Machine

/-! ## Two releases under one task number (O12) -/

/-- Pass A of task 0 on core 0, its stash area faulted. -/
def runningPassA : Release := { instant := 0, core := 0, pass := 1, running := true, waiting := true }

/-- A task table that lists task 0 twice: pass A of one release runs, the other release waits in the queue of the same core. -/
def taskListedTwice : State :=
  { State.reset with
    disp := { State.reset.disp with tasks := [(0, { release := some runningPassA }), (0, { release := some { instant := 0, core := 0 } })] }
    firn := { State.reset.firn with areas := [(0, { faulted := true })] } }

/-- Refutes O12: clause (1) asks for no task table with one entry per task. At the end of pass A the core takes up the second release of the task,
whose start clears the areas that the ended pass has just left. -/
theorem not_passesRunInOrder : ¬ Obligations.PassesRunInOrder := by
  rintro ⟨hpass, -⟩
  obtain ⟨u, hu, -, harea, -⟩ := hpass taskListedTwice 0 0 runningPassA [] 0 0 rfl rfl rfl rfl rfl (by decide) (by decide)
  obtain rfl : taskListedTwice.opPassEnd 0 [] 0 0 = u := Host.Outcome.next.inj hu
  exact absurd (congrArg Area.faulted harea) (by decide +kernel)

end Sys2Proof.Machine
end

section
/-! PROOF. Votes and commits (O13). -/
namespace Sys2Proof.Machine

/-! ## A delta that waits for a vote (O13) -/

/-- A release whose three passes have ended. -/
def endedRelease : Release := { instant := 0, core := 0, pass := 3, voting := true }

/-- Task 0 votes while a received delta of task 1, which waits for nothing, stands in the buffer. -/
def deltaBeforeVote : State :=
  { State.reset with
    disp := { State.reset.disp with tasks := [(0, { release := some endedRelease })] }
    pair := { State.reset.pair with received := [{ task := 1, instant := 0, writes := [{ kind := 0, target := 5, type := 2, value := 7 }] }] } }

/-- Refutes O13: clause (1) leaves the received deltas open. The end of the vote applies the delta of another task, and its write enters State A. -/
theorem not_votesAndCommits : ¬ Obligations.VotesAndCommits := by
  rintro ⟨hvote, -⟩
  obtain ⟨u, hu, -, -, -, hstate⟩ := hvote deltaBeforeVote 0 endedRelease rfl rfl rfl (by decide) (by decide) (by decide +kernel) (by decide)
  obtain rfl : ((deltaBeforeVote.opVoteEnd 0).applyReceived).settle = u := Host.Outcome.next.inj hu
  exact absurd hstate (by decide +kernel)

end Sys2Proof.Machine
end

section
/-! PROOF. Interrupt queues (O14). -/
namespace Sys2Proof.Machine

theorem get_mapTab {α β : Type} (d : α) (e : β) (f : Nat → α → β) (hd : ∀ k, f k d = e) (t : Tab α) (k : Nat) :
    get e (mapTab t f) k = f k (get d t k) := by
  induction t with
  | nil => exact (hd k).symm
  | cons x t ih =>
    simp only [mapTab, List.map_cons, get] at ih ⊢
    split
    · next h => rw [h]
    · exact ih

namespace State
variable {s u : State} {n k c : Nat}

/-! ## Interrupt queues -/

theorem produce_free {entry : List Word} (h : ((get ({} : IntQ) s.disp.queues n).producer + 1) % 128 ≠ (get ({} : IntQ) s.disp.queues n).consumer % 128) :
    s.produce n entry = { s with disp.queues := put s.disp.queues n { get ({} : IntQ) s.disp.queues n with
      producer := ((get ({} : IntQ) s.disp.queues n).producer + 1) % 128
      ring := put (get ({} : IntQ) s.disp.queues n).ring ((get ({} : IntQ) s.disp.queues n).producer % 128) entry
      times := put (get ({} : IntQ) s.disp.queues n).times ((get ({} : IntQ) s.disp.queues n).producer % 128) s.time.mono } } := if_neg h

theorem produce_full {entry : List Word} (h : ((get ({} : IntQ) s.disp.queues n).producer + 1) % 128 = (get ({} : IntQ) s.disp.queues n).consumer % 128) :
    s.produce n entry = ({ s with disp.queues := put s.disp.queues n { get ({} : IntQ) s.disp.queues n with overflow := true } } : State).trigger 0x067 [n] :=
  if_pos h

theorem opProduce_eq {entry : List Word} (hn : n < 256) (he : entry.length ≤ 4) : s.opProduce n entry = s.produce n entry := if_neg (by omega)

/-- A message waits at its core, whose clocks run (R184). -/
theorem message_messages (q : Nat) : (get ({} : CoreSt) (s.message c q).disp.cores c).messages = (get ({} : CoreSt) s.disp.cores c).messages ++ [q] := by
  simp [message, upd]

theorem gated_message (q : Nat) : (s.message c q).gated c = false := by
  simp [gated, message_messages]

/-- What a notification leaves: the message at the delivery core, outstanding (R184). -/
theorem notify_facts (n : Nat) : (get ({} : IntQ) (s.notify n).disp.queues n).outstanding = true
    ∧ (get ({} : IntQ) (s.notify n).disp.queues n).lastCore = some (s.deliveryCore (get ({} : IntQ) s.disp.queues n))
    ∧ n ∈ (get ({} : CoreSt) (s.notify n).disp.cores (s.deliveryCore (get ({} : IntQ) s.disp.queues n))).messages
    ∧ (s.notify n).gated (s.deliveryCore (get ({} : IntQ) s.disp.queues n)) = false ∧ Keeps [.disp] s (s.notify n) := by
  refine ⟨by simp [notify, message], by simp [notify, message], ?_, gated_message n, keeps_of_within (by simp [Part.facet])⟩
  simp only [notify, message_messages]
  simp

/-- Once CONSUMER stands at PRODUCER the queue is empty, and nothing is notified (R185). -/
theorem opConsume_producer (hn : n < 256) (hk : k < 128) (h : (get ({} : IntQ) s.disp.queues n).producer = k) :
    s.opConsume n k = { s with
      disp.queues := put s.disp.queues n { get ({} : IntQ) s.disp.queues n with consumer := k, outstanding := false }
      disp.cores := mapTab s.disp.cores (fun _ (x : CoreSt) => { x with messages := x.messages.filter (· ≠ n) }) } := by
  unfold opConsume
  rw [if_neg (by omega)]
  dsimp only
  generalize get ({} : IntQ) s.disp.queues n = q at h
  exact if_neg (by simp [mayNotify, h])

end State

open State

/-- Settles O14, clause by clause. -/
theorem interruptQueues : Obligations.InterruptQueues := by
  unfold Obligations.InterruptQueues
  refine ⟨?_, ?_, ?_, ?_, ?_, ?_, ?_⟩
  · intro s n entry hn he hfree
    refine ⟨s.opProduce n entry, rfl, ?_⟩
    rw [opProduce_eq hn he, produce_free hfree]
    exact ⟨by simp, by simp, by simp, by simp, fun m hm => by simp [get_put_ne _ _ _ _ _ hm], keeps_of_within (by simp [Part.facet])⟩
  · intro s n entry hn he hfull
    refine ⟨s.opProduce n entry, rfl, ?_⟩
    rw [opProduce_eq hn he, produce_full hfull]
    exact ⟨by simp, keeps_of_within (by simp [Part.facet])⟩
  · intro s n hmay hcount
    refine ⟨s.opNotify' n, rfl, ?_⟩
    rw [show s.opNotify' n = s.notify n from if_pos (by rw [hmay, hcount]; rfl)]
    exact notify_facts n
  · intro s n hno
    exact ⟨s.opNotify' n, rfl, by simp only [opNotify', hno, Bool.false_eq_true, if_false]⟩
  · intro s n hmay htime
    refine ⟨s.opCoalesce n, rfl, ?_⟩
    rw [show s.opCoalesce n = s.notify n from if_pos (by rw [hmay, htime]; rfl)]
    obtain ⟨hout, -, hmem, -, hkeeps⟩ := notify_facts (s := s) n
    exact ⟨hout, hmem, hkeeps⟩
  · intro s n hno
    exact ⟨s.opCoalesce n, rfl, by simp only [opCoalesce, hno, Bool.false_eq_true, if_false]⟩
  · intro s n k hn hk hp
    refine ⟨s.opConsume n k, rfl, ?_⟩
    rw [opConsume_producer hn hk hp]
    refine ⟨by simp, fun c => ?_, rfl, keeps_of_within (by simp [Part.facet])⟩
    rw [get_mapTab (d := {}) _ _ (fun _ => rfl)]
    simp

end Sys2Proof.Machine
end

section
/-! PROOF. Checkpoints and statistics (O16). -/
namespace Sys2Proof.Machine

namespace State
variable {s t u : State} {r : Req} {x : ReplyTo} {c : Ckpt} {d e : Nat}

/-! ## Checkpoints -/

theorem opCkptTick_due {i : Image} (h : s.drift.ckptLast / 10000000000 < s.time.mono / 10000000000) (ho : s.pair.ownSelf = true)
    (hb : s.drift.ckptBusy = none) (hi : s.image = some i) : s.opCkptTick = { s with
      drift.ckptLast := s.time.mono
      drift.checkpoints := s.drift.checkpoints.filter (fun c => c.area ≠ 1 - s.drift.checkpoints.head?.elim 1 (·.area))
      drift.ckptBusy := some {
        sequence := s.drift.ckptSequence.toNat + 1, hash := i.hash, forces := (s.sig.entries.filter (fun e => e.2.forced)).length
        area := 1 - s.drift.checkpoints.head?.elim 1 (·.area) } } := by
  have hdue : ¬ (s.time.mono / 10000000000 ≤ s.drift.ckptLast / 10000000000 ∨ !s.takesCkpt) := by
    rw [show s.takesCkpt = true by simp [takesCkpt, ho]]
    exact not_or.mpr ⟨Nat.not_le.mpr h, Bool.false_ne_true⟩
  unfold opCkptTick
  rw [if_neg hdue]
  have himage : ({ s with drift.ckptLast := s.time.mono } : State).image = some i := hi
  unfold beginCkpt
  rw [if_neg (by rw [himage]; simp [hb]), himage]
  rfl

/-- The words of a task enter the checkpoint being written, whose name, image and place they leave. -/
theorem captureTask_busy (k : Nat) (hb : s.drift.ckptBusy = some c) : ∃ c', (s.captureTask k) = { s with drift.ckptBusy := some c' }
    ∧ c'.sequence = c.sequence ∧ c'.hash = c.hash ∧ c'.area = c.area := by
  simp only [captureTask, hb]
  split
  · refine ⟨c, ?_, rfl, rfl, rfl⟩
    rw [← hb]
  · exact ⟨_, rfl, rfl, rfl, rfl⟩

theorem captureTasks_busy (l : List Nat) (hb : s.drift.ckptBusy = some c) : ∃ c', l.foldl captureTask s = { s with drift.ckptBusy := some c' }
    ∧ c'.sequence = c.sequence ∧ c'.hash = c.hash ∧ c'.area = c.area := by
  induction l generalizing s c with
  | nil => exact ⟨c, by rw [← hb]; rfl, rfl, rfl, rfl⟩
  | cons k l ih =>
    obtain ⟨c1, h1, hseq1, hhash1, harea1⟩ := captureTask_busy k hb
    obtain ⟨c2, h2, hseq2, hhash2, harea2⟩ := ih (s := s.captureTask k) (c := c1) (by rw [h1])
    refine ⟨c2, ?_, hseq2.trans hseq1, hhash2.trans hhash1, harea2.trans harea1⟩
    rw [List.foldl_cons, h2, h1]

theorem opCkptComplete_taken (hb : s.drift.ckptBusy = some c) : ∃ c' : Ckpt, c'.sequence = c.sequence ∧ c'.hash = c.hash ∧ c'.area = c.area
    ∧ s.opCkptComplete true true = ({ s with
        drift.flashFailed := s.drift.flashFailed ||| BitVec.ofNat 2 (bit (!true) 0 + bit (!true) 1)
        drift.ckptBusy := none, drift.checkpoints := { c' with on1 := true, on2 := true } :: s.drift.checkpoints.filter (fun y => y.area ≠ c'.area)
        drift.ckptSequence := BitVec.ofNat 64 c'.sequence, drift.ckptTime := s.time.mono } : State).trigger 0x073
          [c'.sequence % 2 ^ 32, c'.sequence / 2 ^ 32, bit true 0 + bit true 1] := by
  obtain ⟨c', hfold, hseq, hhash, harea⟩ := captureTasks_busy (s.tasks.map (·.task)) hb
  refine ⟨c', hseq, hhash, harea, ?_⟩
  simp only [opCkptComplete, hb, hfold, flashResult, Option.isNone_some, Bool.false_eq_true, ↓reduceIte, Bool.or_true, Bool.not_true]

theorem rise_det_ne (h : e ≠ d) (n : Nat) : (u.rise d n).det e = u.det e := by
  unfold rise
  split
  · rfl
  · exact occurBy_det_ne h _ _

/-- The outcome of a flash write is noted, whatever it raises. -/
theorem flashResult_drift (ok1 ok2 : Bool) :
    (u.flashResult ok1 ok2).drift = { u.drift with flashFailed := u.drift.flashFailed ||| BitVec.ofNat 2 (bit (!ok1) 0 + bit (!ok2) 1) } := by
  have hrise : ∀ (v : State) (d n : Nat) (a : DetAttr), detAttr d = some a → a.cls < 2 → (v.rise d n).drift = v.drift :=
    fun v d n a ha hc => drift_of_within (rise_mild_within ha hc n) (by simp)
  have h74 := fun v => hrise v 74 0 _ rfl (by decide)
  have h75 := fun v => hrise v 75 0 _ rfl (by decide)
  unfold flashResult
  dsimp only
  split <;> split <;> simp only [h74, h75]

theorem flashResult_det (h1 : e ≠ 74) (h2 : e ≠ 75) (ok1 ok2 : Bool) : (u.flashResult ok1 ok2).det e = u.det e := by
  unfold flashResult
  dsimp only
  split <;> split
  · rfl
  · exact rise_det_ne h1 0
  · exact rise_det_ne h2 0
  · exact (rise_det_ne h2 0).trans (rise_det_ne h1 0)

/-- A checkpoint that no device took: both devices' failures, then D076 (R216). -/
theorem opCkptComplete_failed (hb : s.drift.ckptBusy = some c) : ∃ w : State, s.opCkptComplete false false = (w.occurOpen 76).settle
    ∧ w.drift = { s.drift with ckptBusy := none, flashFailed := s.drift.flashFailed ||| 3 } ∧ w.det 76 = s.det 76 := by
  obtain ⟨c', hfold, -, -, -⟩ := captureTasks_busy (s.tasks.map (·.task)) hb
  generalize hv : (s.tasks.map (·.task)).foldl captureTask s = v at hfold
  have hdrift := flashResult_drift (u := v) false false
  have hdet := flashResult_det (u := v) (e := 76) (by decide) (by decide) false false
  refine ⟨{ v.flashResult false false with drift.ckptBusy := none }, ?_, ?_, hdet.trans (by rw [hfold]; rfl)⟩
  · have hbusy : (v.flashResult false false).drift.ckptBusy = some c' := by rw [hdrift, hfold]
    simp only [opCkptComplete, hb, hv, hbusy, Option.isNone_some, Bool.false_eq_true, ↓reduceIte, Bool.or_self]
  · show ({ (v.flashResult false false).drift with ckptBusy := none } : DriftSt) = _
    rw [hdrift, hfold]
    rfl

/-! ## CHECKPOINT_WAIVE -/

theorem arbitrate_keeps : u.arbitrate.drift = u.drift ∧ u.arbitrate.time = u.time ∧ u.arbitrate.hub = u.hub ∧ u.arbitrate.xan = u.xan := by
  have h : Within [.pair] u u.arbitrate := by simp
  exact ⟨h .drift (by simp), h .time (by simp), h .hub (by simp), h .xan (by simp)⟩

/-- CHECKPOINT_WAIVE has been given (R218). -/
def waivedNow (s : State) : State := { s with drift.noCheckpoint := false, drift.waived := true }

theorem opWaived_granted (h : Granted s r 2 t x) (hv : r.value = 1) (hno : t.drift.noCheckpoint = true) : (t.taken x).opWaived x
    = if t.drift.waived = true then (waivedNow (t.taken x)).answer x 0 else (((waivedNow (t.taken x)).answer x 0).sendSync .hello).arbitrate := by
  have hrun : (t.taken x).opWaive x = (waivedNow (t.taken x)).answer x 0 := by
    unfold opWaive
    rw [check14_granted h (by simp [granted_req h, hv]) rfl (by simp [hno])]
    rfl
  have hafter : ((waivedNow (t.taken x)).answer x 0).drift.waived = true := by simp [waivedNow]
  have hbefore : (t.taken x).drift.waived = t.drift.waived := by simp
  unfold opWaived
  dsimp only
  rw [hrun, hafter, hbefore]
  cases t.drift.waived <;> rfl

theorem opWaived_refused (h : Granted s r 2 t x) (hv : r.value = 1) (hno : t.drift.noCheckpoint = false) :
    (t.taken x).opWaived x = (t.taken x).answer x 9 := by
  have hrun : (t.taken x).opWaive x = (t.taken x).answer x 9 := by
    unfold opWaive
    exact check14_conflict (Granted_port h) (by simp [granted_req h, hv]) rfl (by simp [hno])
  unfold opWaived
  rw [hrun]
  simp

/-- What a granted write may change: the session's counter and what its operation changes. -/
theorem granted_keeps {l : List Part} {op : Nat} (h : Granted s r op t x) (hl : .sess ∈ l) (hw : Within (l.map Part.facet) t u) : Keeps l s u :=
  keeps_of_within (((granted_within h).mono (fun _ hf => List.mem_map.mpr ⟨.sess, hl, (List.mem_singleton.mp hf).symm⟩)).trans hw)

theorem task_of_tasks (h : t.disp.tasks = s.disp.tasks) (k : Nat) : t.task k = s.task k := by rw [task, task, h]

theorem firnTask_reset (h : u.firn.tasks = mapTab s.firn.tasks (fun _ f => { f with outcomes := [], bgCycles := 0, bgDivergences := 0 })) (k : Nat) :
    u.firnTask k = { s.firnTask k with outcomes := [], bgCycles := 0, bgDivergences := 0 } := by
  rw [firnTask, h, get_mapTab (d := ({} : FirnTask)) _ _ (fun _ => rfl)]
  rfl

end State
open State

/-- Settles O16, clause by clause. -/
theorem statisticsAndCheckpoints : Obligations.StatisticsAndCheckpoints := by
  unfold Obligations.StatisticsAndCheckpoints
  refine ⟨?_, ?_, ?_, ?_, ?_, ?_, ?_, ?_, ?_, ?_⟩
  · intro s i hlast ho hb hi
    refine ⟨s.opCkptTick, rfl, ?_⟩
    rw [opCkptTick_due hlast ho hb hi]
    exact ⟨rfl, rfl, keeps_of_within (by simp [Part.facet])⟩
  · intro s hlast
    refine ⟨s.opCkptTick, rfl, ?_⟩
    unfold opCkptTick
    rw [if_pos (.inl hlast)]
  · intro s c hb
    obtain ⟨c', hseq, hhash, harea, hrun⟩ := opCkptComplete_taken hb
    refine ⟨s.opCkptComplete true true, rfl, ?_⟩
    rw [hrun]
    simp [hseq, hhash, harea]
  · intro s c hb
    obtain ⟨w, hrun, hdrift, hdet⟩ := opCkptComplete_failed hb
    have hend : ((w.occurOpen 76).settle).drift = w.drift := by
      rw [show ((w.occurOpen 76).settle).drift = (w.occurOpen 76).drift by simp]
      exact drift_of_within (occurOpen_mild_within (d := 76) rfl (by decide)) (by simp)
    refine ⟨s.opCkptComplete false false, rfl, ?_⟩
    rw [hrun]
    refine ⟨by rw [hend, hdrift], by rw [hend, hdrift], by rw [hend, hdrift], ?_, by rw [settle_det, occurOpen_count rfl, hdet]⟩
    rw [hend, hdrift]
    show s.drift.flashFailed ||| 3 = 3
    generalize s.drift.flashFailed = f
    decide +revert
  · intro s a b hb
    exact ⟨s.opCkptComplete a b, rfl, by simp [opCkptComplete, hb]⟩
  · intro s r t x h hi hsub hv hno
    refine ⟨_, row_granted h rfl (by rw [hi]; rfl) (by rw [hsub]; rfl), ?_⟩
    have hsame := granted_same h
    rw [opWaived_granted h hv (by simpa [hsame] using hno)]
    split
    · exact ⟨by simp [waivedNow, hsame], by simp [waivedNow, hsame], by simp [waivedNow, hsame], granted_replied h (by decide)⟩
    · obtain ⟨hdrift, htime, hhub, hxan⟩ := arbitrate_keeps (u := ((waivedNow (t.taken x)).answer x 0).sendSync .hello)
      refine ⟨by rw [hdrift]; simp [waivedNow, hsame], by rw [htime]; simp [waivedNow, hsame], by rw [hhub]; simp [waivedNow, hsame], ?_⟩
      have hreplied := granted_replied (u := waivedNow (t.taken x)) h (status := 0) (by decide)
      rwa [Replied, Sent, hxan, show (((waivedNow (t.taken x)).answer x 0).sendSync .hello).xan = ((waivedNow (t.taken x)).answer x 0).xan by simp]
  · intro s r t x h hi hsub hv hno
    refine ⟨_, row_granted h rfl (by rw [hi]; rfl) (by rw [hsub]; rfl), ?_⟩
    have hsame := granted_same h
    rw [opWaived_refused h hv (by simpa [hsame] using hno)]
    refine ⟨?_, by simp [hsame], by simp [hsame]⟩
    rw [answer_out _ _ (Granted_port h)]
    rfl
  · intro s r t x h hsub hlo hhi hv
    refine ⟨(t.taken x).opStatsReset x, ?_, ?_⟩
    · show (Host.Outcome.next (if _ then _ else _) : Host.Outcome State Fault Refusal) = _
      rw [if_pos ⟨hlo, hhi, hsub⟩, forwarded_taken h rfl]
    · have hsame := granted_same h
      have hx := granted_req h
      have htask : ∀ (w : State) k, (w.answer x 0).task k = w.task k := fun w k => task_of_tasks (by simp) k
      have hstate : ∀ k, (t.taken x).task k = s.task k := task_of_tasks (by simp [hsame])
      unfold opStatsReset
      rw [check14_granted h (by simp [hx, hv]) rfl rfl]
      refine ⟨?_, fun k hk => ?_, ?_, granted_replied h (by decide)⟩
      · rw [htask, hx, setTask_task_self, hstate]
      · rw [htask, hx, setTask_task, if_neg hk, hstate]
      · exact granted_keeps h (by simp) (by simp [Part.facet, taken])
  · intro s r t x h hi hsub hv
    refine ⟨_, row_granted h rfl (by rw [hi]; rfl) (by rw [hsub]; rfl), ?_⟩
    have hsame := granted_same h
    unfold opDriftReset
    rw [check14_granted h (by simp [granted_req h, hv]) rfl rfl]
    exact ⟨by simp [hsame], granted_keeps h (by simp) (by simp [Part.facet, taken]), granted_replied h (by decide)⟩
  · intro s r t x h hi hsub hv
    refine ⟨_, row_granted h rfl (by rw [hi]; rfl) (by rw [hsub]; rfl), ?_⟩
    have hsame := granted_same h
    unfold opFirnReset
    rw [check14_granted h (by simp [granted_req h, hv]) rfl rfl]
    refine ⟨by simp, by simp, fun k => ?_, by simp [hsame], granted_keeps h (by simp) (by simp [Part.facet, taken]), granted_replied h (by decide)⟩
    rw [firnTask_reset (s := s) (by simp [hsame]) k]
    exact ⟨rfl, rfl, rfl, rfl⟩

end Sys2Proof.Machine
end

section
/-! PROOF. Life-cycle changes and the wipe (O17). -/
namespace Sys2Proof.Machine

namespace State
variable {s t u v : State} {x : ReplyTo} {f : Fwd} {l : Life} {secret : BitVec 4096}

/-! ## The wipe (R53, R54) -/

@[simp] theorem trigger_ring (code : Nat) (words : List Nat) (unit : Nat) : (u.trigger code words unit).moraine.ring = u.moraine.ring := by
  unfold trigger triggerFrom; dsimp only; split <;> rfl
@[simp] theorem trigger_store (code : Nat) (words : List Nat) (unit : Nat) : (u.trigger code words unit).moraine.store = u.moraine.store := by
  unfold trigger triggerFrom; dsimp only; split <;> rfl

/-- A log entry leaves Moraine's rings and everything but Sedge and Moraine. -/
theorem logEntry_eq (kind subject a b c : Nat) : ∃ m e, u.logEntry kind subject a b c = { u with moraine := m, sedge := e }
    ∧ m.ring = u.moraine.ring ∧ m.store = u.moraine.store ∧ e.floor = u.sedge.floor := by
  refine ⟨(u.logEntry kind subject a b c).moraine, (u.logEntry kind subject a b c).sedge, ?_, ?_, ?_, ?_⟩
  · simp only [logEntry]
    rw [trigger_eq]
  · simp [logEntry]
  · simp [logEntry]
  · simp [logEntry]

/-- What the wiping steps leave: the stores empty, their LIFECYCLE entries in the log. -/
theorem wipe_eq : ∃ m e, u.wipe = { u.clearStores with mode.wipeStep := 5, moraine := m, sedge := e } ∧ m.ring = [] ∧ m.store = [] := by
  obtain ⟨m2, e2, h2, hr2, hs2, -⟩ := logEntry_eq (u := { u.clearStores with mode.wipeStep := 5 }) 5 (u.mode.lifePending.elim 0 (·.code)) 2 0 0
  obtain ⟨m3, e3, h3, hr3, hs3, -⟩ := logEntry_eq (u := { u.clearStores with mode.wipeStep := 5, moraine := m2, sedge := e2 }) 5 (u.mode.lifePending.elim 0 (·.code)) 3 0 0
  obtain ⟨m4, e4, h4, hr4, hs4, -⟩ := logEntry_eq (u := { u.clearStores with mode.wipeStep := 5, moraine := m3, sedge := e3 }) 5 (u.mode.lifePending.elim 0 (·.code)) 4 0 0
  obtain ⟨m5, e5, h5, hr5, hs5, -⟩ := logEntry_eq (u := { u.clearStores with mode.wipeStep := 5, moraine := m4, sedge := e4 }) 5 (u.mode.lifePending.elim 0 (·.code)) 5 0 0
  refine ⟨m5, e5, ?_, ?_, ?_⟩
  · simp only [wipe, List.foldl, h2, h3, h4, h5]
  · rw [hr5, hr4, hr3, hr2]; rfl
  · rw [hs5, hs4, hs3, hs2]; rfl

/-- For RETIRED alone the key store goes first; the mode, the table of sessions and the replies stand. -/
theorem zeroise_facts : (∃ k, u.zeroise.mode = { u.mode with wipeStep := k }) ∧ u.zeroise.sess.table = u.sess.table ∧ u.zeroise.xan.out = u.xan.out
    ∧ (u.mode.lifePending = some .retired → u.zeroise.sess.ks = {}) := by
  unfold zeroise
  split
  · exact ⟨⟨1, by simp [emptyStage]⟩, by simp [emptyStage], by simp [emptyStage, replaced], fun _ => by simp [emptyStage]⟩
  · next h => exact ⟨⟨_, rfl⟩, rfl, rfl, fun hr => absurd hr h⟩

/-! ## An accepted change -/

theorem provision_facts : (u.provision secret).mode = u.mode ∧ (u.provision secret).pair = u.pair ∧ (u.provision secret).xan.out = u.xan.out := by
  unfold provision
  split
  · simp [reseal, replaced]
  · simp

/-- A standby that enters COLD at once sends no reply. -/
theorem immediate_xan (m : Mode) (session : Word) : (u.immediate m session).xan = u.xan :=
  (show Within [.mode, .sess, .sig, .disp, .drift, .firn, .pair, .hub, .guard, .moraine, .link, .can, .field, .draws] u (u.immediate m session) by simp) .xan (by simp)

/-- The state in which the wipe of an accepted change begins (R47, R53). -/
theorem beginLife_cold (target : Life) (ho : u.pair.ownSelf = false) : ∃ w : State, u.beginLife x target secret = w.endAllSessions.startWipe
    ∧ w.mode.current = .cold ∧ w.mode.life = u.mode.life ∧ w.mode.lifePending = some target ∧ w.xan.out = (u.answer x 0).xan.out := by
  obtain ⟨hmode, hpair, hout⟩ := provision_facts (u := { u.answer x 0 with mode.lifePending := some target }) (secret := secret)
  generalize hw : ({ u.answer x 0 with mode.lifePending := some target } : State).provision secret = w at hmode hpair hout
  refine ⟨if w.mode.current = .cold then w else (w.dropOwn 1).immediate .cold x.session, by simp only [beginLife, hw], ?_⟩
  have hown : w.pair.ownSelf = false := by rw [hpair]; simpa using ho
  rw [dropOwn_standby hown]
  split
  · next hcold => exact ⟨hcold, by rw [hmode]; simp, by rw [hmode], hout⟩
  · refine ⟨by rw [immediate_mode], ?_, ?_, by rw [immediate_xan, hout]⟩
    · rw [immediate_mode]; simp [hmode]
    · rw [immediate_mode]; simp [hmode]

/-! ## Check 14 of LIFECYCLE_REQUEST -/

theorem check14Later_signed {i : Nat} {range busy conflict : Bool} {g : State → State} (h : Signed s i f t) (hr : range = false) (hb : busy = false)
    (hc : conflict = false) : t.check14Later (replyOf f) range busy conflict g = g t := by
  subst hr hb hc
  simp [check14Later, h.session, h.mode]

theorem lifecycle_accepted (h : Signed s 0x1101 f t) (hlen : f.req.arg.length = 4) (hv : fromBe f.req.arg ≤ 4)
    (hcert : s.mode.life ≠ .blank ∨ t.stagedCert (fun c => f.auth.elim false (fun a => c.key = a.clientKey)) = true)
    (hmay : mayBecome s.mode.life (lifeOf (fromBe f.req.arg)) = true) (hpend : s.mode.lifePending = none) (hboot : s.mode.rebootDue = false)
    (ho : s.pair.ownSelf = false) (hmode : s.mode.current = .cold ∨ s.mode.current = .track ∨ s.mode.current = .service) :
    s.opLifecycle secret = t.beginLife (replyOf f) (lifeOf (fromBe f.req.arg)) secret := by
  have hm : t.mode = s.mode := Signed_mode h
  have hp : t.pair = s.pair := by simp [signed_same h]
  have hrange : (f.req.arg.length ≠ 4 || 4 < fromBe f.req.arg || (t.mode.life = .blank && fromBe f.req.arg = 1
      && !t.stagedCert (fun c => f.auth.elim false (fun a => c.key = a.clientKey)))) = false := by
    rcases hcert with hl | hcert
    · simp [hlen, hv, hm, hl]
    · simp [hlen, hv, hcert]
  have hconflict : (!mayBecome t.mode.life (lifeOf (fromBe f.req.arg)) || t.pair.ownSelf
      || !(t.mode.current = .cold || t.mode.current = .track || t.mode.current = .service)) = false := by
    rcases hmode with hc | hc | hc <;> simp [hm, hp, hmay, ho, hc]
  rw [opLifecycle, onSigned_signed h, lifecycle, check14Later_signed h hrange (by simp [hm, hpend, hboot]) hconflict]
  exact if_pos (by simp [hv, hm, hmay, hpend])

theorem lifecycle_conflict (h : Signed s 0x1101 f t) (hlen : f.req.arg.length = 4) (hv : fromBe f.req.arg ≤ 4) (hl : s.mode.life ≠ .blank)
    (hpend : s.mode.lifePending = none) (hboot : s.mode.rebootDue = false)
    (hno : mayBecome s.mode.life (lifeOf (fromBe f.req.arg)) = false ∨ s.pair.ownSelf = true) : s.opLifecycle secret = t.answer (replyOf f) 9 := by
  have hm : t.mode = s.mode := Signed_mode h
  have hp : t.pair = s.pair := by simp [signed_same h]
  rw [opLifecycle, onSigned_signed h, lifecycle]
  refine check14Later_conflict (x := replyOf f) h.port (by simp [hlen, hv, hm, hl]) (by simp [hm, hpend, hboot]) ?_
  rcases hno with hno | hno <;> simp [hm, hp, hno]

theorem lifecycle_range (h : Signed s 0x1101 f t) (hl : s.mode.life = .blank) (hv : fromBe f.req.arg = 1)
    (hcert : ¬ t.stagedCert (fun c => f.auth.elim false (fun a => c.key = a.clientKey)) = true) : s.opLifecycle secret = t.answer (replyOf f) 6 := by
  rw [opLifecycle, onSigned_signed h, lifecycle]
  exact check14Later_range (x := replyOf f) h.port (by simp [Signed_mode h, hl, hv, hcert])

/-! ## The end of the wipe -/

theorem opWiped_none (h : s.mode.lifePending = none ∨ s.mode.wipeStep ≠ 5 ∨ s.mode.inReset = true) : s.opWiped = s := by
  cases hp : s.mode.lifePending with
  | none => simp only [opWiped, hp]
  | some l =>
    simp only [opWiped, hp]
    exact if_pos (h.resolve_left (by simp [hp]))

/-- The state that a wipe leaves to its reset: the life-cycle state taken, every setting at its default (R53). -/
def wiped (s : State) (l : Life) : State :=
  { s.clearStores.withSettings State.reset with
    mode := { (s.clearStores.withSettings State.reset).mode with
      life := l, lifePending := none, wipeStep := 0, verifyFailed := false, wipeCount := s.mode.wipeCount + 1 }
    time.stored := none, field.chans := mapTab (s.clearStores.withSettings State.reset).field.chans (fun _ x => carryTrim x {}) }

theorem opWiped_done (hp : s.mode.lifePending = some l) (hw : s.mode.wipeStep = 5) (hr : s.mode.inReset = false) :
    s.opWiped = (s.wiped l).assertReset := by
  simp only [opWiped, hp]
  exact if_neg (by simp [hw, hr])

/-- The assertion of reset leaves the life-cycle's own objects. -/
theorem assertReset_life (session : Word) : (u.assertReset session).mode.life = u.mode.life ∧ (u.assertReset session).mode.lifePending = u.mode.lifePending
    ∧ (u.assertReset session).mode.wipeStep = u.mode.wipeStep ∧ (u.assertReset session).mode.verifyFailed = u.mode.verifyFailed
    ∧ (u.assertReset session).mode.wipeCount = u.mode.wipeCount := by
  simp only [assertReset, Frame.endAllSessions_same]
  split
  · simp
  · simp [immediate_mode]

@[simp] theorem immediate_leafTimeout (m : Mode) (session : Word) : (u.immediate m session).hub.leafTimeout = u.hub.leafTimeout := by
  have hleft : ∀ (v : State) (old : Mode), (v.safeLeft old).hub.leafTimeout = v.hub.leafTimeout := by
    intro v old; unfold safeLeft; split <;> simp
  unfold immediate
  dsimp only
  rw [hleft]
  simp only [Frame.modeRecord_same]
  (repeat' split) <;> simp

theorem assertReset_leafTimeout (session : Word) : (u.assertReset session).hub.leafTimeout = u.hub.leafTimeout := by
  simp only [assertReset, Frame.endAllSessions_same]
  split
  · simp
  · simp

/-- With no exchange open, the loss of ownership answers nothing. -/
theorem dropOwn_xan (h : u.exchangeOpen = false) (reason : Nat) : (u.dropOwn reason).xan = u.xan := by
  have hopen : ((u.sendSync (.goodbye reason)).trigger 0x0A2 [reason]).exchangeOpen = false := by
    have hprog : ((u.sendSync (.goodbye reason)).trigger 0x0A2 [reason]).prog = u.prog := by simp
    rwa [exchangeOpen, hprog]
  simp only [dropOwn, abortBoth_closed hopen]
  split
  · split <;> simp
  · rfl

theorem assertReset_udpPort (h : u.exchangeOpen = false) (session : Word) : (u.assertReset session).xan.udpPort = u.xan.udpPort := by
  simp only [assertReset, Frame.endAllSessions_same]
  split
  · simp [dropOwn_xan h]
  · simp [dropOwn_xan h]

theorem opWipeFailed_none (h : s.mode.lifePending = none ∨ s.mode.wipeStep ≠ 5 ∨ s.mode.inReset = true) : s.opWipeFailed = s :=
  if_neg (by rcases h with h | h | h <;> simp [h])

end State
open State

/-- Settles O17, clause by clause. -/
theorem lifeCycleChanges : Obligations.LifeCycleChanges := by
  unfold Obligations.LifeCycleChanges
  refine ⟨?_, ?_, ?_, ?_, ?_, ?_, ?_⟩
  · intro s f t secret h hlen hv hcert hmay hpend hboot ho hmode
    refine ⟨_, rfl, ?_⟩
    rw [lifecycle_accepted h hlen hv hcert hmay hpend hboot ho hmode]
    obtain ⟨w, hrun, hcold, hlife, hpending, hout⟩ := beginLife_cold (u := t) (x := replyOf f) (secret := secret) (lifeOf (fromBe f.req.arg)) (by simpa [signed_same h] using ho)
    obtain ⟨⟨k, hzmode⟩, hztable, hzout, hzks⟩ := zeroise_facts (u := w.endAllSessions)
    obtain ⟨m, e, hwipe, hring, hstore⟩ := wipe_eq (u := w.endAllSessions.zeroise)
    have hreplied := answer_replied (u := t) (x := replyOf f) 0 [] h.port (by decide)
    have hend : w.endAllSessions.mode = w.mode := by simp
    rw [hrun, startWipe, hwipe]
    refine ⟨?_, ?_, ?_, rfl, rfl, ?_, rfl, rfl, hring, hstore, rfl, fun hret => ?_, ?_⟩
    · show w.endAllSessions.zeroise.mode.lifePending = _
      rw [hzmode, hend, hpending]
    · show w.endAllSessions.zeroise.mode.life = _
      rw [hzmode, hend, hlife, Signed_mode h]
    · show w.endAllSessions.zeroise.mode.current = _
      rw [hzmode, hend, hcold]
    · exact hztable.trans endAllSessions_table
    · exact hzks (by rw [hend, hpending, hret])
    · have houts : w.endAllSessions.zeroise.xan.out = (t.answer (replyOf f) 0).xan.out := by
        rw [hzout, show w.endAllSessions.xan = w.xan by simp, hout]
      rw [Replied, Sent] at hreplied ⊢
      rwa [← houts] at hreplied
  · intro s f t secret h hlen hv hl hpend hboot hno
    refine ⟨_, rfl, ?_⟩
    rw [lifecycle_conflict h hlen hv hl hpend hboot hno]
    exact ⟨by simp [signed_same h], by simp [signed_same h], answer_replied_conflict (x := replyOf f) h.port⟩
  · intro s f t secret h hl hv hcert
    refine ⟨_, rfl, ?_⟩
    rw [lifecycle_range h hl hv hcert]
    exact ⟨by simp [signed_same h], by simp [signed_same h], answer_replied (x := replyOf f) 6 [] h.port (by decide)⟩
  · intro s l hp hw hr
    refine ⟨s.opWiped, rfl, ?_⟩
    obtain ⟨hlife, hpending, hstep, hverify, hcount⟩ := assertReset_life (u := s.wiped l) 0
    obtain ⟨-, hreset, -, -, -, hmem, hsedge⟩ := assertReset_inReset (u := s.wiped l) 0
    rw [opWiped_done hp hw hr]
    refine ⟨hlife, hpending, hstep, hverify, hcount, hreset, hmem, ?_, ?_, congrArg (·.floor) hsedge⟩
    · rw [assertReset_leafTimeout]; rfl
    · rw [assertReset_udpPort rfl]; rfl
  · intro s h
    exact ⟨s.opWiped, rfl, opWiped_none h⟩
  · intro s l hp hw hr
    refine ⟨s.opWipeFailed, rfl, ?_⟩
    obtain ⟨m, e, hwipe, hring, -⟩ := wipe_eq (u := { s with mode.verifyFailed := true })
    rw [show s.opWipeFailed = ({ s with mode.verifyFailed := true } : State).wipe from if_pos (by simp [hp, hw, hr]), hwipe]
    exact ⟨rfl, hp, rfl, rfl, rfl, rfl, hring, rfl⟩
  · intro s h
    exact ⟨s.opWipeFailed, rfl, opWipeFailed_none h⟩

end Sys2Proof.Machine
end

section
/-! PROOF. Signal entries: what a write to one leaves of the others. -/
namespace Sys2Proof.Machine

/-! ## Tables -/

theorem get_of_find {α : Type} {d v : α} {t : Tab α} {k : Nat} (h : find t k = some v) : get d t k = v := by
  induction t with
  | nil => simp [find] at h
  | cons e t ih =>
    obtain ⟨j, w⟩ := e
    simp only [find, get] at h ⊢
    split at h
    · next hj => rw [if_pos hj]; exact Option.some.inj h
    · next hj => rw [if_neg hj]; exact ih h

theorem find_put {α : Type} (t : Tab α) (j k : Nat) (v : α) : find (put t k v) j = if j = k then some v else find t j := by
  induction t with
  | nil => simp [put, find, eq_comm]
  | cons e t ih =>
    obtain ⟨i, w⟩ := e
    simp only [put]
    split
    · simp only [find, eq_comm (a := j)]
    · split
      · next hi => subst hi; simp only [find, eq_comm (a := j)]; split <;> rfl
      · next hi =>
        simp only [find, ih]
        split
        · next hij => rw [if_neg (by omega)]
        · rfl

namespace State
variable {s t u : State} {g n : Nat} {f : Sig → Sig}

/-! ## Signal entries -/

theorem sigOf_congr (h : t.sig.entries = s.sig.entries) (n : Nat) : t.sigOf n = s.sigOf n := by rw [sigOf, sigOf, h]

@[simp] theorem stamp_value (a b : Sig) : (u.stamp a b).value = b.value := by unfold stamp; split <;> rfl
@[simp] theorem stamp_quality (a b : Sig) : (u.stamp a b).quality = b.quality := by unfold stamp; split <;> rfl
@[simp] theorem stamp_source (a b : Sig) : (u.stamp a b).source = b.source := by unfold stamp; split <;> rfl
@[simp] theorem stamp_forced (a b : Sig) : (u.stamp a b).forced = b.forced := by unfold stamp; split <;> rfl
@[simp] theorem stamp_forceValue (a b : Sig) : (u.stamp a b).forceValue = b.forceValue := by unfold stamp; split <;> rfl
@[simp] theorem stamp_unit (a b : Sig) : (u.stamp a b).unit = b.unit := by unfold stamp; split <;> rfl

/-- A write to a declared signal stamps what changes (R143). -/
theorem setSig_self (h : s.sigDecl g = true) : (s.setSig g f).sigOf g = s.stamp (s.sigOf g) (f (s.sigOf g)) := by
  obtain ⟨e, he⟩ := Option.isSome_iff_exists.mp h
  rw [sigOf, sigOf, get_of_find he]
  simp [setSig, he]

theorem setSig_ne (h : n ≠ g) : (s.setSig g f).sigOf n = s.sigOf n := by
  unfold setSig
  split
  · rfl
  · simp [sigOf, get_put_ne _ _ _ _ _ h]

theorem setSig_sigDecl : (s.setSig g f).sigDecl n = s.sigDecl n := by
  unfold setSig
  split
  · rfl
  · next e he =>
    simp only [sigDecl, find_put]
    split
    · next hn => rw [hn, he]; rfl
    · rfl

@[simp] theorem countStatus_entries : u.countStatus.sig.entries = u.sig.entries := by
  unfold countStatus
  exact foldl_keeps (fun v : State => v.sig.entries) _ (fun v k => by dsimp only; split <;> rfl) _ _

@[simp] theorem settle_entries : u.settle.sig.entries = u.sig.entries := by
  unfold settle
  dsimp only
  split <;> simp

@[simp] theorem settle_sigOf (n : Nat) : u.settle.sigOf n = u.sigOf n := sigOf_congr (by simp) n

/-- A write names a declared signal (R61, R70). -/
theorem judged_sigDecl {r : Req} {x : ReplyTo} (h : s.judge r 2 = .passed t x) (hlo : 0x6000 ≤ r.index.toNat) (hhi : r.index.toNat < 0x6400) :
    s.sigDecl (sigNo r.index.toNat r.sub.toNat) = true := by
  have hsub : subOk s 2 r r.sub.toNat = true := by
    unfold judge at h
    dsimp only at h
    (repeat' split at h) <;> cases h <;> simp_all [subsOf]
  unfold subOk at hsub
  split at hsub
  · simpa [writes, hlo, hhi] using hsub
  · cases hsub
  · cases hsub

end State

end Sys2Proof.Machine
end

section
/-! PROOF. Signal values and forces (O18). -/
namespace Sys2Proof.Machine

namespace State
variable {s t u : State} {r : Req} {x : ReplyTo} {op g n : Nat} {f : Sig → Sig}

/-! ## Requests that the Responder completes -/

/-- But for the session's counter, a request that passes checks 1 to 13 leaves the state as it was. -/
theorem passed_same (h : s.judge r op = .passed t x) : t.mode = s.mode ∧ t.time = s.time ∧ t.xan = s.xan ∧ t.sig = s.sig ∧ t.disp = s.disp
    ∧ t.drift = s.drift ∧ t.firn = s.firn ∧ t.prog = s.prog ∧ t.pair = s.pair ∧ t.hub = s.hub ∧ t.guard = s.guard ∧ t.moraine = s.moraine
    ∧ t.capture = s.capture ∧ t.link = s.link ∧ t.eth = s.eth ∧ t.can = s.can ∧ t.field = s.field ∧ t.sedge = s.sedge ∧ t.mem = s.mem
    ∧ t.draws = s.draws ∧ t.pending = s.pending := by
  obtain ⟨-, -, tab, rfl⟩ := judge_passed_state h
  simp

theorem passed_within (h : s.judge r op = .passed t x) : Within [.sess] s t := by
  obtain ⟨-, -, tab, rfl⟩ := judge_passed_state h
  simp

theorem row_completed {c : Prop} [Decidable c] (h : Admitted s r op t x) (hc : c) (f : State → ReplyTo → State) :
    (.next (if c then s.completed r op f else s) : Host.Outcome State Fault Refusal) = .next (f t x) := by
  rw [if_pos hc, completed_passed h.passed]

theorem Admitted_port (h : Admitted s r op t x) : x.req.port ≠ 0 := (judge_passed_state h.passed).1 ▸ h.port

theorem check14_admitted {range busy conflict : Bool} {w : State → State} (h : Admitted s r op t x) (hr : range = false) (hb : busy = false)
    (hc : conflict = false) : t.check14 x range busy conflict w = (w t).answer x 0 := by
  subst hr hb hc
  exact check14_accepts _ _ _ (Admitted_port h) h.session h.mode

theorem admitted_conflict (h : Admitted s r op t x) : Replied (t.answer x 9) x 9 (be 4 s.deviceMode.toNat ++ be 1 s.mode.life.code) := by
  have hsame := passed_same h.passed
  have hreply := answer_replied_conflict (u := t) (Admitted_port h)
  rwa [deviceMode_congr (s := s) (by simp [hsame]) (by simp [hsame]) (by simp [hsame]), show t.mode = s.mode by simp [hsame]] at hreply

theorem answer_sigOf (x : ReplyTo) (status : Nat) (n : Nat) : (u.answer x status).sigOf n = u.sigOf n := sigOf_congr (by simp) n

/-! ## Values -/

/-- A source of this module writes the entry as any write does, and ends STALE on an input (R143, R330). -/
theorem sourceSig_sig (g : Nat) (f : Sig → Sig) :
    (u.sourceSig g f).sig = (u.setSig g (fun e => { f e with stale := (f e).stale && (f e).direction ≠ 1 })).sig := by
  unfold sourceSig
  dsimp only
  split <;> simp

theorem sourceSig_self (h : u.sigDecl g = true) :
    (u.sourceSig g f).sigOf g = u.stamp (u.sigOf g) { f (u.sigOf g) with stale := (f (u.sigOf g)).stale && (f (u.sigOf g)).direction ≠ 1 } :=
  (sigOf_congr (congrArg (·.entries) (sourceSig_sig g f)) g).trans (setSig_self h)

theorem sourceSig_ne (h : n ≠ g) : (u.sourceSig g f).sigOf n = u.sigOf n :=
  (sigOf_congr (congrArg (·.entries) (sourceSig_sig g f)) n).trans (setSig_ne h)

/-! ## Forces -/

theorem mem_of_find {α : Type} {t : Tab α} {k : Nat} {v : α} (h : find t k = some v) : (k, v) ∈ t := by
  induction t with
  | nil => cases h
  | cons e t ih =>
    obtain ⟨j, w⟩ := e
    simp only [find] at h
    split at h
    · next hj => rw [hj, Option.some.inj h]; exact List.mem_cons_self
    · exact List.mem_cons_of_mem _ (ih h)

/-- A forced signal is declared. -/
theorem forced_sigDecl (h : (u.sigOf g).forced = true) : u.sigDecl g = true := by
  unfold sigDecl
  unfold sigOf at h
  generalize u.sig.entries = l at h ⊢
  induction l with
  | nil => cases h
  | cons e l ih =>
    obtain ⟨j, w⟩ := e
    simp only [get, find] at h ⊢
    split
    · rfl
    · next hj => rw [if_neg hj] at h; exact ih h

theorem releaseForce_off (h : (u.sigOf g).forced = false) (session : Word) : u.releaseForce g session = u := by simp [releaseForce, h]

@[simp] theorem queueForce_sig (g : Nat) : (u.queueForce g).sig = u.sig := by unfold queueForce; dsimp only; split <;> rfl

theorem queueForce_sigOf (g n : Nat) : (u.queueForce g).sigOf n = u.sigOf n := sigOf_congr (by simp) n

theorem forceRecord_sigOf (code g n : Nat) (session : Word) : (u.forceRecord code g session).sigOf n = u.sigOf n := sigOf_congr (by simp [forceRecord]) n

theorem releaseForce_sig (session : Word) (h : (u.sigOf g).forced = true) :
    (u.releaseForce g session).sig = (u.setSig g (fun e => { e with forced := false })).sig := by
  simp [releaseForce, h, forceRecord]

/-- A force that is released leaves the value (R154). -/
theorem releaseForce_self (session : Word) :
    ((u.releaseForce g session).sigOf g).forced = false ∧ ((u.releaseForce g session).sigOf g).value = (u.sigOf g).value := by
  cases h : (u.sigOf g).forced with
  | false => rw [releaseForce_off h]; exact ⟨h, rfl⟩
  | true =>
    rw [sigOf_congr (congrArg (·.entries) (releaseForce_sig session h)), setSig_self (forced_sigDecl h)]
    simp

theorem releaseForce_ne (session : Word) (h : n ≠ g) : (u.releaseForce g session).sigOf n = u.sigOf n := by
  cases hf : (u.sigOf g).forced with
  | false => rw [releaseForce_off hf]
  | true => rw [sigOf_congr (congrArg (·.entries) (releaseForce_sig session hf)), setSig_ne h]

theorem releaseForces_ne (session : Word) (l : List Nat) (h : n ∉ l) : (l.foldl (fun w g => w.releaseForce g session) u).sigOf n = u.sigOf n := by
  induction l generalizing u with
  | nil => rfl
  | cons g l ih =>
    obtain ⟨hg, hl⟩ := not_or.mp (List.mem_cons.not.mp h)
    exact (ih hl).trans (releaseForce_ne session hg)

theorem releaseForces_off (session : Word) (l : List Nat) (h : n ∈ l ∨ (u.sigOf n).forced = false) :
    ((l.foldl (fun w g => w.releaseForce g session) u).sigOf n).forced = false := by
  induction l generalizing u with
  | nil => exact h.resolve_left List.not_mem_nil
  | cons g l ih =>
    refine ih ?_
    by_cases hg : n = g
    · exact .inr (hg ▸ (releaseForce_self session).1)
    · rw [releaseForce_ne session hg]
      exact h.imp_left fun hm => (List.mem_cons.mp hm).resolve_left hg

/-- The forces of a subtree, released one after another (R158, Table 5.1). -/
theorem releaseSubtree_sigOf (top : Nat) (session : Word) :
    let w := ((u.sig.entries.filter (fun e => e.2.forced && u.within top e.2.unit)).map (·.1)).foldl (fun w g => w.releaseForce g session) u
    (∀ n, u.sigDecl n = true → u.within top (u.sigOf n).unit = true → (w.sigOf n).forced = false)
    ∧ ∀ n, (∀ e ∈ u.sig.entries, e.1 = n → u.within top e.2.unit = false) → w.sigOf n = u.sigOf n := by
  refine ⟨fun n hd hin => ?_, fun n hout => ?_⟩
  · refine releaseForces_off session _ ?_
    cases hf : (u.sigOf n).forced with
    | false => exact .inr rfl
    | true =>
      obtain ⟨e, he⟩ := Option.isSome_iff_exists.mp hd
      have hsig : u.sigOf n = e := get_of_find he
      rw [hsig] at hf hin
      exact .inl (List.mem_map.mpr ⟨(n, e), List.mem_filter.mpr ⟨mem_of_find he, by simp [hf, hin]⟩, rfl⟩)
  · refine releaseForces_ne session _ fun hm => ?_
    obtain ⟨e, he, hn⟩ := List.mem_map.mp hm
    obtain ⟨hmem, hsel⟩ := List.mem_filter.mp he
    simp [hout e hmem hn] at hsel

theorem within_congr (h : t.prog = s.prog) (top k : Nat) : t.within top k = s.within top k := by
  simp only [within, ancestors, units, image, h]

end State
open State

/-- The signal that a granted write names is declared, and stands as before. -/
theorem admitted_signal {s t : State} {r : Req} {x : ReplyTo} (h : Admitted s r 2 t x) (hlo : 0x6000 ≤ r.index.toNat) (hhi : r.index.toNat < 0x6400) :
    x.req = r ∧ t.sig = s.sig ∧ (∀ n, t.sigOf n = s.sigOf n) ∧ t.sigDecl (sigNo r.index.toNat r.sub.toNat) = true := by
  have hsig : t.sig = s.sig := by simp [passed_same h.passed]
  refine ⟨(judge_passed_state h.passed).1, hsig, sigOf_congr (by rw [hsig]), ?_⟩
  rw [sigDecl, hsig]
  exact judged_sigDecl h.passed hlo hhi

/-- Settles O18, clause by clause. -/
theorem signalsAreWrittenAndForced : Obligations.SignalsAreWrittenAndForced := by
  unfold Obligations.SignalsAreWrittenAndForced
  refine ⟨?_, ?_, ?_, ?_, ?_, ?_, ?_, ?_⟩
  · intro s r t x h hlo hhi hsuits
    obtain ⟨hx, -, hof, hdecl⟩ := admitted_signal h (by omega) (by omega)
    refine ⟨t.opSignalValue x, row_completed h ⟨hlo, hhi⟩ _, ?_⟩
    unfold opSignalValue
    dsimp only
    rw [hx, check14_admitted h (by simp [hof, hsuits]) rfl rfl]
    simp only [answer_sigOf, settle_sigOf, sourceSig_self hdecl, hof]
    exact ⟨by simp, by simp, by simp, by simp, fun n hn => (sourceSig_ne hn).trans (hof n), answer_replied 0 [] (Admitted_port h) (by decide)⟩
  · intro s r t x h hlo hhi hsuits
    obtain ⟨hx, hsig, hof, -⟩ := admitted_signal h (by omega) (by omega)
    refine ⟨t.opSignalValue x, row_completed h ⟨hlo, hhi⟩ _, ?_⟩
    unfold opSignalValue
    dsimp only
    rw [hx, check14_range (Admitted_port h) (by simp [hof, hsuits])]
    exact ⟨by simp [hsig], answer_replied 6 [] (Admitted_port h) (by decide)⟩
  · intro s r t x h hlo hhi hsuits hsafe
    obtain ⟨hx, -, hof, hdecl⟩ := admitted_signal h (by omega) (by omega)
    refine ⟨t.opForceValue x, row_completed h ⟨hlo, hhi⟩ _, ?_⟩
    have hmode : t.mode = s.mode := by simp [passed_same h.passed]
    have hwrite : ∀ (u : State) (b : Bool) n, ((if b then (u.queueForce (sigNo r.index.toNat r.sub.toNat)).forceRecord 0x050
        (sigNo r.index.toNat r.sub.toNat) x.session else u.queueForce (sigNo r.index.toNat r.sub.toNat)) : State).sigOf n = u.sigOf n := by
      intro u b n
      cases b
      · exact queueForce_sigOf _ n
      · exact (forceRecord_sigOf _ _ n _).trans (queueForce_sigOf _ n)
    unfold opForceValue
    dsimp only
    rw [hx, hof, hmode, check14_admitted h (by simp [hsuits]) rfl hsafe]
    simp only [answer_sigOf, hwrite, setSig_self hdecl, hof]
    exact ⟨by simp, by simp, by simp, fun n hn => (setSig_ne hn).trans (hof n), answer_replied 0 [] (Admitted_port h) (by decide)⟩
  · intro s r t x h hlo hhi hsuits
    obtain ⟨hx, hsig, hof, -⟩ := admitted_signal h (by omega) (by omega)
    refine ⟨t.opForceValue x, row_completed h ⟨hlo, hhi⟩ _, ?_⟩
    unfold opForceValue
    dsimp only
    rw [hx, check14_range (Admitted_port h) (by simp [hof, hsuits])]
    exact ⟨by simp [hsig], answer_replied 6 [] (Admitted_port h) (by decide)⟩
  · intro s r t x h hlo hhi hv hm
    obtain ⟨hx, -, hof, hdecl⟩ := admitted_signal h (by omega) (by omega)
    refine ⟨t.opForceState x, row_completed h ⟨hlo, hhi, hv⟩ _, ?_⟩
    have hmay : t.mayForce = true := by
      simp only [mayForce, show t.mode = s.mode by simp [passed_same h.passed]]
      rcases hm with hm | hm | hm <;> simp [hm]
    unfold opForceState
    dsimp only
    rw [hx, check14_admitted h (by simp [hv]) rfl (by simp [hmay]), if_pos hv]
    simp only [answer_sigOf, settle_sigOf, forceRecord_sigOf, queueForce_sigOf, setSig_self hdecl, hof]
    refine ⟨by simp, by simp, by simp, fun n hn => (setSig_ne hn).trans (hof n), ?_, answer_replied 0 [] (Admitted_port h) (by decide)⟩
    exact keeps_of_within (((passed_within h.passed).mono (by simp [Part.facet])).trans (by simp [Part.facet]))
  · intro s r t x h hlo hhi hv hm
    obtain ⟨hx, hsig, -, -⟩ := admitted_signal h (by omega) (by omega)
    refine ⟨t.opForceState x, row_completed h ⟨hlo, hhi, hv⟩ _, ?_⟩
    have hmay : t.mayForce = false := by
      simp only [mayForce, show t.mode = s.mode by simp [passed_same h.passed]]
      rcases hm with hm | hm | hm <;> simp [hm]
    unfold opForceState
    dsimp only
    rw [hx, check14_conflict (Admitted_port h) (by simp [hv]) rfl (by simp [hv, hmay])]
    exact ⟨by simp [hsig], admitted_conflict h⟩
  · intro s r t x h hlo hhi hv
    obtain ⟨hx, -, hof, -⟩ := admitted_signal h (by omega) (by omega)
    refine ⟨t.opForceState x, row_completed h ⟨hlo, hhi, hv⟩ _, ?_⟩
    unfold opForceState
    dsimp only
    rw [hx, check14_admitted h (by simp [hv]) rfl (by simp [hv]), if_neg (by omega)]
    simp only [answer_sigOf, settle_sigOf, (releaseForce_self _).1, (releaseForce_self _).2, hof]
    refine ⟨trivial, trivial, fun n hn => (releaseForce_ne _ hn).trans (hof n), ?_, answer_replied 0 [] (Admitted_port h) (by decide)⟩
    exact keeps_of_within (((passed_within h.passed).mono (by simp [Part.facet])).trans (by simp [Part.facet]))
  · intro s r t x h hsub hlo hhi hv
    refine ⟨(t.taken x).opReleaseAll x, ?_, ?_⟩
    · show (Host.Outcome.next (if _ then _ else _) : Host.Outcome State Fault Refusal) = _
      rw [if_pos ⟨hlo, hhi, hsub⟩, forwarded_taken h rfl]
    · have hsame := granted_same h
      have hsig : (t.taken x).sig = s.sig := by simp [hsame]
      obtain ⟨hin, hout⟩ := releaseSubtree_sigOf (u := t.taken x) (r.index.toNat - 0x3000) x.session
      simp only [within_congr (s := s) (t := t.taken x) (by simp [hsame]), sigOf_congr (s := s) (t := t.taken x) (by rw [hsig]), hsig, sigDecl] at hin hout
      unfold opReleaseAll
      dsimp only
      rw [granted_req h, check14_granted h (by simp [hv]) rfl rfl]
      simp only [answer_sigOf, settle_sigOf, hsig, within_congr (s := s) (t := t.taken x) (by simp [hsame])]
      exact ⟨hin, hout, granted_replied h (by decide)⟩

end Sys2Proof.Machine
end

section
/-! PROOF. Images are staged, verified and discarded (O19). -/
namespace Sys2Proof.Machine

namespace State
variable {s t u : State} {r : Req} {x : ReplyTo} {i : Image} {k : ImageSalts}

/-! ## Staging -/

theorem stageSlot_congr (h : t.prog.image = s.prog.image) (hd : t.drift.area = s.drift.area) : t.stageSlot = s.stageSlot := by
  rw [stageSlot, stageSlot, image, image, h, hd]

theorem stageFile_congr (h : t.prog = s.prog) (hd : t.drift = s.drift) : t.stageFile = s.stageFile := by
  rw [stageFile, stageFile, stageSlot_congr (s := s) (by rw [h]) (by rw [hd]), h]

theorem setStaged_eq (o : Option Image) (n : Nat) : ∃ v, u.setStaged o n = { u with prog.staged := o, prog.stageState := n, prog.stageError := 0, xan := v } :=
  ⟨_, rfl⟩

theorem taken_prog_drift {op : Nat} (h : Granted s r op t x) : (t.taken x).prog = s.prog ∧ (t.taken x).drift = s.drift ∧ (t.taken x).mem = s.mem := by
  have hsame := granted_same h
  exact ⟨by simp [hsame], by simp [hsame], by simp [hsame]⟩

/-- Staged bytes stand in the slot and the image area that do not execute, unverified (R259). -/
theorem stageAt_staged (o : Nat) (b : List Byte) : ((u.stageAt o b).setStaged none 1).stageFile
      = { bytes := writeBytes u.stageFile.bytes o b, total := max u.stageFile.total (o + b.length) }
    ∧ ((u.stageAt o b).setStaged none 1).mem = wrBytes u.mem (0x100000000 + u.stageSlot * 0x80000000 + o) b
    ∧ ((u.stageAt o b).setStaged none 1).image = u.image := by
  have hslot : ((u.stageAt o b).setStaged none 1).stageSlot = u.stageSlot := stageSlot_congr rfl rfl
  refine ⟨?_, rfl, rfl⟩
  rw [stageFile, hslot]
  exact get_put_self _ _ _ _

theorem opImageStage_granted (h : Granted s r 5 t x) (hsel : r.select = 0) (hoff : r.offset ≤ s.stageFile.total) (hlen : writeLength r = true)
    (hsum : r.offset + r.bytes.length ≤ 2 ^ 30) :
    (s.exchanging = false → s.mayStage = true → (t.taken x).opImageStage x = (((t.taken x).stageAt r.offset r.bytes).setStaged none 1).answer x 0)
    ∧ (s.exchanging = true → (t.taken x).opImageStage x = (t.taken x).answer x 0x0A) := by
  obtain ⟨hprog, hdrift, -⟩ := taken_prog_drift h
  have hrange : (r.select ≠ 0 || (t.taken x).stageFile.total < r.offset || !writeLength r || 2 ^ 30 < r.offset + r.bytes.length) = false := by
    rw [stageFile_congr hprog hdrift, hsel, hlen, decide_eq_false (Nat.not_lt.mpr hoff), decide_eq_false (Nat.not_lt.mpr hsum)]
    rfl
  have hexch : (t.taken x).exchanging = s.exchanging := by rw [exchanging, exchanging, hprog]
  have hmay : (t.taken x).mayStage = s.mayStage := by simp only [mayStage, image, hprog]; simp [granted_same h]
  obtain rfl := granted_req h
  refine ⟨fun hx hm => ?_, fun hx => ?_⟩ <;> unfold opImageStage <;> dsimp only
  · rw [check14_granted h hrange (hexch.trans hx) (by simp [hmay, hm])]
  · rw [check14_busy (Granted_port h) hrange (hexch.trans hx)]

theorem exchanging_congr (h : t.prog = s.prog) : t.exchanging = s.exchanging := by rw [exchanging, exchanging, h]

/-- STAGE_COMMAND during an exchange (R260). -/
theorem opStageCommand_busy (h : Granted s r 2 t x) (hv : r.value = 1 ∨ r.value = 2) (hx : s.exchanging = true) :
    (t.taken x).opStageCommand x = (t.taken x).answer x 0x0A := by
  obtain rfl := granted_req h
  unfold opStageCommand
  dsimp only
  rw [check14_busy (Granted_port h) (by rcases hv with hv | hv <;> simp [hv]) ((exchanging_congr (taken_prog_drift h).1).trans hx)]

theorem opStageCommand_granted (h : Granted s r 2 t x) (hv : r.value = 1 ∨ r.value = 2) (hx : s.exchanging = false) :
    (t.taken x).opStageCommand x = (if r.value = 1 then { t.taken x with prog.stageState := 2, prog.stageGen := (t.taken x).prog.stageGen + 1 }
      else { ((t.taken x).setStaged none 0).dropStage with prog.stageGen := (t.taken x).prog.stageGen + 1 } : State).answer x 0 := by
  obtain rfl := granted_req h
  unfold opStageCommand
  dsimp only
  rw [check14_granted h (by rcases hv with hv | hv <;> simp [hv]) ((exchanging_congr (taken_prog_drift h).1).trans hx) rfl]
  rcases hv with hv | hv <;> simp only [hv] <;> rfl

/-! ## Verification -/

theorem applyRecord_stage : u.applyRecord.prog.stageState = u.prog.stageState ∧ u.applyRecord.prog.staged = u.prog.staged := by
  unfold applyRecord
  split <;> exact ⟨rfl, rfl⟩

theorem execute_stage (i : Image) (area : Nat) (slots : Tab Nat) (words : Tab Word) :
    (u.execute i area slots words).prog.stageState = u.prog.stageState ∧ (u.execute i area slots words).prog.staged = u.prog.staged := by
  have hafter : ∀ w : State, Within [.sig, .disp, .firn, .moraine, .sedge, .draws] w
      ((((w.freshFirn.rebuildCopies).taintSignals).appendMeasured 5 0 area i.hash).judgeUndispatchable.moveQueues u) := fun w => by simp
  have hgone : (u.untaintGone i).prog = u.prog := prog_of_within (L := [.moraine]) (by simp) (by simp)
  unfold execute
  dsimp only
  rw [prog_of_within (hafter _) (by simp)]
  exact ⟨congrArg (·.stageState) hgone, congrArg (·.staged) hgone⟩

theorem loadImage_stage (i : Image) (area : Nat) : (u.loadImage i area).prog.stageState = u.prog.stageState ∧ (u.loadImage i area).prog.staged = u.prog.staged := by
  unfold loadImage
  dsimp only
  rw [fetchResident_prog, applyRecord_stage.1, applyRecord_stage.2, (execute_stage _ _ _ _).1, (execute_stage _ _ _ _).2]
  exact ⟨rfl, rfl⟩

/-- The image just taken goes on from the end of COLD as it was loaded (R262). -/
theorem takeStaged_sameLoad (i : Image) : SameLoad (u.loadImage i 0) (u.takeStaged i) := by
  refine judgeCheckpoint_sameLoad.trans (sameLoad_of_within (L := [.pair]) ?_ (by simp) (by simp) (by simp))
  simp [takeStaged]

theorem flashResult_prog (ok1 ok2 : Bool) : (u.flashResult ok1 ok2).prog = u.prog := prog_of_within (flashResult_mild_within ok1 ok2) (by simp)

/-- A file that fails no check holds an image. -/
theorem imageFault_zero {f : ImageFile} {b : Bool} (h : u.imageFault f b = 0) : ∃ j, fileImage f = some j := by
  cases hf : fileImage f with
  | none => simp [imageFault, hf] at h
  | some j => exact ⟨j, rfl⟩

/-- Where an image executes, verification settles what stands staged, and that alone (R261). -/
theorem judgeStaged_executing (himage : s.image.isSome = true) : (s.judgeStaged i k).prog.stageState = (if s.imageFault (s.readFile i k) true = 0 then 3 else 4)
    ∧ (s.judgeStaged i k).prog.stageError = s.imageFault (s.readFile i k) true
    ∧ (s.judgeStaged i k).prog.staged = (if s.imageFault (s.readFile i k) true = 0 then fileImage (s.readFile i k) else s.prog.staged)
    ∧ (s.judgeStaged i k).image = s.image ∧ Within [.prog, .moraine, .xan] s (s.judgeStaged i k) := by
  generalize hf : s.readFile i k = f
  have hprog : ∀ e w, ((s.putStage f).trigger e w).prog = (s.putStage f).prog := fun e w => by simp
  have htold : ∀ e w o n, (((s.putStage f).trigger e w).setStaged o n).image = s.image := fun e w o n => congrArg (·.image) (hprog e w)
  by_cases he : s.imageFault f true = 0
  · have hrun : s.judgeStaged i k = ((s.putStage f).trigger 0x090 [s.imageFault f true, fileNum f 12 4]).setStaged (fileImage f) 3 := by
      simp only [judgeStaged, hf, he, ne_eq, not_true_eq_false, if_false, htold]
      exact if_neg (by simp only [Option.isNone_iff_eq_none]; rintro ⟨-, hn⟩; rw [hn] at himage; cases himage)
    rw [hrun, if_pos he, if_pos he]
    exact ⟨rfl, he.symm, rfl, htold _ _ _ _, by simp⟩
  · have hrun : s.judgeStaged i k = { (s.putStage f).trigger 0x090 [s.imageFault f true, fileNum f 12 4] with
        prog.stageState := 4, prog.stageError := s.imageFault f true } := by
      simp only [judgeStaged, hf, he, ne_eq, not_false_eq_true, if_true]
    rw [hrun, if_neg he, if_neg he]
    exact ⟨rfl, rfl, congrArg (·.staged) (hprog _ _), congrArg (·.image) (hprog _ _), by simp [putStage]⟩

/-- A module in COLD without an image takes the verified one; a file that fails leaves it without (R262). -/
theorem judgeStaged_cold (himage : s.image = none) (hcold : s.mode.current = .cold) :
    (s.imageFault (s.readFile i k) true = 0 → ∃ j w, fileImage (s.readFile i k) = some j ∧ s.judgeStaged i k = (w : State).takeStaged j
      ∧ w.prog.stageState = 0 ∧ w.prog.staged = none)
    ∧ (s.imageFault (s.readFile i k) true ≠ 0 → (s.judgeStaged i k).prog.image = none ∧ (s.judgeStaged i k).prog.stageState = 4
      ∧ (s.judgeStaged i k).prog.stageError = s.imageFault (s.readFile i k) true) := by
  generalize hf : s.readFile i k = f
  have hprog : ∀ e w, ((s.putStage f).trigger e w).prog = (s.putStage f).prog := fun e w => by simp
  refine ⟨fun he => ?_, fun he => ?_⟩
  · obtain ⟨j, hj⟩ := imageFault_zero he
    refine ⟨j, (((s.putStage f).trigger 0x090 [s.imageFault f true, fileNum f 12 4]).setStaged (fileImage f) 3).setStaged none 0, hj, ?_, rfl, rfl⟩
    have hcold' : (((s.putStage f).trigger 0x090 [0, fileNum f 12 4]).setStaged (some j) 3).mode.current = .cold
        ∧ (((s.putStage f).trigger 0x090 [0, fileNum f 12 4]).setStaged (some j) 3).image.isNone = true :=
      ⟨by simpa [putStage] using hcold, by rw [image, show (((s.putStage f).trigger 0x090 [0, fileNum f 12 4]).setStaged (some j) 3).prog.image = s.image from
        congrArg (·.image) (hprog _ _), himage]; rfl⟩
    simp only [judgeStaged, hf, he, hj, ne_eq, not_true_eq_false, if_false, if_pos hcold', Option.elim_some]
  · have hrun : s.judgeStaged i k = { (s.putStage f).trigger 0x090 [s.imageFault f true, fileNum f 12 4] with
        prog.stageState := 4, prog.stageError := s.imageFault f true } := by
      simp only [judgeStaged, hf, he, ne_eq, not_false_eq_true, if_true]
    rw [hrun]
    exact ⟨(congrArg (·.image) (hprog _ _)).trans himage, rfl, rfl⟩

end State
open State

/-- Settles O19, clause by clause. -/
theorem imagesAreStagedAndVerified : Obligations.ImagesAreStagedAndVerified := by
  unfold Obligations.ImagesAreStagedAndVerified
  refine ⟨?_, ?_, ?_, ?_, ?_, ?_, ?_, ?_⟩
  · intro s r t x h hi hsub hsel hoff hlen hsum hx hm
    refine ⟨_, row_granted h rfl (by rw [hi]; rfl) (by rw [hsub]; rfl), ?_⟩
    obtain ⟨hprog, hdrift, hmem⟩ := taken_prog_drift h
    obtain ⟨hfile, hbytes, himage⟩ := stageAt_staged (u := t.taken x) r.offset r.bytes
    have hslot : (t.taken x).stageSlot = s.stageSlot := stageSlot_congr (by rw [hprog]) (by rw [hdrift])
    rw [(opImageStage_granted h hsel hoff hlen hsum).1 hx hm]
    have hsame : ∀ w : State, (w.answer x 0).prog = w.prog ∧ (w.answer x 0).drift = w.drift := fun w => by simp
    have hfile' := (stageFile_congr (hsame _).1 (hsame _).2).trans hfile
    rw [stageFile_congr hprog hdrift] at hfile'
    refine ⟨congrArg (·.bytes) hfile', congrArg (·.total) hfile', congrArg (·.image) hfile', ?_, ?_, ?_, ?_, granted_replied h (by decide)⟩
    · rw [← hslot, ← hmem, ← hbytes]; simp
    · rw [(hsame _).1]; rfl
    · rw [(hsame _).1]; rfl
    · rw [image, (hsame _).1, image, ← hprog]; rfl
  · intro s r t x h hi hsub hsel hoff hlen hsum hx
    refine ⟨_, row_granted h rfl (by rw [hi]; rfl) (by rw [hsub]; rfl), ?_⟩
    rw [(opImageStage_granted h hsel hoff hlen hsum).2 hx]
    exact ⟨by simp [granted_same h], by simp [granted_same h], granted_replied h (by decide)⟩
  · intro s r t x h hi hsub hv hx
    refine ⟨_, row_granted_of h rfl (by rw [hi]; rfl) (by rw [hsub]; rfl) (decide_eq_true hv), ?_⟩
    rw [opStageCommand_granted h (.inl hv) hx, if_pos hv]
    exact ⟨by simp [granted_same h], granted_replied h (by decide)⟩
  · intro s r t x h hi hsub hv hx
    refine ⟨_, row_granted_of h rfl (by rw [hi]; rfl) (by rw [hsub]; rfl) (decide_eq_true hv), ?_⟩
    rw [opStageCommand_busy h (.inl hv) hx]
    exact ⟨by simp [granted_same h], granted_replied h (by decide)⟩
  · intro s r t x h hi hsub hv hx
    refine ⟨_, row_granted_of h rfl (by rw [hi]; rfl) (by rw [hsub]; rfl) (decide_eq_true hv), ?_⟩
    obtain ⟨hprog, hdrift, -⟩ := taken_prog_drift h
    have hslot : ((t.taken x).setStaged none 0).stageSlot = s.stageSlot :=
      (stageSlot_congr (s := t.taken x) rfl rfl).trans (stageSlot_congr (by rw [hprog]) (by rw [hdrift]))
    rw [opStageCommand_granted h (.inr hv) hx, if_neg (by omega)]
    refine ⟨?_, ?_, ?_, ?_, granted_replied h (by decide)⟩ <;> rw [show ∀ w : State, (w.answer x 0).prog = w.prog from fun w => by simp]
    · rfl
    · rfl
    · rw [← hprog]; rfl
    · rw [← hslot, ← hprog]; rfl
  · intro s i k a b hst himage
    refine ⟨s.opImageVerified i k a b, rfl, ?_⟩
    obtain ⟨hstate, herror, hstaged, himg, hw⟩ := judgeStaged_executing (i := i) (k := k) himage
    rw [show s.opImageVerified i k a b = (s.judgeStaged i k).flashResult a b from if_neg (by simp [hst])]
    refine ⟨by rw [flashResult_prog, hstate], by rw [flashResult_prog, herror], by rw [flashResult_prog, hstaged], ?_, ?_⟩
    · rw [image, flashResult_prog]; exact himg
    · exact keeps_of_within ((hw.mono (by simp [Part.facet])).trans ((flashResult_mild_within a b).mono (by simp [Part.facet])))
  · intro s i k a b hst himage hcold
    refine ⟨s.opImageVerified i k a b, rfl, ?_⟩
    rw [show s.opImageVerified i k a b = (s.judgeStaged i k).flashResult a b from if_neg (by simp [hst])]
    obtain ⟨hgood, hbad⟩ := judgeStaged_cold (i := i) (k := k) himage hcold
    have harea : ∀ w : State, (w.flashResult a b).drift.area = w.drift.area := fun w => by rw [flashResult_drift]
    refine ⟨fun he => ?_, fun he => ?_⟩
    · obtain ⟨j, w, hj, hrun, hstate, hstaged⟩ := hgood he
      have hload := takeStaged_sameLoad (u := w) j
      obtain ⟨hhash, hloaded⟩ := loadImage_loads (u := w) j 0
      obtain ⟨hstate', hstaged'⟩ := loadImage_stage (u := w) j 0
      rw [hrun, hj, image, harea, flashResult_prog, hload.prog, hload.area]
      exact ⟨hhash, hstate'.trans hstate, hstaged'.trans hstaged, hloaded⟩
    · obtain ⟨himg, hstate, herror⟩ := hbad he
      rw [image, flashResult_prog]
      exact ⟨himg, hstate, herror⟩
  · intro s i k a b hst
    exact ⟨s.opImageVerified i k a b, rfl, if_pos hst⟩

end Sys2Proof.Machine
end

section
/-! PROOF. Parameter and constant changes (O20). -/
namespace Sys2Proof.Machine

namespace State
variable {s t u : State} {r : Req} {x : ReplyTo} {y : InstDecl} {c : ConstQ}

/-! ## Parameter changes (R94, R263) -/

theorem image_congr (h : t.prog = s.prog) : t.image = s.image := by rw [image, image, h]

/-- The check 14 of INSTANCE_PARAMS for a block of the image (R94). -/
theorem opInstanceParams_known (h : Granted s r 5 t x) (hy : s.image.elim none (fun i => i.insts.find? (fun z => z.id = r.select)) = some y) :
    (t.taken x).opInstanceParams x = (t.taken x).check14Later x (!writeLength r || 4 * (instFields y).length < r.offset + r.bytes.length
      || !(paramsWritten y r.offset r.bytes).all (fun e => paramOk ((y.types.getD e.1.word 2).toNat) e.1 e.2)) false false (fun w => { w with
        prog.params := w.prog.params ++ [{ inst := y.id, words := (paramsWritten y r.offset r.bytes).flatMap (fun e => valueWords e.1 e.2), fwd := fwdOf x }] }) := by
  obtain rfl := granted_req h
  have himage : (t.taken x).image = s.image := image_congr (taken_prog_drift h).1
  unfold opInstanceParams
  dsimp only
  rw [himage, hy]

/-! ## Constant changes (R265 to R267) -/

theorem copyFrame_congr (hd : t.drift = s.drift) (hh : t.hub = s.hub) (ht : t.time = s.time) : t.copyFrame = s.copyFrame := by
  unfold copyFrame freeFrame victim fenced
  rw [hd, hh, ht]

/-- The program's state after a search for a frame is as the fetch leaves it, or as it was. -/
theorem withFrame_prog (want : Nat) (fetch : Nat → State) :
    (u.withFrame want fetch).prog = u.prog ∨ ∃ f, (u.withFrame want fetch).prog = (fetch f).prog := by
  unfold withFrame
  split
  · exact .inl rfl
  · split
    · next f _ => exact .inr ⟨f, rfl⟩
    · split
      · exact .inl rfl
      · next f _ =>
        dsimp only
        split
        · exact .inr ⟨f, rfl⟩
        · split <;> exact .inl rfl

/-- A change that waits for a frame waits on as it is but for the frame; the change record and the image stand. -/
theorem placeCopy_waits (hc : u.prog.change = some c) : u.placeCopy.prog.change.map (fun c => (c.page, c.words, c.waiting)) = some (c.page, c.words, c.waiting)
    ∧ u.placeCopy.prog.changeRecord = u.prog.changeRecord ∧ u.placeCopy.image = u.image := by
  unfold placeCopy
  simp only [hc]
  split
  · exact ⟨by rw [hc]; rfl, rfl, rfl⟩
  · rcases withFrame_prog (u := u) (2 ^ 19 + c.page) _ with h | ⟨f, h⟩ <;> rw [image, h]
    · exact ⟨by rw [hc]; rfl, rfl, rfl⟩
    · exact ⟨rfl, rfl, rfl⟩

theorem opConstantPool_known (h : Granted s r 5 t x) (hknown : s.image.elim false (fun i => i.constants.any (fun c => c.page = r.select)) = true)
    (hlen : writeLength r = true) (hsum : r.offset + r.bytes.length ≤ 4096) (hroom : s.prog.changeRecord.length < 256) :
    (s.prog.change = none → s.abortable = false → s.copyFrame.isSome = true → s.tasks.any (fun d => (pagesOf d.ranges).contains r.select) = true →
      (t.taken x).opConstantPool x = ({ t.taken x with prog.change := some {
        page := r.select, words := wordsWritten r.offset r.bytes, frame := none
        waiting := (s.tasks.filter (fun d => (pagesOf d.ranges).contains r.select)).map (·.task), fwd := fwdOf x } } : State).placeCopy)
    ∧ (s.prog.change.isSome = true → (t.taken x).opConstantPool x = (t.taken x).answer x 0x0A) := by
  obtain rfl := granted_req h
  obtain ⟨hprog, hdrift, -⟩ := taken_prog_drift h
  have himage : (t.taken x).image = s.image := image_congr hprog
  have htasks : (t.taken x).tasks = s.tasks := by rw [tasks, tasks, himage]
  have hrange : (!(t.taken x).image.elim false (fun i => i.constants.any (fun c => c.page = x.req.select)) || !writeLength x.req
      || 4096 < x.req.offset + x.req.bytes.length || ((find (t.taken x).prog.changeRecord x.req.select).isNone
        && decide (256 ≤ (t.taken x).prog.changeRecord.length))) = false := by
    rw [himage, hknown, hlen, hprog, decide_eq_false (Nat.not_lt.mpr hsum), decide_eq_false (Nat.not_le.mpr hroom), Bool.and_false]
    rfl
  refine ⟨fun hnone habort hframe hdeclared => ?_, fun hsome => ?_⟩ <;> unfold opConstantPool <;> dsimp only
  · have hbusy : ((t.taken x).prog.change.isSome || (t.taken x).abortable || (t.taken x).copyFrame.isNone) = false := by
      rw [copyFrame_congr (s := s) hdrift (by simp [granted_same h]) (by simp [granted_same h]), abortable, exchangeOpen, hprog, hnone, ← exchangeOpen, ← abortable, habort]
      simpa using hframe
    rw [check14Later_granted h hrange hbusy rfl, htasks]
    refine if_neg ?_
    simpa using hdeclared
  · rw [check14Later_busy (Granted_port h) hrange (by rw [hprog, hsome]; rfl)]

/-- The log of the changed words touches neither the record nor the image. -/
theorem logChanges_keeps (l : List (Nat × Word)) (f : Nat × Word → Change) : (l.foldl (fun (u : State) w => u.logChange (f w)) u).prog.changeRecord = u.prog.changeRecord := by
  refine foldl_keeps (·.prog.changeRecord) _ (fun v w => ?_) l u
  simp [logChange]

theorem opConstantDone_waits (hc : s.prog.change = some c) (hw : c.waiting ≠ []) : s.opConstantDone = s := by
  unfold opConstantDone
  simp only [hc]
  exact if_pos (by simp [hw])

/-- The change completes: the record and the image take the words, the write is answered (R266, R267). -/
theorem opConstantDone_done (hc : s.prog.change = some c) (hw : c.waiting = []) (hf : c.frame.isSome = true) (hr : s.fenced s.imageRank = false)
    (hd : s.fenced 0x52 = false) : ∃ w : State, s.opConstantDone = w.answer (replyOf c.fwd) 0 ∧ w.prog.change = none
      ∧ get [] w.prog.changeRecord c.page = c.words.foldl (fun (p : Tab Word) w => put p w.1 w.2) (get [] s.prog.changeRecord c.page)
      ∧ w.prog.image = s.prog.image.map (fun i => withPage i c.page c.words) := by
  have hgo : ¬ (!c.waiting.isEmpty || (c.frame.isNone && s.declaredBy c.page ≠ 0) || s.fenced s.imageRank || s.fenced 0x52) = true := by
    simp [hw, hr, hd, Option.isSome_iff_ne_none.mp hf]
  unfold opConstantDone
  simp only [hc]
  rw [if_neg hgo]
  refine ⟨_, rfl, rfl, ?_, rfl⟩
  exact get_put_self _ _ _ _

end State
open State

/-- Settles O20, clause by clause. -/
theorem parametersAndConstantsChange : Obligations.ParametersAndConstantsChange := by
  unfold Obligations.ParametersAndConstantsChange
  refine ⟨?_, ?_, ?_, ?_, ?_, ?_, ?_⟩
  · intro s r t x y h hi hsub hy hlen hsum hok
    refine ⟨_, row_granted h rfl (by rw [hi]; rfl) (by rw [hsub]; rfl), ?_⟩
    rw [opInstanceParams_known h hy, check14Later_granted h (by rw [hok, hlen, decide_eq_false (Nat.not_lt.mpr hsum)]; rfl) rfl rfl]
    exact ⟨by simp [granted_same h], by simp [granted_same h]⟩
  · intro s r t x y h hi hsub hy hbad
    refine ⟨_, row_granted h rfl (by rw [hi]; rfl) (by rw [hsub]; rfl), ?_⟩
    rw [opInstanceParams_known h hy, check14Later_range (Granted_port h) (by rw [hbad, Bool.not_false, Bool.or_true])]
    exact ⟨by simp [granted_same h], by simp [granted_same h], granted_replied h (by decide)⟩
  · intro s r t x h hi hsub hknown hlen hsum hroom hnone habort hframe hdeclared
    refine ⟨_, row_granted h rfl (by rw [hi]; rfl) (by rw [hsub]; rfl), ?_⟩
    rw [(opConstantPool_known h hknown hlen hsum hroom).1 hnone habort hframe hdeclared]
    obtain ⟨hchange, hrecord, himage⟩ := placeCopy_waits (u := { t.taken x with prog.change := some {
      page := r.select, words := wordsWritten r.offset r.bytes, frame := none
      waiting := (s.tasks.filter (fun d => (pagesOf d.ranges).contains r.select)).map (·.task), fwd := fwdOf x } }) rfl
    refine ⟨hchange, hrecord.trans ?_, himage.trans ?_⟩
    · rw [← (taken_prog_drift h).1]
    · exact congrArg (·.image) (taken_prog_drift h).1
  · intro s r t x h hi hsub hknown hlen hsum hroom hsome
    refine ⟨_, row_granted h rfl (by rw [hi]; rfl) (by rw [hsub]; rfl), ?_⟩
    rw [(opConstantPool_known h hknown hlen hsum hroom).2 hsome]
    exact ⟨by simp [granted_same h], granted_replied h (by decide)⟩
  · intro s c hc hw hf hr hd hp
    refine ⟨s.opConstantDone, rfl, ?_⟩
    obtain ⟨w, hrun, hchange, hrecord, himage⟩ := opConstantDone_done hc hw hf hr hd
    have hprog : (w.answer (replyOf c.fwd) 0).prog = w.prog := by simp
    rw [hrun]
    exact ⟨by rw [hprog, hchange], by rw [hprog, hrecord], by rw [image, hprog, himage, image], answer_replied (x := replyOf c.fwd) 0 [] hp (by decide)⟩
  · intro s c hc hw
    exact ⟨s.opConstantDone, rfl, opConstantDone_waits hc hw⟩
  · intro s hc
    exact ⟨s.opConstantDone, rfl, by simp [opConstantDone, hc]⟩

end Sys2Proof.Machine
end

section
/-! PROOF. Program exchanges prepare and abort (O21). -/
namespace Sys2Proof.Machine

namespace State
variable {s t u : State} {r : Req} {x : ReplyTo} {f : Fwd} {i : Image} {cause : Nat}

/-! ## EXCHANGE_START (R269, R295) -/

theorem partnerAnswers_up (h : s.partnerAnswers = true) : s.pair.syncUp = true := by
  simp only [partnerAnswers, Bool.and_eq_true] at h
  exact h.1.1

theorem fwRelease_congr (h : t.sedge = s.sedge) : t.fwRelease = s.fwRelease := by simp only [fwRelease, running, h]

theorem sendSync_up (h : u.pair.syncUp = true) (m : SyncOut) : u.sendSync m = { u with pair.out := u.pair.out ++ [m] } := if_pos h

/-- The state in which an accepted exchange has begun: phase 1 with a standby, phase 2 on a lone module (R269, R295). -/
def exchangeBegun (t : State) (f : Fwd) (i : Image) : State :=
  (t.beginExchange (some i) (if !t.partnerAnswers then 2 else 1) (!t.partnerAnswers) (some (t.time.mono + at_ f.req.arg 64 4 * 1000000000))).trigger 0x091
    (hash8 (t.image.elim 0 (·.hash)) ++ hash8 i.hash ++ [f.auth.elim 0 (·.session.toNat)])

theorem exchangeBegun_facts : (t.exchangeBegun f i).prog = (t.beginExchange (some i) (if !t.partnerAnswers then 2 else 1) (!t.partnerAnswers)
      (some (t.time.mono + at_ f.req.arg 64 4 * 1000000000))).prog
    ∧ (t.exchangeBegun f i).pair = t.pair ∧ (t.exchangeBegun f i).stageFile = t.stageFile := by
  have hw : ∀ w l, (State.trigger w 0x091 l).prog = w.prog ∧ (State.trigger w 0x091 l).pair = w.pair ∧ (State.trigger w 0x091 l).drift = w.drift := fun w l => by simp
  refine ⟨(hw _ _).1, (hw _ _).2.1, ?_⟩
  have hslot : (t.exchangeBegun f i).stageSlot = t.stageSlot := stageSlot_congr (congrArg (·.image) (hw _ _).1) (congrArg (·.area) (hw _ _).2.2)
  rw [stageFile, hslot, stageFile]
  exact congrArg (fun p : ProgSt => get {} p.flash t.stageSlot) (hw _ _).1

/-- The staged image that an EXCHANGE_START names begins its exchange. -/
theorem exchangeStart_accepted (h : Signed s 0x2320 f t) (hlen : f.req.arg.length = 68) (hst : s.prog.stageState = 3) (hi : s.prog.staged = some i)
    (hhash : i.hash.toNat = at_ f.req.arg 0 64) (hlo : 60 ≤ at_ f.req.arg 64 4) (hhi : at_ f.req.arg 64 4 ≤ 3600) (hx : s.exchanging = false)
    (hp : s.mode.prep = none) (htr : s.mode.inTransition = false) (hb : s.mode.rebootDue = false)
    (hc : (t.pair.split || (if t.partnerAnswers then !(t.mode.current = .run || t.mode.current = .hold) || !t.partnerInStep || t.pair.partnerFw ≠ t.fwRelease
      else t.mode.current ≠ .hold)) = false) :
    s.opExchangeStart = (if !t.partnerAnswers then t.exchangeBegun f i else (t.exchangeBegun f i).sendSync (.exchange (.start
      (t.exchangeBegun f i).stageFile (at_ f.req.arg 64 4)))).answer (replyOf f) 0 := by
  have hprog : t.prog = s.prog := by simp [signed_same h]
  have hrange : (f.req.arg.length ≠ 68 || !(t.prog.stageState = 3 && t.prog.staged.elim false (fun i => i.hash.toNat = at_ f.req.arg 0 64))
      || at_ f.req.arg 64 4 < 60 || 3600 < at_ f.req.arg 64 4) = false := by
    simp [hprog, hlen, hst, hi, hhash, hlo, hhi]
  have hbusy : (t.exchanging || t.mode.prep.isSome || t.mode.inTransition || t.mode.rebootDue) = false := by
    rw [exchanging_congr hprog, hx, Signed_mode h, hp, htr, hb]; rfl
  rw [opExchangeStart, onSigned_signed h, exchangeStart]
  dsimp only
  rw [check14_signed h hrange hbusy hc]
  rw [hprog, hi]
  rfl

/-! ## Aborts (R280) -/

theorem dropTransferred_image : u.dropTransferred.image = u.image := by
  unfold dropTransferred
  dsimp only
  split
  · rfl
  · have hreq : ∀ (l : List TaskDecl) (w : State), (l.foldl (fun v d => v.requestPages d.task) w).prog.image = w.prog.image := fun l w =>
      foldl_keeps (·.prog.image) _ (fun v d => congrArg (·.image) (prog_of_within (L := [.drift]) (by simp) (by simp))) l w
    exact hreq _ _


theorem abortExchange_eq (h : u.abortable = true) (cause : Nat) : (u.abortExchange cause).prog.exch.outcome = 3 ∧ (u.abortExchange cause).prog.exch.phase = 0
    ∧ (u.abortExchange cause).prog.exch.abortCause = cause ∧ (u.abortExchange cause).image = u.image
    ∧ (u.pair.ownSelf = true → (u.abortExchange cause).prog.staged = u.prog.staged)
    ∧ (u.pair.ownSelf = false → u.prog.exch.phase < 4 → (u.abortExchange cause).prog.staged = none) := by
  have htrig : ∀ (v : State) w, (v.trigger 0x092 w).prog = v.prog := fun v w => by simp
  have hdrop : u.pair.ownSelf = false → u.prog.exch.phase < 4 → u.dropTransferred.prog.staged = none := fun _ hlt => by
    unfold dropTransferred
    rw [if_pos hlt]
    rfl
  unfold abortExchange
  rw [if_pos h]
  dsimp only
  rw [image, htrig]
  refine ⟨rfl, rfl, rfl, ?_, fun ho => by rw [ho]; rfl, fun ho hlt => by rw [ho]; exact hdrop ho hlt⟩
  dsimp only
  split
  · rfl
  · exact dropTransferred_image

theorem abortBoth_prog (h : u.abortable = true) (cause : Nat) : (u.abortBoth cause).prog = (u.abortExchange cause).prog := by
  rw [abortBoth, if_pos h]
  simp

/-- An abort on the active module (R280). -/
theorem abortBoth_active (h : u.abortable = true) (ho : u.pair.ownSelf = true) (cause : Nat) : (u.abortBoth cause).prog.exch.outcome = 3
    ∧ (u.abortBoth cause).prog.exch.phase = 0 ∧ (u.abortBoth cause).prog.exch.abortCause = cause ∧ (u.abortBoth cause).image = u.image
    ∧ (u.abortBoth cause).prog.staged = u.prog.staged := by
  obtain ⟨hout, hphase, hcause, himage, hstaged, -⟩ := abortExchange_eq h cause
  rw [image, abortBoth_prog h]
  exact ⟨hout, hphase, hcause, himage, hstaged ho⟩

theorem abortable_of_open (h : u.exchangeOpen = true) (hp : u.prog.exch.phase ≠ 8) : u.abortable = true := by simp [abortable, h, hp]

theorem abortHandover_prog : ∃ b, u.abortHandover.prog = { u.prog with exch := { u.prog.exch with stopped := b } } := by
  unfold abortHandover
  split
  · exact ⟨false, by simp⟩
  · exact ⟨u.prog.exch.stopped, rfl⟩

/-! ## PREPARE (R272) -/

/-- The map of the new layout and its counts (R272). -/
def mapped (s : State) (new old : Image) (m : Tab Nat) : State :=
  { s with prog.exch := { s.prog.exch with
      phase := 3, layout := m, carried := BitVec.ofNat 32 (withFate new old 1).length, fresh := BitVec.ofNat 32 (withFate new old 0).length
      retyped := BitVec.ofNat 32 (withFate new old 2).length, removed := BitVec.ofNat 32 (withFate old new 0).length } }

/-! ## ARMED (R274) -/

theorem withFrame_requests (want : Nat) (fetch : Nat → State) (h : ∀ f, (fetch f).drift.requests = u.drift.requests) :
    (u.withFrame want fetch).drift.requests = u.drift.requests := by
  unfold withFrame
  dsimp only
  (repeat' split) <;> simp [h]

theorem armFetch_requests : u.armFetch.drift.requests = u.drift.requests := by
  unfold armFetch
  split
  · rfl
  · refine foldl_keeps (·.drift.requests) _ (fun v p => ?_) _ _
    dsimp only
    split
    · rfl
    · exact withFrame_requests _ _ fun _ => rfl

theorem arm_facts : u.arm.prog.exch.phase = 4 ∧ u.arm.image = u.image ∧ u.arm.mode = u.mode ∧ u.arm.drift.requests = [] := by
  have hd : ∀ v : State, v.discardReleases.prog = v.prog ∧ v.discardReleases.mode = v.mode := fun v => by
    have h : Within [.disp, .drift, .firn, .pair] v v.discardReleases := by simp
    exact ⟨h .prog (by simp), h .mode (by simp)⟩
  have ha : ∀ v : State, v.armFetch.prog = v.prog ∧ v.armFetch.mode = v.mode := fun v => by
    have h : Within [.drift] v v.armFetch := by simp
    exact ⟨h .prog (by simp), h .mode (by simp)⟩
  unfold arm
  dsimp only
  rw [image, (ha _).1, (ha _).2, armFetch_requests, (hd _).1, (hd _).2]
  exact ⟨rfl, rfl, rfl, rfl⟩

end State
open State

/-- Settles O21, clause by clause. -/
theorem exchangesPrepareAndAbort : Obligations.ExchangesPrepareAndAbort := by
  unfold Obligations.ExchangesPrepareAndAbort
  refine ⟨?_, ?_, ?_, ?_, ?_, ?_, ?_, ?_, ?_, ?_, ?_, ?_, ?_, ?_, ?_, ?_, ?_⟩
  · intro s f t i h hlen hst hi hhash hlo hhi hx hp htr hb hsplit hans hstep hm hfw
    have hsame := signed_same h
    have hpair : t.pair = s.pair := by simp [hsame]
    have hanswers : t.partnerAnswers = true := by rw [State.partnerAnswers_signed h, hans]
    have hconflict : (t.pair.split || (if t.partnerAnswers then !(t.mode.current = .run || t.mode.current = .hold) || !t.partnerInStep
        || t.pair.partnerFw ≠ t.fwRelease else t.mode.current ≠ .hold)) = false := by
      rw [hanswers, if_pos rfl, partnerInStep_congr hpair, fwRelease_congr (s := s) (by simp [hsame]), Signed_mode h, hpair, hsplit, hstep, hfw]
      rcases hm with hm | hm <;> simp [hm]
    refine ⟨s.opExchangeStart, rfl, ?_⟩
    rw [exchangeStart_accepted h hlen hst hi hhash hlo hhi hx hp htr hb hconflict, hanswers, if_neg (by decide)]
    obtain ⟨hprog, hpair', hfile⟩ := exchangeBegun_facts (t := t) (f := f) (i := i)
    have hup : (t.exchangeBegun f i).pair.syncUp = true := by rw [hpair', hpair]; exact partnerAnswers_up hans
    have hanswer : ∀ w : State, (w.answer (replyOf f) 0).prog = w.prog ∧ (w.answer (replyOf f) 0).pair = w.pair := fun w => by simp
    have hstage : t.stageFile = s.stageFile := stageFile_congr (by simp [hsame]) (by simp [hsame])
    rw [sendSync_up hup, image, (hanswer _).1, (hanswer _).2]
    dsimp only
    rw [hprog, hpair', hfile, hstage, hpair, hanswers, Signed_time h]
    exact ⟨rfl, rfl, rfl, rfl, rfl, congrArg (·.image) (show t.prog = s.prog by simp [hsame]), rfl,
      answer_replied (x := replyOf f) 0 [] h.port (by decide)⟩
  · intro s f t i h hlen hst hi hhash hlo hhi hx hp htr hb hsplit hans hm
    have hsame := signed_same h
    have hanswers : t.partnerAnswers = false := by rw [State.partnerAnswers_signed h, hans]
    have hconflict : (t.pair.split || (if t.partnerAnswers then !(t.mode.current = .run || t.mode.current = .hold) || !t.partnerInStep
        || t.pair.partnerFw ≠ t.fwRelease else t.mode.current ≠ .hold)) = false := by
      rw [hanswers, if_neg Bool.false_ne_true, Signed_mode h, show t.pair = s.pair by simp [hsame], hsplit, hm]
      decide
    refine ⟨s.opExchangeStart, rfl, ?_⟩
    rw [exchangeStart_accepted h hlen hst hi hhash hlo hhi hx hp htr hb hconflict, hanswers, if_pos (by decide)]
    obtain ⟨hprog, -, -⟩ := exchangeBegun_facts (t := t) (f := f) (i := i)
    have hanswer : ∀ w : State, (w.answer (replyOf f) 0).prog = w.prog := fun w => by simp
    rw [image, hanswer, hprog, hanswers]
    exact ⟨rfl, rfl, rfl, rfl, congrArg (·.image) (show t.prog = s.prog by simp [hsame]), answer_replied (x := replyOf f) 0 [] h.port (by decide)⟩
  · intro s ho hp hown
    exact ⟨s.opTransferEnd 0, rfl, by simp [opTransferEnd, ho, hp, hown, setPhase]⟩
  · intro s e ho hp hown
    refine ⟨s.opTransferEnd e, rfl, ?_⟩
    have hsync : ∀ (w : State) m, (w.sendSync m).prog = w.prog := fun w m => by simp
    by_cases hk : s.imageFault s.stageFile true = 0
    · rw [show s.opTransferEnd e = ((s.setStaged (fileImage s.stageFile) 3).setPhase 2).sendSync (.exchange .verified) by
        simp [opTransferEnd, ho, hp, hown, hk]]
      beta_reduce
      rw [image, hsync]
      exact ⟨fun _ => ⟨rfl, rfl, rfl, rfl⟩, fun hne => absurd hk hne, rfl⟩
    · rw [show s.opTransferEnd e = (s.sendSync (.exchange (.refused (s.imageFault s.stageFile true)))).abortExchange
        (if s.imageFault s.stageFile true = 4 then 9 else 1) by simp [opTransferEnd, ho, hp, hown, hk]]
      have hopen : (s.sendSync (.exchange (.refused (s.imageFault s.stageFile true)))).exchangeOpen = true := by rwa [exchangeOpen, hsync]
      obtain ⟨hout, -, hcause, himage, -, hstaged⟩ := abortExchange_eq (abortable_of_open hopen (by simp [hp]))
        (if s.imageFault s.stageFile true = 4 then 9 else 1)
      refine ⟨fun hz => absurd hz hk, fun _ => ⟨hout, hstaged ?_ (by simp [hp]), hcause⟩, himage.trans (image_congr (hsync _ _))⟩
      simp only [sendSync]
      split <;> exact hown
  · intro s old new m hold hnew ho hp hmap
    refine ⟨s.opMappingEnd, rfl, ?_⟩
    have hrun : s.opMappingEnd = (if s.pair.ownSelf then s.mapped new old m else (s.mapped new old m).sendSync (.exchange .mapBuilt)) := by
      cases hown : s.pair.ownSelf <;> simp [opMappingEnd, hold, hnew, ho, hp, hmap, hown, mapped]
    have hprog : s.opMappingEnd.prog = (s.mapped new old m).prog := by
      rw [hrun]
      split
      · rfl
      · simp
    beta_reduce
    rw [hprog]
    refine ⟨rfl, rfl, rfl, rfl, rfl, rfl, rfl, keeps_of_within ?_⟩
    rw [hrun]
    split <;> simp [Part.facet, mapped]
  · intro s ho hp hlone
    exact ⟨s.opBulkCopyEnd, rfl, if_neg (by rcases hlone with hl | hl <;> simp [ho, hp, hl])⟩
  · intro s ho hp hlone hown
    exact ⟨s.opNewInStep, rfl, by simp [opNewInStep, ho, hp, hown, hlone, setPhase]⟩
  · intro s ho hp hlone hown hcopied hmapped
    refine ⟨s.opNewInStep, rfl, ?_⟩
    obtain ⟨hphase, himage, hmode, hreq⟩ := arm_facts (u := s)
    rw [show s.opNewInStep = s.arm.sendSync (.exchange .inStep) by simp [opNewInStep, ho, hp, hown, hlone, hcopied, hmapped]]
    refine ⟨?_, ?_, ?_, ?_⟩
    · simpa using hphase
    · rw [image] at himage ⊢; simpa using himage
    · simpa using hmode
    · simpa using hreq
  · intro s d ho hp hlone hown hswap hd
    refine ⟨s.opStandbyReady true, rfl, ?_⟩
    rw [show s.opStandbyReady true = s.fixSwap (s.firstInstant d (s.time.mono + 50000000)) by
      rcases hp with hp | hp <;> simp [opStandbyReady, ho, hp, hlone, hown, hswap, fixSwapLater, hd]]
    exact ⟨by simp [fixSwap], by simp [fixSwap], keeps_of_within (by simp [Part.facet])⟩
  · intro s ho hp hlone hown hready hres
    refine ⟨s.opStandbyReady true, rfl, ?_⟩
    rw [show s.opStandbyReady true = ({ s with prog.exch := { s.prog.exch with ready := true } } : State).sendSync (.handover .ready) by
      simp [opStandbyReady, ho, hp, hlone, hown, hready, hres]]
    exact ⟨by simp, keeps_of_within (by simp [Part.facet])⟩
  · intro s e he ho hp hown
    refine ⟨s.opTransferEnd e, rfl, ?_⟩
    obtain ⟨hout, hphase, hcause, himage, hstaged, -⟩ := abortExchange_eq (abortable_of_open ho (by simp [hp])) (if e = 4 then 9 else 1)
    rw [show s.opTransferEnd e = s.abortExchange (if e = 4 then 9 else 1) by simp [opTransferEnd, ho, hp, hown, he]]
    exact ⟨hout, hphase, hcause, himage, hstaged hown⟩
  · intro s old new hold hnew ho hp hown hmap
    refine ⟨s.opMappingEnd, rfl, ?_⟩
    obtain ⟨hout, hphase, hcause, himage, hstaged, -⟩ := abortExchange_eq (abortable_of_open ho (by simp [hp])) 2
    rw [show s.opMappingEnd = s.abortExchange 2 by simp [opMappingEnd, hold, hnew, ho, hp, hmap, hown]]
    exact ⟨hout, hphase, hcause, himage, hstaged hown⟩
  · intro s ho hp hlone hown
    refine ⟨s.opStandbyReady false, rfl, ?_⟩
    rw [show s.opStandbyReady false = s.abortBoth 8 by simp [opStandbyReady, ho, hp, hlone, hown]]
    exact abortBoth_active (abortable_of_open ho (by simp [hp])) hown 8
  · intro s r t x h hi hsub hv hab hown
    refine ⟨_, row_granted h rfl (by rw [hi]; rfl) (by rw [hsub]; rfl), ?_⟩
    have hsame := granted_same h
    have hprog : (t.taken x).prog = s.prog := (taken_prog_drift h).1
    have habort : (t.taken x).abortable = true := by rw [abortable, exchangeOpen, hprog]; exact hab
    obtain ⟨hout, hphase, hcause, himage, hstaged⟩ := abortBoth_active habort (by simpa [hsame] using hown) 6
    obtain ⟨b, hhand⟩ := abortHandover_prog (u := (t.taken x).abortBoth 6)
    unfold opExchangeAbort
    rw [check14_granted h (by simp [granted_req h, hv]) rfl (by simp [habort])]
    beta_reduce
    rw [image, show ∀ w : State, (w.answer x 0).prog = w.prog from fun w => by simp, hhand]
    exact ⟨hout, hphase, hcause, himage.trans (image_congr hprog), hstaged.trans (by rw [hprog]), granted_replied h (by decide)⟩
  · intro s r t x h hi hsub hv hab hho
    refine ⟨_, row_granted h rfl (by rw [hi]; rfl) (by rw [hsub]; rfl), ?_⟩
    have hsame := granted_same h
    have hprog : (t.taken x).prog = s.prog := (taken_prog_drift h).1
    have habort : (t.taken x).abortable = false := by rw [abortable, exchangeOpen, hprog]; exact hab
    have hpair : (t.taken x).pair = s.pair := by simp [hsame]
    unfold opExchangeAbort
    rw [check14_conflict (Granted_port h) (by simp [granted_req h, hv]) rfl (by rw [habort, hpair, hho]; rfl)]
    exact ⟨by simp [hsame], granted_conflict h⟩
  · intro s e he hle hab hown
    refine ⟨s.opPrepareLimit, rfl, ?_⟩
    rw [show s.opPrepareLimit = s.abortBoth 7 from if_pos (by rw [he]; exact decide_eq_true hle)]
    exact abortBoth_active hab hown 7
  · intro s he
    refine ⟨s.opPrepareLimit, rfl, if_neg ?_⟩
    cases hp : s.prog.exch.prepareEnd with
    | none => simp
    | some e => simpa [hp] using he

end Sys2Proof.Machine
end

section
/-! PROOF. The swap, the revert window and the revert (O22). -/
namespace Sys2Proof.Machine

namespace State
variable {s t u : State} {r : Req} {x : ReplyTo} {f : Fwd} {i old new : Image} {m : Mode}

/-! ## The swap on the module that hands over (R276, R279) -/

theorem sendDelta_ownSelf (k : Nat) (instant : Ns) (outcome : Nat) (digest : DWord) (ws : List PlainWrite) :
    (u.sendDelta k instant outcome digest ws).pair.ownSelf = u.pair.ownSelf := by
  unfold sendDelta
  dsimp only
  (repeat' split) <;> simp

theorem abandon_ownSelf (k : Nat) : (u.abandon k).pair.ownSelf = u.pair.ownSelf := by
  unfold abandon
  dsimp only
  rw [sendDelta_ownSelf]
  split <;> simp

theorem discardReleases_ownSelf (safe : Bool) : (u.discardReleases safe).pair.ownSelf = u.pair.ownSelf := by
  unfold discardReleases
  refine foldl_keeps (·.pair.ownSelf) _ (fun v e => ?_) _ _
  (repeat' split) <;> simp [abandon_ownSelf]

theorem opSwapInstant_due (h : s.swapDue = true) (hs : s.prog.exch.stopped = false) (ho : s.pair.ownSelf = true) :
    s.opSwapInstant = (({ s with prog.exch := { s.prog.exch with
      stopped := true, phase := if s.exchangeOpen = true ∧ s.prog.exch.phase = 4 then 5 else s.prog.exch.phase } } : State)).discardReleases := by
  unfold opSwapInstant
  rw [if_neg (by simp [h, hs]), if_pos ho]
  by_cases hp : s.exchangeOpen = true ∧ s.prog.exch.phase = 4
  · simp [hp, setPhase, setExch]
  · simp [hp, setExch]

/-- The loss of ownership at a swap leaves the exchange and the image (R276). -/
theorem dropOwn_swap_prog : (u.dropOwn 1).prog = u.prog := by
  unfold dropOwn
  split
  · simp
  · rfl

theorem abortPrepareIfOwned_prog (k : Byte) : (u.abortPrepareIfOwned k).prog = u.prog := prog_of_within (L := [.mode, .moraine]) (by simp) (by simp)

theorem immediate_prog (m : Mode) (session : Word) : (u.immediate m session).prog = u.prog :=
  prog_of_within (L := [.mode, .sess, .sig, .disp, .drift, .firn, .pair, .hub, .guard, .moraine, .link, .can, .field, .draws]) (by simp) (by simp)

theorem opLastDelta_swaps (ho : s.pair.ownSelf = true) (hs : s.prog.exch.stopped = true) (hd : s.swapDue = true) (hr : s.releases = [])
    (hm : s.mode.current = .run ∨ s.mode.current = .hold) : s.opLastDelta.pair.ownSelf = false ∧ s.opLastDelta.pair.lastDrop = 1
      ∧ s.opLastDelta.mode.current = .track ∧ s.opLastDelta.pair.waitUntil = some (s.time.now + 6000000) ∧ s.opLastDelta.image = s.image := by
  have hgo : (s.pair.ownSelf && s.prog.exch.stopped && s.swapDue && s.releases.isEmpty) = true := by simp [ho, hs, hd, hr]
  have hmode : s.mode.current ≠ .safe := by rcases hm with hm | hm <;> simp [hm]
  have hdrop : ((s.abortPrepareIfOwned 7).dropOwn 1).pair.lastDrop = 1 := dropOwn_lastDrop (by simpa using ho) 1
  have hprog : ((s.abortPrepareIfOwned 7).dropOwn 1).prog = s.prog := dropOwn_swap_prog.trans (abortPrepareIfOwned_prog 7)
  have hend : ∀ (b : Prop) [Decidable b] (v : State) (g h : Exch → Exch), let w := (if b then v.setExch g else (v.setExch h).swapRecord none)
      w.pair = v.pair ∧ w.mode = v.mode ∧ w.image = v.image := by
    intro b _ v g h
    dsimp only
    split
    · exact ⟨rfl, rfl, rfl⟩
    · have hrec : Within [.moraine, .draws] (v.setExch h) ((v.setExch h).swapRecord none) := by simp
      exact ⟨hrec .pair (by simp), hrec .mode (by simp), congrArg (·.image) (prog_of_within hrec (by simp))⟩
  unfold opLastDelta
  simp only [hgo, hm, if_true, Bool.not_true, Bool.false_eq_true, if_false]
  obtain ⟨hpair, hcur, himage⟩ := hend (s.pair.handover = 1) _ _ _
  rw [hpair, hcur, himage]
  refine ⟨?_, ?_, ?_, rfl, ?_⟩
  · dsimp only
    rw [immediate_pair]
    exact dropOwn_ownSelf 1
  · dsimp only
    rw [immediate_pair]
    exact hdrop
  · dsimp only
    rw [immediate_mode]
  · exact congrArg (·.image) ((immediate_prog _ _).trans hprog)

/-! ## The claim after a swap that failed (R279) -/

theorem assertOwn_pair (kind : Nat) (m : Mode) : (u.assertOwn kind m).pair.ownSelf = true ∧ (u.assertOwn kind m).pair.claims = u.pair.claims + 1
    ∧ (u.assertOwn kind m).pair.waitUntil = none := by
  have hrec : ∀ v : State, v.newRecord.pair.ownSelf = v.pair.ownSelf ∧ v.newRecord.pair.claims = v.pair.claims ∧ v.newRecord.pair.waitUntil = v.pair.waitUntil := by
    intro v
    simp only [newRecord, sendSync]
    split <;> exact ⟨rfl, rfl, rfl⟩
  obtain ⟨h1, h2, h3⟩ := hrec _
  unfold assertOwn
  refine ⟨h1.trans rfl, h2.trans ?_, h3.trans rfl⟩
  simp

theorem assertOwn_image (kind : Nat) (m : Mode) : (u.assertOwn kind m).image = u.image := by
  have hprog : ∀ v : State, v.newRecord.prog = v.prog := fun v => prog_of_within (L := [.pair]) (by simp) (by simp)
  unfold assertOwn
  rw [image, hprog]
  simp [image]

theorem swapFailed_facts : u.swapFailed.pair = { u.pair with handover := u.swapFailed.pair.handover } ∧ u.swapFailed.mode = u.mode ∧ u.swapFailed.image = u.image := by
  unfold swapFailed
  split
  · exact ⟨by simp, by simp, by rw [image, image]; simp⟩
  · exact ⟨by simp [setExch], by simp [setExch], by rw [image, image]; simp [setExch]⟩

theorem opReclaim_claims {e : Ns} (hw : s.pair.waitUntil = some e) (he : e ≤ s.time.now) (hp : s.pair.ownPeer = false) (ho : s.pair.ownSelf = false)
    (hm : s.mode.current = .track) (hr : s.mode.inReset = false) (hs : s.prog.exch.swapMode = .run ∨ s.prog.exch.swapMode = .hold) :
    s.opReclaim.pair.ownSelf = true ∧ s.opReclaim.mode.current = s.prog.exch.swapMode ∧ s.opReclaim.pair.claims = s.pair.claims + 1
      ∧ s.opReclaim.pair.waitUntil = none ∧ s.opReclaim.image = s.image := by
  have hne : s.prog.exch.swapMode ≠ .track := by rcases hs with hs | hs <;> simp [hs]
  have hcold : s.prog.exch.swapMode ≠ .cold := by rcases hs with hs | hs <;> simp [hs]
  have hmode : (s.assertOwn 3 s.prog.exch.swapMode).mode = s.mode := mode_of_within (L := [.disp, .firn, .prog, .pair, .moraine]) (by simp) (by simp)
  have hrun : s.opReclaim = ((((s.assertOwn 3 s.prog.exch.swapMode).immediate s.prog.exch.swapMode).tellEpoch s.time.mono true).swapFailed.gatesChanged).settle := by
    unfold opReclaim
    rw [if_neg (by simp [hw, he, hp, ho, hm, hr])]
    dsimp only
    rw [if_neg (by simp [hm]), hmode, hm, if_neg (Ne.symm hne)]
  obtain ⟨hown, hclaims, hwait⟩ := assertOwn_pair (u := s) 3 s.prog.exch.swapMode
  have htell : ∀ (v : State) c b, (v.tellEpoch c b).pair.ownSelf = v.pair.ownSelf ∧ (v.tellEpoch c b).pair.claims = v.pair.claims
      ∧ (v.tellEpoch c b).pair.waitUntil = v.pair.waitUntil ∧ (v.tellEpoch c b).mode = v.mode ∧ (v.tellEpoch c b).prog = v.prog := by
    intro v c b
    simp only [tellEpoch, sendSync]
    (repeat' split) <;> exact ⟨rfl, rfl, rfl, rfl, rfl⟩
  have hgate : ∀ v : State, v.gatesChanged.settle.pair = v.pair ∧ v.gatesChanged.settle.mode = v.mode ∧ v.gatesChanged.settle.prog = v.prog := fun v => by
    have h : Within [.sig, .disp, .moraine, .can, .field, .capture] v v.gatesChanged.settle := by simp
    exact ⟨h .pair (by simp), h .mode (by simp), h .prog (by simp)⟩
  obtain ⟨hfpair, hfmode, hfimage⟩ := swapFailed_facts (u := ((s.assertOwn 3 s.prog.exch.swapMode).immediate s.prog.exch.swapMode).tellEpoch s.time.mono true)
  obtain ⟨ht1, ht2, ht3, ht4, ht5⟩ := htell ((s.assertOwn 3 s.prog.exch.swapMode).immediate s.prog.exch.swapMode) s.time.mono true
  rw [hrun, image, (hgate _).1, (hgate _).2.1, (hgate _).2.2, hfmode, hfpair, ← image, hfimage, ht4, image, ht5, immediate_prog]
  dsimp only
  rw [ht1, ht2, ht3, immediate_pair, immediate_mode]
  exact ⟨hown, rfl, hclaims, by simp [hcold, hwait], assertOwn_image _ _⟩

/-! ## The revert window (R282 to R284) -/

theorem exchangeRevert_lone (h : Signed s 0x2321 f t) (hlen : f.req.arg.length = 64) (hst : s.prog.stageState = 5) (hi : s.prog.staged = some i)
    (hhash : i.hash.toNat = at_ f.req.arg 0 64) (hb : s.modeBusy = false) (hp : s.prog.exch.phase = 6)
    (hc : s.prog.exch.lone = true ∧ s.mode.current = .hold ∨ s.prog.exch.lone = false ∧ (s.mode.current = .run ∨ s.mode.current = .hold)
      ∧ s.partnerAnswers = true ∧ tb s.pair.partnerMode.toNat 18 = false) :
    ∃ v : State, v = { t with prog.exch := { s.prog.exch with phase := 8, dropped := false, stopped := false, ready := false, swapAt := none } }
      ∧ s.opExchangeRevert = (if s.prog.exch.lone then v else v.sendSync (.exchange (.phase 8))).answer (replyOf f) 0 := by
  have hsame := signed_same h
  have hprog : t.prog = s.prog := by simp [hsame]
  have hpair : t.pair = s.pair := by simp [hsame]
  have hconflict : (t.prog.exch.phase ≠ 6 || (if t.prog.exch.lone then t.mode.current ≠ .hold else
      !(t.mode.current = .run || t.mode.current = .hold || t.mode.current = .safe) || !t.partnerAnswers || tb t.pair.partnerMode.toNat 18)) = false := by
    rw [hprog, hpair, Signed_mode h, State.partnerAnswers_signed h, hp]
    rcases hc with ⟨hl, hm⟩ | ⟨hl, hm, hans, htb⟩
    · simp [hl, hm]
    · rcases hm with hm | hm <;> simp [hl, hm, hans, htb]
  have hsafe : s.mode.current ≠ .safe := by rcases hc with ⟨-, hm⟩ | ⟨-, hm | hm, -⟩ <;> simp [hm]
  refine ⟨_, rfl, ?_⟩
  rw [opExchangeRevert, onSigned_signed h, exchangeRevert]
  dsimp only
  rw [check14_signed h (by simp [hprog, hlen, hst, hi, hhash]) (by rw [modeBusy_congr (Signed_mode h) hprog, hb]) hconflict, hprog, Signed_mode h, if_neg hsafe]

/-- The revert window of an active module ends (R284). -/
theorem endWindow_active (ho : u.pair.ownSelf = true) (hl : u.prog.exch.lone = false) : u.endWindow.prog.exch.phase = 7 ∧ u.endWindow.prog.exch.held = false
    ∧ u.endWindow.prog.staged = none ∧ u.endWindow.image = u.image := by
  have hsync : ∀ (w : State) c, (w.sendSync c).prog = w.prog := fun w c => by simp
  unfold endWindow
  simp only [hl, Bool.false_eq_true, if_false, ho, if_true]
  rw [image, hsync]
  exact ⟨rfl, rfl, rfl, rfl⟩

/-- The revert window of a lone module ends: the exchange is complete (R295). -/
theorem endWindow_lone (hl : u.prog.exch.lone = true) : u.endWindow.prog.exch.phase = 0 ∧ u.endWindow.prog.exch.outcome = 2
    ∧ u.endWindow.prog.exch.held = false ∧ u.endWindow.prog.staged = none ∧ u.endWindow.image = u.image := by
  have htrig : ∀ (w : State) l, (w.trigger 0x097 l).prog = w.prog := fun w l => by simp
  unfold endWindow
  simp only [hl, if_true]
  rw [image, htrig]
  exact ⟨rfl, rfl, rfl, rfl, rfl⟩

/-! ## The exchange on a lone module (R295, R296) -/

theorem setWord_facts (w type : Nat) (v : Word) : (u.setWord w type v).drift.area = u.drift.area ∧ (u.setWord w type v).prog = u.prog ∧ (u.setWord w type v).mode = u.mode := by
  have hdirty : ∀ (y : State) p, (y.dirty p).drift.area = y.drift.area ∧ (y.dirty p).prog = y.prog ∧ (y.dirty p).mode = y.mode := fun y p => by
    unfold dirty; dsimp only; (repeat' split) <;> exact ⟨rfl, rfl, rfl⟩
  have hcopy : ∀ (y : State) p, (y.setCopy p w type v).drift.area = y.drift.area ∧ (y.setCopy p w type v).prog = y.prog ∧ (y.setCopy p w type v).mode = y.mode := fun y p => by
    unfold setCopy
    dsimp only
    split <;> exact hdirty y _
  unfold setWord
  exact ⟨(hcopy _ _).1.trans ((hcopy _ _).1.trans (hcopy _ _).1), (hcopy _ _).2.1.trans ((hcopy _ _).2.1.trans (hcopy _ _).2.1),
    (hcopy _ _).2.2.trans ((hcopy _ _).2.2.trans (hcopy _ _).2.2)⟩

/-- What the application of a parameter write leaves of the program: the image, what is staged and the exchange. -/
def Program (s u : State) : Prop := u.prog.image = s.prog.image ∧ u.prog.exch = s.prog.exch ∧ u.drift.area = s.drift.area ∧ u.mode = s.mode

theorem applyParam_program (q : ParamQ) : Program u (u.applyParam q) := by
  have hword : ∀ (v : State) (w : Nat × Word) (c : Change) n y, Program v ((v.setWord n y w.2).logChange c) := fun v w c n y => by
    have harea := (setWord_facts (u := v) n y w.2).1
    exact ⟨by simp [logChange], by simp [logChange], by simp [logChange, harea], by simp [logChange]⟩
  have hwords : ∀ (l : List (Nat × Word)) (g : State → Nat × Word → State), (∀ v w, Program v (g v w)) → Program u (l.foldl g u) := by
    intro l g hg
    exact ⟨foldl_keeps (·.prog.image) g (fun v w => (hg v w).1) l u, foldl_keeps (·.prog.exch) g (fun v w => (hg v w).2.1) l u,
      foldl_keeps (·.drift.area) g (fun v w => (hg v w).2.2.1) l u, foldl_keeps (·.mode) g (fun v w => (hg v w).2.2.2) l u⟩
  unfold applyParam
  obtain ⟨h1, h2, h3, h4⟩ := hwords q.words _ (fun v w => hword v w _ _ _)
  exact ⟨by simpa using h1, by simpa using h2, by simpa using h3, by simpa using h4⟩

theorem flushParams_program : Program u u.flushParams := by
  unfold flushParams
  exact ⟨foldl_keeps (·.prog.image) _ (fun v q => (applyParam_program q).1) _ _, foldl_keeps (·.prog.exch) _ (fun v q => (applyParam_program q).2.1) _ _,
    foldl_keeps (·.drift.area) _ (fun v q => (applyParam_program q).2.2.1) _ _, foldl_keeps (·.mode) _ (fun v q => (applyParam_program q).2.2.2) _ _⟩

theorem execute_facts (i : Image) (area : Nat) (slots : Tab Nat) (words : Tab Word) :
    (∃ n, (u.execute i area slots words).prog.exch = { u.prog.exch with exchanges := n }) ∧ (u.execute i area slots words).mode = u.mode := by
  have hafter : ∀ w : State, Within [.sig, .disp, .firn, .moraine, .sedge, .draws] w
      ((((w.freshFirn.rebuildCopies).taintSignals).appendMeasured 5 0 area i.hash).judgeUndispatchable.moveQueues u) := fun w => by simp
  have hgone : Within [.moraine] u (u.untaintGone i) := by simp
  exact ⟨⟨_, congrArg (·.exch) (hafter _ .prog (by simp))⟩, (hafter _ .mode (by simp)).trans (hgone .mode (by simp))⟩

/-- What an image swap leaves once the image executes: the images, what is staged, S and the area. -/
theorem redriven_facts : (u.fetchResident.redrive.settle).prog = u.prog ∧ (u.fetchResident.redrive.settle).drift.area = u.drift.area
    ∧ (u.fetchResident.redrive.settle).mode = u.mode := by
  have hend : Within [.sig, .field, .capture] u.fetchResident u.fetchResident.redrive.settle := by simp
  have hfetch : Within [.drift] u u.fetchResident := by simp
  exact ⟨(hend .prog (by simp)).trans (hfetch .prog (by simp)), (congrArg (·.area) (hend .drift (by simp))).trans fetchResident_area,
    (hend .mode (by simp)).trans (hfetch .mode (by simp))⟩

theorem swapIn_swaps (h : u.image = some old) : (u.swapIn new).prog.image = some new ∧ (u.swapIn new).prog.staged = some old ∧ (u.swapIn new).prog.stageState = 5
    ∧ (u.swapIn new).prog.exch.lastSwap = u.prog.exch.lastSwap ∧ (u.swapIn new).drift.area = 1 - u.drift.area ∧ (u.swapIn new).mode = u.mode := by
  have htrig : ∀ (l : List Nat) (l' : List InstDecl) (w : State), Within [.moraine] w
      (l'.foldl (fun (r : State) _ => r.trigger 0x095 []) (l.foldl (fun (r : State) g => r.trigger 0x094 [g]) w)) := fun l l' w => by simp
  have hreport : ∀ l (e : Tab Sig), Within [.prog, .draws, .pair, .moraine, .capture, .sig] u { (u.fillReport l).swapGroups old new with sig.entries := e } := fun l e => by simp
  have hexch : ∀ l, ((u.fillReport l).swapGroups old new).prog.exch.lastSwap = u.prog.exch.lastSwap := fun l =>
    congrArg (·.exch.lastSwap) (prog_of_within (s := u.fillReport l) (L := [.pair, .moraine, .capture]) (by simp) (by simp))
  unfold swapIn
  simp only [h]
  obtain ⟨hprog, harea, hmode⟩ := redriven_facts (u := _)
  rw [hprog, harea, hmode, htrig _ _ _ .prog (by simp), htrig _ _ _ .drift (by simp), htrig _ _ _ .mode (by simp)]
  dsimp only
  obtain ⟨⟨n, hx⟩, hm⟩ := execute_facts (u := { ((u.fillReport _).swapGroups old new) with sig.entries := _ }) new (1 - u.drift.area) u.prog.exch.layout _
  refine ⟨(execute_image _ _ _ _).1, rfl, rfl, ?_, (execute_image _ _ _ _).2, ?_⟩
  · rw [hx]; exact hexch _
  · rw [hm]; exact hreport _ _ .mode (by simp)

theorem swapBack_swaps (h : u.image = some new) (slots : Tab Nat) (words : Tab Word) : (u.swapBack old slots words).image.map (·.hash) = some old.hash
    ∧ (u.swapBack old slots words).prog.staged = some new ∧ (u.swapBack old slots words).mode = u.mode := by
  have hgroups : ∀ (e : Tab Sig), Within [.pair, .moraine, .capture, .sig] u { u.swapGroups new old with sig.entries := e } := fun e => by simp
  have happly : ∀ w : State, w.applyRecord.mode = w.mode := fun w => mode_of_within (L := [.prog]) (by simp) (by simp)
  unfold swapBack
  simp only [h, Option.elim_some]
  obtain ⟨hprog, -, hmode⟩ := redriven_facts (u := _)
  rw [image, hprog, hmode, applyRecord_hash, happly, applyRecord_stage.2]
  dsimp only
  rw [(execute_image _ _ _ _).1, (execute_facts _ _ _ _).2]
  exact ⟨rfl, rfl, hgroups _ .mode (by simp)⟩

theorem beginCkpt_facts : u.beginCkpt.prog = u.prog ∧ u.beginCkpt.drift.area = u.drift.area ∧ u.beginCkpt.mode = u.mode := by
  unfold beginCkpt
  split <;> exact ⟨rfl, rfl, rfl⟩

/-- The lone module has taken the new image: its revert window runs (R295). -/
def loneSwapped (s : State) (new : Image) : State :=
  ({ s.flushParams with prog.exch := { s.prog.exch with layoutState := s.flushParams.mappedWords, lastSwap := s.time.mono } } : State).swapIn new

theorem opLoneExecute_runs (hnew : s.prog.exch.other = some new)
    (hgo : (s.exchangeOpen && s.prog.exch.lone && s.prog.exch.phase = 3 && s.prog.exch.copied && s.slowestInstant) = true) :
    s.opLoneExecute = (({ s.loneSwapped new with prog.exch := { (s.loneSwapped new).prog.exch with
      phase := 6, dropped := true, held := true, heldHere := true, windowEnd := (s.loneSwapped new).windowFromNow } } : State).swapRecord none).beginCkpt := by
  unfold opLoneExecute
  split
  · next h => rw [h] at hnew; cases hnew
  · next n h =>
    obtain rfl := Option.some.inj (h.symm.trans hnew)
    exact if_neg (by simp [hgo])

/-- The lone module has taken the old image again (R296). -/
def loneReverted (s : State) (new old : Image) : State :=
  ({ s.flushParams with prog.exch := { s.prog.exch with lastSwap := s.time.mono } } : State).swapBack old s.prog.exch.layout
    (mapState new old s.flushParams.prog.slots s.prog.exch.layout s.flushParams.firn.stateA s.prog.exch.layoutState)

theorem loneReverted_facts (hold : s.image = some new) : (s.loneReverted new old).image.map (·.hash) = some old.hash
    ∧ (s.loneReverted new old).prog.staged = some new ∧ (s.loneReverted new old).mode = s.mode := by
  obtain ⟨hpimage, -, -, hpmode⟩ := flushParams_program (u := s)
  rw [loneReverted]
  generalize hX : ({ s.flushParams with prog.exch := { s.prog.exch with lastSwap := s.time.mono } } : State) = X
  have himage : X.image = some new := by rw [← hX]; exact hpimage.trans hold
  have hmode : X.mode = s.mode := by rw [← hX]; exact hpmode
  rw [← hmode]
  exact swapBack_swaps himage _ _

theorem opLoneRevert_runs (hold : s.image = some new) (hnew : s.prog.exch.other = some old)
    (hgo : (s.exchangeOpen && s.prog.exch.lone && s.prog.exch.phase = 8 && s.slowestInstant) = true) :
    s.opLoneRevert = (({ s.loneReverted new old with prog.exch := { (s.loneReverted new old).prog.exch with
      phase := 0, outcome := 4, held := false, heldHere := false, windowEnd := none, dropped := true } } : State).swapRecord none).trigger 0x096 [] := by
  unfold opLoneRevert
  split
  · next i o h1 h2 =>
    obtain rfl := Option.some.inj (h1.symm.trans hold)
    obtain rfl := Option.some.inj (h2.symm.trans hnew)
    unfold loneReverted
    dsimp only
    rw [if_neg (by simp [hgo])]
  · next h => exact absurd hnew (h _ _ hold)

theorem swapRecord_none : (u.swapRecord none).prog = u.prog ∧ (u.swapRecord none).drift = u.drift ∧ (u.swapRecord none).mode = u.mode := by
  have h : Within [.moraine, .draws] u (u.swapRecord none) := by simp
  exact ⟨h .prog (by simp), h .drift (by simp), h .mode (by simp)⟩

end State
open State

/-- Settles O22, clause by clause. -/
theorem exchangesSwapAndRevert : Obligations.ExchangesSwapAndRevert := by
  unfold Obligations.ExchangesSwapAndRevert
  refine ⟨?_, ?_, ?_, ?_, ?_, ?_, ?_, ?_, ?_, ?_, ?_, ?_⟩
  · intro s hd hs ho
    refine ⟨s.opSwapInstant, rfl, ?_⟩
    rw [opSwapInstant_due hd hs ho]
    have hw : ∀ v : State, Within [.disp, .drift, .firn, .pair] v v.discardReleases := fun v => by simp
    exact ⟨congrArg (·.exch) (hw _ .prog (by simp)), (discardReleases_ownSelf _).trans ho, congrArg (·.image) (hw _ .prog (by simp)), hw _ .mode (by simp)⟩
  · intro s h
    exact ⟨s.opSwapInstant, rfl, if_pos (by rcases h with h | h <;> simp [h])⟩
  · intro s ho hs hd hr hm
    exact ⟨s.opLastDelta, rfl, opLastDelta_swaps ho hs hd hr hm⟩
  · intro s e hw he hp ho hm hr hs
    exact ⟨s.opReclaim, rfl, opReclaim_claims hw he hp ho hm hr hs⟩
  · intro s h
    refine ⟨s.opReclaim, rfl, if_pos (.inl ?_)⟩
    cases hw : s.pair.waitUntil with
    | none => rfl
    | some e => simpa [hw] using h
  · intro s f t i h hlen hst hi hhash hb hp hl hm
    refine ⟨s.opExchangeRevert, rfl, ?_⟩
    obtain ⟨v, hv, hrun⟩ := exchangeRevert_lone h hlen hst hi hhash hb hp (.inl ⟨hl, hm⟩)
    have hanswer : ∀ w : State, (w.answer (replyOf f) 0).prog = w.prog := fun w => by simp
    rw [hrun, hl, if_pos rfl, image, hanswer, hv]
    exact ⟨rfl, rfl, congrArg (·.image) (show t.prog = s.prog by simp [signed_same h]), answer_replied (x := replyOf f) 0 [] h.port (by decide)⟩
  · intro s f t i h hlen hst hi hhash hb hp hl hm hans htb
    refine ⟨s.opExchangeRevert, rfl, ?_⟩
    obtain ⟨v, hv, hrun⟩ := exchangeRevert_lone h hlen hst hi hhash hb hp (.inr ⟨hl, hm, hans, htb⟩)
    have hanswer : ∀ w : State, (w.answer (replyOf f) 0).prog = w.prog ∧ (w.answer (replyOf f) 0).pair = w.pair := fun w => by simp
    have hpair : v.pair = s.pair := by rw [hv]; simp [signed_same h]
    rw [hrun, hl, if_neg Bool.false_ne_true, image, (hanswer _).1, (hanswer _).2, sendSync_up (by rw [hpair]; exact partnerAnswers_up hans), hpair, hv]
    exact ⟨rfl, congrArg (·.image) (show t.prog = s.prog by simp [signed_same h]), rfl, answer_replied (x := replyOf f) 0 [] h.port (by decide)⟩
  · intro s r t x h hi hsub hv hout hp ho hl
    refine ⟨_, row_granted h rfl (by rw [hi]; rfl) (by rw [hsub]; rfl), ?_⟩
    have hprog : (t.taken x).prog = s.prog := (taken_prog_drift h).1
    obtain ⟨hphase, hheld, hstaged, himage⟩ := endWindow_active (u := t.taken x) (by simpa [granted_same h] using ho) (by rw [hprog, hl])
    unfold opExchangeConfirm
    rw [check14_granted h (by simp [granted_req h, hv]) rfl (by rw [hprog, hout, hp]; rfl)]
    beta_reduce
    rw [image, show ∀ w : State, (w.answer x 0).prog = w.prog from fun w => by simp]
    exact ⟨hphase, hheld, hstaged, himage.trans (image_congr hprog), granted_replied h (by decide)⟩
  · intro s e hp he hle hl
    refine ⟨s.opWindowExpiry, rfl, ?_⟩
    rw [show s.opWindowExpiry = s.endWindow from if_pos ⟨hp, by rw [he]; exact decide_eq_true hle⟩]
    exact endWindow_lone hl
  · intro s e hp he hlt
    refine ⟨s.opWindowExpiry, rfl, if_neg ?_⟩
    rintro ⟨-, hdue⟩
    rw [he] at hdue
    exact Nat.not_le.mpr hlt (of_decide_eq_true hdue)
  · intro s old new hold hnew ho hl hp hc hi
    refine ⟨s.opLoneExecute, rfl, ?_⟩
    obtain ⟨hpimage, hpexch, hparea, hpmode⟩ := flushParams_program (u := s)
    obtain ⟨himage, hstaged, hstate, hlast, harea, hmode⟩ := swapIn_swaps (new := new) (old := old)
      (u := { s.flushParams with prog.exch := { s.prog.exch with layoutState := s.flushParams.mappedWords, lastSwap := s.time.mono } }) (hpimage.trans hold)
    have hgo : (s.exchangeOpen && s.prog.exch.lone && s.prog.exch.phase = 3 && s.prog.exch.copied && s.slowestInstant) = true := by simp [ho, hl, hp, hc, hi]
    have hrun := opLoneExecute_runs hnew hgo
    rw [hrun]
    rw [image, beginCkpt_facts.1, beginCkpt_facts.2.1, beginCkpt_facts.2.2, swapRecord_none.1, swapRecord_none.2.1, swapRecord_none.2.2]
    exact ⟨himage, hstaged, hstate, rfl, rfl, hlast, harea.trans (by rw [hparea]), hmode.trans hpmode⟩
  · intro s old new hold hnew ho hl hp hi
    refine ⟨s.opLoneRevert, rfl, ?_⟩
    obtain ⟨himage, hstaged, hmode⟩ := loneReverted_facts (old := old) hold
    have hgo : (s.exchangeOpen && s.prog.exch.lone && s.prog.exch.phase = 8 && s.slowestInstant) = true := by simp [ho, hl, hp, hi]
    have htrig : ∀ (w : State) l, (w.trigger 0x096 l).prog = w.prog ∧ (w.trigger 0x096 l).mode = w.mode := fun w l => by simp
    have hrun := opLoneRevert_runs hold hnew hgo
    rw [hrun]
    rw [image, (htrig _ _).1, (htrig _ _).2, swapRecord_none.1, swapRecord_none.2.2]
    dsimp only
    rw [image] at himage
    exact ⟨himage, hstaged, rfl, rfl, rfl, hmode⟩

end Sys2Proof.Machine
end

section
/-! PROOF. Claims of ownership: the handover request, the claim timer, the takeover and the claim from COLD (O23). -/
namespace Sys2Proof.Machine

namespace State
variable {s t u v : State} {r : Req} {x : ReplyTo} {d : TaskDecl} {new : Image} {m : Mode}

/-! ## HANDOVER_REQUEST (R334) -/

theorem firstInstant_congr (h : t.disp.tasks = s.disp.tasks) (d : TaskDecl) (k : Ns) : t.firstInstant d k = s.firstInstant d k := by
  simp only [firstInstant, task_of_tasks h]

theorem slowest_congr (h : t.prog = s.prog) : t.slowest = s.slowest := by simp only [slowest, tasks, image, h]

/-! ## What a claim leaves of the Interlock's own counts -/

/-- The claims made and the slot are as they were. -/
def SameClaims (s u : State) : Prop := u.pair.claims = s.pair.claims ∧ u.pair.slotPos = s.pair.slotPos

theorem SameClaims.trans (h : SameClaims s t) (k : SameClaims t u) : SameClaims s u := ⟨k.1.trans h.1, k.2.trans h.2⟩
theorem sameClaims_of_pair (h : u.pair = s.pair) : SameClaims s u := ⟨by rw [h], by rw [h]⟩
theorem foldl_sameClaims {α : Type} {f : State → α → State} (h : ∀ v a, SameClaims v (f v a)) (l : List α) (u : State) : SameClaims u (l.foldl f u) :=
  ⟨foldl_keeps (·.pair.claims) f (fun v a => (h v a).1) l u, foldl_keeps (·.pair.slotPos) f (fun v a => (h v a).2) l u⟩

theorem sendDelta_sameClaims (k : Nat) (instant : Ns) (outcome : Nat) (digest : DWord) (ws : List PlainWrite) :
    SameClaims u (u.sendDelta k instant outcome digest ws) := by
  unfold sendDelta
  dsimp only
  split <;> exact ⟨rfl, rfl⟩

theorem abandon_sameClaims (k : Nat) : SameClaims u (u.abandon k) := by
  unfold abandon
  dsimp only
  refine SameClaims.trans (sameClaims_of_pair ?_) (sendDelta_sameClaims _ _ _ _ _)
  split <;> simp

theorem discardReleases_sameClaims (safe : Bool) : SameClaims u (u.discardReleases safe) := by
  refine foldl_sameClaims (fun v e => ?_) _ _
  split
  · exact ⟨rfl, rfl⟩
  · split
    · exact sameClaims_of_pair (by simp)
    · exact abandon_sameClaims _

theorem setArm_sameClaims (g : Nat) (on : Bool) : SameClaims u (u.setArm g on) := by
  have htell : ∀ v : State, SameClaims v (v.tellArm g on) := fun v => by
    unfold tellArm
    split <;> exact ⟨rfl, rfl⟩
  unfold setArm
  split
  · exact ⟨rfl, rfl⟩
  · exact SameClaims.trans (t := u.setCap g fun x => { x with armed := on }) (sameClaims_of_pair rfl) (SameClaims.trans (htell _) (sameClaims_of_pair (by simp)))

theorem swapGroups_sameClaims (old new : Image) : SameClaims u (u.swapGroups old new) := by
  refine foldl_sameClaims (fun v g => ?_) _ _
  split
  · exact ⟨rfl, rfl⟩
  · exact setArm_sameClaims _ _

theorem swapIn_sameClaims : SameClaims u (u.swapIn new) := by
  have htrig : ∀ (l : List Nat) (l' : List InstDecl) (w : State), Within [.moraine, .drift, .sig, .field, .capture] w
      (((l'.foldl (fun (r : State) _ => r.trigger 0x095 []) (l.foldl (fun (r : State) g => r.trigger 0x094 [g]) w)).fetchResident).redrive.settle) := fun l l' w => by simp
  have hexec : ∀ (w : State) i a o b, (w.execute i a o b).pair = w.pair := fun w i a o b =>
    pair_of_within (s := w) (L := [.xan, .sig, .disp, .drift, .firn, .prog, .moraine, .capture, .sedge, .draws]) (by simp) (by simp)
  have hfill : ∀ l, (u.fillReport l).pair = u.pair := fun l => pair_of_within (s := u) (L := [.prog, .draws]) (by simp) (by simp)
  cases h : u.image with
  | none => rw [swapIn, h]; exact ⟨rfl, rfl⟩
  | some old =>
    obtain ⟨l, hpair⟩ : ∃ l, (u.swapIn new).pair = ((u.fillReport l).swapGroups old new).pair := by
      unfold swapIn
      simp only [h]
      rw [htrig _ _ _ .pair (by simp)]
      dsimp only
      rw [hexec]
      exact ⟨_, rfl⟩
    exact SameClaims.trans (SameClaims.trans (sameClaims_of_pair (hfill l)) (swapGroups_sameClaims old new)) (sameClaims_of_pair hpair)

/-! ## OWN_SELF is asserted (R316) -/

theorem assertOwn_claim (kind : Nat) (m : Mode) : (u.assertOwn kind m).pair.lastClaim = u.time.mono ∧ (u.assertOwn kind m).pair.ownerSlot = u.pair.slotPos
    ∧ (u.assertOwn kind m).pair.claimWait = none ∧ (u.assertOwn kind m).pair.stale = false := by
  have hrec : ∀ v : State, v.newRecord.pair.lastClaim = v.pair.lastClaim ∧ v.newRecord.pair.ownerSlot = v.pair.slotPos
      ∧ v.newRecord.pair.claimWait = v.pair.claimWait ∧ v.newRecord.pair.stale = v.pair.stale := by
    intro v
    simp only [newRecord, sendSync]
    split <;> exact ⟨rfl, rfl, rfl, rfl⟩
  obtain ⟨hlast, hslot, hwait, hstale⟩ := hrec _
  unfold assertOwn
  refine ⟨hlast.trans ?_, hslot.trans ?_, hwait.trans rfl, hstale.trans rfl⟩ <;> simp

theorem assertOwn_mode (kind : Nat) (m : Mode) : (u.assertOwn kind m).mode = u.mode :=
  mode_of_within (L := [.disp, .firn, .prog, .pair, .moraine]) (by simp) (by simp)

theorem tellEpoch_pair (c : Ns) (b : Bool) : (u.tellEpoch c b).pair = { u.pair with out := (u.tellEpoch c b).pair.out } := by
  simp only [tellEpoch, sendSync]
  (repeat' split) <;> rfl

/-! ## Takeover from TRACK (R323) -/

/-- The standby as a takeover finds it: its releases are given up, the image of a swap executes, an open exchange is aborted. -/
def yielded (s : State) : State :=
  if s.swapClaim then s.discardReleases.prog.exch.other.elim s.discardReleases s.discardReleases.swapIn else s.discardReleases.abortExchange 4

theorem yielded_facts : SameClaims s s.yielded ∧ s.yielded.mode = s.mode ∧ s.yielded.time = s.time := by
  have hdis : Within [.disp, .drift, .firn, .pair] s s.discardReleases := by simp
  have hswap : ∀ i, Within [.xan, .sig, .disp, .drift, .firn, .prog, .pair, .moraine, .capture, .field, .sedge, .draws] s.discardReleases (s.discardReleases.swapIn i) :=
    fun i => by simp
  have habort : Within [.xan, .drift, .prog, .moraine] s.discardReleases (s.discardReleases.abortExchange 4) := by simp
  have hclaims := discardReleases_sameClaims (u := s) false
  unfold yielded
  split
  · cases s.discardReleases.prog.exch.other with
    | none => exact ⟨hclaims, hdis .mode (by simp), hdis .time (by simp)⟩
    | some i => exact ⟨hclaims.trans swapIn_sameClaims, (hswap i .mode (by simp)).trans (hdis .mode (by simp)), (hswap i .time (by simp)).trans (hdis .time (by simp))⟩
  · exact ⟨hclaims.trans (sameClaims_of_pair (habort .pair (by simp))), (habort .mode (by simp)).trans (hdis .mode (by simp)),
      (habort .time (by simp)).trans (hdis .time (by simp))⟩

/-- What a takeover does once the module owns and no transition stays open. -/
def takenOver (s u : State) : State :=
  let s4 := if s.swapClaim then u.beginWindow else if s.prog.exch.heldHere then u.backToOld (decide (s.pair.goodbye = 1) && decide (s.prog.exch.phase = 8)) else u
  (if s.pair.goodbye = 1 then s4.beginCkpt else s4).unstale.gatesChanged.settle

theorem takenOver_facts : (takenOver s u).pair = u.pair ∧ (takenOver s u).mode = u.mode := by
  have hW : Within [.xan, .sig, .disp, .drift, .prog, .moraine, .capture, .can, .field, .draws] u (takenOver s u) := by
    unfold takenOver
    simp
  exact ⟨hW .pair (by simp), hW .mode (by simp)⟩

theorem takeover_eq (h : s.mode.pending = 0) :
    s.takeover = takenOver s ((((s.yielded).assertOwn 2 s.takeoverMode.1).immediate s.takeoverMode.1).tellEpoch s.time.mono true) := by
  have hmode : s.yielded.mode = s.mode := yielded_facts.2.1
  unfold takeover
  dsimp only
  rw [show (if s.swapClaim then s.discardReleases.prog.exch.other.elim s.discardReleases s.discardReleases.swapIn else s.discardReleases.abortExchange 4) = s.yielded from rfl,
    show (s.takeoverMode.2 && decide (s.yielded.mode.pending ≠ 0)) = false by simp [hmode, h]]
  rfl

theorem takeover_claims (h : s.mode.pending = 0) : s.takeover.pair.ownSelf = true ∧ s.takeover.mode.current = s.takeoverMode.1 ∧ s.takeover.mode.epoch = s.mode.epoch + 1
    ∧ s.takeover.pair.claims = s.pair.claims + 1 ∧ s.takeover.pair.lastClaim = s.time.mono ∧ s.takeover.pair.ownerSlot = s.pair.slotPos ∧ s.takeover.pair.claimWait = none
    ∧ s.takeover.pair.stale = false := by
  obtain ⟨⟨hclaims, hslot⟩, hmode, htime⟩ := yielded_facts (s := s)
  obtain ⟨h1, h2, -⟩ := assertOwn_pair (u := s.yielded) 2 s.takeoverMode.1
  obtain ⟨h3, h4, h5, h6⟩ := assertOwn_claim (u := s.yielded) 2 s.takeoverMode.1
  have htell : ∀ (v : State) c b, (v.tellEpoch c b).mode = v.mode := fun v c b => by simp
  rw [takeover_eq h, takenOver_facts.1, takenOver_facts.2, htell, tellEpoch_pair, immediate_pair, immediate_mode, assertOwn_mode]
  exact ⟨h1, rfl, by rw [hmode], h2.trans (by rw [hclaims]), h3.trans (by rw [htime]), h4.trans hslot, h5, h6⟩

/-! ## The claim timer (R303) -/

theorem opClaimTimer_due {e : Ns} (ho : s.pair.ownSelf = false) (hp : s.pair.ownPeer = false) (hm : s.mayClaim = true) (hw : s.pair.claimWait = none)
    (hl : s.pair.lowSince = some e) (hle : e + 2000000 ≤ s.time.now) : s.opClaimTimer = { s with pair.claimWait := some (s.time.now + 3000000) } := by
  unfold opClaimTimer
  rw [hl, Option.elim_some, decide_eq_true hle, if_neg (by simp [ho, hp, hm, hw])]

theorem opClaimTimer_early {e : Ns} (hl : s.pair.lowSince = some e) (hlt : s.time.now < e + 2000000) : s.opClaimTimer = s := by
  unfold opClaimTimer
  rw [hl, Option.elim_some, decide_eq_false (Nat.not_le.mpr hlt), if_pos (by simp)]

/-! ## Claim from COLD (R218) -/

theorem coldReady_cold (h : s.coldReady = true) : s.mode.current = .cold := by
  simp only [coldReady, Bool.and_eq_true, decide_eq_true_eq] at h
  simp [h]

theorem opClaim_due {e : Ns} (hw : s.pair.claimWait = some e) (ho : s.pair.ownSelf = false) (hp : s.pair.ownPeer = false) (hm : s.mayClaim = true)
    (hr : s.pair.received = [] ∨ e ≤ s.time.now) : s.opClaim = if s.mode.current = .cold then s.coldClaim else s.takeover := by
  unfold opClaim
  simp only [hw]
  exact if_neg (by simp [ho, hp, hm]; rcases hr with hr | hr <;> simp [hr])

theorem coldClaim_claims : s.coldClaim.pair.ownSelf = true ∧ s.coldClaim.mode.current = (if s.drift.waived = true then .hold else if s.mode.powerUpPolicy = 1 then .run else .hold)
    ∧ s.coldClaim.mode.leftColdAt = some s.time.now ∧ s.coldClaim.drift.waived = false ∧ s.coldClaim.image = s.image := by
  obtain ⟨m, t, hm, hW, hrun⟩ : ∃ (m : Mode) (t : State), m = (if s.drift.waived = true then .hold else if s.mode.powerUpPolicy = 1 then .run else .hold)
      ∧ Within [.firn, .moraine] s t
      ∧ s.coldClaim = ({ (((t.assertOwn 1 m).immediate m).tellEpoch s.time.mono true).leaveCold with drift.waived := false } : State).gatesChanged.settle := by
    refine ⟨_, _, rfl, ?_, rfl⟩
    split <;> simp
  have hend : ∀ v : State, Within [.sig, .disp, .moraine, .can, .field, .capture] v v.gatesChanged.settle := fun v => by simp
  have htell : ∀ (v : State) b, Within [.pair] v (v.tellEpoch s.time.mono b) := fun v b => by simp
  have htime : (((t.assertOwn 1 m).immediate m).tellEpoch s.time.mono true).time = s.time := by
    rw [htell _ _ .time (by simp)]
    exact (show ∀ v : State, Within [.mode, .sess, .sig, .disp, .drift, .firn, .prog, .pair, .hub, .guard, .moraine, .link, .can, .field, .draws] v ((v.assertOwn 1 m).immediate m)
      from fun v => by simp) t .time (by simp) |>.trans (hW .time (by simp))
  rw [hrun, image, hend _ .pair (by simp), hend _ .mode (by simp), hend _ .drift (by simp), hend _ .prog (by simp)]
  dsimp only [leaveCold]
  rw [tellEpoch_pair, htime, htell _ _ .mode (by simp), htell _ _ .prog (by simp), immediate_pair, immediate_mode, immediate_prog]
  exact ⟨(assertOwn_pair _ _).1, hm, rfl, rfl, (assertOwn_image _ _).trans (image_congr (hW .prog (by simp)))⟩

end State
open State

/-- Settles O23, clause by clause. -/
theorem interlockClaims : Obligations.InterlockClaims := by
  unfold Obligations.InterlockClaims
  refine ⟨?_, ?_, ?_, ?_, ?_, ?_, ?_⟩
  · intro s r t x d h hi hsub hv hb hh hx hd hm hstep hsplit hslow
    refine ⟨_, row_granted h rfl (by rw [hi]; rfl) (by rw [hsub]; rfl), ?_⟩
    obtain ⟨hprog, hdrift, -⟩ := taken_prog_drift h
    have hpair : (t.taken x).pair = s.pair := by simp [granted_same h]
    have hmode : (t.taken x).mode = s.mode := by simp [granted_same h]
    have htime : (t.taken x).time = s.time := by simp [granted_same h]
    have htasks : (t.taken x).disp.tasks = s.disp.tasks := by simp [granted_same h]
    unfold opHandover
    rw [check14_granted h (by simp [granted_req h, hv]) (by rw [modeBusy_congr hmode hprog, hb, hpair, exchanging_congr hprog, hx, hmode, hd]; simp [hh])
      (by rw [hmode, hpair, partnerInStep_congr hpair, hstep, hsplit]; rcases hm with hm | hm <;> rw [hm] <;> rfl)]
    rw [slowest_congr hprog, hslow, Option.elim_some, firstInstant_congr htasks, htime]
    have hanswer : ∀ w : State, (w.answer x 0).pair = w.pair ∧ (w.answer x 0).mode = w.mode := fun w => by simp
    have hW : ∀ w : State, (w.trigger 0x0AA []).pair = w.pair ∧ (w.trigger 0x0AA []).mode = w.mode := fun w => by simp
    have hup : s.pair.syncUp = true := partnerAnswers_up (by simp only [partnerInStep, Bool.and_eq_true] at hstep; simp [hstep])
    rw [(hanswer _).1, (hanswer _).2, sendSync_up (by rw [(hW _).1]; exact (congrArg (·.syncUp) hpair).trans hup)]
    dsimp only
    rw [(hW _).1, (hW _).2]
    exact ⟨rfl, rfl, congrArg (·.ownSelf) hpair, hmode, granted_replied h (by decide)⟩
  · intro s r t x h hi hsub hv hb hh hx hd hno
    refine ⟨_, row_granted h rfl (by rw [hi]; rfl) (by rw [hsub]; rfl), ?_⟩
    obtain ⟨hprog, hdrift, -⟩ := taken_prog_drift h
    have hpair : (t.taken x).pair = s.pair := by simp [granted_same h]
    have hmode : (t.taken x).mode = s.mode := by simp [granted_same h]
    unfold opHandover
    rw [check14_conflict (Granted_port h) (by simp [granted_req h, hv]) (by rw [modeBusy_congr hmode hprog, hb, hpair, exchanging_congr hprog, hx, hmode, hd]; simp [hh])
      (by rw [hpair, partnerInStep_congr hpair]; rcases hno with hno | hno <;> simp [hno])]
    exact ⟨(show ∀ w : State, (w.answer x 9).pair = w.pair from fun w => by simp) _ |>.trans hpair, granted_conflict h⟩
  · intro s t ho hp hm hw hl hle
    exact ⟨s.opClaimTimer, rfl, opClaimTimer_due ho hp hm hw hl hle⟩
  · intro s t hl hlt
    exact ⟨s.opClaimTimer, rfl, opClaimTimer_early hl hlt⟩
  · intro s e hw ho hp hm hr ht hpend
    refine ⟨s.opClaim, rfl, ?_⟩
    rw [opClaim_due hw ho hp hm hr, if_neg (by rw [ht]; decide)]
    exact takeover_claims hpend
  · intro s e hw ho hp hm hr
    refine ⟨s.opClaim, rfl, ?_⟩
    rw [opClaim_due hw ho hp (by simp [mayClaim, hm]) hr, if_pos (coldReady_cold hm)]
    exact coldClaim_claims
  · rintro s (hp | hw)
    · refine ⟨s.opClaim, rfl, ?_⟩
      unfold opClaim
      split
      · rfl
      · exact if_pos (.inr (.inl hp))
    · exact ⟨s.opClaim, rfl, by rw [opClaim, hw]⟩

end Sys2Proof.Machine
end

section
/-! PROOF. The takeover self-check that was done before (O24). -/
namespace Sys2Proof.Machine

open State

/-! ## A self-check that was done before (O24) -/

/-- An owner whose gates wait to be read back while its last self-check still shows as done. -/
def checkedOwner : State :=
  { State.reset with pair := { State.reset.pair with ownSelf := true, claimedAt := some 0, checkDone := true } }

/-- Refutes O24: clause (8) leaves CHECK_DONE open. A gate that stays closed does not take it back. -/
theorem not_interlockTiesConflictsAndChecks : ¬ Obligations.InterlockTiesConflictsAndChecks := by
  rintro ⟨-, -, -, -, -, -, -, hgate, -⟩
  obtain ⟨u, hu, -, hdone, -⟩ := hgate checkedOwner rfl rfl rfl rfl (by decide)
  obtain rfl : checkedOwner.opGateCheck false = u := Host.Outcome.next.inj hu
  exact absurd hdone (by decide +kernel)

end Sys2Proof.Machine
end

section
/-! PROOF. Pairing: HELLO, HELLO_DEFER, HEARTBEAT, GOODBYE and EPOCH (O25). -/
namespace Sys2Proof.Machine

namespace State
variable {s t u v : State}

/-! ## Resynchronisation begins, as the pair tells it (R336) -/

theorem startPhase_pair (phase : Nat) : (u.startPhase phase).pair = { u.pair with
    phase := phase, cleanRun := 0, percent := 0, received := [], buffer := [], bufferInputs := [], streamSeq := 0, drained := false } := by
  have h : ∀ (v : State) (l : List Nat), ((l.foldl unpin v).trigger 0x0A5 []).pair = v.pair := fun v l => by simp
  exact h _ _

/-- The phase in which a resynchronisation begins. -/
def resyncPhase (u : State) : Nat :=
  if !u.pair.paired then 1 else if u.pair.partnerImage.isSome && decide (u.pair.partnerImage = u.image.map (·.hash)) then 3 else 2

theorem beginResync_pair : u.beginResync.pair = { u.pair with
    stale := false, staleFromStep := false, linkKept := u.pair.syncUp, phase := u.resyncPhase, cleanRun := 0, percent := 0, received := [], buffer := [], bufferInputs := []
    streamSeq := 0, drained := false } := startPhase_pair _

theorem sendSync_pair (m : SyncOut) : (u.sendSync m).pair = { u.pair with out := (u.sendSync m).pair.out } := by
  unfold sendSync
  split <;> rfl

/-! ## HELLO (R313) -/

/-- What HELLO says of the partner, the pairing and the mode are as they were. -/
def SamePartner (s u : State) : Prop :=
  u.pair.paired = s.pair.paired ∧ u.pair.fwMismatch = s.pair.fwMismatch ∧ u.pair.partnerSerial = s.pair.partnerSerial ∧ u.pair.partnerFw = s.pair.partnerFw
    ∧ u.pair.peerPresent = s.pair.peerPresent ∧ u.mode = s.mode

theorem SamePartner.trans (h : SamePartner s t) (k : SamePartner t u) : SamePartner s u := by
  obtain ⟨h1, h2, h3, h4, h5, h6⟩ := h
  obtain ⟨k1, k2, k3, k4, k5, k6⟩ := k
  exact ⟨k1.trans h1, k2.trans h2, k3.trans h3, k4.trans h4, k5.trans h5, k6.trans h6⟩

theorem beginResync_samePartner : SamePartner u u.beginResync := by
  rw [SamePartner, beginResync_pair]
  exact ⟨rfl, rfl, rfl, rfl, rfl, beginResync_mode⟩

theorem sendSync_samePartner (m : SyncOut) : SamePartner u (u.sendSync m) := by
  rw [SamePartner, sendSync_pair]
  exact ⟨rfl, rfl, rfl, rfl, rfl, by simp⟩

theorem endWindow_samePartner (ho : u.pair.ownSelf = true) (hl : u.prog.exch.lone = false) : SamePartner u u.endWindow := by
  unfold endWindow
  dsimp only
  rw [if_neg (by simp [hl]), if_pos ho]
  have hclear : ∀ v : State, SamePartner v (v.setStaged none 0) := fun v => ⟨rfl, rfl, rfl, rfl, rfl, rfl⟩
  exact SamePartner.trans (hclear _) (sendSync_samePartner _)

/-- What waited for the pairing, once the partner is accepted. -/
def acceptedBy (s : State) (m : HelloMsg) (u : State) : State :=
  let v := if m.owns && decide (u.pair.ownerEpoch < m.ownershipEpoch) then { u with pair.ownerEpoch := m.ownershipEpoch, pair.ownerSlot := m.ownerSlot } else u
  let w := if v.mode.current = .cold then v.arbitrate.joinPartner
    else if v.mode.current = .track && !v.pair.stale && !s.pair.paired then v.beginResync else v
  if w.pair.ownSelf && w.prog.exch.phase = 6 && !w.prog.exch.lone && m.cold then w.endWindow else w

theorem acceptedBy_samePartner {m : HelloMsg} (hm : u.mode.current ≠ .cold) : SamePartner u (acceptedBy s m u) := by
  have hend : ∀ w : State, SamePartner u w → SamePartner u (if w.pair.ownSelf && w.prog.exch.phase = 6 && !w.prog.exch.lone && m.cold then w.endWindow else w) := by
    intro w hw
    split
    · rename_i h
      simp only [Bool.and_eq_true, Bool.not_eq_true'] at h
      obtain ⟨⟨⟨ho, -⟩, hl⟩, -⟩ := h
      exact hw.trans (endWindow_samePartner ho hl)
    · exact hw
  obtain ⟨v, hv, hv'⟩ : ∃ v : State, v = (if m.owns && decide (u.pair.ownerEpoch < m.ownershipEpoch) then { u with pair.ownerEpoch := m.ownershipEpoch, pair.ownerSlot := m.ownerSlot } else u)
      ∧ SamePartner u v := by
    refine ⟨_, rfl, ?_⟩
    split <;> exact ⟨rfl, rfl, rfl, rfl, rfl, rfl⟩
  unfold acceptedBy
  dsimp only
  rw [← hv]
  refine hend _ ?_
  rw [if_neg (by rw [hv'.2.2.2.2.2]; exact hm)]
  split
  · exact hv'.trans beginResync_samePartner
  · exact hv'

theorem acceptPartner_facts (hm : u.mode.current ≠ .cold) (m : HelloMsg) : SamePartner
    { u with pair := { u.pair with paired := true, fwMismatch := decide (m.firmware ≠ u.fwRelease) } } (u.acceptPartner m) := by
  have htrig : ∀ (w : State) c l, SamePartner w (w.trigger c l) := fun w c l => ⟨by simp, by simp, by simp, by simp, by simp, by simp⟩
  obtain ⟨t, ht, hv⟩ : ∃ t : State, t = ({ u with pair.paired := true, pair.fwMismatch := decide (m.firmware ≠ u.fwRelease), pair.deferred := u.pair.deferred && !m.owns
                                                  pair.phase := if u.pair.phase = 7 then 0 else u.pair.phase } : State)
      ∧ u.acceptPartner m = acceptedBy u m (if !u.pair.paired then (t.trigger 0x0A0 []).sendSync .accept else t) := ⟨_, rfl, rfl⟩
  have hstart : SamePartner { u with pair := { u.pair with paired := true, fwMismatch := decide (m.firmware ≠ u.fwRelease) } } t := by
    rw [ht]; exact ⟨rfl, rfl, rfl, rfl, rfl, rfl⟩
  have hsent : SamePartner t (if !u.pair.paired then (t.trigger 0x0A0 []).sendSync .accept else t) := by
    split
    · exact (htrig _ _ _).trans (sendSync_samePartner _)
    · exact ⟨rfl, rfl, rfl, rfl, rfl, rfl⟩
  rw [hv]
  exact (hstart.trans hsent).trans (acceptedBy_samePartner (by rw [(hstart.trans hsent).2.2.2.2.2]; exact hm))

theorem opHello_accepts {m : HelloMsg} (hr : s.mode.inReset = false) (hup : s.pair.syncUp = true) (hst : s.pair.stale = false) (hmono : s.time.monoRun = true)
    (hok : s.pairingOk m = true) : s.opHello m = (s.noteHello m).acceptPartner m := by
  unfold opHello
  rw [if_neg (by simp [hr, hup]), if_neg (by simp [hup])]
  dsimp only
  rw [startClock, if_pos hmono, if_neg (by simp [noteHello, hst]), if_pos (by exact hok)]

theorem opHello_refuses {m : HelloMsg} (hr : s.mode.inReset = false) (hup : s.pair.syncUp = true) (hst : s.pair.stale = false) (hmono : s.time.monoRun = true)
    (hok : s.pairingOk m = false) : s.opHello m = (s.noteHello m).refusePartner := by
  unfold opHello
  rw [if_neg (by simp [hr, hup]), if_neg (by simp [hup])]
  dsimp only
  rw [startClock, if_pos hmono, if_neg (by simp [noteHello, hst]), if_neg (by rw [Bool.not_eq_true]; exact hok)]

/-! ## HEARTBEAT (R312, R319) -/

/-- What a heartbeat says of the partner, with CLOCK_OFFSET, is as it was. -/
def SameHeard (s u : State) : Prop :=
  u.pair.partnerMode = s.pair.partnerMode ∧ u.pair.partnerEpoch = s.pair.partnerEpoch ∧ u.pair.partnerPhase = s.pair.partnerPhase ∧ u.pair.partnerOwns = s.pair.partnerOwns
    ∧ u.pair.partnerArmed = s.pair.partnerArmed ∧ u.pair.lastFrame = s.pair.lastFrame ∧ u.pair.clockOffset = s.pair.clockOffset ∧ u.mode = s.mode

theorem SameHeard.trans (h : SameHeard s t) (k : SameHeard t u) : SameHeard s u := by
  obtain ⟨h1, h2, h3, h4, h5, h6, h7, h8⟩ := h
  obtain ⟨k1, k2, k3, k4, k5, k6, k7, k8⟩ := k
  exact ⟨k1.trans h1, k2.trans h2, k3.trans h3, k4.trans h4, k5.trans h5, k6.trans h6, k7.trans h7, k8.trans h8⟩

theorem sameHeard_of_within {L : List Facet} (h : Within L s u) (hp : Facet.pair ∉ L) (hm : Facet.mode ∉ L) : SameHeard s u := by
  rw [SameHeard, h .pair hp, h .mode hm]
  exact ⟨rfl, rfl, rfl, rfl, rfl, rfl, rfl, rfl⟩

theorem abortBoth_sameHeard (cause : Nat) : SameHeard u (u.abortBoth cause) := by
  have habort : SameHeard u (u.abortExchange cause) := sameHeard_of_within (L := [.xan, .drift, .prog, .moraine]) (by simp) (by simp) (by simp)
  have hsend : ∀ (v : State) m, SameHeard v (v.sendSync m) := fun v m => by
    rw [SameHeard, sendSync_pair]
    exact ⟨rfl, rfl, rfl, rfl, rfl, rfl, rfl, by simp⟩
  unfold abortBoth
  split
  · exact habort.trans (hsend _ _)
  · exact ⟨rfl, rfl, rfl, rfl, rfl, rfl, rfl, rfl⟩

theorem abortHandover_sameHeard : SameHeard u u.abortHandover := by
  unfold abortHandover
  split
  · exact SameHeard.trans (t := { u with pair.handover := 3, pair.handoverAt := none, prog.exch := { u.prog.exch with stopped := false } })
      ⟨rfl, rfl, rfl, rfl, rfl, rfl, rfl, rfl⟩ (sameHeard_of_within (L := [.moraine]) (by simp) (by simp) (by simp))
  · exact ⟨rfl, rfl, rfl, rfl, rfl, rfl, rfl, rfl⟩

theorem heartOwner_sameHeard (m : HeartbeatMsg) : SameHeard u (u.heartOwner m) := by
  have hdone : ∀ v : State, SameHeard v (if v.prog.exch.phase = 7 && !v.prog.exch.lone && v.partnerInStep then
      (v.setExch (fun x => { x with phase := 0, outcome := 2 })).trigger 0x097 [] else v) := fun v =>
    sameHeard_of_within (L := [.prog, .moraine]) (by simp) (by simp) (by simp)
  have hleft : ∀ v : State, SameHeard v (if v.partnerInStep then v else (v.abortBoth 3).abortHandover) := fun v => by
    split
    · exact ⟨rfl, rfl, rfl, rfl, rfl, rfl, rfl, rfl⟩
    · exact (abortBoth_sameHeard _).trans abortHandover_sameHeard
  unfold heartOwner
  split
  · exact ⟨rfl, rfl, rfl, rfl, rfl, rfl, rfl, rfl⟩
  · refine SameHeard.trans (t := { u with pair.split := u.pair.split && !u.partnerInStep, pair.mismatches := if m.mismatch then u.pair.mismatches + 1 else u.pair.mismatches })
      ⟨rfl, rfl, rfl, rfl, rfl, rfl, rfl, rfl⟩ (SameHeard.trans (hleft _) (hdone _))

theorem closeInterlock_sameHeard : SameHeard u u.closeInterlock := by
  unfold closeInterlock
  dsimp only
  split
  · exact SameHeard.trans (t := { u with pair.openSince := none, pair.interlockOpen := false }) ⟨rfl, rfl, rfl, rfl, rfl, rfl, rfl, rfl⟩
      (sameHeard_of_within (L := [.hub, .moraine]) (by simp) (by simp) (by simp))
  · exact ⟨rfl, rfl, rfl, rfl, rfl, rfl, rfl, rfl⟩

/-- What the heartbeat's clock says leaves what it says of the partner, and sets CLOCK_OFFSET. -/
theorem heartTime_sameHeard (m : HeartbeatMsg) : SameHeard { u with pair.clockOffset := if u.pair.ownSelf then 0 else m.offset } (u.heartTime m) := by
  have htime : ∀ v : State, SameHeard v (if v.time.servo = 2 ∨ !v.time.monoRun then v
      else if m.ptpLocked then v.takeSource (m.alignOffset - m.offset) 2 else if v.time.source = 2 then v.nextSource else v) := fun v =>
    sameHeard_of_within (L := [.time, .disp, .hub, .moraine, .capture, .eth]) (by simp) (by simp) (by simp)
  unfold heartTime
  exact SameHeard.trans ⟨rfl, rfl, rfl, rfl, rfl, rfl, rfl, rfl⟩ (htime _)

theorem joinPartner_warm (h : u.mode.current ≠ .cold) : u.joinPartner = u := by
  unfold joinPartner
  exact if_neg (by simp [h])

/-- What a heartbeat says of the partner itself. -/
def heardFrom (s : State) (m : HeartbeatMsg) : State :=
  { s with pair := { s.pair with
      peerPresent := true, lastFrame := s.time.now, partnerMode := m.mode, partnerEpoch := m.epoch, partnerPhase := m.syncPhase, partnerOwns := m.ownSelf
      partnerArmed := m.claimArmed, partnerCold := m.mode.toNat % 256 = 0 } }
/-- Whether the partner's OWN_SELF and OWN_PEER disagree (R332). -/
def judgeOpen (u : State) (m : HeartbeatMsg) : State :=
  if m.ownSelf then u.closeInterlock
  else if u.pair.ownPeer && !u.pair.ownSelf then { u with pair.openSince := some (u.pair.openSince.getD u.time.now) }
  else { u with pair.openSince := none }

theorem judgeOpen_sameHeard (m : HeartbeatMsg) : SameHeard u (u.judgeOpen m) := by
  unfold judgeOpen
  split
  · exact closeInterlock_sameHeard
  · split <;> exact ⟨rfl, rfl, rfl, rfl, rfl, rfl, rfl, rfl⟩

theorem opHeartbeat_eq (hr : s.mode.inReset = false) (hup : s.pair.syncUp = true) (hst : s.pair.stale = false) (m : HeartbeatMsg) :
    s.opHeartbeat m = ((((s.heardFrom m).heartTime m).heartOwner m).judgeOpen m).joinPartner := by
  unfold opHeartbeat
  rw [if_neg (by simp [hr, hup])]
  exact if_neg (by simp [hst])

theorem opHeartbeat_hears (hr : s.mode.inReset = false) (hup : s.pair.syncUp = true) (hst : s.pair.stale = false) (hm : s.mode.current ≠ .cold) (m : HeartbeatMsg) :
    SameHeard { s.heardFrom m with pair.clockOffset := if s.pair.ownSelf then 0 else m.offset } (s.opHeartbeat m) := by
  have hchain := SameHeard.trans (heartTime_sameHeard (u := s.heardFrom m) m) ((heartOwner_sameHeard m).trans (judgeOpen_sameHeard m))
  have hmode : ((((s.heardFrom m).heartTime m).heartOwner m).judgeOpen m).mode = s.mode := hchain.2.2.2.2.2.2.2
  rw [opHeartbeat_eq hr hup hst, joinPartner_warm (by rw [hmode]; exact hm)]
  exact hchain

/-! ## EPOCH (R33) -/

theorem discardReleases_lastEpoch (safe : Bool) : (u.discardReleases safe).pair.lastEpoch = u.pair.lastEpoch := by
  have hdelta : ∀ (v : State) k i o d ws, (v.sendDelta k i o d ws).pair.lastEpoch = v.pair.lastEpoch := fun v k i o d ws => by
    unfold sendDelta
    dsimp only
    split <;> rfl
  have habandon : ∀ (v : State) k, (v.abandon k).pair.lastEpoch = v.pair.lastEpoch := fun v k => by
    unfold abandon
    refine (hdelta _ _ _ _ _ _).trans (congrArg PairSt.lastEpoch ?_)
    split <;> simp
  refine foldl_keeps (·.pair.lastEpoch) _ (fun v e => ?_) _ _
  split
  · rfl
  · split
    · simp
    · exact habandon _ _

theorem opEpoch_now (hm : s.mode.current = .track) (ho : s.pair.ownSelf = false) (hup : s.pair.syncUp = true) {k : Nat} (hk : k ≤ 5) (e : Word) (c : Ns) :
    (s.opEpoch e k c true).mode = { s.mode with epoch := e, pending := 0, commitAt := none } ∧ (s.opEpoch e k c true).pair.lastEpoch = some (modeOf k, false) := by
  have hend : ∀ v : State, v.settle.mode = v.mode ∧ v.settle.pair = v.pair := fun v => by simp
  have hsafe : ∀ v : State, (if modeOf k = Mode.safe then v.discardReleases else v).mode = v.mode
      ∧ (if modeOf k = Mode.safe then v.discardReleases else v).pair.lastEpoch = v.pair.lastEpoch := by
    intro v
    split
    · exact ⟨by simp, discardReleases_lastEpoch _⟩
    · exact ⟨rfl, rfl⟩
  unfold opEpoch
  rw [if_neg (by simp [hm, ho, hup, hk])]
  dsimp only
  rw [if_pos (by simp), (hend _).1, (hend _).2, (hsafe _).1, (hsafe _).2]
  exact ⟨rfl, rfl⟩

theorem opEpoch_commit (hm : s.mode.current = .track) (ho : s.pair.ownSelf = false) (hup : s.pair.syncUp = true) {k : Nat} (hk : k ≤ 5) (hmask : s.taskMask ≠ 0) (e : Word)
    (c : Ns) : (s.opEpoch e k c false).mode = { s.mode with epoch := e, pending := s.taskMask, commitAt := some c }
      ∧ (s.opEpoch e k c false).pair.lastEpoch = some (modeOf k, true) ∧ (s.opEpoch e k c false).disp = s.disp := by
  have hend : ∀ v : State, v.settle.mode = v.mode ∧ v.settle.pair = v.pair ∧ v.settle.disp = v.disp := fun v => by simp
  unfold opEpoch
  rw [if_neg (by simp [hm, ho, hup, hk])]
  dsimp only
  rw [if_neg (by simpa using hmask), (hend _).1, (hend _).2.1, (hend _).2.2]
  exact ⟨rfl, rfl, rfl⟩

end State
open State

/-- Settles O25, clause by clause. -/
theorem partnersPair : Obligations.PartnersPair := by
  unfold Obligations.PartnersPair
  refine ⟨?_, ?_, ?_, ?_, ?_, ?_, ?_, ?_⟩
  · intro s m hr hup hst hm hmono hok
    refine ⟨s.opHello m, rfl, ?_⟩
    rw [opHello_accepts hr hup hst hmono hok]
    obtain ⟨h1, h2, h3, h4, h5, h6⟩ := acceptPartner_facts (u := s.noteHello m) hm m
    exact ⟨h1, h2, h3, h4, h5, h6⟩
  · intro s m hr hup hst hmono hok
    refine ⟨s.opHello m, rfl, ?_⟩
    rw [opHello_refuses hr hup hst hmono hok]
    have htrig : ∀ w : State, (w.trigger 0x0A0 []).pair = w.pair ∧ (w.trigger 0x0A0 []).hub = w.hub := fun w => by simp
    have ha : detAttr 119 = some { cls := 1 } := rfl
    have hpair := occurOpen_mild_within (u := { s.noteHello m with pair.paired := false, pair.phase := 7 }) ha (by decide) .pair (by simp)
    unfold refusePartner
    beta_reduce
    rw [(htrig _).1, det_congr (congrArg (·.dets) (htrig _).2), occurOpen_count ha]
    exact ⟨congrArg (·.paired) hpair, congrArg (·.phase) hpair, rfl⟩
  · intro s hp hle hlane
    refine ⟨s.opHelloTimer, rfl, ?_⟩
    unfold opHelloTimer
    rw [if_neg (by simp [hp, Nat.not_lt.mpr hle]), sayHello, if_pos hlane]
  · intro s hm hup
    refine ⟨s.opHelloDefer, rfl, ?_⟩
    have hjudge : ∀ v : State, v.judgeCheckpoint.pair = v.pair ∧ v.judgeCheckpoint.mode = v.mode := fun v => by
      have h : Within [.drift, .moraine] v v.judgeCheckpoint := by simp
      exact ⟨h .pair (by simp), h .mode (by simp)⟩
    unfold opHelloDefer
    rw [if_pos ⟨hm, hup⟩]
    beta_reduce
    unfold partnerAnswers
    rw [ (hjudge _).1, (hjudge _).2]
    exact ⟨rfl, rfl, Bool.and_false _, rfl⟩
  · intro s m hr hup hst hm
    exact ⟨s.opHeartbeat m, rfl, opHeartbeat_hears hr hup hst hm m⟩
  · intro s k hup h1 h8
    exact ⟨s.opGoodbye k, rfl, if_pos ⟨hup, h1, h8⟩⟩
  · intro s e k c hm ho hup hk
    obtain ⟨hmode, hlast⟩ := opEpoch_now hm ho hup hk e c
    refine ⟨s.opEpoch e k c true, rfl, ?_⟩
    beta_reduce
    rw [hmode, hlast]
    exact ⟨rfl, rfl, hm, rfl⟩
  · intro s e k c hm ho hup hk hmask
    exact ⟨s.opEpoch e k c false, rfl, opEpoch_commit hm ho hup hk hmask e c⟩

end Sys2Proof.Machine
end

section
/-! PROOF. The STREAM, the deltas and the HANDOVER and EXCHANGE traffic (O26). -/
namespace Sys2Proof.Machine

namespace State
variable {s t u v : State} {d : Delta} {g : Nat}

theorem stamp_stale (a b : Sig) : (u.stamp a b).stale = b.stale := by unfold stamp; split <;> rfl

/-! ## A message out of order (R322) -/

theorem discardReleases_stateA (safe : Bool) : (u.discardReleases safe).firn.stateA = u.firn.stateA := by
  have hunvote : ∀ (v : State) k, (v.unvote k).firn.stateA = v.firn.stateA := fun v k => by
    unfold unvote
    split <;> rfl
  have hend : ∀ (v : State) k i o d ws, Within [.drift, .pair] v (((v.endRequest k).unpin k).sendDelta k i o d ws) := fun v k i o d ws => by simp
  have habandon : ∀ (v : State) k, (v.abandon k).firn.stateA = v.firn.stateA := fun v k => by
    unfold abandon
    dsimp only
    rw [hend _ _ _ _ _ _ .firn (by simp)]
    refine Eq.trans (b := (if (v.task k).release.elim false (·.committing) then v.unvote k else v).firn.stateA) rfl ?_
    split
    · exact hunvote _ _
    · rfl
  refine foldl_keeps (·.firn.stateA) _ (fun v e => ?_) _ _
  split
  · rfl
  · split
    · rfl
    · exact habandon _ _

theorem startPhase_stateA (phase : Nat) : (u.startPhase phase).firn.stateA = u.firn.stateA := by
  have h : ∀ (v : State) (l : List Nat), ((l.foldl unpin v).trigger 0x0A5 []).firn = v.firn := fun v l => by simp
  exact congrArg (·.stateA) (h _ _)

/-- A message out of order begins STATE_COPY again and applies nothing. -/
theorem streamGap_restarts (h : s.streams = true) : s.streamGap.pair.phase = 3 ∧ s.streamGap.pair.buffer = [] ∧ s.streamGap.pair.streamSeq = 0
    ∧ (∀ g, s.streamGap.sigOf g = s.sigOf g) ∧ s.streamGap.firn.stateA = s.firn.stateA := by
  have hown : s.pair.ownSelf = false := by
    simp only [streams, Bool.and_eq_true, Bool.not_eq_true'] at h
    obtain ⟨⟨⟨⟨⟨⟨-, ho⟩, -⟩, -⟩, -⟩, -⟩, -⟩ := h
    exact ho
  have hsig : ∀ v : State, (v.startPhase 3).sig = v.sig := fun v => by simp
  have habort : Within [.xan, .drift, .prog, .pair, .moraine] s (s.abortBoth 3) := by simp
  have hdis : ∀ (v : State) l, Within [.disp, .drift, .firn, .pair, .moraine] v ((v.discardReleases).trigger 0x0A6 l) := fun v l => by simp
  unfold streamGap
  split
  · rename_i hp
    unfold leaveStep
    rw [if_pos ⟨hp, by simp [hown]⟩]
    dsimp only
    rw [startPhase_pair, startPhase_stateA]
    refine ⟨rfl, rfl, rfl, fun g => sigOf_congr ?_ g, ?_⟩
    · rw [hsig, hdis _ _ .sig (by simp), habort .sig (by simp)]
    · rw [show ∀ (v : State) l, (v.trigger 0x0A6 l).firn = v.firn from fun v l => by simp, discardReleases_stateA, habort .firn (by simp)]
  · rw [startPhase_pair, startPhase_stateA]
    exact ⟨rfl, rfl, rfl, fun g => sigOf_congr (by rw [hsig]) g, rfl⟩

/-! ## A delta that need not wait (R320) -/

/-- The pair's part put in place of its own. -/
def withPair (u : State) (p : PairSt) : State := { u with pair := p }

theorem ite_withPair {c : Prop} [Decidable c] (a b : State) (p : PairSt) : (if c then a else b).withPair p = if c then a.withPair p else b.withPair p :=
  apply_ite (withPair · p) c a b

theorem setSig_withPair (p : PairSt) (f : Sig → Sig) : (u.withPair p).setSig g f = (u.setSig g f).withPair p := by
  unfold setSig withPair
  dsimp only
  split <;> rfl

theorem dirty_withPair (p : PairSt) (x : Nat) : (u.withPair p).dirty x = (u.dirty x).withPair p := by
  unfold dirty
  rw [ite_withPair]
  rfl
theorem fall_withPair (p : PairSt) (x : Nat) : (u.withPair p).fall x = (u.fall x).withPair p := by
  unfold fall
  dsimp only
  rw [ite_withPair]
  rfl

theorem setCopy_withPair (p : PairSt) (c w type : Nat) (x : Word) : (u.withPair p).setCopy c w type x = (u.setCopy c w type x).withPair p := by
  unfold setCopy
  rw [dirty_withPair]
  dsimp only
  split <;> rfl

theorem commitWrite_withPair (p : PairSt) (ws : List PlainWrite) (w : PlainWrite) : (u.withPair p).commitWrite ws w = (u.commitWrite ws w).withPair p := by
  unfold commitWrite setWord
  simp only [setCopy_withPair, setSig_withPair, ite_withPair]

/-- A commit neither reads the pair's part nor writes it. -/
theorem commit_withPair (p : PairSt) (k : Nat) (ws : List PlainWrite) : (u.withPair p).commit k ws = (u.commit k ws).withPair p := by
  have hfold : ∀ (l : List PlainWrite) (v : State), l.foldl (commitWrite ws) (v.withPair p) = (l.foldl (commitWrite ws) v).withPair p := by
    intro l
    induction l with
    | nil => exact fun v => rfl
    | cons w l ih => exact fun v => by rw [List.foldl_cons, List.foldl_cons, commitWrite_withPair, ih]
  have hskew : ∀ v : State, (v.withPair p).skewEnds = v.skewEnds.withPair p := fun v => by
    unfold skewEnds
    rw [fall_withPair, ite_withPair]
    rfl
  unfold commit
  rw [hfold, ← hskew]
  rfl

theorem mapIntoNew_closed (h : u.exchangeOpen = false) (ws : List PlainWrite) : u.mapIntoNew ws = u := by
  unfold mapIntoNew
  split
  · exact if_pos (by simp [h])
  · rfl

theorem localWrites_plain (h : u.prog.exch.heldHere = false) (ws : List PlainWrite) : u.localWrites ws = ws := by
  unfold localWrites
  split
  · exact if_pos (by simp [h])
  · rfl

/-- A delta of writes alone, without a vote of this module's own to compare. -/
theorem applyDelta_plain (hv : (u.firnTask d.task).vote = none) (hout : d.outcome = 1) (hf : d.forces = []) (hp : d.params = []) (hc : d.constPages = []) (ha : d.arms = [])
    (hh : u.prog.exch.heldHere = false) (ho : u.exchangeOpen = false) :
    ∃ f, u.applyDelta d = ((((((u.commit d.task d.writes).setFirn d.task (fun x => { x with lastCommit := d.instant })).setTask d.task f).setFirn d.task
      (fun x => { x with vote := none })).unpin d.task).compareVote d none).1.judgeStep d none false := by
  have hcommit : Within [.sig, .drift, .firn, .hub] u (u.commit d.task d.writes) := by simp
  have hopen : (u.commit d.task d.writes).exchangeOpen = false := by
    rw [exchangeOpen, hcommit .prog (by simp)]
    exact ho
  unfold applyDelta
  simp only [hf, hp, hc, ha, List.foldl_nil, hv, Option.filter_none, mapIntoNew_closed ho, localWrites_plain hh, hout]
  rw [if_pos (by simp), mapIntoNew_closed hopen]
  exact ⟨_, rfl⟩

/-- The place in the STREAM and the deltas that wait are as they were. -/
def SameStream (s u : State) : Prop := u.pair.streamSeq = s.pair.streamSeq ∧ u.pair.received = s.pair.received

theorem SameStream.trans (h : SameStream s t) (k : SameStream t u) : SameStream s u := ⟨k.1.trans h.1, k.2.trans h.2⟩

theorem reachStep_sameStream : SameStream u u.reachStep := by
  have h : u.reachStep.pair = { u.pair with phase := 5, restartRun := 0 } := by
    unfold reachStep
    dsimp only
    split <;> simp [setExch]
  rw [SameStream, h]
  exact ⟨rfl, rfl⟩

theorem judgeStep_sameStream (own : Option Vote) (bad : Bool) : SameStream u (u.judgeStep d own bad) := by
  have hmap : ∀ v : State, SameStream v (if v.prog.exch.copied && v.prog.exch.phase = 3 then v.setExch (fun x => { x with mapped := x.mapped + 1 }) else v) := fun v => by
    split <;> exact ⟨rfl, rfl⟩
  have hend : ∀ v : State, SameStream u v → SameStream u (if v.pair.phase = 4 && v.pair.drained && 2 ≤ v.pair.cleanRun then v.reachStep else v) := fun v h => by
    split
    · exact h.trans reachStep_sameStream
    · exact h
  unfold judgeStep
  split
  · exact ⟨rfl, rfl⟩
  · refine hend _ (SameStream.trans ?_ (hmap _))
    exact ⟨rfl, rfl⟩

theorem compareVote_none_within : Within [.pair] u (u.compareVote d none).1 := by
  unfold compareVote
  dsimp only
  split <;> simp

theorem compareVote_sameStream : SameStream u (u.compareVote d none).1 := by
  unfold compareVote
  dsimp only
  split <;> exact ⟨rfl, rfl⟩

/-- What such a delta leaves: its commit, its instant and the place in the STREAM. -/
theorem applyDelta_commits (hv : (u.firnTask d.task).vote = none) (hout : d.outcome = 1) (hf : d.forces = []) (hp : d.params = []) (hc : d.constPages = []) (ha : d.arms = [])
    (hh : u.prog.exch.heldHere = false) (ho : u.exchangeOpen = false) :
    SameStream u (u.applyDelta d) ∧ (u.applyDelta d).sig = (u.commit d.task d.writes).sig ∧ (u.applyDelta d).firn.stateA = (u.commit d.task d.writes).firn.stateA
      ∧ ((u.applyDelta d).firnTask d.task).lastCommit = d.instant := by
  obtain ⟨f, hrun⟩ := applyDelta_plain hv hout hf hp hc ha hh ho
  obtain ⟨w, hw⟩ : ∃ w : State, w = ((((u.commit d.task d.writes).setFirn d.task (fun x => { x with lastCommit := d.instant })).setTask d.task f).setFirn d.task
      (fun x => { x with vote := none })) := ⟨_, rfl⟩
  have hW : Within [.drift, .pair, .prog, .moraine, .hub] w (u.applyDelta d) := by
    have hunpin : Within [.drift] w (w.unpin d.task) := by simp
    have hjudge : ∀ v : State, Within [.pair, .prog, .moraine, .hub] v (v.judgeStep d none false) := fun v => by simp
    rw [hrun, ← hw]
    exact (hunpin.mono (by simp)).trans ((compareVote_none_within.mono (by simp)).trans ((hjudge _).mono (by simp)))
  have hcommit : Within [.sig, .drift, .firn, .hub] u (u.commit d.task d.writes) := by simp
  have hstream : SameStream u w := by
    have : w.pair = u.pair := by rw [hw]; exact hcommit .pair (by simp)
    rw [SameStream, this]
    exact ⟨rfl, rfl⟩
  have hunpin : SameStream w (w.unpin d.task) := by
    rw [SameStream, (show Within [.drift] w (w.unpin d.task) by simp) .pair (by simp)]
    exact ⟨rfl, rfl⟩
  refine ⟨?_, ?_, ?_, ?_⟩
  · rw [hrun, ← hw]
    exact (hstream.trans hunpin).trans (compareVote_sameStream.trans (judgeStep_sameStream _ _))
  · rw [hW .sig (by simp), hw]
    rfl
  · rw [hW .firn (by simp), hw]
    rfl
  · rw [firnTask, hW .firn (by simp), hw]
    simp [setFirn, setTask, firnTask]

theorem opDelta_commits (hst : s.streams = true) (hin : s.inOrder d.sequence = true) (hb : s.buffers = false) (hr : s.pair.received = []) (hrel : (s.task d.task).release = none)
    (hle : d.instant ≤ s.time.mono) (hv : (s.firnTask d.task).vote = none) (hout : d.outcome = 1) (hf : d.forces = []) (hp : d.params = []) (hc : d.constPages = [])
    (ha : d.arms = []) (hh : s.prog.exch.heldHere = false) (ho : s.exchangeOpen = false) :
    (s.opDelta d).pair.streamSeq = d.sequence ∧ (s.opDelta d).pair.received = [] ∧ (∀ g, (s.opDelta d).sigOf g = (s.commit d.task d.writes).sigOf g)
      ∧ (s.opDelta d).firn.stateA = (s.commit d.task d.writes).firn.stateA ∧ ((s.opDelta d).firnTask d.task).lastCommit = d.instant := by
  have hwait : ∀ v : State, v.disp = s.disp → v.time = s.time → v.pair.received = [] → v.deltaWaits d = false := by
    intro v hdisp htime hrec
    unfold deltaWaits
    rw [task_of_tasks (congrArg (·.tasks) hdisp), hrel, htime, hrec, decide_eq_false (Nat.not_lt.mpr hle)]
    simp
  have hrun : s.opDelta d = ((s.withPair { s.pair with streamSeq := d.sequence, received := [] }).applyDelta d).settle := by
    unfold opDelta
    rw [if_neg (by simp [hst]), if_neg (by simp [hin])]
    dsimp only
    rw [if_neg (by rw [Bool.not_eq_true]; exact hb)]
    unfold applyReceived
    dsimp only
    rw [hr, List.nil_append, List.foldl_cons, List.foldl_nil, if_neg]
    · rfl
    · exact Bool.not_eq_true _ ▸ hwait _ rfl rfl rfl
  have hend : ∀ v : State, v.settle.pair = v.pair ∧ v.settle.firn = v.firn := fun v => by simp
  obtain ⟨⟨hseq, hrec⟩, hsig, hstate, hlast⟩ := applyDelta_commits (u := s.withPair { s.pair with streamSeq := d.sequence, received := [] }) hv hout hf hp hc ha hh ho
  rw [commit_withPair] at hsig hstate
  rw [hrun, (hend _).1, (hend _).2, firnTask, (hend _).2, ← firnTask]
  exact ⟨hseq, hrec, fun g => by rw [settle_sigOf]; exact sigOf_congr (congrArg (·.entries) hsig) g, hstate, hlast⟩

/-! ## EXCHANGE traffic (R270) -/

theorem opExchangeMsg_start (hup : s.pair.syncUp = true) (ho : s.pair.ownSelf = false) (hm : s.mode.current = .track) (i : ImageFile) (n : Nat) :
    s.opExchangeMsg (.start i n) = ((s.putStage i).setStaged none 1).beginExchange (fileImage i) 1 false (some (s.time.mono + n * 1000000000)) := by
  unfold opExchangeMsg
  rw [if_neg (by simp [hup])]
  exact if_neg (by simp [ho, hm])

theorem opExchangeMsg_up (hup : s.pair.syncUp = true) (m : ExchangeMsg) (ho : s.pair.ownSelf = true) :
    (m = .verified → s.opExchangeMsg m = s.opTransferEnd 0) ∧ (m = .mapBuilt → s.opExchangeMsg m = s.opMappingEnd)
      ∧ (m = .inStep → s.opExchangeMsg m = s.opNewInStep) ∧ (m = .notReady → s.opExchangeMsg m = s.opStandbyReady false) := by
  refine ⟨?_, ?_, ?_, ?_⟩ <;> rintro rfl <;> simp [opExchangeMsg, hup, ho]

end State
open State

/-- Settles O26, clause by clause. -/
theorem theStreamIsApplied : Obligations.TheStreamIsApplied := by
  unfold Obligations.TheStreamIsApplied
  refine ⟨?_, ?_, ?_, ?_, ?_, ?_, ?_, ?_, ?_, ?_, ?_, ?_, ?_, ?_, ?_, ?_, ?_⟩
  · intro s c hst hin hb hdecl
    have hrun : s.opInputChange c = (({ s with pair.streamSeq := c.sequence } : State).applyInput c).settle := by
      unfold opInputChange
      rw [if_neg (by simp [hst]), if_neg (by simp [hin])]
      exact if_neg (by rw [Bool.not_eq_true]; exact hb)
    refine ⟨s.opInputChange c, rfl, ?_⟩
    have hself : ∀ v : State, v.sigDecl c.signal = true → (v.applyInput c).settle.sigOf c.signal = v.stamp (v.sigOf c.signal) { v.sigOf c.signal with
        value := c.value, quality := if v.unitFenced (v.sigOf c.signal).unit then 3 else c.quality, source := c.source, stale := false
        substituted := (v.sigOf c.signal).substituted && v.unitFenced (v.sigOf c.signal).unit
        wireBreak := c.flags.getLsbD 2, overrange := c.flags.getLsbD 1, underrange := c.flags.getLsbD 0 } := fun v h => by
      rw [settle_sigOf, applyInput, setSig_self h]
    have hne : ∀ (v : State) g, g ≠ c.signal → (v.applyInput c).settle.sigOf g = v.sigOf g := fun v g h => by rw [settle_sigOf, applyInput, setSig_ne h]
    have hpair : ∀ v : State, (v.applyInput c).settle.pair = v.pair := fun v =>
      pair_of_within (L := [.sig, .capture]) (by simp) (by simp)
    beta_reduce
    rw [hrun, hself { s with pair.streamSeq := c.sequence } hdecl, hpair]
    refine ⟨by simp, by rw [stamp_quality]; rfl, by simp, stamp_stale _ _, fun g hg => hne _ g hg, rfl, keeps_of_within (by simp [Part.facet])⟩
  · intro s c hst hin hb
    refine ⟨s.opInputChange c, rfl, ?_⟩
    unfold opInputChange
    rw [if_neg (by simp [hst]), if_neg (by simp [hin])]
    exact if_pos hb
  · intro s c hst hin
    refine ⟨s.opInputChange c, rfl, ?_⟩
    obtain ⟨hp, hbuf, hseq, hsig, -⟩ := streamGap_restarts hst
    rw [show s.opInputChange c = s.streamGap by unfold opInputChange; rw [if_neg (by simp [hst]), if_pos (by simp [hin])]]
    exact ⟨hp, hbuf, hseq, fun g => by rw [hsig]⟩
  · intro s d hst hin hb
    have hrun : s.opDelta d = ({ s with pair.streamSeq := d.sequence, pair.buffer := s.pair.buffer ++ [d] } : State).settle := by
      unfold opDelta
      rw [if_neg (by simp [hst]), if_neg (by simp [hin])]
      exact congrArg settle (if_pos hb)
    have hend : ∀ v : State, v.settle.pair = v.pair ∧ v.settle.firn = v.firn := fun v => by simp
    refine ⟨s.opDelta d, rfl, ?_⟩
    beta_reduce
    rw [hrun, (hend _).1, (hend _).2]
    exact ⟨rfl, rfl, fun g => by rw [settle_sigOf]; rfl, rfl⟩
  · intro s d hst hin hb hr hrel hle hv hout hf hp hc ha hh ho
    obtain ⟨hseq, hrec, hsig, hstate, hlast⟩ := opDelta_commits hst hin hb hr hrel hle hv hout hf hp hc ha hh ho
    exact ⟨s.opDelta d, rfl, hseq, hrec, fun g => by rw [hsig], hstate, hlast⟩
  · intro s d hst hin
    refine ⟨s.opDelta d, rfl, ?_⟩
    obtain ⟨hp, hbuf, hseq, hsig, hstate⟩ := streamGap_restarts hst
    rw [show s.opDelta d = s.streamGap by unfold opDelta; rw [if_neg (by simp [hst]), if_pos (by simp [hin])]]
    exact ⟨hp, hbuf, hseq, fun g => by rw [hsig], hstate⟩
  · intro s i hup ho hx
    exact ⟨s.opHandoverMsg (.swapAt i), rfl, by simp [opHandoverMsg, hup, ho, hx, setExch]⟩
  · intro s i hup ho hx
    exact ⟨s.opHandoverMsg (.swapAt i), rfl, by simp [opHandoverMsg, hup, ho, hx]⟩
  · intro s hup ho
    exact ⟨s.opHandoverMsg .ready, rfl, by rw [show s.opHandoverMsg .ready = s.opStandbyReady true by simp [opHandoverMsg, hup, ho]]; rfl⟩
  · intro s hup
    exact ⟨s.opHandoverMsg (.deltaAck s.pair.streamSeq), rfl, by rw [show s.opHandoverMsg (.deltaAck s.pair.streamSeq) = s.opLastDelta by simp [opHandoverMsg, hup]]; rfl⟩
  · intro s n hn
    exact ⟨s.opHandoverMsg (.deltaAck n), rfl, by simp [opHandoverMsg, hn]⟩
  · intro s i n hup ho hm
    refine ⟨s.opExchangeMsg (.start i n), rfl, ?_⟩
    rw [opExchangeMsg_start hup ho hm]
    exact ⟨rfl, rfl, rfl, get_put_self _ _ _ _, rfl, rfl, keeps_of_within (by simp [Part.facet])⟩
  · intro s c hup ha ho
    refine ⟨s.opExchangeMsg (.aborted c), rfl, ?_⟩
    obtain ⟨hout, -, hcause, himage, hstaged, -⟩ := abortExchange_eq ha c
    rw [show s.opExchangeMsg (.aborted c) = s.abortExchange c by simp [opExchangeMsg, hup]]
    exact ⟨hout, hcause, himage, hstaged ho⟩
  · intro s hup ho
    exact ⟨s.opExchangeMsg .verified, rfl, by rw [(opExchangeMsg_up hup _ ho).1 rfl]; rfl⟩
  · intro s hup ho
    exact ⟨s.opExchangeMsg .mapBuilt, rfl, by rw [(opExchangeMsg_up hup _ ho).2.1 rfl]; rfl⟩
  · intro s hup ho
    exact ⟨s.opExchangeMsg .inStep, rfl, by rw [(opExchangeMsg_up hup _ ho).2.2.1 rfl]; rfl⟩
  · intro s hup ho
    exact ⟨s.opExchangeMsg .notReady, rfl, by rw [(opExchangeMsg_up hup _ ho).2.2.2 rfl]; rfl⟩

end Sys2Proof.Machine
end

section
/-! PROOF. The Sync Link of a standby that is stale from step (O27). -/
namespace Sys2Proof.Machine

open State

/-! ## A stale standby in step (O27) -/

/-- A tracking module in step whose clock has been off for 1 s and that still counts as stale from step. -/
def staleInStep : State :=
  { State.reset with
    mode := { State.reset.mode with current := .track, life := .inService }
    time := { State.reset.time with now := 1000000000 }
    prog := { State.reset.prog with image := some {} }
    pair := { State.reset.pair with phase := 5, stale := true, staleFromStep := true, offsetSince := some 0 } }

/-- Refutes O27: clause (8) leaves open that the standby is stale from step. Its claim stays armed although it leaves step. -/
theorem not_lanesAndTheSyncLink : ¬ Obligations.LanesAndTheSyncLink := by
  rintro ⟨-, -, -, -, -, -, -, hoffset⟩
  obtain ⟨u, hu, -, harmed, -⟩ := hoffset staleInStep 0 rfl rfl (by decide) rfl rfl
  obtain rfl : staleInStep.opOffsetExcess = u := Host.Outcome.next.inj hu
  exact absurd harmed (by decide +kernel)

end Sys2Proof.Machine
end

section
/-! PROOF. The copy of state, its restarts and its end (O28). -/
namespace Sys2Proof.Machine

namespace State
variable {s t u v : State}

/-! ## The copy of state (R336) -/

/-- A tracking module takes the copy (Table 10.8). -/
theorem copies (hm : s.mode.current = .track) (ho : s.pair.ownSelf = false) (hup : s.pair.syncUp = true) :
    ¬(s.mode.current ≠ .track ∨ s.pair.ownSelf = true ∨ (!s.pair.syncUp) = true) := by simp [hm, ho, hup]

theorem opBulk_modes (hm : s.mode.current = .track) (ho : s.pair.ownSelf = false) (hup : s.pair.syncUp = true) (hp : s.pair.phase = 3) (e : Word) (k : Nat) (p : Half) :
    s.opBulk (.modes e k p) = { s with
      mode := { s.mode with epoch := e, pending := p, commitAt := if p = 0 then none else some s.time.mono }
      pair := { s.pair with lastEpoch := some (modeOf k, decide (p ≠ 0)) }
      disp := { s.disp with tasks := mapTab s.disp.tasks (fun t x => if p.getLsbD t then x else { x with adopted := modeOf k, epoch := e }) } } :=
  (if_neg (copies hm ho hup)).trans (if_neg (not_not.mpr hp))

theorem opBulk_signal (hm : s.mode.current = .track) (ho : s.pair.ownSelf = false) (hup : s.pair.syncUp = true) (hp : s.pair.phase = 3) (g : Nat) (x : Word) (q : BitVec 2)
    (f : ForceMsg) : s.opBulk (.signal g x q f) = (s.setSig g (fun e => { e with
      value := x, source := 5, forced := f.forced, forceValue := f.value, stale := false
      quality := if s.unitFenced e.unit && (e.direction ≠ 0 || e.producer.elim false s.undispatchable) then 3 else q
      substituted := e.substituted && (e.direction ≠ 1 || s.unitFenced e.unit) })).settle :=
  (if_neg (copies hm ho hup)).trans (if_neg (not_not.mpr hp))

/-- The image of the copy, as it is loaded (Table 10.8). -/
theorem loadImage_record (i : Image) (area : Nat) (h : u.prog.changeHash = i.hash) : (u.loadImage i area).prog.changeRecord = u.prog.changeRecord := by
  have hafter : ∀ v w : State, ((((w.freshFirn.rebuildCopies).taintSignals).appendMeasured 5 0 area i.hash).judgeUndispatchable.moveQueues v).prog = w.prog :=
    fun v w => prog_of_within (L := [.sig, .disp, .firn, .moraine, .sedge, .draws]) (by simp) (by simp)
  have hgone : ∀ w : State, (w.untaintGone i).prog = w.prog := fun w => prog_of_within (L := [.moraine]) (by simp) (by simp)
  have hexec : ∀ (w : State) slots words, (w.execute i area slots words).prog.changeRecord = w.prog.changeRecord
      ∧ (w.execute i area slots words).prog.changeHash = w.prog.changeHash := by
    intro w slots words
    unfold execute
    dsimp only
    rw [hafter]
    dsimp only
    rw [hgone]
    exact ⟨rfl, rfl⟩
  have happly : ∀ w : State, w.prog.changeHash = w.image.elim 0 (·.hash) → w.applyRecord.prog.changeRecord = w.prog.changeRecord := fun w hw => by
    unfold applyRecord
    rw [if_pos hw]
  unfold loadImage
  dsimp only
  rw [fetchResident_prog, happly, (hexec _ _ _).1]
  rw [(hexec _ _ _).2, image, (execute_image _ _ _ _).1]
  exact h

theorem imageFault_image {f : ImageFile} (h : s.imageFault f false = 0) : ∃ i, fileImage f = some i := by
  cases hf : fileImage f with
  | some i => exact ⟨i, rfl⟩
  | none => simp [imageFault, hf] at h

theorem opBulk_image {f : ImageFile} {l : List (Nat × List (Nat × Word))} {i : Image} (hm : s.mode.current = .track) (ho : s.pair.ownSelf = false)
    (hup : s.pair.syncUp = true) (hp : s.pair.phase = 2) (hf : fileImage f = some i) (hz : s.imageFault f false = 0) :
    s.opBulk (.image f l) = (({ s.putStage f with prog.changeRecord := l, prog.changeHash := i.hash } : State).loadImage i s.stageSlot).startPhase 3 := by
  refine ((if_neg (copies hm ho hup)).trans ((if_neg (not_not.mpr hp)).trans (if_neg (not_not.mpr hz)))).trans ?_
  rw [hf]
  rfl

theorem opBulk_refused {f : ImageFile} {l : List (Nat × List (Nat × Word))} (hm : s.mode.current = .track) (ho : s.pair.ownSelf = false)
    (hup : s.pair.syncUp = true) (hp : s.pair.phase = 2) (hz : s.imageFault f false ≠ 0) : s.opBulk (.image f l) = ({ s with pair.phase := 7 } : State).occurOpen 119 :=
  (if_neg (copies hm ho hup)).trans ((if_neg (not_not.mpr hp)).trans (if_pos hz))

/-! ## Restarts of the copy (R337) -/

theorem riseOpen_live {d : Nat} {a : DetAttr} (ha : detAttr d = some a) (he : a.event = false) : ((u.riseOpen d).det d).live = true := by
  unfold riseOpen
  split
  · assumption
  · rw [occurOpen_det_self ha]
    unfold occurred counted
    split <;> simp [he]

theorem opBufferFull_restarts (hst : s.streams = true) (hb : s.buffers = true) (hr : s.pair.restartRun < 2) :
    s.opBufferFull = ({ s with pair.restarts := min 255 (s.pair.restarts + 1), pair.restartRun := s.pair.restartRun + 1 } : State).startPhase 3 :=
  (if_neg (by simp [hst, hb])).trans (if_pos (by omega))

theorem opBufferFull_waits (hst : s.streams = true) (hb : s.buffers = true) (hr : 2 ≤ s.pair.restartRun) :
    s.opBufferFull = ({ ({ s with pair.restarts := min 255 (s.pair.restarts + 1), pair.restartRun := s.pair.restartRun + 1 } : State).startPhase 3 with
      pair.resyncWait := some (s.time.now + 60000000000), pair.restartRun := 0 } : State).riseOpen 118 := by
  unfold opBufferFull
  rw [if_neg (by simp [hst, hb])]
  exact if_neg (by omega)

theorem opRestartWait_ends {e : Ns} (hw : s.pair.resyncWait = some e) (hle : e ≤ s.time.now) (hm : s.mode.current = .track) (hup : s.pair.syncUp = true) :
    s.opRestartWait = ({ s with pair.resyncWait := none } : State).startPhase 3 := by
  unfold opRestartWait
  rw [hw, Option.elim_some, if_pos (decide_eq_true hle)]
  exact if_pos ⟨hm, hup⟩

end State
open State

/-- Settles O28, clause by clause. -/
theorem resynchronisation : Obligations.Resynchronisation := by
  unfold Obligations.Resynchronisation
  refine ⟨?_, ?_, ?_, ?_, ?_, ?_, ?_, ?_, ?_, ?_, ?_⟩
  · intro s e k p hm ho hup hp
    refine ⟨s.opBulk (.modes e k p), rfl, ?_⟩
    rw [opBulk_modes hm ho hup hp]
    exact ⟨rfl, rfl, keeps_of_within (by simp [Part.facet])⟩
  · intro s g v q f hm ho hup hp hdecl
    refine ⟨s.opBulk (.signal g v q f), rfl, ?_⟩
    beta_reduce
    rw [opBulk_signal hm ho hup hp, settle_sigOf, setSig_self hdecl]
    refine ⟨stamp_value _ _, fun hf => ?_, stamp_forced _ _, stamp_forceValue _ _, stamp_source _ _, fun n hn => ?_, keeps_of_within (by simp [Part.facet])⟩
    · rw [stamp_quality]
      simp [hf]
    · rw [settle_sigOf, setSig_ne hn]
  · intro s t n hm ho hup hp
    refine ⟨s.opBulk (.holdRun t n), rfl, ?_⟩
    rw [show s.opBulk (.holdRun t n) = s.setFirn t (fun f => { f with skewRun := n }) from (if_neg (copies hm ho hup)).trans (if_neg (not_not.mpr hp))]
    refine ⟨?_, keeps_of_within (by simp [Part.facet])⟩
    rw [firnTask, setFirn, get_put_self]
  · intro s i ws hm ho hup hp
    exact ⟨s.opBulk (.stateWords i ws), rfl, (if_neg (copies hm ho hup)).trans (if_neg (not_not.mpr hp))⟩
  · intro s n hm ho hup hp
    exact ⟨s.opBulk (.percent n), rfl, (if_neg (copies hm ho hup)).trans (if_neg (not_not.mpr hp))⟩
  · intro s i l hm ho hup hp
    refine ⟨s.opBulk (.image i l), rfl, ?_⟩
    beta_reduce
    by_cases hz : s.imageFault i false = 0
    · obtain ⟨x, hx⟩ := imageFault_image hz
      have hphase : ∀ v : State, (v.startPhase 3).prog = v.prog ∧ (v.startPhase 3).mode = v.mode := fun v => by simp
      rw [opBulk_image hm ho hup hp hx hz, image, (hphase _).1, (hphase _).2, loadImage_mode, startPhase_pair]
      exact ⟨fun _ => ⟨by rw [hx]; exact (loadImage_loads _ _).1, (loadImage_record _ _ rfl).trans rfl, rfl⟩, fun h => absurd hz h, hm⟩
    · have ha : detAttr 119 = some { cls := 1 } := rfl
      have hW := occurOpen_mild_within (u := { s with pair.phase := 7 }) ha (by decide)
      rw [opBulk_refused hm ho hup hp hz, hW .mode (by simp), hW .prog (by simp), hW .pair (by simp), occurOpen_count ha]
      exact ⟨fun h => absurd h hz, fun _ => ⟨rfl, rfl, rfl⟩, hm⟩
  · intro s hm hp hup hw
    have hend : ∀ v : State, Within [.drift, .moraine] v ((v.fetchResident).trigger 0x0A5 []) := fun v => by simp
    refine ⟨s.opCopyEnd, rfl, ?_⟩
    rw [show s.opCopyEnd = (({ s with pair.phase := 4, pair.percent := 100 } : State).rebuildCopies.fetchResident).trigger 0x0A5 [] from
      if_pos ⟨hm, hp, hup, by rw [hw]; rfl⟩]
    beta_reduce
    rw [hend _ .pair (by simp), hend _ .firn (by simp), hend _ .mode (by simp)]
    exact ⟨rfl, rfl, rfl, rfl⟩
  · intro s hst hp hd
    refine ⟨s.opDrained, rfl, ?_⟩
    have hend : ∀ v : State, v.settle.pair = v.pair ∧ v.settle.disp = v.disp := fun v => by simp
    unfold opDrained
    rw [if_neg (by simp [hst, hp, hd])]
    beta_reduce
    rw [(hend _).1, (hend _).2]
    refine ⟨rfl, rfl, rfl, rfl, fun e he => ?_⟩
    obtain ⟨x, -, rfl⟩ := List.mem_map.mp he
    rfl
  · intro s hst hb hr
    have hw : s.pair.resyncWait = none := by
      simp only [streams, Bool.and_eq_true] at hst
      exact Option.isNone_iff_eq_none.mp hst.2
    refine ⟨s.opBufferFull, rfl, ?_⟩
    beta_reduce
    rw [opBufferFull_restarts hst hb hr, startPhase_pair]
    exact ⟨rfl, rfl, rfl, hw, rfl⟩
  · intro s hst hb hr
    have ha : detAttr 118 = some { cls := 1, event := false } := rfl
    refine ⟨s.opBufferFull, rfl, ?_⟩
    rw [opBufferFull_waits hst hb hr]
    beta_reduce
    rw [riseOpen_live ha rfl, riseOpen_mild_within ha (by decide) .pair (by simp)]
    dsimp only
    rw [startPhase_pair]
    exact ⟨rfl, rfl, rfl, rfl, rfl⟩
  · intro s e hw hle hm hup
    refine ⟨s.opRestartWait, rfl, ?_⟩
    have hmode : ∀ v : State, (v.startPhase 3).mode = v.mode := fun v => by simp
    beta_reduce
    rw [opRestartWait_ends hw hle hm hup, startPhase_pair, hmode]
    exact ⟨rfl, rfl, rfl⟩

end Sys2Proof.Machine
end

section
/-! PROOF. Triggers, acceptance, posts and limits of Moraine (O31). -/
namespace Sys2Proof.Machine

namespace State
variable {s t u v : State} {c k n : Nat} {r : Req} {x : ReplyTo}

/-! ## A trigger (R413) -/

/-- What waits for acceptance when a trigger passes its limit. -/
def trigOf (s : State) (code severity source unit : Nat) (words : List Word) (post : Option Nat) : Trig :=
  ⟨code, severity, source, unit, s.time.mono, (codeOf s code).waiting, (words ++ snapWords s (((codeOf s code).refill s.time.mono).relimit) (payloadOf code)).take 8, post⟩

theorem refill_relimit_facts (y : CodeSt) (m : Ns) : ((y.refill m).relimit).waiting = y.waiting ∧ ((y.refill m).relimit).total = y.total ∧ ((y.refill m).relimit).snaps = y.snaps := by
  unfold CodeSt.relimit CodeSt.refill
  dsimp only
  split <;> exact ⟨rfl, rfl, rfl⟩

theorem triggerFrom_passes (h : s.passesNow c = true) (severity source unit : Nat) (words : List Word) (post : Option Nat) :
    (s.triggerFrom c severity source unit words post).moraine.queue = s.moraine.queue ++ [s.trigOf c severity source unit words post] := by
  unfold passesNow at h
  unfold triggerFrom
  dsimp only
  rw [if_pos h, trigOf, (refill_relimit_facts _ _).1]

theorem triggerFrom_suppressed (h : s.passesNow c = false) (severity source unit : Nat) (words : List Word) (post : Option Nat) :
    s.triggerFrom c severity source unit words post = { s with moraine.codes := put s.moraine.codes c { ((codeOf s c).refill s.time.mono).relimit with
      waiting := BitVec.ofNat 32 (sat32 ((codeOf s c).waiting.toNat + 1)), total := BitVec.ofNat 32 (sat32 ((codeOf s c).total.toNat + 1)) } } := by
  obtain ⟨hw, ht, -⟩ := refill_relimit_facts (codeOf s c) s.time.mono
  unfold passesNow at h
  unfold triggerFrom
  dsimp only
  rw [if_neg (by rw [Bool.not_eq_true]; exact h), hw, ht]

/-- A trigger leaves the ring, the post ports and what Moraine has accepted. -/
theorem triggerFrom_moraine (code severity source unit : Nat) (words : List Word) (post : Option Nat) :
    ∃ q l, (s.triggerFrom code severity source unit words post).moraine = { s.moraine with queue := s.moraine.queue ++ q, codes := put s.moraine.codes code l }
      ∧ l.snaps = (codeOf s code).snaps := by
  have hsnaps := (refill_relimit_facts (codeOf s code) s.time.mono).2.2
  unfold triggerFrom
  dsimp only
  generalize ((codeOf s code).refill s.time.mono).relimit = y at hsnaps
  split
  · exact ⟨[_], _, rfl, hsnaps⟩
  · exact ⟨[], { y with waiting := BitVec.ofNat 32 (sat32 (y.waiting.toNat + 1)), total := BitVec.ofNat 32 (sat32 (y.total.toNat + 1)) }, by simp only [List.append_nil], hsnaps⟩

theorem trigger_codeOf_ne (h : n ≠ c) (words : List Nat) (unit : Nat) : codeOf (s.trigger c words unit) n = codeOf s n := by
  obtain ⟨q, l, hrun, -⟩ := triggerFrom_moraine (s := s) c (severityOf c) (codeSource c) unit (words.map (BitVec.ofNat 32)) none
  rw [trigger, codeOf, hrun]
  exact get_put_ne _ _ _ _ _ h

theorem trigger_snaps (words : List Nat) (unit n : Nat) : (codeOf (s.trigger c words unit) n).snaps = (codeOf s n).snaps := by
  by_cases h : n = c
  · subst h
    obtain ⟨q, l, hrun, hl⟩ := triggerFrom_moraine (s := s) n (severityOf n) (codeSource n) unit (words.map (BitVec.ofNat 32)) none
    rw [trigger, codeOf, hrun]
    exact (congrArg CodeSt.snaps (get_put_self _ _ _ _)).trans hl
  · rw [trigger_codeOf_ne h]

/-! ## What a granted request leaves of the codes (R88, R183) -/

theorem produce_codeOf_ne (h : n ≠ 0x067) (q : Nat) (entry : List Word) : codeOf (s.produce q entry) n = codeOf s n := by
  unfold produce
  dsimp only
  split
  · rw [trigger_codeOf_ne h]; rfl
  · rfl

theorem produce_snaps (q n : Nat) (entry : List Word) : (codeOf (s.produce q entry) n).snaps = (codeOf s n).snaps := by
  unfold produce
  dsimp only
  split
  · rw [trigger_snaps]; rfl
  · rfl

theorem send_moraine (y : Reply) : (u.send y).moraine = u.moraine := by simp

theorem taken_codeOf_ne (h : Granted s r 2 t x) (hn : n ≠ 0x067) : codeOf (t.taken x) n = codeOf s n := by
  have hm : t.moraine = s.moraine := by simp [granted_same h]
  rw [taken, produceOpen, produce_codeOf_ne hn, codeOf, codeOf]
  rw [show ∀ w : State, ({ w with draws := w.draws + 4 } : State).moraine = w.moraine from fun w => rfl, send_moraine, hm]

theorem taken_snaps (h : Granted s r 2 t x) (n : Nat) : (codeOf (t.taken x) n).snaps = (codeOf s n).snaps := by
  have hm : t.moraine = s.moraine := by simp [granted_same h]
  rw [taken, produceOpen, produce_snaps, codeOf, codeOf]
  rw [show ∀ w : State, ({ w with draws := w.draws + 4 } : State).moraine = w.moraine from fun w => rfl, send_moraine, hm]

theorem answer_codes {status : Nat} (hs : status ≠ 9) : (u.answer x status).moraine.codes = u.moraine.codes := by
  have hend : ∀ (v : State) m, (v.endSession m).moraine.codes = v.moraine.codes := fun v m => by
    unfold endSession
    split <;> rfl
  unfold answer
  dsimp only
  rw [if_neg hs]
  (repeat' split) <;> simp [hend]

/-! ## Acceptance (R408, R416) -/

theorem produce_moraine (q : Nat) (entry : List Word) : ∃ l y, (s.produce q entry).moraine = { s.moraine with queue := s.moraine.queue ++ l, codes := y } := by
  unfold produce
  dsimp only
  split
  · obtain ⟨l, y, h, -⟩ := triggerFrom_moraine (s := { s with disp.queues := put s.disp.queues q { get ({} : IntQ) s.disp.queues q with overflow := true } }) 0x067
      (severityOf 0x067) (codeSource 0x067) 0 ([q].map (BitVec.ofNat 32)) none
    exact ⟨l, _, h⟩
  · exact ⟨[], s.moraine.codes, by simp only [List.append_nil]⟩

/-- What the acceptance of a record leaves of Moraine (R416). -/
theorem enterRing_facts (y : Rec) : (u.enterRing y).moraine.ring.head? = some y ∧ (u.enterRing y).moraine.newest = y.seq
    ∧ (u.enterRing y).moraine.lastAccept = u.moraine.lastAccept ∧ (∃ l, (u.enterRing y).moraine.queue = u.moraine.queue ++ l) := by
  have hhead : ∀ m : Nat, 0 < m → ((y :: u.moraine.ring).take m).head? = some y := fun m hm => by
    obtain ⟨m, rfl⟩ := Nat.exists_eq_succ_of_ne_zero hm.ne'
    rfl
  have hlimit : 0 < (if u.stagingRing then 16320 else 131072) := by split <;> decide
  unfold enterRing
  dsimp only
  split
  · obtain ⟨l, c, h⟩ := produce_moraine (s := _) 61 _
    rw [h]
    exact ⟨hhead _ hlimit, rfl, rfl, l, rfl⟩
  · exact ⟨hhead _ hlimit, rfl, rfl, [], (List.append_nil _).symm⟩

theorem opAccept_single {q : Trig} {rest : List Trig} (hq : s.moraine.queue = q :: rest) (hdue : (s.moraine.lastAccept.elim true (fun a => decide (a + 1000 ≤ s.time.mono))) = true)
    (hlen : (acceptedWords q s.time.mono).length ≤ 4) : ∃ w p, w = ({ s with moraine.queue := rest, moraine.lastAccept := some s.time.mono } : State).enterRing
      (s.recordOf q s.time.mono (acceptedWords q s.time.mono) false) ∧ s.opAccept = { w with moraine := { w.moraine with posts := p } } := by
  have hready : s.moraine.lastAccept.elim false (fun a => decide (s.time.mono < a + 1000)) = false := by
    cases ha : s.moraine.lastAccept with
    | none => rfl
    | some a =>
      rw [ha, Option.elim_some, decide_eq_true_eq] at hdue
      exact decide_eq_false (Nat.not_lt.mpr hdue)
  have hrun : s.opAccept = q.post.elim (({ s with moraine.queue := rest, moraine.lastAccept := some s.time.mono } : State).enterRing
      (s.recordOf q s.time.mono (acceptedWords q s.time.mono) false)) (fun n => { ({ s with moraine.queue := rest, moraine.lastAccept := some s.time.mono } : State).enterRing
        (s.recordOf q s.time.mono (acceptedWords q s.time.mono) false) with moraine.posts := upd ({} : PostPort) (({ s with moraine.queue := rest, moraine.lastAccept := some s.time.mono } : State).enterRing
        (s.recordOf q s.time.mono (acceptedWords q s.time.mono) false)).moraine.posts n (fun p => { p with seq := (s.recordOf q s.time.mono (acceptedWords q s.time.mono) false).seq }) }) := by
    unfold opAccept
    simp only [hq]
    rw [if_neg (by rw [hready]; decide), if_neg (by omega)]
  rw [hrun]
  generalize ({ s with moraine.queue := rest, moraine.lastAccept := some s.time.mono } : State).enterRing _ = w
  cases q.post with
  | none => exact ⟨w, w.moraine.posts, rfl, rfl⟩
  | some n => exact ⟨w, _, rfl, rfl⟩

theorem opAccept_early {a : Ns} (ha : s.moraine.lastAccept = some a) (hlt : s.time.mono < a + 1000) : s.opAccept = s := by
  unfold opAccept
  split
  · rfl
  · rw [ha, Option.elim_some, if_pos (decide_eq_true hlt)]

/-! ## Posts (R426) -/

/-- The post's result: queued, suppressed, or no postable code. -/
def postResult (s : State) (c : Nat) : Nat := if codeAssigned c = true ∧ Config.postable c = true then (if s.passesNow c = true then 1 else 2) else 3
/-- The post port as the submission leaves it. -/
def posted (s : State) (p c k : Nat) (w : List Word) : State :=
  { s with moraine.posts := upd ({} : PostPort) s.moraine.posts p (fun y => { y with code := c, unit := k, payload := w, result := s.postResult c }) }

theorem opPost_eq {p : Nat} {w : List Word} (hp : p ≤ 8) (hc : c < 1024) (hk : k < 4096) (hw : w.length ≤ 8) :
    s.opPost p c k w = if s.postResult c = 3 then s.posted p c k w else (s.posted p c k w).triggerFrom c (triggerSeverity c w) (if p = 8 then 14 else 0) k
      ((w ++ List.replicate 8 0).take (payloadOf c)) (some p) := by
  have hresult : (if !codeAssigned c || !Config.postable c then 3 else if s.passesNow c then 1 else 2) = s.postResult c := by
    unfold postResult
    cases codeAssigned c <;> cases Config.postable c <;> simp
  unfold opPost
  rw [if_neg (by omega)]
  simp only [Nat.mod_eq_of_lt hc, Nat.mod_eq_of_lt hk, hresult]
  rfl

theorem opPost_facts {p : Nat} {w : List Word} (hp : p ≤ 8) (hc : c < 1024) (hk : k < 4096) (hw : w.length ≤ 8) :
    (s.opPost p c k w).moraine.posts = (s.posted p c k w).moraine.posts ∧ (codeAssigned c = true → Config.postable c = true → s.passesNow c = true →
      ((s.opPost p c k w).moraine.queue.getLast?.map (fun y => (y.code, y.unit, y.post))) = some (c, k, some p)) := by
  rw [opPost_eq hp hc hk hw]
  split
  · rename_i h
    refine ⟨rfl, fun hca hpo hpass => ?_⟩
    rw [postResult, if_pos ⟨hca, hpo⟩, if_pos hpass] at h
    exact absurd h (by decide)
  · refine ⟨?_, fun _ _ hpass => ?_⟩
    · obtain ⟨q, l, h, -⟩ := triggerFrom_moraine (s := s.posted p c k w) c (triggerSeverity c w) (if p = 8 then 14 else 0) k ((w ++ List.replicate 8 0).take (payloadOf c)) (some p)
      rw [h]
    · rw [triggerFrom_passes (s := s.posted p c k w) hpass, List.getLast?_concat]
      rfl

/-! ## Limits and snapshot lists (R411, R415) -/

theorem lookup_congr (h : t.prog = s.prog) (i sub : Nat) : lookup t i sub = lookup s i sub := by
  have htask : ∀ k, t.taskDecl k = s.taskDecl k := fun k => by rw [taskDecl, taskDecl, image_congr h]
  have hunit : ∀ k, t.unitExists k = s.unitExists k := fun k => by rw [unitExists, unitExists, units, units, image_congr h]
  have hlink : ∀ k, t.linkDecl k = s.linkDecl k := fun k => by rw [linkDecl, linkDecl, image_congr h]
  simp only [lookup, htask, hunit, hlink, image_congr h]

theorem snapOk_congr (h : t.prog = s.prog) (n : Nat) : t.snapOk n = s.snapOk n := by rw [snapOk, snapOk, lookup_congr h]
theorem snapWide_congr (h : t.prog = s.prog) (n : Nat) : t.snapWide n = s.snapWide n := by rw [snapWide, snapWide, objOf, objOf, lookup_congr h]

end State
open State

/-- Settles O31, clause by clause. -/
theorem moraineTriggersAndPosts : Obligations.MoraineTriggersAndPosts := by
  unfold Obligations.MoraineTriggersAndPosts
  refine ⟨?_, ?_, ?_, ?_, ?_, ?_, ?_, ?_⟩
  · intro s c k w hc hw hk hp
    have hrun : s.opTrigger c k w = s.triggerFrom c (triggerSeverity c w) (codeSource c) k w := if_pos (by simp [hc, hw, hk])
    refine ⟨s.opTrigger c k w, rfl, ?_⟩
    beta_reduce
    rw [hrun, triggerFrom_passes hp]
    refine ⟨by simp, by simp, ?_, keeps_of_within (by simp [Part.facet])⟩
    rw [List.getLast?_concat, Option.map_some, trigOf]
    dsimp only
    rw [List.take_take, List.take_append_of_le_length (by omega), ← List.take_take, ← hw, List.take_take, Nat.min_comm, ← List.take_take, List.take_length]
  · intro s c k w hc hw hk hp
    have hrun : s.opTrigger c k w = s.triggerFrom c (triggerSeverity c w) (codeSource c) k w := if_pos (by simp [hc, hw, hk])
    refine ⟨s.opTrigger c k w, rfl, ?_⟩
    rw [hrun, triggerFrom_suppressed hp]
    refine ⟨rfl, rfl, ?_, ?_, keeps_of_within (by simp [Part.facet])⟩ <;> rw [codeOf, get_put_self]
  · intro s q rest hq hdue hlen
    obtain ⟨w, p, hw, hrun⟩ := opAccept_single hq hdue hlen
    obtain ⟨hhead, hnew, hlast, l, hqueue⟩ := enterRing_facts (u := { s with moraine.queue := rest, moraine.lastAccept := some s.time.mono })
      (s.recordOf q s.time.mono (acceptedWords q s.time.mono) false)
    refine ⟨s.opAccept, rfl, ?_⟩
    have hkeeps : Keeps [.moraine, .disp] s s.opAccept := keeps_of_within (by simp [Part.facet])
    have hm : s.opAccept.moraine = { w.moraine with posts := p } := by rw [hrun]
    beta_reduce
    rw [hm]
    dsimp only
    rw [hw, hqueue, hhead, hnew, hlast]
    refine ⟨by simp, rfl, ?_, rfl, rfl, hkeeps⟩
    simp [recordOf, List.take_of_length_le hlen]
  · intro s a ha hlt
    exact ⟨s.opAccept, rfl, opAccept_early ha hlt⟩
  · intro s p c k w hp hc hk hw
    obtain ⟨hposts, hqueue⟩ := opPost_facts (s := s) hp hc hk hw
    refine ⟨s.opPost p c k w, rfl, ?_⟩
    beta_reduce
    rw [hposts, posted, upd, get_put_self]
    exact ⟨rfl, rfl, rfl, rfl, hqueue, keeps_of_within (by simp [Part.facet])⟩
  · intro s r t x h hlo hhi hn hv
    obtain rfl := granted_req h
    refine ⟨_, congrArg Host.Outcome.next ((if_pos ⟨hlo, hhi⟩).trans (forwarded_taken h rfl State.opRateLimit)), ?_⟩
    have hne : (x.req.index.toNat - 0x7130) * 256 + x.req.sub.toNat ≠ 0x0F3 := fun he => by simp [he, neverSuppressed] at hn
    unfold opRateLimit
    rw [check14_granted h (by rw [hn]; exact decide_eq_false (Nat.div_pos hv (by decide)).ne') rfl rfl]
    refine ⟨?_, granted_replied h (by decide)⟩
    rw [codeOf, answer_codes (by decide), ← codeOf, limitRecord, trigger_codeOf_ne hne, codeOf, upd, get_put_self]
  · intro s r t x h hlo hhi hbad
    obtain rfl := granted_req h
    refine ⟨_, congrArg Host.Outcome.next ((if_pos ⟨hlo, hhi⟩).trans (forwarded_taken h rfl State.opRateLimit)), ?_⟩
    unfold opRateLimit
    have hrange : (neverSuppressed ((x.req.index.toNat - 0x7130) * 256 + x.req.sub.toNat) || decide (x.req.value / 65536 = 0)) = true := by
      rcases hbad with hn | hv
      · rw [hn]; rfl
      · rw [Nat.div_eq_of_lt hv]; exact Bool.or_true _
    rw [check14_range (Granted_port h) hrange]
    refine ⟨fun c hc => ?_, granted_replied h (by decide)⟩
    rw [codeOf, answer_codes (by decide), ← codeOf, taken_codeOf_ne h hc]
  · intro s r t x h hlo hhi hpay hen hok hwide hsecond
    obtain rfl := granted_req h
    refine ⟨_, congrArg Host.Outcome.next ((if_pos ⟨hlo, hhi⟩).trans (forwarded_taken h rfl State.opSnapList)), ?_⟩
    have hprog : (t.taken x).prog = s.prog := (taken_prog_drift h).1
    have hone : (decide (0 < x.req.sub.toNat % 8) && (t.taken x).snapWide (get 0 (codeOf (t.taken x)
        ((x.req.index.toNat - 0x7140) * 32 + x.req.sub.toNat / 8)).snaps (x.req.sub.toNat % 8 - 1)).toNat) = false := by
      rw [taken_snaps h, snapWide_congr hprog]
      rcases hsecond with hz | hw
      · simp [hz]
      · rw [hw, Bool.and_false]
    unfold opSnapList
    rw [check14_granted h (by rw [snapOk_congr hprog, snapWide_congr hprog, hok, hwide]; simp [Nat.not_lt.mpr hpay]) rfl rfl]
    refine ⟨?_, granted_replied h (by decide)⟩
    rw [codeOf, answer_codes (by decide), ← codeOf, limitRecord, trigger_snaps, codeOf, get_put_self, hone, snapWide_congr hprog, hwide, hen]
    exact get_put_self _ _ _ _

end Sys2Proof.Machine
end

section
/-! PROOF. A cursor that is written under the last counter of its session (O32). -/
namespace Sys2Proof.Machine

open State

/-! ## A cursor written under a session's last counter (O32) -/

/-- A booted module with one session. -/
def oneReader : State :=
  { State.reset with
    mode := { State.reset.mode with measured := true, hubTested := true, inReset := false }
    sess := { State.reset.sess with table := [{ number := 1, role := 1, port := 1, scope := 0, key := 1, validFor := 5000 }] } }

/-- A WRITE before it is tagged. -/
def untagged (i sub : Nat) (data : List Byte) : Req :=
  { index := BitVec.ofNat 16 i, sub := BitVec.ofNat 8 sub, flags := 1, length := BitVec.ofNat 16 data.length, data := data }

/-- The WRITE under that session, tagged with its last counter. -/
def underLast (q : Req) : Req :=
  { q with trailer := some ⟨1, 0xFFFFFFFFFFFFFFFF, Config.hmac 1 (tagInput 1 1 0xFFFFFFFFFFFFFFFF (q.header (BitVec.ofNat 8 2)) q.data)⟩ }

/-- What check 8 leaves of the state, and what is known of the request. -/
def lastConsumed : State := oneReader.consume 1 0xFFFFFFFFFFFFFFFF
def lastReply (q : Req) : ReplyTo := State.accepted (oneReader.replyTo (underLast q) 2) 0xFFFFFFFFFFFFFFFF

/-- Such a WRITE is granted when no check but the tag's faults it. -/
theorem granted_underLast {q : Req} (hp : q.port ≠ 0)
    (h : oneReader.unfaulted (underLast q) 2 ⟨1, 0xFFFFFFFFFFFFFFFF, 0⟩ { number := 1, role := 1, port := 1, scope := 0, key := 1, validFor := 5000 } = true)
    (hb : State.blankBarred (lastReply q) = false) : Granted oneReader (underLast q) 2 lastConsumed (lastReply q) := by
  refine ⟨⟨hp, ?_, hb, by rfl⟩, by decide +kernel, by decide +kernel⟩
  exact State.judge_passed oneReader (underLast q) 2 _ _ rfl rfl rfl h

/-- Refutes O32: clause (5) leaves the counter open. The session's last counter ends the session with the reply, and its cursor goes with it. -/
theorem not_moraineKeepsAndClears : ¬ Obligations.MoraineKeepsAndClears := by
  rintro ⟨-, -, -, -, hcursor, -⟩
  have hgranted := granted_underLast (q := untagged 0x7121 0 (be 8 0)) (by decide) (by decide +kernel) (by decide +kernel)
  obtain ⟨u, hu, hset, -⟩ := hcursor oneReader (underLast (untagged 0x7121 0 (be 8 0))) lastConsumed (lastReply (untagged 0x7121 0 (be 8 0)))
    hgranted rfl rfl (by decide +kernel)
  obtain rfl : (lastConsumed.taken (lastReply (untagged 0x7121 0 (be 8 0)))).opMoraineCursor (lastReply (untagged 0x7121 0 (be 8 0))) = u :=
    Host.Outcome.next.inj ((row_granted hgranted rfl rfl rfl).symm.trans hu)
  exact absurd hset (by decide +kernel)

end Sys2Proof.Machine
end

section
/-! PROOF. A capture cursor that is written under the last counter of its session (O33). -/
namespace Sys2Proof.Machine

open State

/-! ## A capture cursor written under a session's last counter (O33) -/

/-- Refutes O33: clause (15) leaves the counter open. The session's last counter ends the session with the reply, and its capture cursor goes with it. -/
theorem not_capturesRecord : ¬ Obligations.CapturesRecord := by
  rintro ⟨-, -, -, -, -, -, -, -, -, -, -, -, -, -, hcursor⟩
  have hgranted := granted_underLast (q := untagged 0x7221 0 (be 8 0)) (by decide) (by decide +kernel) (by decide +kernel)
  obtain ⟨u, hu, hset, -⟩ := hcursor oneReader (underLast (untagged 0x7221 0 (be 8 0))) lastConsumed (lastReply (untagged 0x7221 0 (be 8 0)))
    hgranted rfl rfl (by decide +kernel)
  obtain rfl : (lastConsumed.taken (lastReply (untagged 0x7221 0 (be 8 0)))).opCaptureCursor (lastReply (untagged 0x7221 0 (be 8 0))) = u :=
    Host.Outcome.next.inj ((row_granted hgranted rfl rfl rfl).symm.trans hu)
  exact absurd hset (by decide +kernel)

end Sys2Proof.Machine
end

section
/-! PROOF. A lane that trains after silent cycles (O34). -/
namespace Sys2Proof.Machine

open State

/-! ## A lane that trains after silent cycles (O34) -/

/-- Link 0 lies untrained after 100 cycles without a valid reply, its failure live and not fenced. -/
def silentLane : State :=
  { State.reset with
    hub := { State.reset.hub with dets := [(128, { live := true })] }
    link := { State.reset.link with links := [(0, { silentRun := 100 })] } }

/-- Refutes O34: clause (14) leaves the silent cycles open. The trained lane's failure stays live while they stand. -/
theorem not_linkCyclesAndConfiguration : ¬ Obligations.LinkCyclesAndConfiguration := by
  rintro ⟨-, -, -, -, -, -, -, -, -, -, -, -, -, htrained⟩
  obtain ⟨u, hu, -, -, hlive, -⟩ := htrained silentLane 0 0 (by decide) rfl
  obtain rfl : silentLane.opLinkTrained 0 0 = u := Host.Outcome.next.inj hu
  exact absurd hlive (by decide +kernel)

end Sys2Proof.Machine
end

section
/-! PROOF. The wall clock's servo, its sources, holdover and the PTP settings (O38). -/
namespace Sys2Proof.Machine

namespace State
variable {s t u v : State} {r : Req} {x : ReplyTo} {o : Int}

theorem time_of_within {L : List Facet} (h : Within L s t) (hn : Facet.time ∉ L) : t.time = s.time := h .time hn

/-! ## What the servo's steps leave of the time (R485 to R493) -/

theorem setServo_time (servo : Nat) : (u.setServo servo).time = { u.time with servo := servo, goodSyncs := 0 } := by
  have hrise : ∀ w : State, (w.riseOpen 50).time = w.time := fun w => time_of_within (riseOpen_mild_within rfl (by decide)) (by simp)
  have hfall : ∀ (w : State) d, (w.fall d).time = w.time := fun w d => by simp
  unfold setServo
  dsimp only
  (repeat' split) <;> simp only [hrise, hfall]

/-- The time as a source sets it (R487, R488). -/
def sourced (t : TimeSt) (offset : Int) (source : Nat) (stepped : Bool) : TimeSt :=
  { t with
    wallValid := true, everValid := true, source := source, holdSince := none, align := if stepped then offset else t.align
    slewTo := if stepped || offset = t.align then none else some offset, stepCount := if stepped then t.stepCount + 1 else t.stepCount }

theorem sourceRecord_time : u.sourceRecord.time = u.time := time_of_within (L := [.moraine]) (by simp) (by simp)

theorem takeTime_time (offset : Int) (source : Nat) (threshold : Int) :
    (u.takeTime offset source threshold).time = sourced u.time offset source (decide (threshold < (offset - u.time.align).natAbs)) := by
  have hstep : ∀ (w : State) (c : Bool) a o b d, (if c then ((w.moveLaunches a).stepRecord o).stepPairs b d else w).time = w.time := fun w c a o b d =>
    time_of_within (L := [.eth, .moraine, .capture]) (by simp) (by simp)
  have hsource : ∀ (w : State) (c : Bool), (if c then w.sourceRecord else w).time = w.time := fun w c => time_of_within (L := [.moraine]) (by simp) (by simp)
  have hfresh : ∀ (w : State) (c : Bool), (if c then ((w.trigger 0x113 []).fall 51).judgeAligns else w).time = w.time := fun w c =>
    time_of_within (L := [.moraine, .hub, .disp]) (by simp) (by simp)
  unfold takeTime
  exact (hfresh _ _).trans ((hsource _ _).trans (hstep _ _ _ _ _ _))

theorem takeSource_time (offset : Int) (source : Nat) :
    (u.takeSource offset source).time = sourced u.time offset source (decide ((u.time.stepThreshold.toNat : Int) < (offset - u.time.align).natAbs)) := takeTime_time _ _ _

theorem correct_time (offset : Int) : (u.correct offset).time = if offset.natAbs ≤ u.time.stepThreshold.toNat then
      { u.time with slewTo := if offset = 0 then none else some (u.time.align - offset) }
    else { u.time with align := u.time.align - offset, slewTo := none, stepCount := u.time.stepCount + 1 } := by
  have hstep : ∀ (w : State) a o b c, ((((w.moveLaunches a).stepRecord o).stepPairs b c).sourceRecord).time = w.time := fun w a o b c =>
    time_of_within (L := [.eth, .moraine, .capture]) (by simp) (by simp)
  unfold correct
  dsimp only
  split
  · rfl
  · rw [hstep]

theorem correct_small {offset : Int} (h : offset.natAbs ≤ u.time.stepThreshold.toNat) :
    (u.correct offset).time = { u.time with slewTo := if offset = 0 then none else some (u.time.align - offset) } :=
  (correct_time offset).trans (if_pos h)

theorem correct_large {offset : Int} (h : u.time.stepThreshold.toNat < offset.natAbs) :
    (u.correct offset).time = { u.time with align := u.time.align - offset, slewTo := none, stepCount := u.time.stepCount + 1 } :=
  (correct_time offset).trans (if_neg (Nat.not_le.mpr h))

/-- What the next source sets: the wall clock's own fields alone. -/
theorem nextSource_time : ∃ a b c d e f g, u.nextSource.time =
    { u.time with wallValid := a, everValid := b, source := c, holdSince := d, align := e, slewTo := f, stepCount := g } := by
  unfold nextSource
  split
  · exact ⟨_, _, _, _, _, _, _, takeSource_time _ _⟩
  · exact ⟨_, _, _, _, _, _, _, takeSource_time _ _⟩
  · split
    · exact ⟨u.time.wallValid, u.time.everValid, u.time.source, u.time.holdSince, u.time.align, u.time.slewTo, u.time.stepCount, rfl⟩
    · exact ⟨u.time.wallValid, u.time.everValid, 0, some u.time.mono, u.time.align, none, u.time.stepCount, sourceRecord_time⟩

/-- Without a partner's time and a WALL_SET there is no next source: holdover (R485). -/
theorem nextSource_hold (hup : u.pair.syncUp = false) (hw : u.time.wallSet = none) : u.nextSource.time.source = 0 ∧ u.nextSource.time.align = u.time.align
    ∧ u.nextSource.time.wallValid = u.time.wallValid := by
  unfold nextSource
  simp only [hup, hw, Bool.false_eq_true, if_false]
  split
  · rename_i h
    exact ⟨h, rfl, rfl⟩
  · rw [sourceRecord_time]
    exact ⟨rfl, rfl, rfl⟩

theorem loseTime_time (h : u.time.wallValid = true) : u.loseTime.time = { u.time with wallValid := false, source := 0, slewTo := none } := by
  have hend : ∀ w : State, ((w.trigger 0x113 []).judgeAligns).time = w.time := fun w => time_of_within (L := [.moraine, .disp]) (by simp) (by simp)
  unfold loseTime
  rw [if_pos h, hend]

theorem settle_time : u.settle.time = u.time := by simp

/-! ## PTP messages (R491 to R493) -/

/-- A Sync's offset and path delay, as the servo finds them. -/
def synced (s : State) (o : Int) (n : Nat) : State := { s with time.offsetFromMaster := o, time.meanPath := BitVec.ofNat 32 (sat32 n) }

theorem opPtp_sync (hr : s.mode.inReset = false) (hp : s.time.profile ≠ 0) (hm : s.time.monoRun = true) (o : Int) (n : Nat) : s.opPtp (.sync o n) =
    (if s.time.servo = 2 then (s.synced o n).lockedSync o else (s.synced o n).acquiringSync o).settle :=
  if_neg (by simpa [hr, hm] using hp)

theorem lockedSync_time (h : ¬u.time.stepThreshold.toNat < o.natAbs) : (u.lockedSync o).time = sourced u.time (u.time.align - o) 1 false := by
  have hrise : ∀ (w : State) (c : Prop) [Decidable c], (if c then w.riseOpen 52 else w.fall 52).time = w.time := fun w c _ => by
    split
    · exact time_of_within (riseOpen_mild_within rfl (by decide)) (by simp)
    · simp
  have hstep : decide ((u.time.stepThreshold.toNat : Int) < (u.time.align - o - u.time.align).natAbs) = false := decide_eq_false (by omega)
  unfold lockedSync
  dsimp only
  rw [if_neg (by simpa using h), hrise, takeSource_time, hstep]

theorem acquiringSync_time (hs : u.time.servo = 1) : (u.acquiringSync o).time =
    (if o.natAbs ≤ 1000 then (if 15 ≤ u.time.goodSyncs then
        sourced { u.time with servo := 2, goodSyncs := 0 } (u.time.align - o) 1 (decide ((u.time.stepThreshold.toNat : Int) < (u.time.align - o - u.time.align).natAbs))
      else (({ u with time.goodSyncs := u.time.goodSyncs + 1 } : State).correct o).time) else (({ u with time.goodSyncs := 0 } : State).correct o).time) := by
  unfold acquiringSync
  simp only [hs, if_true]
  split
  · split
    · rw [takeSource_time, setServo_time]
    · rfl
  · rfl

/-! ## The end of holdover (R487) -/

theorem opHoldoverLimit_due {h : Ns} (hv : s.time.wallValid = true) (hsrc : s.time.source = 0) (hh : s.time.holdSince = some h)
    (hdue : h + s.time.holdoverLimit.toNat * 1000000000 ≤ s.time.mono) : s.opHoldoverLimit = (s.loseTime.riseOpen 51).settle := by
  unfold opHoldoverLimit
  rw [hh, Option.elim_some, decide_eq_true hdue, if_pos (by simp [hv, hsrc])]

theorem opHoldoverLimit_early {h : Ns} (hh : s.time.holdSince = some h) (hlt : s.time.mono < h + s.time.holdoverLimit.toNat * 1000000000) : s.opHoldoverLimit = s := by
  unfold opHoldoverLimit
  rw [hh, Option.elim_some, decide_eq_false (Nat.not_le.mpr hlt), if_neg (by simp)]

theorem opWallStore_due (hv : s.time.wallValid = true) (hdue : s.time.stored = none ∨ s.time.storedAt + 1000000000 ≤ s.time.now) :
    s.opWallStore = { s with time.stored := some s.wall, time.storedAt := s.time.now } := by
  unfold opWallStore
  rw [if_pos]
  rcases hdue with hd | hd
  · simp [hv, hd]
  · rw [decide_eq_true hd]
    simp [hv]

/-! ## PTP settings (R495) -/

/-- The eight PTP settings and the monotonic clock. -/
def settings (t : TimeSt) : Byte × Byte × Byte × Byte × Byte × Byte × Byte × Word × Ns :=
  (t.profile, t.clockType, t.ptpPorts, t.domain, t.priority1, t.priority2, t.oneStep, t.logSync, t.mono)

theorem choosePort_settings : settings u.choosePort.time = settings u.time := by
  have hports : ∀ (b : Bool) l, settings (if b then { u with time.portStates := l } else u : State).time = settings u.time := fun b l => by
    split <;> rfl
  have hend : ∀ (w : State) (c : Prop) [Decidable c] (n : Option Nat),
      settings (if c then w else if n.isSome then ({ w with time.activePort := n } : State).trigger 0x111 [] else { w with time.activePort := n } : State).time = settings w.time := by
    intro w c _ n
    split
    · rfl
    · split
      · rw [show ∀ y : State, (y.trigger 0x111 []).time = y.time from fun y => by simp]
        rfl
      · rfl
  unfold choosePort
  exact (hend _ _ _).trans (hports _ _)

theorem nextSource_settings : settings u.nextSource.time = settings u.time := by
  obtain ⟨a, b, c, d, e, f, g, h⟩ := nextSource_time (u := u)
  rw [h]
  rfl

theorem setServo_mild_within (servo : Nat) : Within [.time, .hub, .moraine, .disp, .draws] u (u.setServo servo) := by
  have hrise : ∀ w : State, Within [.time, .hub, .moraine, .disp, .draws] w (if servo = 3 then w.riseOpen 50 else w.fall 50) := fun w => by
    split
    · exact (riseOpen_mild_within rfl (by decide)).mono (by simp)
    · simp
  unfold setServo
  dsimp only
  refine Within.trans (t := { u with time.servo := servo, time.goodSyncs := 0 }) (by simp) ((hrise _).trans ?_)
  split <;> simp

theorem judgePorts_mild_within : Within [.hub, .moraine, .disp, .draws] u u.judgePorts := by
  unfold judgePorts
  generalize List.range 4 = l
  induction l generalizing u with
  | nil => exact Within.refl _ _
  | cons p l ih => exact (judgeLink_mild_within p).trans ih

/-- PTP as a restart leaves it, before its port is chosen. -/
def restarted (u : State) : State :=
  { u.setServo (if u.time.profile ≠ 0 then 1 else 0) with
    time.portStates := [], time.grandmaster := 0, time.offsetFromMaster := 0, time.meanPath := 0, time.activePort := none, time.utcOffset := 0, time.utcValid := false }

theorem restartPtp_facts : settings u.restartPtp.time = settings u.time ∧ Within [.time, .hub, .moraine, .disp, .draws, .capture, .eth] u u.restartPtp := by
  have hrun : u.restartPtp = if u.time.source = 1 then u.restarted.choosePort.nextSource else u.restarted.choosePort := rfl
  have hset : settings u.restarted.time = settings u.time := by
    unfold restarted
    dsimp only
    rw [setServo_time]
    rfl
  have hW : Within [.time, .hub, .moraine, .disp, .draws, .capture, .eth] u u.restarted :=
    Within.trans (t := u.setServo (if u.time.profile ≠ 0 then 1 else 0)) ((setServo_mild_within _).mono (by simp)) (by unfold restarted; simp)
  rw [hrun]
  split
  · exact ⟨nextSource_settings.trans (choosePort_settings.trans hset), hW.trans (by simp)⟩
  · exact ⟨choosePort_settings.trans hset, hW.trans (by simp)⟩

theorem ptpRange_congr (h : u.time = s.time) (sub n : Nat) : u.ptpRange sub n = s.ptpRange sub n := by
  unfold ptpRange
  rw [h]

theorem settings_storePtp {sub : Byte} {n : Nat} (hsub : [0, 1, 2, 3, 4, 5, 7, 8].contains sub.toNat = true) : settings (u.storePtp sub.toNat n).time =
    (if sub = 0 then BitVec.ofNat 8 n else u.time.profile, if sub = 1 then BitVec.ofNat 8 n else u.time.clockType,
     if sub = 2 then BitVec.ofNat 8 n else u.time.ptpPorts, if sub = 3 then BitVec.ofNat 8 n else u.time.domain,
     if sub = 4 then BitVec.ofNat 8 n else u.time.priority1, if sub = 5 then BitVec.ofNat 8 n else u.time.priority2,
     if sub = 7 then BitVec.ofNat 8 n else u.time.oneStep, if sub = 8 then BitVec.ofNat 32 n else u.time.logSync, u.time.mono) := by
  have hcases : sub = 0 ∨ sub = 1 ∨ sub = 2 ∨ sub = 3 ∨ sub = 4 ∨ sub = 5 ∨ sub = 7 ∨ sub = 8 := by
    simp only [List.contains_eq_mem, List.mem_cons, List.not_mem_nil, or_false, decide_eq_true_eq] at hsub
    bv_omega
  rcases hcases with rfl | rfl | rfl | rfl | rfl | rfl | rfl | rfl <;> rfl

/-- A granted setting is stored, and the restart that it may cause keeps the settings and the reply. -/
theorem opPtpSetting_granted (h : Granted s x.req 2 t x) (hrange : (t.taken x).ptpRange x.req.sub.toNat x.req.value = false)
    (hsub : [0, 1, 2, 3, 4, 5, 7, 8].contains x.req.sub.toNat = true) :
    settings ((t.taken x).opPtpSetting x).time = settings ((t.taken x).storePtp x.req.sub.toNat x.req.value).time ∧ Replied ((t.taken x).opPtpSetting x) x 0 := by
  have hE : x.req.sub.toNat ≠ 0xE := by
    intro he
    rw [he] at hsub
    exact absurd hsub (by decide)
  have htime : (((t.taken x).storePtp x.req.sub.toNat x.req.value).answer x 0).time = ((t.taken x).storePtp x.req.sub.toNat x.req.value).time := by simp
  have hreply : Replied (((t.taken x).storePtp x.req.sub.toNat x.req.value).answer x 0) x 0 := answer_replied 0 [] (Granted_port h) (by decide)
  unfold opPtpSetting
  dsimp only
  rw [check14_granted h hrange rfl rfl, if_neg hE]
  split
  · exact ⟨congrArg settings htime, hreply⟩
  · generalize ((t.taken x).storePtp x.req.sub.toNat x.req.value).answer x 0 = w at htime hreply ⊢
    obtain ⟨hset, hW⟩ := restartPtp_facts (u := w)
    have hjudge := judgePorts_mild_within (u := w.restartPtp)
    have hend : Within [.time, .sig, .hub, .moraine, .disp, .draws, .capture, .eth] w w.restartPtp.judgePorts.settle :=
      ((hW.trans (hjudge.mono (by simp))).mono (by simp)).trans (by simp)
    have hxan := hend .xan (by simp)
    refine ⟨?_, ?_⟩
    · rw [settle_time, time_of_within hjudge (by simp), hset, htime]
    · unfold Replied Sent
      exact (congrArg (fun y : XanSt => y.out.head?.map Reply.body = _) hxan).mpr hreply

end State
open State

/-- Settles O38, clause by clause. -/
theorem theWallClock : Obligations.TheWallClock := by
  unfold Obligations.TheWallClock
  refine ⟨?_, ?_, ?_, ?_, ?_, ?_, ?_, ?_, ?_, ?_, ?_, ?_, ?_, ?_, ?_, ?_, ?_, ?_⟩
  · intro s o n hr hp hm hs hv hle
    refine ⟨s.opPtp (.sync o n), rfl, ?_⟩
    rw [opPtp_sync hr hp hm, if_pos hs]
    beta_reduce
    rw [settle_time, lockedSync_time (u := s.synced o n) (Nat.not_lt.mpr hle)]
    refine ⟨hs, rfl, rfl, ?_, rfl, rfl⟩
    by_cases ho : o = 0
    · simp [sourced, ho]
    · rw [if_neg ho]
      exact if_neg (by simpa using ho)
  · intro s o n hr hp hm hs hn hle
    refine ⟨s.opPtp (.sync o n), rfl, ?_⟩
    rw [opPtp_sync hr hp hm, if_neg (by rw [hs]; decide)]
    beta_reduce
    rw [settle_time, acquiringSync_time (u := s.synced o n) hs, if_pos hle, if_pos (show 15 ≤ (s.synced o n).time.goodSyncs from hn.ge)]
    exact ⟨rfl, rfl, rfl, rfl⟩
  · intro s o n hr hp hm hs hlt hstep
    refine ⟨s.opPtp (.sync o n), rfl, ?_⟩
    rw [opPtp_sync hr hp hm, if_neg (by rw [hs]; decide)]
    beta_reduce
    rw [settle_time, acquiringSync_time (u := s.synced o n) hs, if_neg (Nat.not_le.mpr hlt), correct_large (u := { s.synced o n with time.goodSyncs := 0 }) hstep]
    exact ⟨hs, rfl, rfl, rfl, rfl, rfl⟩
  · intro s o n hr hp hm hs hn hle hstep
    refine ⟨s.opPtp (.sync o n), rfl, ?_⟩
    rw [opPtp_sync hr hp hm, if_neg (by rw [hs]; decide)]
    beta_reduce
    rw [settle_time, acquiringSync_time (u := s.synced o n) hs, if_pos hle, if_neg (show ¬15 ≤ (s.synced o n).time.goodSyncs from Nat.not_le.mpr hn), correct_small (u := { s.synced o n with time.goodSyncs := (s.synced o n).time.goodSyncs + 1 }) (Nat.le_trans hle hstep)]
    exact ⟨hs, rfl, rfl, rfl⟩
  · intro s g o b hr hp hm hs
    have hrun : s.opPtp (.announce g o b) = if g = s.time.grandmaster then { s with time.grandmaster := g, time.utcOffset := o, time.utcValid := b }
        else ({ s with time.grandmaster := g, time.utcOffset := o, time.utcValid := b } : State).sourceRecord := by
      refine (if_neg (by simpa [hr, hm] using hp)).trans ?_
      dsimp only
      rw [if_neg hs]
    refine ⟨s.opPtp (.announce g o b), rfl, ?_⟩
    rw [hrun]
    split
    · exact ⟨rfl, keeps_of_within (by simp [Part.facet])⟩
    · exact ⟨sourceRecord_time, keeps_of_within (by simp [Part.facet])⟩
  · intro s p c hr hp hm hlt hport h1 h9 hmay
    refine ⟨s.opPtp (.portState p c), rfl, ?_⟩
    have hrun : s.opPtp (.portState p c) = if get 0 s.time.portStates p = c then s
        else ({ s with time.portStates := put s.time.portStates p c } : State).trigger 0x111 [] := by
      refine (if_neg (by simpa [hr, hm] using hp)).trans ?_
      have hact : (decide (s.time.clockType = 0) && decide (s.time.activePort ≠ some p)) = false := by
        rcases hmay with hc | ha
        · rw [decide_eq_false hc]
          rfl
        · simp [ha]
      by_cases he : get 0 s.time.portStates p = c
      · rw [if_pos he]
        exact if_pos (by simp [he])
      · rw [if_neg he]
        exact if_neg (by rw [hact, hport]; simp [he, Nat.not_le.mpr hlt, Nat.not_lt.mpr h9, Nat.one_le_iff_ne_zero.mp h1])
    rw [hrun]
    split
    · rename_i he
      exact ⟨he, fun j _ => rfl, keeps_of_within (Within.refl _ _)⟩
    · beta_reduce
      rw [show ∀ y : State, (y.trigger 0x111 []).time = y.time from fun y => by simp]
      exact ⟨get_put_self _ _ _ _, fun j hj => get_put_ne _ _ _ _ _ hj, keeps_of_within (by simp [Part.facet])⟩
  · intro s hr hp hm hs
    refine ⟨s.opPtp .grandmaster, rfl, ?_⟩
    have hrun : s.opPtp .grandmaster = (((({ s with time.grandmaster := BitVec.ofNat 64 ((s.freeAt 0).toNat * 2 ^ 32 + (s.freeAt 1).toNat), draws := s.draws + 2 } : State).setServo 4).sourceRecord).nextSource).settle :=
      (if_neg (by simpa [hr, hm] using hp)).trans (if_neg hs)
    rw [hrun]
    beta_reduce
    obtain ⟨_, _, _, _, _, _, _, hnext⟩ := nextSource_time (u := (({ s with time.grandmaster := BitVec.ofNat 64 ((s.freeAt 0).toNat * 2 ^ 32 + (s.freeAt 1).toNat), draws := s.draws + 2 } : State).setServo 4).sourceRecord)
    rw [settle_time, hnext, sourceRecord_time, setServo_time]
    exact ⟨rfl, rfl⟩
  · intro s e hp
    exact ⟨s.opPtp e, rfl, if_pos (by simp [hp])⟩
  · intro s q hs hq hno
    refine ⟨s.opPtpHoldover q, rfl, ?_⟩
    rw [show s.opPtpHoldover q = ((s.setServo 3).nextSource).settle from if_pos (by simp [hs, hq, hno])]
    beta_reduce
    obtain ⟨_, _, _, _, _, _, _, hnext⟩ := nextSource_time (u := s.setServo 3)
    rw [settle_time]
    refine ⟨by rw [hnext, setServo_time], fun hup hwall => ?_⟩
    have hpair : (s.setServo 3).pair = s.pair := setServo_mild_within 3 .pair (by simp)
    obtain ⟨h1, h2, h3⟩ := nextSource_hold (u := s.setServo 3) (by rw [hpair, hup]) (by rw [setServo_time]; exact hwall)
    exact ⟨h1, h2.trans (by rw [setServo_time]), h3.trans (by rw [setServo_time])⟩
  · intro s q hq
    exact ⟨s.opPtpHoldover q, rfl, if_neg (by simp [Nat.not_le.mpr hq])⟩
  · intro s h hv hsrc hh hdue
    refine ⟨s.opHoldoverLimit, rfl, ?_⟩
    rw [opHoldoverLimit_due hv hsrc hh hdue]
    beta_reduce
    have ha : detAttr 51 = some { cls := 1, event := false } := rfl
    rw [settle_time, settle_det, riseOpen_live ha rfl, time_of_within (riseOpen_mild_within ha (by decide)) (by simp), loseTime_time hv]
    exact ⟨rfl, rfl, rfl, rfl, rfl⟩
  · intro s h hh hlt
    exact ⟨s.opHoldoverLimit, rfl, opHoldoverLimit_early hh hlt⟩
  · intro s r t x h hi hsub hs
    obtain rfl := granted_req h
    refine ⟨_, row_granted h rfl (by rw [hi]; rfl) (by rw [hsub]; rfl), ?_⟩
    have htime : (t.taken x).time = s.time := by simp [granted_same h]
    have hend : ∀ w : State, (((w.trigger 0x115 [x.session.toNat]).settle).answer x 0).time = w.time := fun w => by simp
    unfold opWallSet
    rw [check14_granted h rfl rfl (by rw [htime]; exact decide_eq_false hs)]
    beta_reduce
    rw [hend, takeTime_time]
    dsimp only
    rw [htime, decide_eq_true (by omega)]
    refine ⟨rfl, rfl, rfl, rfl, rfl, rfl, rfl, granted_replied h (by decide)⟩
  · intro s r t x h hi hsub hs
    refine ⟨_, row_granted h rfl (by rw [hi]; rfl) (by rw [hsub]; rfl), ?_⟩
    have htime : (t.taken x).time = s.time := by simp [granted_same h]
    unfold opWallSet
    rw [check14_conflict (Granted_port h) rfl rfl (by rw [htime]; exact decide_eq_true hs)]
    exact ⟨(show ∀ w : State, (w.answer x 9).time = w.time from fun w => by simp) _ |>.trans htime, granted_conflict h⟩
  · intro s hv hdue
    refine ⟨s.opWallStore, rfl, ?_⟩
    exact opWallStore_due hv hdue
  · intro s hv
    exact ⟨s.opWallStore, rfl, if_neg (by simp [hv])⟩
  · intro s r t x h hi hsub hrange
    refine ⟨_, congrArg Host.Outcome.next ((if_pos ⟨hi, hsub⟩).trans (forwarded_taken h rfl State.opPtpSetting)), ?_⟩
    obtain rfl := granted_req h
    have htime : (t.taken x).time = s.time := by simp [granted_same h]
    obtain ⟨hset, hout⟩ := opPtpSetting_granted h ((ptpRange_congr htime _ _).trans hrange) hsub
    rw [settings_storePtp hsub, htime] at hset
    simp only [settings, Prod.mk.injEq] at hset
    obtain ⟨h0, h1, h2, h3, h4, h5, h7, h8, hmono⟩ := hset
    exact ⟨h0, h1, h2, h3, h4, h5, h7, h8, hmono, hout⟩
  · intro s r t x h hi hsub hrange
    refine ⟨_, congrArg Host.Outcome.next ((if_pos ⟨hi, hsub⟩).trans (forwarded_taken h rfl State.opPtpSetting)), ?_⟩
    obtain rfl := granted_req h
    have htime : (t.taken x).time = s.time := by simp [granted_same h]
    have hanswer : ((t.taken x).answer x 6).time = (t.taken x).time := by simp
    unfold opPtpSetting
    dsimp only
    rw [check14_range (Granted_port h) ((ptpRange_congr htime _ _).trans hrange), if_pos hanswer]
    exact ⟨hanswer.trans htime, granted_replied h (by decide)⟩

end Sys2Proof.Machine
end

section
/-! PROOF. What driving a group of outputs changes of its channels (chapter 18). -/
namespace Sys2Proof.Machine

variable {α : Type}

theorem get_mapTab_keeps {β : Type} (d : α) (p : α → β) (f : Nat → α → α) (h : ∀ k x, p (f k x) = p x) (t : Tab α) (k : Nat) : p (get d (mapTab t f) k) = p (get d t k) := by
  induction t with
  | nil => rfl
  | cons e t ih =>
    obtain ⟨j, w⟩ := e
    show p (if j = k then f j w else get d (mapTab t f) k) = p (if j = k then w else get d t k)
    split
    · exact h j w
    · exact ih

namespace State
variable {s t u : State} {fresh : Bool}

/-! ## What driving a group leaves of its channels (R520, R521) -/

/-- The outputs of a group that the image binds. -/
def outputsOf (s : State) (g : Nat) : List ChannelDecl :=
  s.image.elim [] (fun i => i.channels.filter (fun b => (b.kind = 3 || b.kind = 5) && b.channel < 0x30 && groupOf b.channel = g))

/-- The channels of a list driven in turn, each from its row. -/
def driveAll (s : State) (fresh : Bool) (l : List ChannelDecl) (t : Tab Chan) : Tab Chan :=
  l.foldl (fun t (b : ChannelDecl) => put t b.channel (s.drivenChan fresh b (get {} t b.channel))) t

/-- Driving a group rewrites nothing of the field but its channels: those that the image freed, then its outputs. -/
theorem redriveGroup_field (g : Nat) : ∃ f : Nat → Chan → Chan, (∀ c x, f c x = x ∨ f c x = u.unboundChan g x)
    ∧ (u.redriveGroup g fresh).field = { u.field with chans := u.driveAll fresh (u.outputsOf g) (mapTab u.field.chans f) } := by
  refine ⟨_, fun c x => ?_, rfl⟩
  dsimp only
  split
  · exact Or.inr rfl
  · exact Or.inl rfl

theorem redriveGroup_grp (g j : Nat) : (u.redriveGroup g fresh).grp j = u.grp j := rfl
theorem redriveGroup_trim (g : Nat) : (u.redriveGroup g fresh).field.trim = u.field.trim := rfl

theorem driveAll_keeps {β : Type} {p : Chan → β} (hp : ∀ b x, p (u.drivenChan fresh b x) = p x) (l : List ChannelDecl) (t : Tab Chan) (c : Nat) :
    p (get {} (u.driveAll fresh l t) c) = p (get {} t c) := by
  induction l generalizing t with
  | nil => rfl
  | cons b l ih =>
    refine (ih _).trans ?_
    rw [get_put]
    split
    · rename_i hc
      rw [hp, hc]
    · rfl

/-- What neither a row nor the loss of a binding changes of a channel stays. -/
theorem redriveGroup_chan {β : Type} {p : Chan → β} (hp : ∀ b x, p (u.drivenChan fresh b x) = p x) {g : Nat} (hfree : ∀ x, p (u.unboundChan g x) = p x) (c : Nat) :
    p ((u.redriveGroup g fresh).chan c) = p (u.chan c) := by
  obtain ⟨f, hf, h⟩ := redriveGroup_field (u := u) (fresh := fresh) g
  unfold chan
  rw [h]
  refine (driveAll_keeps hp _ _ c).trans (get_mapTab_keeps _ p f (fun k x => ?_) _ _)
  rcases hf k x with he | he
  · rw [he]
  · rw [he, hfree]

/-- What an output update does not touch of a channel: trim, overload, readback and faults. -/
def undriven (x : Chan) : Int × Int × Bool × Ns × Bool × Bool × Word := (x.trimZero, x.trimSpan, x.overload, x.overloadAt, x.on, x.readbackFail, x.faults)

theorem drivenChan_undriven (b : ChannelDecl) (x : Chan) : undriven (u.drivenChan fresh b x) = undriven x := by
  unfold drivenChan
  dsimp only
  split
  · rfl
  · split <;> rfl

theorem redriveGroup_undriven (g c : Nat) : undriven ((u.redriveGroup g fresh).chan c) = undriven (u.chan c) :=
  redriveGroup_chan drivenChan_undriven (fun _ => rfl) c

theorem redrive_undriven (c : Nat) : undriven (u.redrive.chan c) = undriven (u.chan c) :=
  (redriveGroup_undriven 2 c).trans (redriveGroup_undriven 1 c)

theorem drivenChan_off {b : ChannelDecl} (hk : b.kind = 3) (hrow : fresh = true ∨ u.driveRow b ≠ 7) (hoff : u.driveOn b = false) (x : Chan) :
    (u.drivenChan fresh b x).drivenOn = false := by
  unfold drivenChan
  dsimp only
  rw [if_neg, if_pos hk]
  · exact hoff
  · rcases hrow with h | h <;> simp [h]

theorem drivenChan_analog {b : ChannelDecl} (hk : b.kind ≠ 3) (x : Chan) : (u.drivenChan fresh b x).drivenOn = x.drivenOn := by
  unfold drivenChan
  dsimp only
  rw [if_neg hk]
  split <;> rfl

theorem driveAll_off {l : List ChannelDecl} {c : Nat} (hoff : ∀ b ∈ l, b.kind = 3 → b.channel = c → ∀ x, (u.drivenChan fresh b x).drivenOn = false) (t : Tab Chan)
    (hc : (∃ b ∈ l, b.kind = 3 ∧ b.channel = c) ∨ (get {} t c : Chan).drivenOn = false) : (get {} (u.driveAll fresh l t) c).drivenOn = false := by
  induction l generalizing t with
  | nil => exact hc.resolve_left (by simp)
  | cons b l ih =>
    refine ih (fun a ha => hoff a (List.mem_cons_of_mem _ ha)) _ ?_
    by_cases hb : b.channel = c
    · by_cases hk : b.kind = 3
      · right
        dsimp only
        rw [hb, get_put_self]
        exact hoff b List.mem_cons_self hk hb _
      · rcases hc with ⟨a, ha, hak, hac⟩ | hc
        · rcases List.mem_cons.mp ha with rfl | ha
          · exact absurd hak hk
          · exact Or.inl ⟨a, ha, hak, hac⟩
        · right
          dsimp only
          rw [hb, get_put_self, drivenChan_analog hk, hc]
    · rcases hc with ⟨a, ha, hak, hac⟩ | hc
      · rcases List.mem_cons.mp ha with rfl | ha
        · exact absurd hac hb
        · exact Or.inl ⟨a, ha, hak, hac⟩
      · right
        rw [get_put_ne _ _ _ _ _ (Ne.symm hb), hc]

/-- A digital output is off when none of the declarations of its channel drives it on. -/
theorem redriveGroup_off {g : Nat} {b : ChannelDecl}
    (hoff : ∀ a ∈ u.outputsOf g, a.kind = 3 → a.channel = b.channel → ∀ x, (u.drivenChan fresh a x).drivenOn = false) (hb : b ∈ u.outputsOf g) (hk : b.kind = 3) : ((u.redriveGroup g fresh).chan b.channel).drivenOn = false := by
  obtain ⟨f, -, h⟩ := redriveGroup_field (u := u) (fresh := fresh) g
  unfold chan
  rw [h]
  exact driveAll_off hoff _ (Or.inl ⟨b, hb, hk, rfl⟩)

end State

end Sys2Proof.Machine
end

section
/-! PROOF. Trims begin, step, store and end (O45). -/
namespace Sys2Proof.Machine

namespace State
variable {s t u : State} {r : Req} {x : ReplyTo}

/-! ## What the trim's steps leave (R540 to R542) -/

/-- The trim of a channel: zero and span. -/
def trimmed (s : State) (c : Nat) : Int × Int := ((s.chan c).trimZero, (s.chan c).trimSpan)

theorem trimmed_of_field (h : u.field = s.field) (c : Nat) : u.trimmed c = s.trimmed c := by
  unfold trimmed chan
  rw [h]

theorem field_of_within {L : List Facet} (h : Within L s t) (hn : Facet.field ∉ L) : t.field = s.field := h .field hn

theorem redriveGroup_trimmed {fresh : Bool} (g c : Nat) : (u.redriveGroup g fresh).trimmed c = u.trimmed c :=
  congrArg (fun y : Int × Int × Bool × Ns × Bool × Bool × Word => (y.1, y.2.1)) (redriveGroup_undriven g c)

theorem trimRecord_field (m : Trim) (n : Word) : (u.trimRecord m n).field = u.field := field_of_within (L := [.moraine]) (by simp) (by simp)

theorem storeTrim_facts (m : Trim) (n : Word) : (u.storeTrim m n).field.trim = none ∧ ∀ c, (u.storeTrim m n).trimmed c = u.trimmed c := by
  have hfield : (u.storeTrim m n).field = ((({ u with field.trim := none } : State).redriveGroup (groupOf m.channel)).field) := trimRecord_field _ _
  exact ⟨by rw [hfield]; rfl, fun c => (trimmed_of_field hfield c).trans (redriveGroup_trimmed _ _)⟩

theorem adjust_facts (m : Trim) (n : Int) (y : Chan) : (u.adjust m n y).field.trim = some { m with steps := m.steps + n, last := u.time.now }
    ∧ (u.adjust m n y).trimmed m.channel = (y.trimZero, y.trimSpan) := by
  refine ⟨rfl, (redriveGroup_trimmed _ _).trans ?_⟩
  unfold trimmed chan
  rw [get_put_self]

theorem cancelTrim_facts {m : Trim} (h : u.field.trim = some m) (n : Option Word) : (u.cancelTrim n).field.trim = none
    ∧ (u.cancelTrim n).trimmed m.channel = (m.zero, m.spanBefore) := by
  unfold cancelTrim
  rw [h, Option.elim_some]
  refine ⟨by rw [trimRecord_field]; rfl, (trimmed_of_field (trimRecord_field _ _) _).trans ?_⟩
  unfold redrive
  refine (redriveGroup_trimmed _ _).trans ((redriveGroup_trimmed _ _).trans ?_)
  unfold trimmed chan
  rw [get_put_self]

theorem answer_field (status : Nat) (data : List Byte) (sub : Byte) : (u.answer x status data sub).field = u.field := by simp

theorem stepped_congr (h : u.field = s.field) (m : Trim) (n : Int) : u.stepped m n = s.stepped m n := by
  unfold stepped chan
  rw [h]

theorem inService_congr (h : u.mode = s.mode) : u.inService = s.inService := by
  unfold inService
  rw [h]

theorem keysAct_trim {m : Trim} (h : s.keysAct = some m) : s.field.trim = some m := by
  unfold keysAct at h
  split at h
  · exact h
  · cases h

theorem opTrimKey_step {m : Trim} {y : Chan} {p : Bool} (hk : s.keysAct = some m) (hy : s.stepped m (if p = true then 1 else -1) = some y) :
    s.opTrimKey p = s.adjust m (if p = true then 1 else -1) y := by
  unfold opTrimKey
  simp only [hk, hy, Option.elim_some]

theorem opTrimRepeat_step {m : Trim} {y : Chan} {p : Bool} {n : Ns} (hn : 1000000000 < n) (hk : s.keysAct = some m)
    (hy : s.stepped m (if p = true then 1 else -1) = some y) : s.opTrimRepeat p n = s.adjust m (if p = true then 1 else -1) y := by
  unfold opTrimRepeat
  dsimp only
  rw [if_neg (Nat.not_le.mpr hn)]
  simp only [hk, hy, Option.elim_some]

/-- A trim begins on a channel, with the values to restore. -/
def select (s : State) (c : Nat) (span : Bool) (session : Word) : State :=
  let m : Trim := { channel := c, span := span, zero := (s.chan c).trimZero, spanBefore := (s.chan c).trimSpan, session := session, last := s.time.now }
  (({ s with field.trim := some m }).redriveGroup (groupOf c)).trimRecord m session

theorem select_trim (c : Nat) (span : Bool) (n : Word) : (u.select c span n).field.trim =
    some { channel := c, span := span, zero := (u.chan c).trimZero, spanBefore := (u.chan c).trimSpan, session := n, last := u.time.now } := by
  unfold select
  dsimp only
  rw [trimRecord_field]
  rfl

theorem opTrimSelect_granted (h : Granted s r 2 t x) (hlow : 0x20 ≤ x.req.value % 64) (hhigh : x.req.value % 64 < 0x30)
    (hvalue : x.req.value = x.req.value % 64 ∨ x.req.value = x.req.value % 64 + 256) (htrim : (t.taken x).field.trim = none)
    (hopen : (!(t.taken x).inService || decide (0x28 ≤ x.req.value % 64) && !(t.taken x).pair.ownSelf) = false) :
    (t.taken x).opTrimSelect x = ((t.taken x).select (x.req.value % 64) (tb x.req.value 8) x.session).answer x 0 := by
  unfold opTrimSelect
  dsimp only
  refine check14_granted (f := fun u => u.select (x.req.value % 64) (tb x.req.value 8) x.session) h ?_ (by rw [htrim]; rfl) hopen
  simp only [Bool.or_eq_false_iff, decide_eq_false_iff_not]
  omega

theorem tb8_of_lt {n : Nat} (h : n < 512) : tb n 8 = decide (256 ≤ n) := by
  unfold tb
  rw [Nat.testBit_eq_decide_div_mod_eq]
  exact decide_eq_decide.mpr (by omega)

end State
open State

/-- Settles O45, clause by clause. -/
theorem analogChannelsAreTrimmed : Obligations.AnalogChannelsAreTrimmed := by
  unfold Obligations.AnalogChannelsAreTrimmed
  refine ⟨?_, ?_, ?_, ?_, ?_, ?_, ?_, ?_, ?_, ?_, ?_, ?_, ?_, ?_⟩
  · intro s r t x h hi hsub hlow hhigh hvalue htrim hservice
    obtain rfl := granted_req h
    have hmode : (t.taken x).mode = s.mode := by simp [granted_same h]
    have hpair : (t.taken x).pair = s.pair := by simp [granted_same h]
    have hfield : (t.taken x).field = s.field := by simp [granted_same h]
    refine ⟨_, row_granted h rfl (by rw [hi]; rfl) (by rw [hsub]; rfl), ?_⟩
    have hbit : tb x.req.value 8 = decide (256 ≤ x.req.value) := tb8_of_lt (by omega)
    have hopen : (!(t.taken x).inService || decide (0x28 ≤ x.req.value % 64) && !(t.taken x).pair.ownSelf) = false := by
      rw [inService_congr hmode, hservice, hpair]
      rcases hhigh with hlt | ⟨-, hown⟩
      · simp [Nat.not_le.mpr hlt]
      · simp [hown]
    rw [opTrimSelect_granted h hlow (by omega) hvalue (by rw [hfield, htrim]) hopen]
    beta_reduce
    rw [answer_field, select_trim, hbit]
    refine ⟨rfl, ?_, answer_replied 0 [] (Granted_port h) (by decide)⟩
    unfold chan
    rw [hfield]
    rfl
  · intro s r t x h hi hsub hlow hhigh htrim hservice
    obtain rfl := granted_req h
    have hmode : (t.taken x).mode = s.mode := by simp [granted_same h]
    have hfield : (t.taken x).field = s.field := by simp [granted_same h]
    refine ⟨_, row_granted h rfl (by rw [hi]; rfl) (by rw [hsub]; rfl), ?_⟩
    have hc : x.req.value % 64 = x.req.value := Nat.mod_eq_of_lt (by omega)
    unfold opTrimSelect
    dsimp only
    rw [check14_conflict (Granted_port h) (by rw [hc]; simp; omega) (by rw [hfield, htrim]; rfl) (by rw [inService_congr hmode, hservice]; rfl)]
    exact ⟨(answer_field _ _ _).trans hfield, granted_conflict h⟩
  · intro s r t x m y h hi hsub htrim hnear hy
    obtain rfl := granted_req h
    have htime : (t.taken x).time = s.time := by simp [granted_same h]
    have hfield : (t.taken x).field = s.field := by simp [granted_same h]
    refine ⟨_, row_granted h rfl (by rw [hi]; rfl) (by rw [hsub]; rfl), ?_⟩
    have hrun : (t.taken x).opTrimAdjust x = ((t.taken x).adjust m (sgn (BitVec.ofNat 32 x.req.value)) y).answer x 0 := by
      unfold opTrimAdjust
      simp only [hfield, htrim, stepped_congr hfield, hy]
      exact check14_granted h (by simpa using hnear) rfl rfl
    rw [hrun]
    beta_reduce
    obtain ⟨htrim', hset⟩ := adjust_facts (u := t.taken x) m (sgn (BitVec.ofNat 32 x.req.value)) y
    have hset' := (trimmed_of_field (answer_field (x := x) 0 [] x.req.sub) m.channel).trans hset
    rw [answer_field, htrim', htime]
    exact ⟨rfl, congrArg Prod.fst hset', congrArg Prod.snd hset', answer_replied 0 [] (Granted_port h) (by decide)⟩
  · intro s r t x m h hi hsub htrim hfar
    obtain rfl := granted_req h
    have hfield : (t.taken x).field = s.field := by simp [granted_same h]
    refine ⟨_, row_granted h rfl (by rw [hi]; rfl) (by rw [hsub]; rfl), ?_⟩
    have hrun : (t.taken x).opTrimAdjust x = (t.taken x).answer x 6 := by
      unfold opTrimAdjust
      simp only [hfield, htrim, stepped_congr hfield]
      split
      · exact check14_range (Granted_port h) rfl
      · rename_i hy
        exact check14_range (Granted_port h) (by simpa [hy] using hfar)
    rw [hrun]
    exact ⟨(answer_field _ _ _).trans hfield, granted_replied h (by decide)⟩
  · intro s m y p hk hy
    refine ⟨s.opTrimKey p, rfl, ?_⟩
    rw [opTrimKey_step hk hy]
    obtain ⟨htrim, hset⟩ := adjust_facts (u := s) m (if p = true then 1 else -1) y
    exact ⟨htrim, congrArg Prod.fst hset, congrArg Prod.snd hset⟩
  · intro s p hk
    refine ⟨s.opTrimKey p, rfl, ?_⟩
    rw [show s.opTrimKey p = s.trigger 0x125 [] by unfold opTrimKey; rw [hk]]
    exact keeps_of_within (by simp [Part.facet])
  · intro s m y p n hn hk hy
    refine ⟨s.opTrimRepeat p n, rfl, ?_⟩
    rw [opTrimRepeat_step hn hk hy]
    obtain ⟨htrim, hset⟩ := adjust_facts (u := s) m (if p = true then 1 else -1) y
    exact ⟨htrim, congrArg Prod.fst hset, congrArg Prod.snd hset⟩
  · intro s p n hn
    exact ⟨s.opTrimRepeat p n, rfl, if_pos hn⟩
  · intro s r t x m h hi hsub hvalue htrim
    obtain rfl := granted_req h
    have hfield : (t.taken x).field = s.field := by simp [granted_same h]
    refine ⟨_, row_granted_of h rfl (by rw [hi]; rfl) (by rw [hsub]; rfl) (by rw [hvalue]; rfl), ?_⟩
    have hrun : (t.taken x).opTrimEnd x = ((t.taken x).storeTrim m x.session).answer x 0 := by
      unfold opTrimEnd
      refine (check14_granted h (by rw [hvalue]; rfl) rfl (by rw [hfield, htrim]; rfl)).trans ?_
      rw [if_pos hvalue, hfield, htrim, Option.elim_some]
    rw [hrun]
    beta_reduce
    obtain ⟨htrim', hset⟩ := storeTrim_facts (u := t.taken x) m x.session
    have hset' := (trimmed_of_field (answer_field (x := x) 0 [] x.req.sub) m.channel).trans ((hset m.channel).trans (trimmed_of_field hfield _))
    rw [answer_field, htrim']
    exact ⟨rfl, congrArg Prod.fst hset', congrArg Prod.snd hset', answer_replied 0 [] (Granted_port h) (by decide)⟩
  · intro s m hk
    refine ⟨s.opTrimKeys, rfl, ?_⟩
    have hrun : s.opTrimKeys = ({ s with draws := s.draws + 1 } : State).storeTrim m (s.freeAt 0) := by
      unfold opTrimKeys
      rw [hk, Option.elim_some]
    rw [hrun]
    obtain ⟨htrim, hset⟩ := storeTrim_facts (u := { s with draws := s.draws + 1 }) m (s.freeAt 0)
    exact ⟨htrim, congrArg Prod.fst (hset m.channel), congrArg Prod.snd (hset m.channel)⟩
  · intro s r t x m h hi hsub hvalue htrim
    obtain rfl := granted_req h
    have hfield : (t.taken x).field = s.field := by simp [granted_same h]
    refine ⟨_, row_granted_of h rfl (by rw [hi]; rfl) (by rw [hsub]; rfl) (by rw [hvalue]; rfl), ?_⟩
    have hrun : (t.taken x).opTrimEnd x = ((t.taken x).cancelTrim (some x.session)).answer x 0 := by
      unfold opTrimEnd
      simp only [hvalue, hfield, htrim]
      exact check14_granted h rfl rfl rfl
    rw [hrun]
    beta_reduce
    obtain ⟨htrim', hset⟩ := cancelTrim_facts (hfield ▸ htrim : (t.taken x).field.trim = some m) (some x.session)
    have hset' := (trimmed_of_field (answer_field (x := x) 0 [] x.req.sub) m.channel).trans hset
    rw [answer_field, htrim']
    exact ⟨rfl, congrArg Prod.fst hset', congrArg Prod.snd hset', answer_replied 0 [] (Granted_port h) (by decide)⟩
  · intro s r t x h hi hsub hvalue htrim
    obtain rfl := granted_req h
    have hfield : (t.taken x).field = s.field := by simp [granted_same h]
    refine ⟨_, row_granted_of h rfl (by rw [hi]; rfl) (by rw [hsub]; rfl) (by rw [hvalue]; rfl), ?_⟩
    unfold opTrimEnd
    dsimp only
    rw [check14_conflict (Granted_port h) (by rw [hvalue]; rfl) rfl (by rw [hfield, htrim]; rfl)]
    exact ⟨(answer_field _ _ _).trans hfield, granted_conflict h⟩
  · intro s m htrim hdue
    refine ⟨s.opTrimIdle, rfl, ?_⟩
    rw [show s.opTrimIdle = s.cancelTrim from if_pos (by rw [htrim, Option.elim_some]; exact decide_eq_true hdue)]
    obtain ⟨htrim', hset⟩ := cancelTrim_facts htrim none
    exact ⟨htrim', congrArg Prod.fst hset, congrArg Prod.snd hset⟩
  · intro s m htrim hlt
    refine ⟨s.opTrimIdle, rfl, if_neg ?_⟩
    rw [htrim, Option.elim_some, decide_eq_false (Nat.not_le.mpr hlt)]
    exact Bool.false_ne_true

end Sys2Proof.Machine
end

section
/-! PROOF. Field supplies sag, groups switch off and resume (O43). -/
namespace Sys2Proof.Machine

namespace State
variable {s t u : State} {r : Req} {x : ReplyTo} {g n : Nat}

/-! ## Field supplies (R525 to R527) -/

theorem grp_of_field (h : u.field = s.field) (g : Nat) : u.grp g = s.grp g := by
  unfold grp
  rw [h]

theorem chan_of_field (h : u.field = s.field) (c : Nat) : u.chan c = s.chan c := by
  unfold chan
  rw [h]

theorem outputsOf_group {b : ChannelDecl} (hb : b ∈ s.outputsOf g) : groupOf b.channel = g := by
  unfold outputsOf at hb
  cases hi : s.image with
  | none => simp [hi] at hb
  | some i =>
    rw [hi, Option.elim_some, List.mem_filter] at hb
    simp only [Bool.and_eq_true, decide_eq_true_eq] at hb
    exact hb.2.2

theorem outputsOf_congr (h : u.prog = s.prog) (g : Nat) : u.outputsOf g = s.outputsOf g := by
  unfold outputsOf
  rw [image_congr h]

/-- The digital outputs of a group are among its outputs. -/
theorem digital_outputs (h : u.prog = s.prog) {b : ChannelDecl}
    (hb : b ∈ s.image.elim [] (fun i => i.channels.filter (fun (b : ChannelDecl) => b.kind = 3 && b.channel < 0x30 && groupOf b.channel = g))) :
    b ∈ u.outputsOf g ∧ b.kind = 3 := by
  rw [outputsOf_congr h]
  unfold outputsOf
  cases hi : s.image with
  | none => simp [hi] at hb
  | some i =>
    simp only [hi, Option.elim_some, List.mem_filter, Bool.and_eq_true, Bool.or_eq_true, decide_eq_true_eq] at hb ⊢
    obtain ⟨hmem, ⟨hk, hlt⟩, hgroup⟩ := hb
    exact ⟨⟨hmem, ⟨Or.inl hk, hlt⟩, hgroup⟩, hk⟩

theorem isGroup_of (hg : g = 1 ∨ g = 2) : isGroup g = true := by
  rcases hg with rfl | rfl <;> rfl

theorem supplyDetector (hg : g = 1 ∨ g = 2) : detAttr (247 + g) = some { cls := 0, event := false } := by
  rcases hg with rfl | rfl <;> rfl

theorem switchDetector (hg : g = 1 ∨ g = 2) : detAttr (249 + g) = some { cls := 1, event := false } := by
  rcases hg with rfl | rfl <;> rfl

/-- A group as a sample of its supply leaves it, UNDERVOLT apart. -/
def sampled (s : State) (n : Nat) (y : Group) : Group :=
  let low := decide (n < 16000)
  let good := decide (19200 ≤ n)
  { y with
    supply := n, below16 := if low then some (y.below16.getD s.time.now) else none, above19 := if good then some (y.above19.getD s.time.now) else none
    restoreReady := y.restoreReady && !low }

/-- A sampled group with UNDERVOLT as given. -/
def withUndervolt (s : State) (g n : Nat) (v : Bool) : State :=
  (((s.setGrp g (s.sampled n)).setGrp g (fun y => { y with undervolt := v, deep := false })).trigger 0x120 [n]).markSupply g

theorem opSupply_open (hg : g = 1 ∨ g = 2) (hr : s.mode.inReset = false) : s.opSupply g n =
    if (!decide (19200 ≤ n) && !(s.grp g).undervolt) = true then ((s.withUndervolt g n true).riseOpen (247 + g)).settle
    else if (decide (19200 ≤ n) && (s.grp g).undervolt && decide (((s.setGrp g (s.sampled n)).grp g).above19.getD s.time.now + 100000000 ≤ s.time.now)) = true then
      ((s.withUndervolt g n false).fall (247 + g)).settle
    else ((s.setGrp g (s.sampled n)).markUndervolt g).settle :=
  if_neg (by rw [isGroup_of hg, hr]; decide)

theorem withUndervolt_grp (v : Bool) : (s.withUndervolt g n v).grp g = { s.sampled n (s.grp g) with undervolt := v, deep := false } := by
  have hend : ∀ w : State, ((w.trigger 0x120 [n]).markSupply g).field = w.field := fun w => field_of_within (L := [.moraine, .sig, .pair]) (by simp) (by simp)
  unfold withUndervolt
  rw [grp_of_field (hend _), setGrp_grp_self, setGrp_grp_self]

theorem riseSettle_field {d : Nat} {a : DetAttr} (ha : detAttr d = some a) (hc : a.cls < 2) : ((u.riseOpen d).settle).field = u.field :=
  (show ((u.riseOpen d).settle).field = (u.riseOpen d).field by simp).trans (field_of_within (riseOpen_mild_within ha hc) (by simp))

theorem fallSettle_field (d : Nat) : ((u.fall d).settle).field = u.field := by simp

theorem markUndervolt_settle : ((u.markUndervolt g).settle).field = u.field ∧ ((u.markUndervolt g).settle).hub = u.hub ∧ ((u.markUndervolt g).settle).mode = u.mode := by
  have hW : Within [.sig, .capture] u (u.markUndervolt g).settle := by simp
  exact ⟨hW .field (by simp), hW .hub (by simp), hW .mode (by simp)⟩

theorem trigger_field (c : Nat) (l : List Nat) : (u.trigger c l).field = u.field := by simp

/-! ## Switching off and resuming -/

theorem resume_facts (g : Nat) : (u.resume g).grp g = { u.grp g with switchedOff := false, restoreReady := false } ∧ ((u.resume g).det (249 + g)).live = false := by
  have hend : ∀ w : State, (((w.redriveGroup g).fall (249 + g)).settle).grp g = w.grp g := fun w =>
    (grp_of_field (fallSettle_field _) g).trans (redriveGroup_grp g g)
  unfold resume
  dsimp only
  refine ⟨?_, ?_⟩
  · rw [hend, grp_of_field (trigger_field _ _), setGrp_grp_self]
  · rw [settle_det]
    exact fall_det_self.1

/-- A group that is switched off drives no output of its on. -/
theorem driveOn_switchedOff {b : ChannelDecl} (h : (u.grp (groupOf b.channel)).switchedOff = true) : u.driveRow b = 1 ∧ u.driveOn b = false := by
  have hrow : u.driveRow b = 1 := if_pos h
  exact ⟨hrow, by unfold driveOn; rw [hrow]; rfl⟩

theorem cancelTrim_grp (m : Option Word) : (u.cancelTrim m).grp g = u.grp g := by
  unfold cancelTrim
  cases h : u.field.trim with
  | none => rfl
  | some y =>
    rw [Option.elim_some, grp_of_field (trimRecord_field _ _)]
    rfl

theorem cancelGroupTrim_grp (j : Nat) : (u.cancelGroupTrim j).grp g = u.grp g := by
  unfold cancelGroupTrim
  split
  · exact cancelTrim_grp _
  · rfl

/-- A group as it is switched off. -/
def switchedOffGroup (y : Group) : Group :=
  { y with deep := true, restoreReady := false, storeReady := false, switchedOff := true, switchOffs := y.switchOffs + 1 }

/-- The state whose rows switch a group's outputs off. -/
def switching (s : State) (g : Nat) : State :=
  (((((s.setGrp g (fun y => { y with deep := true, restoreReady := false, storeReady := false })).markSupply g).setGrp g
    (fun y => { y with switchedOff := true, switchOffs := y.switchOffs + 1 })).trigger 0x121 []).cancelGroupTrim g).pathOver (0x4B + g)

theorem switching_facts : (s.switching g).grp g = switchedOffGroup (s.grp g) ∧ (s.switching g).prog = s.prog := by
  have hmark : ∀ w : State, (w.markSupply g).grp g = w.grp g := fun w => grp_of_field (field_of_within (L := [.sig, .pair]) (by simp) (by simp)) g
  have hpath : ∀ w : State, (w.pathOver (0x4B + g)).grp g = w.grp g := fun w => grp_of_field (by simp) g
  have hW : Within [.field, .sig, .pair, .moraine] s (s.switching g) := by
    unfold switching
    simp
  refine ⟨?_, hW .prog (by simp)⟩
  unfold switching
  rw [hpath, cancelGroupTrim_grp, grp_of_field (trigger_field _ _), setGrp_grp_self, hmark, setGrp_grp_self]
  rfl

theorem opSwitchOff_due {k : Ns} (hg : g = 1 ∨ g = 2) (hlow : (s.grp g).below16 = some k) (hdue : k + 2000000 ≤ s.time.now) (hoff : (s.grp g).switchedOff = false) :
    s.opSwitchOff g = (((s.switching g).redriveGroup g).riseOpen (249 + g)).settle := by
  have hopen : (!isGroup g || !(s.grp g).below16.elim false (fun t => decide (t + 2000000 ≤ s.time.now)) || (s.grp g).switchedOff && (s.grp g).deep) = false := by
    rw [isGroup_of hg, hlow, Option.elim_some, decide_eq_true hdue, hoff]
    rfl
  refine (if_neg (Bool.eq_false_iff.mp hopen)).trans (if_neg ?_)
  rw [hoff]
  exact Bool.false_ne_true

theorem opRestoreReady_due {k : Ns} (hg : g = 1 ∨ g = 2) (hoff : (s.grp g).switchedOff = true) (hready : (s.grp g).restoreReady = false)
    (hk : (s.grp g).above19 = some k) (hdue : k + 100000000 ≤ s.time.now) : s.opRestoreReady g =
    if s.field.restorePolicy.getLsbD (g - 1) = true then ((s.setGrp g (fun y => { y with restoreReady := true })).trigger 0x121 []).resume g
    else (s.setGrp g (fun y => { y with restoreReady := true })).trigger 0x121 [] := by
  have hopen : (!isGroup g || !(s.grp g).switchedOff || (s.grp g).restoreReady || !(s.grp g).above19.elim false (fun t => decide (t + 100000000 ≤ s.time.now))) = false := by
    rw [isGroup_of hg, hoff, hready, hk, Option.elim_some, decide_eq_true hdue]
    rfl
  exact if_neg (Bool.eq_false_iff.mp hopen)

theorem groupRestore_granted (h : Granted s r 2 t x) (hsub : r.sub = 2) (hi : r.index = 0x7901 ∨ r.index = 0x7902) :
    execGroupRestore r s = .next ((t.taken x).opGroupRestore x) := by
  have hrow : (rowFor r 0x7901 2 || rowFor r 0x7902 2) = true := by
    unfold rowFor
    rw [hsub]
    rcases hi with hi | hi <;> rw [hi] <;> rfl
  exact congrArg Host.Outcome.next ((if_pos hrow).trans (forwarded_taken h rfl State.opGroupRestore))

theorem answer_det (status : Nat) (data : List Byte) (sub : Byte) (d : Nat) : (u.answer x status data sub).det d = u.det d := det_congr (by simp) d

end State
open State

/-- Settles O43, clause by clause. -/
theorem fieldSuppliesSag : Obligations.FieldSuppliesSag := by
  unfold Obligations.FieldSuppliesSag
  refine ⟨?_, ?_, ?_, ?_, ?_, ?_, ?_, ?_, ?_, ?_, ?_⟩
  · intro s g n hg hr hu hn
    refine ⟨s.opSupply g n, rfl, ?_⟩
    rw [opSupply_open hg hr, if_neg (by simp [hn]), if_neg (by simp [hu])]
    obtain ⟨hfield, hhub, hmode⟩ := markUndervolt_settle (u := s.setGrp g (s.sampled n)) (g := g)
    refine ⟨hfield.trans ?_, det_congr (by rw [hhub]; rfl) _, hmode⟩
    have hsample : s.sampled n (s.grp g) = { s.grp g with supply := n, below16 := none, above19 := some ((s.grp g).above19.getD s.time.now) } := by
      unfold sampled
      simp [hn, show ¬n < 16000 by omega]
    unfold setGrp
    rw [hsample]
  · intro s g n hg hr hu hn
    refine ⟨s.opSupply g n, rfl, ?_⟩
    have ha := supplyDetector hg
    have hrun : s.opSupply g n = ((s.withUndervolt g n true).riseOpen (247 + g)).settle := (opSupply_open hg hr).trans (if_pos (by simp [hu, hn]))
    rw [hrun]
    beta_reduce
    rw [grp_of_field (riseSettle_field ha (by decide)), withUndervolt_grp, settle_det]
    exact ⟨rfl, rfl, by simp [sampled, hn], rfl, by simp [sampled], riseOpen_live ha rfl⟩
  · intro s g n k hg hr hu hn hk hdue
    refine ⟨s.opSupply g n, rfl, ?_⟩
    rw [opSupply_open hg hr, if_neg (by simp [hn]), if_pos (by simp [hu, hn, sampled, hk, hdue])]
    beta_reduce
    rw [grp_of_field (fallSettle_field _), withUndervolt_grp, settle_det]
    exact ⟨rfl, rfl, fall_det_self.1⟩
  · intro s g n k hg hr hu hn hk hlt
    refine ⟨s.opSupply g n, rfl, ?_⟩
    rw [opSupply_open hg hr, if_neg (by simp [hn]), if_neg (by simp [hn, sampled, hk, hlt])]
    obtain ⟨hfield, hhub, -⟩ := markUndervolt_settle (u := s.setGrp g (s.sampled n)) (g := g)
    rw [grp_of_field hfield, setGrp_grp_self]
    exact ⟨hu, rfl, hhub⟩
  · intro s g k hg hlow hdue hoff
    refine ⟨s.opSwitchOff g, rfl, ?_⟩
    have ha := switchDetector hg
    obtain ⟨hgrp, hprog⟩ := switching_facts (s := s) (g := g)
    rw [opSwitchOff_due hg hlow hdue hoff]
    have hfield := riseSettle_field (u := (s.switching g).redriveGroup g) ha (by decide)
    beta_reduce
    rw [grp_of_field hfield, redriveGroup_grp, hgrp, settle_det]
    refine ⟨rfl, rfl, rfl, rfl, riseOpen_live ha rfl, List.all_eq_true.mpr fun b hb => ?_⟩
    rw [chan_of_field hfield]
    have hout : b ∈ (s.switching g).outputsOf g ∧ b.kind = 3 := digital_outputs hprog hb
    refine congrArg not (redriveGroup_off (fun a ha hk _ y => ?_) hout.1 hout.2)
    obtain ⟨hrow, hdrive⟩ := driveOn_switchedOff (u := s.switching g) (b := a) (by rw [outputsOf_group ha, hgrp]; rfl)
    exact drivenChan_off hk (Or.inr (by rw [hrow]; decide)) hdrive y
  · intro s g k hlow hlt
    refine ⟨s.opSwitchOff g, rfl, if_pos ?_⟩
    rw [hlow, Option.elim_some, decide_eq_false (Nat.not_le.mpr hlt)]
    simp
  · intro s g k hg hoff hready hk hdue hpolicy
    refine ⟨s.opRestoreReady g, rfl, ?_⟩
    rw [opRestoreReady_due hg hoff hready hk hdue, if_neg (by rw [hpolicy]; exact Bool.false_ne_true)]
    beta_reduce
    rw [grp_of_field (trigger_field _ _), setGrp_grp_self]
    exact ⟨rfl, hoff, keeps_of_within (by simp [Part.facet])⟩
  · intro s g k hg hoff hready hk hdue hpolicy
    refine ⟨s.opRestoreReady g, rfl, ?_⟩
    rw [opRestoreReady_due hg hoff hready hk hdue, if_pos hpolicy]
    obtain ⟨hgrp, hlive⟩ := resume_facts (u := (s.setGrp g (fun y => { y with restoreReady := true })).trigger 0x121 []) g
    rw [hgrp]
    exact ⟨rfl, rfl, hlive⟩
  · intro s r t x h hsub hi hvalue hready
    obtain rfl := granted_req h
    have hfield : (t.taken x).field = s.field := by simp [granted_same h]
    refine ⟨_, groupRestore_granted h hsub hi, ?_⟩
    have hrun : (t.taken x).opGroupRestore x = ((t.taken x).resume (x.req.index.toNat - 0x7900)).answer x 0 := by
      unfold opGroupRestore
      dsimp only
      exact check14_granted (f := fun u => u.resume (x.req.index.toNat - 0x7900)) h (by rw [hvalue]; rfl) (by rw [grp_of_field hfield, hready]; rfl) rfl
    obtain ⟨hgrp, hlive⟩ := resume_facts (u := t.taken x) (x.req.index.toNat - 0x7900)
    rw [hrun]
    beta_reduce
    rw [grp_of_field (answer_field _ _ _), hgrp, answer_det]
    exact ⟨rfl, rfl, hlive, answer_replied 0 [] (Granted_port h) (by decide)⟩
  · intro s r t x h hsub hi hvalue hready
    obtain rfl := granted_req h
    have hfield : (t.taken x).field = s.field := by simp [granted_same h]
    refine ⟨_, groupRestore_granted h hsub hi, ?_⟩
    have hrun : (t.taken x).opGroupRestore x = (t.taken x).answer x 0x0A := by
      unfold opGroupRestore
      dsimp only
      exact check14_busy (f := fun u => u.resume (x.req.index.toNat - 0x7900)) (Granted_port h) (by rw [hvalue]; rfl) (by rw [grp_of_field hfield, hready]; rfl)
    rw [hrun]
    exact ⟨(answer_field _ _ _).trans hfield, granted_replied h (by decide)⟩
  · intro s g hg hr
    exact ⟨s.opStoreCharged g, rfl, if_pos (by rw [isGroup_of hg, hr]; rfl)⟩

end Sys2Proof.Machine
end

section
/-! PROOF. Outputs follow their rows; the watchdog, overload and readback (O42). -/
namespace Sys2Proof.Machine

namespace State
variable {s t u : State} {r : Req} {x : ReplyTo} {g c n d : Nat} {b : ChannelDecl}

/-! ## Rows that drive a digital output off (R521) -/

theorem driveOn_of_row (h : u.driveRow b ≤ 3) : u.driveOn b = false := by
  unfold driveOn
  split
  · omega
  · omega
  · rfl

theorem driveRow_of_closed (h : u.gateOpen = false) : u.driveRow b ≤ 2 := by
  unfold driveRow
  dsimp only
  split
  · omega
  · rw [if_pos (by rw [h]; rfl)]

theorem driveRow_of_overload (hk : b.kind = 3) (h : (u.chan b.channel).overload = true) : u.driveRow b ≤ 3 := by
  unfold driveRow
  dsimp only
  split
  · omega
  · split
    · omega
    · rw [if_pos (by rw [hk, h]; rfl)]

/-- With the gates open, the supply there and nothing that holds it back, an output follows its signal. -/
theorem driveRow_of_signal {e : Sig} (hk : b.kind = 3) (hsupply : (u.grp (groupOf b.channel)).switchedOff = false) (hgate : u.gateOpen = true)
    (hopen : (u.grp (groupOf b.channel)).gateOpen = true) (hload : (u.chan b.channel).overload = false)
    (hwatch : (u.grp (groupOf b.channel)).watchdogExpired = false) (hgroup : u.fenced (0x4B + groupOf b.channel) = false) (hunit : u.unitFenced b.unit = false)
    (hmode : u.mode.current ≠ .safe) (htrim : u.field.trim = none) (hsig : u.outputSignal b = some e) : u.driveRow b = 7 := by
  have hheld : u.heldSafe e.producer = false := by
    unfold heldSafe
    rw [decide_eq_false hmode, Bool.false_and]
  unfold driveRow
  simp [hk, hsupply, hgate, hopen, hload, hwatch, hgroup, hunit, htrim, hsig, hheld]

/-! ## Bound channels -/

theorem bound_output (h : s.bound c [3] = some b) : b ∈ s.outputsOf (groupOf c) ∧ b.kind = 3 ∧ b.channel = c := by
  unfold bound binding at h
  obtain ⟨hfind, hkind⟩ := Option.filter_eq_some_iff.mp h
  unfold outputsOf
  cases hi : s.image with
  | none => simp [hi] at hfind
  | some i =>
    rw [hi, Option.elim_some] at hfind
    have hmem := List.mem_of_find?_eq_some hfind
    have hc : b.channel = c := by simpa using List.find?_some hfind
    simp only [List.contains_eq_mem, List.mem_singleton, Bool.and_eq_true, decide_eq_true_eq] at hkind
    obtain ⟨hlt, hk⟩ := hkind
    refine ⟨List.mem_filter.mpr ⟨hmem, ?_⟩, hk, hc⟩
    simp [hk, hc, hlt]

/-- A channel's overload drives its output off, whichever rows the other channels take. -/
theorem redriveGroup_overload (hb : b ∈ u.outputsOf g) (hk : b.kind = 3) (h : (u.chan b.channel).overload = true) :
    ((u.redriveGroup g).chan b.channel).drivenOn = false := by
  refine redriveGroup_off (fun a _ hak hac y => ?_) hb hk
  have hrow := driveRow_of_overload (u := u) hak (by rw [hac, h])
  exact drivenChan_off hak (Or.inr (by omega)) (driveOn_of_row hrow) y

theorem undriven_overload {y z : Chan} (h : undriven y = undriven z) : y.overload = z.overload ∧ y.overloadAt = z.overloadAt ∧ y.on = z.on ∧ y.readbackFail = z.readbackFail
    ∧ y.faults = z.faults := by
  simp only [undriven, Prod.mk.injEq] at h
  obtain ⟨-, -, h1, h2, h3, h4, h5⟩ := h
  exact ⟨h1, h2, h3, h4, h5⟩

/-! ## A channel's fault and its detector (R545) -/

theorem occurBy_count {a : DetAttr} (ha : detAttr d = some a) (info session : Word) :
    ((u.occurBy d info session).det d).count = BitVec.ofNat 32 (sat32 ((u.det d).count.toNat + 1)) := by
  rw [occurBy_det_self ha]
  unfold occurred
  split <;> rfl

theorem chanFault_facts {a : DetAttr} (ha : detAttr d = some a) (hc : a.cls < 2) :
    (u.chanFault c d).chan c = { u.chan c with faults := (u.chan c).faults + 1 } ∧ (∀ j, (u.chanFault c d).grp j = u.grp j)
    ∧ ((u.chanFault c d).det d).count = BitVec.ofNat 32 (sat32 ((u.det d).count.toNat + 1)) := by
  have hfield : (u.chanFault c d).field = (u.setChan c (fun y => { y with faults := y.faults + 1 })).field :=
    (field_of_within (occurBy_mild_within ha hc _ _) (by simp)).trans (trigger_field _ _)
  have hdet : ((u.setChan c (fun y => { y with faults := y.faults + 1 })).trigger 0x123 []).det d = u.det d :=
    det_congr ((show ∀ w : State, (w.trigger 0x123 []).hub.dets = w.hub.dets from fun w => by simp) _) d
  refine ⟨(chan_of_field hfield c).trans (setChan_chan_self _ _ _), fun j => grp_of_field hfield j, ?_⟩
  exact (occurBy_count ha _ _).trans (by rw [hdet])

theorem settle_chan (c : Nat) : u.settle.chan c = u.chan c := chan_of_field (by simp) c
theorem settle_grp (j : Nat) : u.settle.grp j = u.grp j := grp_of_field (by simp) j

theorem outputDetector (c : Nat) : detAttr (255 + groupOf c) = some { cls := 1 } := by
  have hg : groupOf c = 1 ∨ groupOf c = 2 := by
    unfold groupOf
    (repeat' split) <;> simp
  rcases hg with h | h <;> rw [h] <;> rfl

/-! ## The watchdog's fence (R523, R524) -/

theorem fenceEffect_grp (hg : g = 1 ∨ g = 2) (old : State) (j : Nat) : (u.fenceEffect old (0x4B + g)).grp j = u.grp j := by
  have hrun : u.fenceEffect old (0x4B + g) = (u.cancelGroupTrim g).redriveGroup g := by
    rcases hg with rfl | rfl <;> rfl
  rw [hrun, redriveGroup_grp, cancelGroupTrim_grp]

theorem fence_grp (hg : g = 1 ∨ g = 2) (info : Word) (j : Nat) : (u.fence (0x4B + g) d info).grp j = u.grp j := by
  have hend : ∀ w : State, (((((w.startShadow (0x4B + g) d).hubEntry d 2 (0x4B + g) info).trigger 0x0B5 []).pathOver (0x4B + g)).field) = w.field := fun w => by simp
  have hrefence : ∀ w : State, (w.refence u).field = w.field := fun w => by simp
  have hredrive : ∀ w : State, w.redrive.grp j = w.grp j := fun _ => rfl
  unfold fence
  dsimp only
  rw [grp_of_field (hrefence _), hredrive, grp_of_field (hend _), fenceEffect_grp hg]
  rfl

theorem watchdogDetector (hg : g = 1 ∨ g = 2) : ∃ a, detAttr (251 + g) = some a ∧ a.cls = 2 ∧ ∀ info, detDomain (251 + g) info = 0x4B + g := by
  rcases hg with rfl | rfl
  · exact ⟨_, rfl, rfl, fun _ => rfl⟩
  · exact ⟨_, rfl, rfl, fun _ => rfl⟩

theorem watchdogOccur_grp (hg : g = 1 ∨ g = 2) (j : Nat) : (u.occurOpen (251 + g)).grp j = u.grp j := by
  obtain ⟨a, ha, hcls, hdom⟩ := watchdogDetector hg
  have hlatch : ∀ (w : State) info, (w.occurLatching (251 + g) a info 0).grp j = w.grp j := by
    intro w info
    unfold occurLatching
    rw [hdom]
    dsimp only
    rw [if_neg (show ¬a.cls = 3 by omega)]
    split
    · rw [fence_grp hg]
      exact grp_of_field (by simp) j
    · exact grp_of_field (by simp) j
  unfold occurOpen occurBy
  simp only [ha]
  split
  · exact grp_of_field (by simp) j
  · exact hlatch _ _

/-- An output update of a group, as it begins. -/
def updated (s : State) (g : Nat) : State :=
  s.setGrp g (fun x => { x with gateOpen := s.gateOpen, lastOwner := if s.gateOpen then s.time.now else x.lastOwner, limit := s.field.watchdog })

theorem opOutputUpdate_due (hg : g = 1 ∨ g = 2) (hr : s.mode.inReset = false) (hm : s.time.monoRun = true) (hdue : s.time.mono % 100000 = 0) :
    s.opOutputUpdate g = ((s.updated g).redriveGroup g true).settle :=
  if_neg (by rw [isGroup_of hg, hr, hm, hdue]; decide)

theorem updated_grp : (s.updated g).grp g =
    { s.grp g with gateOpen := s.gateOpen, lastOwner := if s.gateOpen then s.time.now else (s.grp g).lastOwner, limit := s.field.watchdog } := setGrp_grp_self _ _ _

/-- The group's outputs are driven from their rows; with one output its channel is what its row makes it. -/
theorem redriveGroup_single {fresh : Bool} (h : u.outputsOf g = [b]) : ∃ y, (u.redriveGroup g fresh).chan b.channel = u.drivenChan fresh b y := by
  obtain ⟨f, -, hf⟩ := redriveGroup_field (u := u) (fresh := fresh) g
  unfold chan
  rw [hf, h]
  exact ⟨_, get_put_self _ _ _ _⟩

theorem drivenChan_followed {y : Chan} (hk : b.kind = 3) (hrow : u.driveRow b = 7) : (u.drivenChan true b y).drivenOn = u.driveOn b ∧ (u.drivenChan true b y).atSafe = false
    ∧ (u.drivenChan true b y).notDriven = false := by
  unfold drivenChan
  simp [hk, hrow]

/-! ## Overload and readback (R531, R532) -/

/-- An output as its overload is found. -/
def overloaded (s : State) (c : Nat) : State :=
  (s.setGrp (groupOf c) (fun x => { x with storeReady := false })).setChan c (fun x => { x with overload := true, overloadAt := s.time.now })

theorem overloaded_chan : (s.overloaded c).chan c = { s.chan c with overload := true, overloadAt := s.time.now } := setChan_chan_self _ _ _

theorem overloaded_storeReady : ((s.overloaded c).grp (groupOf c)).storeReady = false :=
  congrArg Group.storeReady (setGrp_grp_self s (groupOf c) (fun x => { x with storeReady := false }))

theorem opOverload_over {l : Ns} (hb : s.bound c [3] = some b) (hon : (s.chan c).drivenOn = true) (hlimit : 2000 < n ∨ (600 < n ∧ 10000000 < l)) :
    s.opOverload c n l = (((s.overloaded c).redriveGroup (groupOf c)).chanFault c (255 + groupOf c)).settle := by
  have hover : (decide (2000 < n) || (decide (600 < n) && decide (10000000 < l))) = true := by
    rcases hlimit with h | ⟨h1, h2⟩
    · rw [decide_eq_true h, Bool.true_or]
    · rw [decide_eq_true h1, decide_eq_true h2]
      exact Bool.or_true _
  unfold opOverload
  simp only [hb]
  rw [if_neg (by rw [hon, hover]; decide)]
  rfl

theorem opOverloadRetry_due {ok : Bool} (hb : s.bound c [3] = some b) (hload : (s.chan c).overload = true) (hwants : s.wantsOn b = true)
    (hsupply : (s.grp (groupOf c)).switchedOff = false) (hdue : (s.chan c).overloadAt + 1000000000 ≤ s.time.now) : s.opOverloadRetry c ok =
    if ok = true then (((s.setChan c (fun x => { x with overload := false })).redriveGroup (groupOf c)).trigger 0x123 []).settle
    else ((s.setChan c (fun x => { x with overloadAt := s.time.now, faults := x.faults + 1 })).occur (255 + groupOf c) c).settle := by
  unfold opOverloadRetry
  simp only [hb]
  rw [if_neg (by rw [hload, hwants, hsupply, decide_eq_false (Nat.not_lt.mpr hdue)]; decide)]

/-- A readback as it is taken. -/
def readBack (s : State) (b : ChannelDecl) (c : Nat) (v : Bool) : State :=
  let fail := v != (s.chan c).drivenOn
  let t := s.setChan c (fun y => { y with on := v, readbackFail := fail })
  t.writeInput b (fun e => { e with value := BitVec.ofNat 32 (bit v 0), quality := t.fieldQuality c e.unit (if fail then 2 else 0) })

theorem readBack_facts {v : Bool} : (s.readBack b c v).chan c = { s.chan c with on := v, readbackFail := v != (s.chan c).drivenOn } ∧ ∀ d, (s.readBack b c v).det d = s.det d := by
  have hW : ∀ (w : State) f, Within [.sig, .pair] w (w.writeInput b f) := fun w f => by simp
  refine ⟨(chan_of_field (field_of_within (hW _ _) (by simp)) c).trans (setChan_chan_self _ _ _), fun d => ?_⟩
  exact det_congr (congrArg HubSt.dets (hW _ _ .hub (by simp))) d

theorem opReadback_due {v : Bool} (hb : s.bound c [3] = some b) (hsamples : s.samples = true) (hsupply : (s.grp (groupOf c)).switchedOff = false)
    (hdue : (s.chan c).drivenAt + 1000000 ≤ s.time.mono) : s.opReadback c v =
    (if ((v != (s.chan c).drivenOn) && !(s.chan c).readbackFail) = true then (s.readBack b c v).chanFault c (255 + groupOf c)
     else if ((s.chan c).readbackFail && !(v != (s.chan c).drivenOn)) = true then (s.readBack b c v).trigger 0x123 [] else s.readBack b c v).settle := by
  unfold opReadback
  simp only [hb]
  rw [if_neg (by rw [hsamples, hsupply, decide_eq_false (Nat.not_lt.mpr hdue)]; decide)]
  rfl

end State
open State

/-- Settles O42, clause by clause. -/
theorem outputsAreDrivenAndGuarded : Obligations.OutputsAreDrivenAndGuarded := by
  unfold Obligations.OutputsAreDrivenAndGuarded
  refine ⟨?_, ?_, ?_, ?_, ?_, ?_, ?_, ?_, ?_, ?_⟩
  · intro s g hg hr hm hdue hgate
    refine ⟨s.opOutputUpdate g, rfl, ?_⟩
    rw [opOutputUpdate_due hg hr hm hdue]
    beta_reduce
    rw [settle_grp, redriveGroup_grp, updated_grp, hgate]
    refine ⟨rfl, rfl, rfl, List.all_eq_true.mpr fun b hb => ?_⟩
    obtain ⟨hout, hk⟩ := digital_outputs (u := s.updated g) rfl hb
    rw [settle_chan]
    refine congrArg not (redriveGroup_off (fun a _ hak _ y => ?_) hout hk)
    have hrow := driveRow_of_closed (u := s.updated g) (b := a) hgate
    exact drivenChan_off hak (Or.inl rfl) (driveOn_of_row (by omega)) y
  · intro s g b e hg hr hm hdue hgate houts hk hsupply hload hwatch hgroup hunit hmode htrim hsig
    refine ⟨s.opOutputUpdate g, rfl, ?_⟩
    have hmem : b ∈ s.outputsOf g := by
      unfold outputsOf
      rw [houts]
      exact List.mem_singleton_self b
    have hgb := outputsOf_group hmem
    have hrow : (s.updated g).driveRow b = 7 := driveRow_of_signal (e := e) hk (by rw [hgb, updated_grp]; exact hsupply) hgate (by rw [hgb, updated_grp]; exact hgate) hload
      (by rw [hgb, updated_grp]; exact hwatch) (by rw [hgb]; exact hgroup) hunit hmode htrim hsig
    have hon : (s.updated g).driveOn b = e.effective.getLsbD 0 := by
      unfold driveOn
      rw [hrow]
      exact congrArg (fun o : Option Sig => o.elim false (fun e => e.effective.getLsbD 0)) hsig
    obtain ⟨y, hy⟩ := redriveGroup_single (u := s.updated g) (fresh := true) houts
    obtain ⟨hdrive, hsafe, hnot⟩ := drivenChan_followed (u := s.updated g) (y := y) hk hrow
    rw [opOutputUpdate_due hg hr hm hdue]
    beta_reduce
    rw [settle_grp, settle_chan, redriveGroup_grp, updated_grp, hy, hgate]
    refine ⟨hdrive.trans hon, hsafe, hnot, rfl, rfl, keeps_of_within ?_⟩
    unfold updated
    simp [Part.facet]
  · intro s g hn
    exact ⟨s.opOutputUpdate g, rfl, if_pos (by simp [hn])⟩
  · intro s g hg hgate hwatch hdue
    refine ⟨s.opWatchdog g, rfl, ?_⟩
    have hopen : (!isGroup g || !(s.grp g).gateOpen || (s.grp g).watchdogExpired || decide (s.time.now < (s.grp g).lastOwner + (s.grp g).limit.toNat * 1000000)) = false := by
      rw [isGroup_of hg, hgate, hwatch, decide_eq_false (Nat.not_lt.mpr hdue)]
      rfl
    have hrun : s.opWatchdog g = ((((s.setGrp g (fun y => { y with watchdogExpired := true })).redriveGroup g).trigger 0x122 []).occurOpen (251 + g)).settle :=
      if_neg (Bool.eq_false_iff.mp hopen)
    obtain ⟨a, ha, -⟩ := watchdogDetector hg
    have hdets : ∀ w : State, ((w.redriveGroup g).trigger 0x122 []).hub.dets = w.hub.dets := fun w => by simp
    rw [hrun]
    beta_reduce
    rw [settle_grp, watchdogOccur_grp hg, grp_of_field (trigger_field _ _), redriveGroup_grp, setGrp_grp_self, settle_det, occurOpen_count ha, det_congr (hdets _)]
    exact ⟨rfl, rfl⟩
  · intro s g hlt
    exact ⟨s.opWatchdog g, rfl, if_pos (by simp [hlt])⟩
  · intro s c n l b hb hon hlimit
    refine ⟨s.opOverload c n l, rfl, ?_⟩
    obtain ⟨hout, hk, hc⟩ := bound_output hb
    obtain ⟨hchan, hgrp, hcount⟩ := chanFault_facts (u := (s.overloaded c).redriveGroup (groupOf c)) (c := c) (outputDetector c) (by decide)
    obtain ⟨hload, hloadAt, -, -, hfaults⟩ := undriven_overload (redriveGroup_undriven (u := s.overloaded c) (fresh := false) (groupOf c) c)
    have hoff := redriveGroup_overload (u := s.overloaded c) hout hk (by rw [hc, overloaded_chan])
    rw [hc] at hoff
    rw [opOverload_over hb hon hlimit]
    rw [settle_chan, settle_grp, settle_det, hchan, hgrp, hcount, redriveGroup_grp]
    dsimp only
    rw [hload, hloadAt, hfaults, hoff, overloaded_chan, overloaded_storeReady]
    exact ⟨rfl, rfl, rfl, rfl, rfl, rfl⟩
  · intro s c n l hn hl
    refine ⟨s.opOverload c n l, rfl, ?_⟩
    unfold opOverload
    split
    · rfl
    · refine if_pos ?_
      have hsmall : (decide (2000 < n) || (decide (600 < n) && decide (10000000 < l))) = false := by
        rw [decide_eq_false (Nat.not_lt.mpr hn)]
        rcases hl with hl | hl
        · rw [decide_eq_false (Nat.not_lt.mpr hl)]
          rfl
        · rw [decide_eq_false (Nat.not_lt.mpr hl), Bool.and_false]
          rfl
      rw [hsmall]
      exact Bool.or_true _
  · intro s c b hb hload hwants hsupply hdue
    refine ⟨s.opOverloadRetry c true, rfl, ?_⟩
    rw [opOverloadRetry_due hb hload hwants hsupply hdue, if_pos rfl]
    obtain ⟨hload', -, -, -, hfaults⟩ := undriven_overload (redriveGroup_undriven (u := s.setChan c (fun y => { y with overload := false })) (fresh := false) (groupOf c) c)
    have hend : ∀ w : State, ((w.trigger 0x123 []).settle).hub = w.hub := fun w => by simp
    rw [settle_chan, chan_of_field (trigger_field _ _), hload', hfaults, setChan_chan_self, hend]
    exact ⟨rfl, rfl, rfl⟩
  · intro s c b hb hload hwants hsupply hdue
    refine ⟨s.opOverloadRetry c false, rfl, ?_⟩
    rw [opOverloadRetry_due hb hload hwants hsupply hdue, if_neg Bool.false_ne_true]
    have ha := outputDetector c
    have hfield : ∀ w : State, (w.occur (255 + groupOf c) c).field = w.field := fun w => field_of_within (occurBy_mild_within ha (by decide) _ _) (by simp)
    beta_reduce
    rw [settle_chan, chan_of_field (hfield _), setChan_chan_self, settle_det]
    exact ⟨hload, rfl, rfl, occurBy_count ha _ _⟩
  · intro s c v b hb hsamples hsupply hdue
    refine ⟨s.opReadback c v, rfl, ?_⟩
    obtain ⟨hchan, hdet⟩ := readBack_facts (s := s) (c := c) (v := v) (b := b)
    obtain ⟨hfault, -, hcount⟩ := chanFault_facts (u := s.readBack b c v) (c := c) (outputDetector c) (by decide)
    rw [opReadback_due hb hsamples hsupply hdue]
    rw [settle_chan, settle_det]
    split
    · rename_i hset
      obtain ⟨hne, hclear⟩ := Bool.and_eq_true_iff.mp hset
      rw [hfault, hchan, hcount, hdet, if_pos ⟨bne_iff_ne.mp hne, by simpa using hclear⟩]
      exact ⟨rfl, rfl, rfl, fun _ _ => rfl⟩
    · rename_i hset
      have hnot : ¬(v ≠ (s.chan c).drivenOn ∧ (s.chan c).readbackFail = false) := fun h => hset (by simp [h.1, h.2])
      have hend : ∀ (w : State) (k : Bool), (if k = true then w.trigger 0x123 [] else w).chan c = w.chan c := fun w k => by
        split
        · exact chan_of_field (trigger_field _ _) c
        · rfl
      rw [hend, hchan, if_neg hnot]
      exact ⟨rfl, rfl, (BitVec.add_zero _).symm, fun h1 h2 => absurd ⟨h1, h2⟩ hnot⟩

end Sys2Proof.Machine
end

section
/-! PROOF. A wire break on an input whose signal is substituted (O44). -/
namespace Sys2Proof.Machine

open State

/-! ## A wire break on a substituted input (O44) -/

/-- The image of one digital input, wire-break detection enabled, that signal 5 carries. -/
def oneInput : Image :=
  { units := [{ unit := 0 }], signals := [{ signal := 5, attributes := 0x1000 }], channels := [{ channel := 0, signal := some 5, kind := 1, wireBreak := true }] }

/-- A module in RUN whose one input signal is substituted with good quality. -/
def substitutedInput : State :=
  { State.reset with
    mode := { State.reset.mode with current := .run, target := .run, inReset := false, life := .inService }
    prog := { State.reset.prog with image := some oneInput }
    sig := { State.reset.sig with entries := [(5, { attributes := 0x1000, quality := 0, substituted := true })] } }

/-- Refutes O44: clause (3) leaves open that the input's signal is substituted. Its quality then stays as it is, here GOOD, through the wire break. -/
theorem not_fieldInputsAndHart : ¬ Obligations.FieldInputsAndHart := by
  rintro ⟨-, -, hbreak, -⟩
  obtain ⟨u, hu, -, -, -, -, hquality, -⟩ := hbreak substitutedInput 0 5 { channel := 0, signal := some 5, kind := 1, wireBreak := true }
    (by decide) rfl rfl rfl rfl rfl rfl rfl
  obtain rfl : substitutedInput.opWireBreak 0 true = u := Host.Outcome.next.inj hu
  exact absurd hquality (by decide +kernel)

end Sys2Proof.Machine
end

section
/-! PROOF. CAN message objects: requests, aborts and attempts (O40). -/
namespace Sys2Proof.Machine

namespace State
variable {s t u : State} {r : Req} {x : ReplyTo} {c m n : Nat} {y : MsgObj}

/-! ## What requests and queue entries leave of a CAN channel (chapter 17) -/

/-- A channel but for its buffer of replies. -/
def unreplied (z : Can) : Can := { z with replies := [] }

theorem canCh_of_can (h : u.can = s.can) (c : Nat) : u.canCh c = s.canCh c := by
  unfold canCh
  rw [h]

theorem field_of_unreplied {α : Type} {f : Can → α} (hf : ∀ z, f (unreplied z) = f z) {y z : Can} (h : unreplied y = unreplied z) : f y = f z :=
  (hf y).symm.trans ((congrArg f h).trans (hf z))

theorem objects_of_unreplied {y z : Can} (h : unreplied y = unreplied z) : y.objects = z.objects := field_of_unreplied (f := Can.objects) (fun _ => rfl) h

theorem msgObj_of_unreplied (h : unreplied (u.canCh c) = unreplied (s.canCh c)) (m : Nat) : u.msgObj c m = s.msgObj c m := by
  unfold msgObj
  rw [objects_of_unreplied h]

theorem msgObj_of_can (h : u.can = s.can) (c m : Nat) : u.msgObj c m = s.msgObj c m := by
  unfold msgObj
  rw [canCh_of_can h]

theorem send_unreplied (y : Reply) (c : Nat) : unreplied ((u.send y).canCh c) = unreplied (u.canCh c) := by
  unfold send
  split
  · rfl
  · dsimp only
    split
    · unfold canCh
      rw [get_put]
      split
      · rename_i hc
        rw [hc]
        rfl
      · rfl
    · rfl

theorem endSession_can (n : Word) : (u.endSession n).can = u.can := by simp

theorem answer_unreplied (status : Nat) (data : List Byte) (sub : Byte) (c : Nat) : unreplied ((u.answer x status data sub).canCh c) = unreplied (u.canCh c) := by
  have hend : ∀ (w : State) (k : Bool) (j : Word), (if k = true then w.endSession j else w).canCh c = w.canCh c := fun w k j => by
    split
    · exact canCh_of_can (endSession_can j) c
    · rfl
  have htrigger : ∀ (w : State) (j : Nat) (l : List Nat), (w.trigger j l).canCh c = w.canCh c := fun w j l => canCh_of_can (by simp) c
  unfold answer
  dsimp only
  rw [hend]
  split
  · exact send_unreplied _ _
  · split
    · rw [send_unreplied, htrigger]
      rfl
    · exact send_unreplied _ _

theorem taken_unreplied (h : Granted s r n t x) (c : Nat) : unreplied ((t.taken x).canCh c) = unreplied (s.canCh c) := by
  have hentry : ∀ w : State, (w.produceOpen 60).canCh c = w.canCh c := fun w => canCh_of_can (by simp) c
  have hcan : t.can = s.can := by simp [granted_same h]
  unfold taken
  rw [hentry, send_unreplied, canCh_of_can hcan]

theorem setObj_canCh_self (c m : Nat) (y : MsgObj) : (u.setObj c m y).canCh c = { u.canCh c with objects := put (u.canCh c).objects m y } := get_put_self _ _ _ _

theorem setObj_msgObj_self (c m : Nat) (y : MsgObj) : (u.setObj c m y).msgObj c m = y := by
  unfold msgObj
  rw [setObj_canCh_self, get_put_self]

theorem setObj_msgObj_ne {j : Nat} (h : j ≠ m) (c : Nat) (y : MsgObj) : (u.setObj c m y).msgObj c j = u.msgObj c j := by
  unfold msgObj
  rw [setObj_canCh_self, get_put_ne _ _ _ _ _ h]

theorem objEntry_can (c m kind : Nat) : (u.objEntry c m kind).can = u.can := by simp

theorem answer_msgObj (status : Nat) (data : List Byte) (sub : Byte) (c m : Nat) : (u.answer x status data sub).msgObj c m = u.msgObj c m :=
  msgObj_of_unreplied (answer_unreplied _ _ _ _) m

/-! ## Requests and aborts (R506, R507, R509) -/

theorem ownerCan_congr (hm : u.mode = s.mode) (hp : u.pair = s.pair) : u.ownerCan = s.ownerCan := by
  unfold ownerCan gateOpen
  rw [hm, hp]

theorem requestMo_sends (ht : (u.msgObj c m).transmits = true) (hp : (u.msgObj c m).pending = false)
    (ho : (u.msgObj c m).config.getLsbD 26 = false ∨ u.ownerCan = true) : u.requestMo c m = u.setObj c m
    { u.msgObj c m with pending := true, latched := (u.msgObj c m).data, abortAsked := false, transmitting := false,
                        byBusOff := (u.canCh c).error = 2, byFence := u.fenced (0x47 + c) } := by
  have howner : ((u.msgObj c m).config.getLsbD 26 && !u.ownerCan) = false := by
    rcases ho with h | h
    · rw [h, Bool.false_and]
    · rw [h]
      exact Bool.and_false _
  unfold requestMo
  dsimp only
  rw [if_neg (by rw [ht, hp]; decide), if_neg (by rw [howner]; exact Bool.false_ne_true)]

theorem requestMo_notOwner (ht : (u.msgObj c m).transmits = true) (hp : (u.msgObj c m).pending = false)
    (hc : (u.msgObj c m).config.getLsbD 26 = true) (ho : u.ownerCan = false) : u.requestMo c m = u.endNotOwner c m := by
  unfold requestMo
  dsimp only
  rw [if_neg (by rw [ht, hp]; decide), if_pos (by rw [hc, ho]; rfl)]

theorem endNotOwner_msgObj (c m : Nat) : ((u.endNotOwner c m).msgObj c m).pending = false ∧ ((u.endNotOwner c m).msgObj c m).lastResult = 3 := by
  unfold endNotOwner
  rw [msgObj_of_can (objEntry_can _ _ _), setObj_msgObj_self]
  exact ⟨rfl, rfl⟩

theorem endMo_msgObj (c m result kind : Nat) : (u.endMo c m result kind).msgObj c m =
    { u.msgObj c m with pending := false, transmitting := false, abortAsked := false, byBusOff := false, byFence := false, lastResult := result } := by
  unfold endMo
  rw [msgObj_of_can (objEntry_can _ _ _), setObj_msgObj_self]

theorem abortMo_waiting (hp : (u.msgObj c m).pending = true) (ht : (u.msgObj c m).transmitting = false) : u.abortMo c m = u.endMo c m 2 3 := by
  unfold abortMo
  simp only [hp, ht, Bool.not_true, Bool.false_eq_true, if_false]

theorem abortMo_sending (hp : (u.msgObj c m).pending = true) (ht : (u.msgObj c m).transmitting = true) :
    u.abortMo c m = u.setObj c m { u.msgObj c m with abortAsked := true } := by
  unfold abortMo
  simp only [hp, ht, Bool.not_true, Bool.false_eq_true, if_false, if_true]

/-- A granted MO_COMMAND comes to its check 14. -/
theorem moRow_granted (h : Granted s r 2 t x) {abort : Bool} (hi : isMo r.index.toNat = true) (hsub : r.sub.toNat % 0x20 = 3) (hlt : r.sub.toNat < 0x40)
    (hv : decide (r.value = 2) = abort) : s.opMoRow (.xanfil r) abort = (t.taken x).opMoCommand x := by
  unfold opMoRow
  dsimp only
  rw [if_pos (by rw [hi, hsub, decide_eq_true hlt, hv]; simp), forwarded_taken h rfl]

theorem moCommand_request (h : Granted s r 2 t x) (hv : x.req.value = 1) : (t.taken x).opMoCommand x =
    ((t.taken x).requestMo (moOf x.req.index.toNat x.req.sub.toNat).1 (moOf x.req.index.toNat x.req.sub.toNat).2).answer x 0 := by
  unfold opMoCommand
  dsimp only
  rw [check14_granted h (by rw [hv]; rfl) rfl rfl, if_pos hv]

theorem moCommand_abort (h : Granted s r 2 t x) (hv : x.req.value = 2) : (t.taken x).opMoCommand x =
    ((t.taken x).abortMo (moOf x.req.index.toNat x.req.sub.toNat).1 (moOf x.req.index.toNat x.req.sub.toNat).2).answer x 0 := by
  unfold opMoCommand
  dsimp only
  rw [check14_granted h (by rw [hv]; rfl) rfl rfl, if_neg (by rw [hv]; decide)]

/-- MO_COMMAND written at its home address, with the value of its row. -/
theorem moRow_home {j i b : Nat} {v : Word} {abort : Bool} (hj : homeMaster j = true) (hi : isMo i = true) (hb : b < 0x40) (hsub : b % 0x20 = 3) :
    s.opMoRow (.home j (homeAddress i b) v) abort =
    if v = 1 ∧ (!abort) = true then s.requestMo (moOf i b).1 (moOf i b).2 else if v = 2 ∧ abort = true then s.abortMo (moOf i b).1 (moOf i b).2 else s := by
  have hindex : (homeAddress i b - 0x50000000) / 0x400 = i := by
    unfold homeAddress
    omega
  have hslot : (homeAddress i b - 0x50000000) % 0x400 / 4 = b := by
    unfold homeAddress
    omega
  unfold opMoRow
  dsimp only
  rw [hindex, hslot, if_pos (by rw [hj, hi, hsub, decide_eq_true hb]; simp)]

/-! ## Attempts (R506, R507) -/

theorem isCan_of (h : c = 1 ∨ c = 2) : isCan c = true := by
  rcases h with rfl | rfl <;> rfl

theorem opTxEnd_ends {ok : Bool} {e : MsgObj} (hc : c = 1 ∨ c = 2) (hbus : s.canOnBus c = true) (hm : (s.canCh c).mode = 1) (hreply : (s.canCh c).sendingReply = false)
    (hfind : (s.canCh c).objects.find? (fun e => e.2.transmitting) = some (m, e)) : s.opTxEnd c ok = (s.tecAfter c ok).endAttempt c m ok := by
  unfold opTxEnd
  dsimp only
  rw [if_neg (by rw [isCan_of hc, hbus, hm]; decide), if_neg (by rw [hreply]; exact Bool.false_ne_true), hfind]

theorem tecAfter_canCh (ok : Bool) : ∃ v, (s.tecAfter c ok).canCh c = { s.canCh c with tec := v } := by
  unfold tecAfter
  dsimp only
  split
  · exact ⟨_, setCan_canCh_self _ _ _⟩
  · exact ⟨_, setCan_canCh_self _ _ _⟩

theorem tecAfter_msgObj (ok : Bool) (j : Nat) : (s.tecAfter c ok).msgObj c j = s.msgObj c j := by
  obtain ⟨v, hv⟩ := tecAfter_canCh (s := s) (c := c) ok
  unfold msgObj
  rw [hv]

/-- The frame of an object that an attempt carries. -/
def attemptFrame (u : State) (c m : Nat) : CanFrame := (u.msgObj c m).frame ((u.canCh c).fdOptions.getLsbD 1) ((u.canCh c).error = 1)

theorem endAttempt_sent (c m : Nat) : ∃ l, (u.endAttempt c m true).canCh c =
    { u.canCh c with
      txFrames := (u.canCh c).txFrames + 1, frameSeq := (u.canCh c).frameSeq + 1, sent := (u.canCh c).sent ++ [u.attemptFrame c m], objects := l }
    ∧ get {} l m = { u.msgObj c m with pending := false, transmitting := false, abortAsked := false, byBusOff := false, byFence := false, lastResult := 1 } := by
  have hentry : ∀ (w : State) f, (w.frameEntry c m 2 f).canCh c = w.canCh c := fun w f =>
    canCh_of_can ((show Within [.disp, .moraine] w (w.frameEntry c m 2 f) by simp) .can (by simp)) c
  unfold endAttempt
  dsimp only
  rw [if_pos rfl, hentry, setObj_canCh_self]
  unfold sentFrame
  rw [setCan_canCh_self]
  exact ⟨_, rfl, get_put_self _ _ _ _⟩

/-- An attempt that failed leaves its object pending, unless an abort was asked for or it is ONE_SHOT. -/
theorem endAttempt_pending (ha : (u.msgObj c m).abortAsked = false) (hs : (u.msgObj c m).config.getLsbD 25 = false) (ho : u.ownerCan = true) :
    u.endAttempt c m false = u.setObj c m { u.msgObj c m with transmitting := false } := by
  obtain ⟨hgate, hmode⟩ := Bool.and_eq_true_iff.mp ho
  unfold endAttempt
  dsimp only
  rw [if_neg Bool.false_ne_true, if_neg (by rw [ha]; exact Bool.false_ne_true), if_neg (by rw [hs]; exact Bool.false_ne_true)]
  exact if_pos ⟨hgate, of_decide_eq_true hmode⟩

theorem endAttempt_over (h : (u.msgObj c m).abortAsked = true ∨ (u.msgObj c m).config.getLsbD 25 = true) : ∃ kind,
    u.endAttempt c m false = u.endMo c m (if (u.msgObj c m).abortAsked = true then 2 else 4) kind := by
  unfold endAttempt
  dsimp only
  rw [if_neg Bool.false_ne_true]
  by_cases ha : (u.msgObj c m).abortAsked = true
  · rw [if_pos ha, if_pos ha]
    exact ⟨_, rfl⟩
  · rw [if_neg ha, if_neg ha, if_pos (h.resolve_left ha)]
    exact ⟨_, rfl⟩

end State
open State

/-- Settles O40, clause by clause. -/
theorem canObjectsTransmit : Obligations.CanObjectsTransmit := by
  unfold Obligations.CanObjectsTransmit
  refine ⟨?_, ?_, ?_, ?_, ?_, ?_, ?_, ?_, ?_, ?_, ?_, ?_⟩
  · intro s r t x h hi hsub hlt hv ht hp ho
    obtain rfl := granted_req h
    have hobj := fun c m => msgObj_of_unreplied (taken_unreplied h c) m
    refine ⟨_, congrArg Host.Outcome.next ((moRow_granted (abort := false) h hi hsub hlt (by rw [hv]; rfl)).trans (moCommand_request h hv)), ?_⟩
    beta_reduce
    generalize (moOf x.req.index.toNat x.req.sub.toNat) = a at ht hp ho ⊢
    have howner : (t.taken x).ownerCan = s.ownerCan := ownerCan_congr (by simp [granted_same h]) (by simp [granted_same h])
    rw [requestMo_sends (by rw [hobj, ht]) (by rw [hobj, hp]) (by rw [hobj, howner]; exact ho), answer_msgObj, setObj_msgObj_self, hobj]
    exact ⟨rfl, rfl, rfl, answer_replied 0 [] (Granted_port h) (by decide)⟩
  · intro s r t x h hi hsub hlt hv ht hp hconfig ho
    obtain rfl := granted_req h
    have hobj := fun c m => msgObj_of_unreplied (taken_unreplied h c) m
    refine ⟨_, congrArg Host.Outcome.next ((moRow_granted (abort := false) h hi hsub hlt (by rw [hv]; rfl)).trans (moCommand_request h hv)), ?_⟩
    beta_reduce
    generalize (moOf x.req.index.toNat x.req.sub.toNat) = a at ht hp hconfig ⊢
    have howner : (t.taken x).ownerCan = s.ownerCan := ownerCan_congr (by simp [granted_same h]) (by simp [granted_same h])
    rw [requestMo_notOwner (by rw [hobj, ht]) (by rw [hobj, hp]) (by rw [hobj, hconfig]) (by rw [howner, ho]), answer_msgObj]
    obtain ⟨hpending, hresult⟩ := endNotOwner_msgObj (u := t.taken x) a.1 a.2
    exact ⟨hpending, hresult, answer_replied 0 [] (Granted_port h) (by decide)⟩
  · intro s r t x h hi hsub hlt hv1 hv2
    obtain rfl := granted_req h
    refine ⟨_, congrArg Host.Outcome.next (moRow_granted (abort := false) h hi hsub hlt (decide_eq_false hv2)), ?_⟩
    have hrun : (t.taken x).opMoCommand x = (t.taken x).answer x 6 := by
      unfold opMoCommand
      dsimp only
      rw [check14_range (Granted_port h) (by rw [decide_eq_false hv1, decide_eq_false hv2]; rfl)]
    have hobjects : ∀ c, (((t.taken x).answer x 6).canCh c).objects = (s.canCh c).objects := fun c =>
      objects_of_unreplied ((answer_unreplied _ _ _ c).trans (taken_unreplied h c))
    rw [hrun]
    exact ⟨hobjects 1, hobjects 2, granted_replied h (by decide)⟩
  · intro s j i b hj hi hb hsub ht hp ho
    refine ⟨s.opMoRow (.home j (homeAddress i b) 1) false, rfl, ?_⟩
    rw [moRow_home hj hi hb hsub, if_pos (by decide), requestMo_sends ht hp ho]
    beta_reduce
    rw [setObj_msgObj_self]
    exact ⟨rfl, rfl, keeps_of_within (by simp [Part.facet])⟩
  · intro s r t x h hi hsub hlt hv hp ht
    obtain rfl := granted_req h
    have hobj := fun c m => msgObj_of_unreplied (taken_unreplied h c) m
    refine ⟨_, congrArg Host.Outcome.next ((moRow_granted (abort := true) h hi hsub hlt (by rw [hv]; rfl)).trans (moCommand_abort h hv)), ?_⟩
    beta_reduce
    generalize (moOf x.req.index.toNat x.req.sub.toNat) = a at hp ht ⊢
    rw [abortMo_waiting (by rw [hobj, hp]) (by rw [hobj, ht]), answer_msgObj, endMo_msgObj]
    exact ⟨rfl, rfl, answer_replied 0 [] (Granted_port h) (by decide)⟩
  · intro s r t x h hi hsub hlt hv hp ht
    obtain rfl := granted_req h
    have hobj := fun c m => msgObj_of_unreplied (taken_unreplied h c) m
    refine ⟨_, congrArg Host.Outcome.next ((moRow_granted (abort := true) h hi hsub hlt (by rw [hv]; rfl)).trans (moCommand_abort h hv)), ?_⟩
    beta_reduce
    generalize (moOf x.req.index.toNat x.req.sub.toNat) = a at hp ht ⊢
    rw [abortMo_sending (by rw [hobj, hp]) (by rw [hobj, ht]), answer_msgObj, setObj_msgObj_self, hobj]
    exact ⟨hp, rfl, rfl, answer_replied 0 [] (Granted_port h) (by decide)⟩
  · intro s j i b hj hi hb hsub hp ht
    refine ⟨s.opMoRow (.home j (homeAddress i b) 2) true, rfl, ?_⟩
    rw [moRow_home hj hi hb hsub, if_neg (by decide), if_pos (by decide), abortMo_waiting hp ht]
    beta_reduce
    rw [endMo_msgObj]
    exact ⟨rfl, rfl⟩
  · intro s c m hc hbus hm hnone hfirst hm128
    refine ⟨s.opTxStart c, rfl, ?_⟩
    have hrun : s.opTxStart c = s.setObj c m { s.msgObj c m with transmitting := true } := by
      unfold opTxStart
      rw [if_neg (by rw [isCan_of hc, hbus, hm, hnone]; decide), hfirst]
      exact if_neg hm128
    rw [hrun]
    beta_reduce
    rw [setObj_msgObj_self, setObj_canCh_self]
    refine ⟨rfl, fun j hj => setObj_msgObj_ne hj _ _, ?_, keeps_of_within (by simp [Part.facet])⟩
    unfold attempting at hnone
    exact (Bool.or_eq_false_iff.mp hnone).1
  · intro s c hattempt
    exact ⟨s.opTxStart c, rfl, if_pos (by simp [hattempt])⟩
  · intro s c m e hc hbus hm hreply hfind
    refine ⟨s.opTxEnd c true, rfl, ?_⟩
    obtain ⟨v, htec⟩ := tecAfter_canCh (s := s) (c := c) true
    obtain ⟨l, hch, hget⟩ := endAttempt_sent (u := s.tecAfter c true) c m
    rw [opTxEnd_ends hc hbus hm hreply hfind]
    unfold msgObj
    rw [hch, htec]
    dsimp only
    rw [hget]
    refine ⟨rfl, rfl, rfl, rfl, rfl, List.dropLast_concat, ?_⟩
    rw [List.getLast?_concat]
    unfold attemptFrame
    rw [tecAfter_msgObj]
    rfl
  · intro s c m e hc hbus hm hreply hfind hasked hshot howner
    refine ⟨s.opTxEnd c false, rfl, ?_⟩
    obtain ⟨v, htec⟩ := tecAfter_canCh (s := s) (c := c) false
    rw [opTxEnd_ends hc hbus hm hreply hfind, endAttempt_pending (by rw [tecAfter_msgObj, hasked]) (by rw [tecAfter_msgObj, hshot]) (ownerCan_congr rfl rfl ▸ howner)]
    rw [setObj_msgObj_self, setObj_canCh_self, tecAfter_msgObj, htec]
    exact ⟨rfl, rfl, rfl, rfl⟩
  · intro s c m e hc hbus hm hreply hfind hend
    refine ⟨s.opTxEnd c false, rfl, ?_⟩
    obtain ⟨k, hrun⟩ := endAttempt_over (u := s.tecAfter c false) (c := c) (m := m) (by rw [tecAfter_msgObj]; exact hend)
    rw [opTxEnd_ends hc hbus hm hreply hfind, hrun]
    rw [endMo_msgObj, tecAfter_msgObj]
    exact ⟨rfl, rfl, rfl⟩

end Sys2Proof.Machine
end

section
/-! PROOF. CAN bus-off, recovery, error states and channel modes (O41). -/
namespace Sys2Proof.Machine

namespace State
variable {s t u : State} {r : Req} {x : ReplyTo} {c d n : Nat}

/-! ## What leaves a channel as it is (R511, R512) -/

theorem can_of_within {L : List Facet} (h : Within L s u) (hn : Facet.can ∉ L) : u.can = s.can := h .can hn

theorem passiveDetector (hc : c = 1 ∨ c = 2) : detAttr (241 + 4 * (c - 1)) = some { cls := 0, event := false } := by
  rcases hc with rfl | rfl <;> rfl

theorem busOffDetector (hc : c = 1 ∨ c = 2) : detAttr (240 + 4 * (c - 1)) = some { cls := 1, event := false } := by
  rcases hc with rfl | rfl <;> rfl

/-- What a change of a channel's error state ends with: its record, its queue entry, and what follows every change. -/
def canChanged (u : State) (code : Nat) (l : List Nat) (c kind : Nat) : State := ((u.trigger code l).channelEntry c kind).settle

theorem canChanged_facts (code : Nat) (l : List Nat) (c kind : Nat) : (u.canChanged code l c kind).can = u.can ∧ (u.canChanged code l c kind).hub = u.hub
    ∧ (u.canChanged code l c kind).mode = u.mode := by
  have hW : Within [.moraine, .disp, .sig, .capture] u (u.canChanged code l c kind) := by
    unfold canChanged
    simp
  exact ⟨hW .can (by simp), hW .hub (by simp), hW .mode (by simp)⟩

theorem riseOpen_det_ne {e : Nat} (h : e ≠ d) : (u.riseOpen d).det e = u.det e := by
  unfold riseOpen
  split
  · rfl
  · exact occurBy_det_ne h _ _

theorem riseOpen_fenced {a : DetAttr} (ha : detAttr d = some a) (hc : a.cls < 2) (e : Nat) : (u.riseOpen d).fenced e = u.fenced e := by
  unfold riseOpen
  split
  · rfl
  · obtain ⟨_, _, h⟩ := occurBy_mild_hub (u := { u with draws := u.draws + 1 }) ha hc (u.freeAt 0) 0
    unfold fenced occurOpen
    rw [h]

theorem fall_can (d : Nat) : (u.fall d).can = u.can := by simp

theorem riseOpen_can {a : DetAttr} (ha : detAttr d = some a) (hc : a.cls < 2) : (u.riseOpen d).can = u.can :=
  can_of_within (riseOpen_mild_within ha hc) (by simp)

theorem det_of_hub (h : u.hub = s.hub) (d : Nat) : u.det d = s.det d := det_congr (by rw [h]) d

/-! ## Attempts broken off (R507) -/

/-- A channel but for its objects. -/
def unloaded (z : Can) : Can := { z with objects := [] }

theorem setObj_unloaded (c m : Nat) (y : MsgObj) : unloaded ((u.setObj c m y).canCh c) = unloaded (u.canCh c) := by
  rw [setObj_canCh_self]
  rfl

theorem unloaded_with {y z : Can} (h : unloaded y = unloaded z) (l : Tab MsgObj) : { y with sendingReply := false, objects := l } = { z with sendingReply := false, objects := l } :=
  congrArg (fun w : Can => { w with sendingReply := false, objects := l }) h

/-- A channel that leaves the bus keeps all but its objects and the reply on the bus. -/
theorem dropAttempts_canCh (c : Nat) : ∃ l, (u.dropAttempts c).canCh c = { u.canCh c with sendingReply := false, objects := l } := by
  have hstep : ∀ (w : State) (m : Nat) (y : MsgObj), unloaded (((w.setObj c m y).objEntry c m 3).canCh c) = unloaded (w.canCh c) := fun w m y => by
    rw [canCh_of_can (objEntry_can _ _ _)]
    exact setObj_unloaded _ _ _
  have hkeep := foldl_keeps (fun w : State => unloaded (w.canCh c)) (fun (u : State) m =>
    (u.setObj c m { u.msgObj c m with pending := false, transmitting := false, abortAsked := false, byBusOff := false, byFence := false, lastResult := 2 }).objEntry c m 3)
    (fun w m => hstep w m _) (((u.canCh c).objects.filter (fun e => e.2.transmitting && e.2.abortAsked)).map (·.1)) u
  exact ⟨_, (get_put_self _ _ _ _).trans (unloaded_with hkeep _)⟩

theorem canOnBus_offError (h : (u.canCh c).error = 2) : u.canOnBus c = false := by
  unfold canOnBus
  simp [h]

theorem canOnBus_congr (hm : u.mode = s.mode) (hf : u.fenced (0x47 + c) = s.fenced (0x47 + c)) (hmode : (u.canCh c).mode = (s.canCh c).mode)
    (hbus : s.canOnBus c = true) (he : (u.canCh c).error ≠ 2) : u.canOnBus c = true := by
  unfold canOnBus at hbus ⊢
  simp only [Bool.and_eq_true, decide_eq_true_eq] at hbus ⊢
  obtain ⟨⟨⟨h1, h2⟩, h3⟩, -⟩ := hbus
  rw [hmode, hm, hf]
  exact ⟨⟨⟨h1, h2⟩, h3⟩, he⟩

/-- A channel as it goes bus-off. -/
def busOff (s : State) (c : Nat) (tec : Half) : State :=
  (s.dropAttempts c).setCan c (fun x => { x with
    error := 2, tec := tec, busOffs := x.busOffs + 1, recovering := x.policy = 0
    objects := mapTab x.objects (fun _ m => if m.pending then { m with byBusOff := true } else m) })

theorem busOff_canCh (v : Half) : ∃ l : Tab MsgObj, (s.busOff c v).canCh c = { s.canCh c with
    sendingReply := false, error := 2, tec := v, busOffs := (s.canCh c).busOffs + 1, recovering := decide ((s.canCh c).policy = 0)
    objects := mapTab l (fun _ (m : MsgObj) => if m.pending then { m with byBusOff := true } else m) } := by
  obtain ⟨l, h⟩ := dropAttempts_canCh (u := s) c
  unfold busOff
  rw [setCan_canCh_self, h]
  exact ⟨l, rfl⟩

theorem opBusOff_due {v : Half} (hc : c = 1 ∨ c = 2) (hbus : s.canOnBus c = true) (hm : (s.canCh c).mode = 1) (hv : 255 < v.toNat) : s.opBusOff c v =
    (((s.busOff c v).fall (241 + 4 * (c - 1))).riseOpen (240 + 4 * (c - 1))).canChanged 0x101 [(s.busOff c v).pendingCount c] c 7 :=
  if_neg (by rw [isCan_of hc, hbus, hm, decide_eq_false (Nat.not_le.mpr hv)]; decide)

/-- A channel whose counters have moved it to an error state. -/
def errorState (s : State) (c : Nat) (v w : Half) (e : Nat) : State := s.setCan c (fun x => { x with tec := v, recErr := w, error := e })

theorem errorChange_open {v : Half} {passive : Bool} (hc : c = 1 ∨ c = 2) (hbus : s.canOnBus c = true) (hm : (s.canCh c).mode = 1) (hv : v.toNat ≤ 255)
    (he : decide ((s.canCh c).error = 1) = !passive) :
    (!isCan c || !s.canOnBus c || decide ((s.canCh c).mode ≠ 1) || decide (255 < v.toNat) || passive == decide ((s.canCh c).error = 1)) = false := by
  rw [isCan_of hc, hbus, hm, decide_eq_false (Nat.not_lt.mpr hv), he]
  cases passive <;> rfl

theorem opErrorState_passive {v w : Half} (hc : c = 1 ∨ c = 2) (hbus : s.canOnBus c = true) (hm : (s.canCh c).mode = 1) (he : (s.canCh c).error = 0)
    (hv : v.toNat ≤ 255) (hp : 127 < v.toNat ∨ 127 < w.toNat) :
    s.opErrorState c v w = ((s.errorState c v w 1).riseOpen (241 + 4 * (c - 1))).canChanged 0x100 [v.toNat, w.toNat] c 6 := by
  have hlimit : (decide (127 < v.toNat) || decide (127 < w.toNat)) = true := by simpa using hp
  have hopen := errorChange_open (passive := true) hc hbus hm hv (by rw [he]; rfl)
  unfold opErrorState
  dsimp only
  rw [hlimit, if_neg (Bool.eq_false_iff.mp hopen)]
  rfl

theorem opErrorState_active {v w : Half} (hc : c = 1 ∨ c = 2) (hbus : s.canOnBus c = true) (hm : (s.canCh c).mode = 1) (he : (s.canCh c).error = 1)
    (hv : v.toNat ≤ 127) (hw : w.toNat ≤ 127) :
    s.opErrorState c v w = ((s.errorState c v w 0).fall (241 + 4 * (c - 1))).canChanged 0x100 [v.toNat, w.toNat] c 6 := by
  have hlimit : (decide (127 < v.toNat) || decide (127 < w.toNat)) = false := by
    rw [decide_eq_false (Nat.not_lt.mpr hv), decide_eq_false (Nat.not_lt.mpr hw)]
    rfl
  have hopen := errorChange_open (passive := false) hc hbus hm (Nat.le_trans hv (by decide)) (by rw [he]; rfl)
  unfold opErrorState
  dsimp only
  rw [hlimit, if_neg (Bool.eq_false_iff.mp hopen)]
  rfl

/-! ## Requests to a channel (R500, R512) -/

theorem unreplied_fields {y z : Can} (h : unreplied y = unreplied z) : y.mode = z.mode ∧ y.nominalRate = z.nominalRate ∧ y.error = z.error ∧ y.recovering = z.recovering
    ∧ y.policy = z.policy :=
  ⟨field_of_unreplied (f := Can.mode) (fun _ => rfl) h, field_of_unreplied (f := Can.nominalRate) (fun _ => rfl) h, field_of_unreplied (f := Can.error) (fun _ => rfl) h,
    field_of_unreplied (f := Can.recovering) (fun _ => rfl) h, field_of_unreplied (f := Can.policy) (fun _ => rfl) h⟩

theorem channelRow {k : Nat} (hi : r.index = 0x7810 ∨ r.index = 0x7811) (hsub : r.sub.toNat = k) : (rowFor r 0x7810 k || rowFor r 0x7811 k) = true := by
  unfold rowFor
  rw [hsub]
  rcases hi with hi | hi <;> rw [hi] <;> simp

theorem opRecover_granted (h : Granted s r 2 t x) (hv : x.req.value = 1)
    (hc : (!(((t.taken x).canCh (x.req.index.toNat - 0x780F)).policy = 1 && ((t.taken x).canCh (x.req.index.toNat - 0x780F)).error = 2
      && !((t.taken x).canCh (x.req.index.toNat - 0x780F)).recovering)) = false) :
    (t.taken x).opRecover x = ((t.taken x).setCan (x.req.index.toNat - 0x780F) (fun y => { y with recovering := true })).answer x 0 := by
  unfold opRecover
  dsimp only
  exact check14_granted (f := fun t => t.setCan (x.req.index.toNat - 0x780F) (fun y => { y with recovering := true })) h (by rw [hv]; rfl) rfl hc

/-- What CHANNEL_MODE makes of a channel. -/
def enterMode (t : State) (c v : Nat) (session : Word) : State :=
  if (t.canCh c).mode.toNat = v then t else
    ((t.dropAttempts c).setCan c (fun y =>
      let z : Can := { y with mode := BitVec.ofNat 8 v }
      if v = 3 then z.startAbr t.time.now else z)).trigger 0x103 [session.toNat]

theorem enterMode_canCh {v : Nat} (session : Word) : ((u.enterMode c v session).canCh c).mode = BitVec.ofNat 8 v
    ∧ ((u.enterMode c v session).canCh c).nominalRate = (u.canCh c).nominalRate ∧ ((u.enterMode c v session).canCh c).error = (u.canCh c).error := by
  obtain ⟨l, h⟩ := dropAttempts_canCh (u := u) c
  have htrigger : ∀ (w : State) (k : Nat) (j : List Nat), (w.trigger k j).canCh c = w.canCh c := fun w k j => canCh_of_can (by simp) c
  unfold enterMode
  split
  · rename_i hv
    exact ⟨by rw [← hv, BitVec.ofNat_toNat, BitVec.setWidth_eq], rfl, rfl⟩
  · rw [htrigger, setCan_canCh_self, h]
    dsimp only
    split <;> exact ⟨rfl, rfl, rfl⟩

end State
open State

/-- Settles O41, clause by clause. -/
theorem canErrorsAndModes : Obligations.CanErrorsAndModes := by
  unfold Obligations.CanErrorsAndModes
  refine ⟨?_, ?_, ?_, ?_, ?_, ?_, ?_, ?_, ?_, ?_⟩
  · intro s c v hc hbus hm hv
    refine ⟨s.opBusOff c v, rfl, ?_⟩
    have ha := busOffDetector hc
    obtain ⟨l, hch⟩ := busOff_canCh (s := s) (c := c) v
    obtain ⟨hcan, hhub, -⟩ := canChanged_facts (u := ((s.busOff c v).fall (241 + 4 * (c - 1))).riseOpen (240 + 4 * (c - 1))) 0x101 [(s.busOff c v).pendingCount c] c 7
    have hu := (canCh_of_can (hcan.trans ((riseOpen_can ha (by decide)).trans (fall_can _))) c).trans hch
    rw [opBusOff_due hc hbus hm hv]
    beta_reduce
    have hoff := canOnBus_offError (congrArg Can.error hu)
    rw [hoff, det_of_hub hhub, det_of_hub hhub, riseOpen_det_ne (e := 241 + 4 * (c - 1)) (by omega), hu]
    refine ⟨rfl, rfl, rfl, rfl, riseOpen_live ha rfl, fall_det_self.1, rfl, fun e he hp => ?_⟩
    obtain ⟨y, -, rfl⟩ := List.mem_map.mp he
    dsimp only at hp ⊢
    split at hp
    · rename_i hy
      rw [if_pos hy]
    · rename_i hy
      exact absurd hp hy
  · intro s c v hv
    exact ⟨s.opBusOff c v, rfl, if_pos (by simp [hv])⟩
  · intro s r t x h hsub hi hv hpolicy herror hrecovering
    obtain rfl := granted_req h
    obtain ⟨-, -, he, hr, hp⟩ := unreplied_fields (taken_unreplied h (x.req.index.toNat - 0x780F))
    refine ⟨_, congrArg Host.Outcome.next ((if_pos (channelRow hi (by rw [hsub]; rfl))).trans (forwarded_taken h rfl State.opRecover)), ?_⟩
    beta_reduce
    rw [opRecover_granted h hv (by rw [hp, he, hr, hpolicy, herror, hrecovering]; rfl)]
    obtain ⟨-, -, he', hr', -⟩ := unreplied_fields (answer_unreplied (u := (t.taken x).setCan (x.req.index.toNat - 0x780F) (fun y => { y with recovering := true }))
      (x := x) 0 [] x.req.sub (x.req.index.toNat - 0x780F))
    rw [hr', he', setCan_canCh_self]
    exact ⟨rfl, he.trans herror, answer_replied 0 [] (Granted_port h) (by decide)⟩
  · intro s r t x h hsub hi hv herror
    obtain rfl := granted_req h
    obtain ⟨-, -, he, hr, -⟩ := unreplied_fields (taken_unreplied h (x.req.index.toNat - 0x780F))
    refine ⟨_, congrArg Host.Outcome.next ((if_pos (channelRow hi (by rw [hsub]; rfl))).trans (forwarded_taken h rfl State.opRecover)), ?_⟩
    have hrun : (t.taken x).opRecover x = (t.taken x).answer x 9 := by
      unfold opRecover
      dsimp only
      exact check14_conflict (Granted_port h) (by rw [hv]; rfl) rfl (by rw [he, decide_eq_false herror]; simp)
    rw [hrun]
    obtain ⟨-, -, -, hr', -⟩ := unreplied_fields (answer_unreplied (u := t.taken x) (x := x) 9 [] x.req.sub (x.req.index.toNat - 0x780F))
    exact ⟨hr'.trans hr, granted_conflict h⟩
  · intro s c n hc herror hrecovering hfence hn
    refine ⟨s.opRecovered c n, rfl, ?_⟩
    have hrun : s.opRecovered c n = ((s.setCan c (fun x => { x with error := 0, tec := 0, recErr := 0, recovering := false })).fall (240 + 4 * (c - 1))).canChanged 0x101
        [(s.setCan c (fun x => { x with error := 0, tec := 0, recErr := 0, recovering := false })).pendingCount c] c 8 :=
      if_neg (by rw [isCan_of hc, herror, hrecovering, hfence, decide_eq_false (Nat.not_lt.mpr hn)]; decide)
    obtain ⟨hcan, hhub, -⟩ := canChanged_facts (u := (s.setCan c (fun x => { x with error := 0, tec := 0, recErr := 0, recovering := false })).fall (240 + 4 * (c - 1))) 0x101
      [(s.setCan c (fun x => { x with error := 0, tec := 0, recErr := 0, recovering := false })).pendingCount c] c 8
    rw [hrun]
    beta_reduce
    rw [canCh_of_can (hcan.trans (fall_can _)), setCan_canCh_self, det_of_hub hhub]
    exact ⟨rfl, rfl, rfl, rfl, fall_det_self.1, rfl⟩
  · intro s c n hn
    exact ⟨s.opRecovered c n, rfl, if_pos (by simp [hn])⟩
  · intro s c v w hc hbus hm herror hv hpassive
    refine ⟨s.opErrorState c v w, rfl, ?_⟩
    have ha := passiveDetector hc
    obtain ⟨hcan, hhub, hmode⟩ := canChanged_facts (u := (s.errorState c v w 1).riseOpen (241 + 4 * (c - 1))) 0x100 [v.toNat, w.toNat] c 6
    have hu : (((s.errorState c v w 1).riseOpen (241 + 4 * (c - 1))).canChanged 0x100 [v.toNat, w.toNat] c 6).canCh c = _ :=
      (canCh_of_can (hcan.trans (riseOpen_can ha (by decide))) c).trans (setCan_canCh_self _ _ _)
    have hmode' := hmode.trans (mode_of_within (riseOpen_mild_within ha (by decide)) (by simp))
    have hfence : ∀ d, (((s.errorState c v w 1).riseOpen (241 + 4 * (c - 1))).canChanged 0x100 [v.toNat, w.toNat] c 6).fenced d = s.fenced d := fun d =>
      (show _ = ((s.errorState c v w 1).riseOpen (241 + 4 * (c - 1))).fenced d by unfold fenced; rw [hhub]).trans (riseOpen_fenced ha (by decide) d)
    rw [opErrorState_passive hc hbus hm herror hv hpassive]
    refine ⟨congrArg Can.error hu, congrArg Can.tec hu, congrArg Can.recErr hu, ?_, ?_⟩
    · exact (congrArg Det.live (det_of_hub hhub _)).trans (riseOpen_live ha rfl)
    · exact canOnBus_congr (s := s) hmode' (hfence _) (by rw [hu]) hbus (by rw [hu]; exact show (1 : Nat) ≠ 2 from by decide)
  · intro s c v w hc hbus hm herror hv hw
    refine ⟨s.opErrorState c v w, rfl, ?_⟩
    obtain ⟨hcan, hhub, -⟩ := canChanged_facts (u := (s.errorState c v w 0).fall (241 + 4 * (c - 1))) 0x100 [v.toNat, w.toNat] c 6
    have hu : (((s.errorState c v w 0).fall (241 + 4 * (c - 1))).canChanged 0x100 [v.toNat, w.toNat] c 6).canCh c = _ :=
      (canCh_of_can (hcan.trans (fall_can _)) c).trans (setCan_canCh_self _ _ _)
    rw [opErrorState_active hc hbus hm herror hv hw]
    exact ⟨congrArg Can.error hu, congrArg Can.tec hu, congrArg Can.recErr hu, (congrArg Det.live (det_of_hub hhub _)).trans fall_det_self.1⟩
  · intro s r t x h hsub hi hv
    obtain rfl := granted_req h
    obtain ⟨-, hrate, he, -, -⟩ := unreplied_fields (taken_unreplied h (x.req.index.toNat - 0x780F))
    refine ⟨_, congrArg Host.Outcome.next ((if_pos (channelRow hi (by rw [hsub]; rfl))).trans (forwarded_taken h rfl State.opChannelMode)), ?_⟩
    have hrun : (t.taken x).opChannelMode x = ((t.taken x).enterMode (x.req.index.toNat - 0x780F) x.req.value x.session).answer x 0 := by
      unfold opChannelMode
      dsimp only
      exact check14_granted (f := fun t => t.enterMode (x.req.index.toNat - 0x780F) x.req.value x.session) h (decide_eq_false (Nat.not_lt.mpr hv)) rfl rfl
    obtain ⟨hmode, hrate', he', -, -⟩ := unreplied_fields (answer_unreplied (u := (t.taken x).enterMode (x.req.index.toNat - 0x780F) x.req.value x.session) (x := x) 0 []
      x.req.sub (x.req.index.toNat - 0x780F))
    obtain ⟨hset, hkeep, hkeep'⟩ := enterMode_canCh (u := t.taken x) (c := x.req.index.toNat - 0x780F) (v := x.req.value) x.session
    rw [hrun]
    exact ⟨hmode.trans hset, hrate'.trans (hkeep.trans hrate), he'.trans (hkeep'.trans he), answer_replied 0 [] (Granted_port h) (by decide)⟩
  · intro s r t x h hsub hi hv
    obtain rfl := granted_req h
    obtain ⟨hmode, -⟩ := unreplied_fields (taken_unreplied h (x.req.index.toNat - 0x780F))
    refine ⟨_, congrArg Host.Outcome.next ((if_pos (channelRow hi (by rw [hsub]; rfl))).trans (forwarded_taken h rfl State.opChannelMode)), ?_⟩
    have hrun : (t.taken x).opChannelMode x = (t.taken x).answer x 6 := by
      unfold opChannelMode
      dsimp only
      exact check14_range (Granted_port h) (decide_eq_true hv)
    obtain ⟨hmode', -⟩ := unreplied_fields (answer_unreplied (u := t.taken x) (x := x) 6 [] x.req.sub (x.req.index.toNat - 0x780F))
    rw [hrun]
    exact ⟨hmode'.trans hmode, granted_replied h (by decide)⟩

end Sys2Proof.Machine
end
